-- ==== Sys2Proof/Word.lean ====
section
/-!
DEFINITION. The plainest shapes of the model: bytes and change masks, one value for each of the four
pantographs or of the three links, and the counts that saturate or wrap (00_scope.md 1.5.3).
-/

namespace Sys2Proof

/-- One byte of a frame or of the Status Digest. -/
abbrev Byte := BitVec 8

/-- A change mask: one bit for each of the sixteen fields of the Status Digest (R184). -/
abbrev Mask := BitVec 16

/-- The four pantographs, served by LC1 to LC4 and by ISO1 to ISO4 (00_scope.md 1.5.5). -/
inductive Panto where
  | p1 | p2 | p3 | p4
  deriving DecidableEq, Repr

/-- The three master links (00_scope.md 1.4): A and B of the traction masters, P of the Protection Master. -/
inductive Link where
  | a | b | p
  deriving DecidableEq, Repr

/-- One value for each pantograph. -/
structure PerP (α : Type) where
  p1 : α
  p2 : α
  p3 : α
  p4 : α
  deriving DecidableEq, Repr

/-- One value for each link. -/
structure PerL (α : Type) where
  a : α
  b : α
  p : α
  deriving DecidableEq, Repr

def PerP.get {α : Type} (v : PerP α) : Panto → α
  | .p1 => v.p1
  | .p2 => v.p2
  | .p3 => v.p3
  | .p4 => v.p4

def PerP.set {α : Type} (v : PerP α) : Panto → α → PerP α
  | .p1, x => { v with p1 := x }
  | .p2, x => { v with p2 := x }
  | .p3, x => { v with p3 := x }
  | .p4, x => { v with p4 := x }

/-- The same value for all four. -/
def PerP.const {α : Type} (x : α) : PerP α := ⟨x, x, x, x⟩

/-- The value of each pantograph, from its number. -/
def PerP.ofFun {α : Type} (f : Panto → α) : PerP α := ⟨f .p1, f .p2, f .p3, f .p4⟩

def PerL.get {α : Type} (v : PerL α) : Link → α
  | .a => v.a
  | .b => v.b
  | .p => v.p

def PerL.set {α : Type} (v : PerL α) : Link → α → PerL α
  | .a, x => { v with a := x }
  | .b, x => { v with b := x }
  | .p, x => { v with p := x }

def PerL.const {α : Type} (x : α) : PerL α := ⟨x, x, x⟩

def PerL.ofFun {α : Type} (f : Link → α) : PerL α := ⟨f .a, f .b, f .p⟩

/-- P1 to P4, lowest number first. -/
def Panto.all : List Panto := [.p1, .p2, .p3, .p4]

/-- The pantograph's number, 1 to 4. -/
def Panto.num : Panto → Nat
  | .p1 => 1
  | .p2 => 2
  | .p3 => 3
  | .p4 => 4

/-- `n + k`, staying at `lim` (a count that saturates, 00_scope.md 1.5.3). -/
def satAdd (lim n k : Nat) : Nat := min lim (n + k)

/-- The count after `n` of a count that wraps from 65535 to 0. -/
def wrapSucc (n : Nat) : Nat := (n + 1) % 65536

end Sys2Proof
end

