-- ==== Sys2Proof/Config.lean ====
section
/-!
DEFINITION. The items of the configuration record by name (10_modes_self_test_and_faults.md 10.3), the record
that holds a number for each, and the model's one free value. Ranges, defaults and the reading of an item stand
in Machine/Items.lean.
-/

namespace Sys2Proof

/-- The 79 items of the configuration record, in the order of the table of 10.3, the installation items last
(R185 names them HeadClassP1 to HeadClassP4 and RoofEndP1 to RoofEndP4). -/
inductive Item where
  | baseForceAC | baseForceDC | aeroCoeffAC | aeroCoeffDC | kice | scrapeExtra
  | forceMinAC | forceMinDC | forceMaxAC | forceMaxDC | pressGain | pmax
  | slew | defaultTouch | hWork | hMax | hStow | raiseSlew
  | lowerSlew | raiseTimeout | lowerTimeout | addLevel | raiseAir | twoUpAir
  | critAir | searchStart | searchStep | searchMax | hystMax | calibrationAge
  | deadLevel | freqLowAC25 | freqHighAC25 | vrLowAC25 | vrHighAC25 | freqLowAC15
  | freqHighAC15 | vrLowAC15 | vrHighAC15 | meanLowDC3 | meanHighDC3 | meanLowDC15
  | meanHighDC15 | confirmCount | iOff | prepTime | prepMargin | clearance
  | tractionOffWait | confirmWait | readyWait | promotionEnable | arcMin | iceWindow
  | iceT1 | iceT2 | iceT3 | iceDrop | iceTemp | heatDuty1
  | heatDuty2 | heatDuty3 | preDuty | heatBudget | scrapeClear | scrapeRest
  | currentLimit | maxUp | preferredPosition | holdOver | captureFilter | headClassP1
  | headClassP2 | headClassP3 | headClassP4 | roofEndP1 | roofEndP2 | roofEndP3
  | roofEndP4
  deriving DecidableEq, Repr

theorem Item.ctorIdx_lt (i : Item) : i.ctorIdx < 79 := by
  cases i <;> decide

/-- A configuration record: a number for each item. An item of named values holds the position of its value in
the item's list counting from 0, and off and on are 0 and 1 (R185). -/
structure CfgRec where
  vals : Vector Int 79
  deriving DecidableEq, Repr

/-- FREE VALUE: the pressure a Lift Controller takes as its commanded pressure at an adoption scan that has no
actuator reading (R44 states the reading only). Nothing is known of it but what the model does with it: it is
brought within Pmax (R60). Its argument is the model's counter of free values. -/
opaque freePressure : Nat → Nat

end Sys2Proof
end

