-- ==== Sys2Proof/Machine/Items.lean ====
section
/-!
DEFINITION. The configuration record's items: range, default and name of each, how a value is clamped into its
range and into the order of its neighbours, and how the record is read and written.
-/

namespace Sys2Proof

/-- The least value of an item's range (the tables of the chapters that 10.3 names). -/
def Item.lo : Item → Int
  | .baseForceAC => 20
  | .baseForceDC => 20
  | .aeroCoeffAC => 0
  | .aeroCoeffDC => 0
  | .kice => 0
  | .scrapeExtra => 0
  | .forceMinAC => 20
  | .forceMinDC => 20
  | .forceMaxAC => 100
  | .forceMaxDC => 100
  | .pressGain => 1
  | .pmax => 1000
  | .slew => 1
  | .defaultTouch => 1000
  | .hWork => 400
  | .hMax => 2100
  | .hStow => 20
  | .raiseSlew => 1
  | .lowerSlew => 1
  | .raiseTimeout => 2000
  | .lowerTimeout => 2000
  | .addLevel => 500
  | .raiseAir => 3000
  | .twoUpAir => 3000
  | .critAir => 2000
  | .searchStart => 500
  | .searchStep => 5
  | .searchMax => 1000
  | .hystMax => 10
  | .calibrationAge => 100
  | .deadLevel => 10
  | .freqLowAC25 => 4000
  | .freqHighAC25 => 4000
  | .vrLowAC25 => 1000
  | .vrHighAC25 => 1000
  | .freqLowAC15 => 1200
  | .freqHighAC15 => 1200
  | .vrLowAC15 => 500
  | .vrHighAC15 => 500
  | .meanLowDC3 => 100
  | .meanHighDC3 => 100
  | .meanLowDC15 => 50
  | .meanHighDC15 => 50
  | .confirmCount => 2
  | .iOff => 1
  | .prepTime => 2000
  | .prepMargin => 0
  | .clearance => 10
  | .tractionOffWait => 1000
  | .confirmWait => 1000
  | .readyWait => 1000
  | .promotionEnable => 0
  | .arcMin => 100
  | .iceWindow => 500
  | .iceT1 => 1
  | .iceT2 => 1
  | .iceT3 => 1
  | .iceDrop => 100
  | .iceTemp => (-20)
  | .heatDuty1 => 0
  | .heatDuty2 => 0
  | .heatDuty3 => 0
  | .preDuty => 0
  | .heatBudget => 16
  | .scrapeClear => 500
  | .scrapeRest => 0
  | .currentLimit => 100
  | .maxUp => 1
  | .preferredPosition => 0
  | .holdOver => 0
  | .captureFilter => 0
  | .headClassP1 => 0
  | .headClassP2 => 0
  | .headClassP3 => 0
  | .headClassP4 => 0
  | .roofEndP1 => 0
  | .roofEndP2 => 0
  | .roofEndP3 => 0
  | .roofEndP4 => 0

/-- The greatest value of an item's range. -/
def Item.hi : Item → Int
  | .baseForceAC => 200
  | .baseForceDC => 200
  | .aeroCoeffAC => 255
  | .aeroCoeffDC => 255
  | .kice => 40
  | .scrapeExtra => 60
  | .forceMinAC => 200
  | .forceMinDC => 200
  | .forceMaxAC => 400
  | .forceMaxDC => 400
  | .pressGain => 255
  | .pmax => 6000
  | .slew => 255
  | .defaultTouch => 4000
  | .hWork => 2000
  | .hMax => 3000
  | .hStow => 300
  | .raiseSlew => 255
  | .lowerSlew => 255
  | .raiseTimeout => 20000
  | .lowerTimeout => 20000
  | .addLevel => 3000
  | .raiseAir => 6000
  | .twoUpAir => 6000
  | .critAir => 6000
  | .searchStart => 4000
  | .searchStep => 100
  | .searchMax => 6000
  | .hystMax => 1000
  | .calibrationAge => 20000
  | .deadLevel => 200
  | .freqLowAC25 => 6000
  | .freqHighAC25 => 6000
  | .vrLowAC25 => 4000
  | .vrHighAC25 => 4000
  | .freqLowAC15 => 2200
  | .freqHighAC15 => 2200
  | .vrLowAC15 => 3000
  | .vrHighAC15 => 3000
  | .meanLowDC3 => 600
  | .meanHighDC3 => 600
  | .meanLowDC15 => 400
  | .meanHighDC15 => 400
  | .confirmCount => 16
  | .iOff => 500
  | .prepTime => 20000
  | .prepMargin => 1000
  | .clearance => 1000
  | .tractionOffWait => 10000
  | .confirmWait => 10000
  | .readyWait => 30000
  | .promotionEnable => 1
  | .arcMin => 5000
  | .iceWindow => 10000
  | .iceT1 => 512
  | .iceT2 => 512
  | .iceT3 => 512
  | .iceDrop => 10000
  | .iceTemp => 20
  | .heatDuty1 => 16
  | .heatDuty2 => 16
  | .heatDuty3 => 16
  | .preDuty => 16
  | .heatBudget => 64
  | .scrapeClear => 5000
  | .scrapeRest => 5000
  | .currentLimit => 2000
  | .maxUp => 3
  | .preferredPosition => 1
  | .holdOver => 1
  | .captureFilter => 1
  | .headClassP1 => 1
  | .headClassP2 => 1
  | .headClassP3 => 1
  | .headClassP4 => 1
  | .roofEndP1 => 1
  | .roofEndP2 => 1
  | .roofEndP3 => 1
  | .roofEndP4 => 1

/-- An item's default. -/
def Item.initial : Item → Int
  | .baseForceAC => 70
  | .baseForceDC => 90
  | .aeroCoeffAC => 97
  | .aeroCoeffDC => 60
  | .kice => 15
  | .scrapeExtra => 20
  | .forceMinAC => 40
  | .forceMinDC => 40
  | .forceMaxAC => 230
  | .forceMaxDC => 300
  | .pressGain => 40
  | .pmax => 5000
  | .slew => 10
  | .defaultTouch => 2400
  | .hWork => 500
  | .hMax => 2800
  | .hStow => 80
  | .raiseSlew => 8
  | .lowerSlew => 20
  | .raiseTimeout => 8000
  | .lowerTimeout => 6000
  | .addLevel => 1500
  | .raiseAir => 4500
  | .twoUpAir => 5500
  | .critAir => 3500
  | .searchStart => 1800
  | .searchStep => 20
  | .searchMax => 4000
  | .hystMax => 300
  | .calibrationAge => 5000
  | .deadLevel => 50
  | .freqLowAC25 => 4800
  | .freqHighAC25 => 5200
  | .vrLowAC25 => 1750
  | .vrHighAC25 => 2900
  | .freqLowAC15 => 1550
  | .freqHighAC15 => 1790
  | .vrLowAC15 => 1100
  | .vrHighAC15 => 1800
  | .meanLowDC3 => 200
  | .meanHighDC3 => 390
  | .meanLowDC15 => 100
  | .meanHighDC15 => 195
  | .confirmCount => 4
  | .iOff => 20
  | .prepTime => 8000
  | .prepMargin => 100
  | .clearance => 50
  | .tractionOffWait => 3000
  | .confirmWait => 3000
  | .readyWait => 5000
  | .promotionEnable => 1
  | .arcMin => 100
  | .iceWindow => 2000
  | .iceT1 => 4
  | .iceT2 => 16
  | .iceT3 => 48
  | .iceDrop => 1000
  | .iceTemp => 4
  | .heatDuty1 => 4
  | .heatDuty2 => 8
  | .heatDuty3 => 16
  | .preDuty => 8
  | .heatBudget => 24
  | .scrapeClear => 1500
  | .scrapeRest => 500
  | .currentLimit => 600
  | .maxUp => 2
  | .preferredPosition => 0
  | .holdOver => 1
  | .captureFilter => 0
  | .headClassP1 => 0
  | .headClassP2 => 0
  | .headClassP3 => 1
  | .headClassP4 => 1
  | .roofEndP1 => 0
  | .roofEndP2 => 1
  | .roofEndP3 => 0
  | .roofEndP4 => 1

/-- An item's name as written in the manual (R185). -/
def Item.name : Item → String
  | .baseForceAC => "BaseForceAC"
  | .baseForceDC => "BaseForceDC"
  | .aeroCoeffAC => "AeroCoeffAC"
  | .aeroCoeffDC => "AeroCoeffDC"
  | .kice => "Kice"
  | .scrapeExtra => "ScrapeExtra"
  | .forceMinAC => "ForceMinAC"
  | .forceMinDC => "ForceMinDC"
  | .forceMaxAC => "ForceMaxAC"
  | .forceMaxDC => "ForceMaxDC"
  | .pressGain => "PressGain"
  | .pmax => "Pmax"
  | .slew => "Slew"
  | .defaultTouch => "DefaultTouch"
  | .hWork => "HWork"
  | .hMax => "HMax"
  | .hStow => "HStow"
  | .raiseSlew => "RaiseSlew"
  | .lowerSlew => "LowerSlew"
  | .raiseTimeout => "RaiseTimeout"
  | .lowerTimeout => "LowerTimeout"
  | .addLevel => "AddLevel"
  | .raiseAir => "RaiseAir"
  | .twoUpAir => "TwoUpAir"
  | .critAir => "CritAir"
  | .searchStart => "SearchStart"
  | .searchStep => "SearchStep"
  | .searchMax => "SearchMax"
  | .hystMax => "HystMax"
  | .calibrationAge => "CalibrationAge"
  | .deadLevel => "DeadLevel"
  | .freqLowAC25 => "FreqLowAC25"
  | .freqHighAC25 => "FreqHighAC25"
  | .vrLowAC25 => "VrLowAC25"
  | .vrHighAC25 => "VrHighAC25"
  | .freqLowAC15 => "FreqLowAC15"
  | .freqHighAC15 => "FreqHighAC15"
  | .vrLowAC15 => "VrLowAC15"
  | .vrHighAC15 => "VrHighAC15"
  | .meanLowDC3 => "MeanLowDC3"
  | .meanHighDC3 => "MeanHighDC3"
  | .meanLowDC15 => "MeanLowDC15"
  | .meanHighDC15 => "MeanHighDC15"
  | .confirmCount => "ConfirmCount"
  | .iOff => "IOff"
  | .prepTime => "PrepTime"
  | .prepMargin => "PrepMargin"
  | .clearance => "Clearance"
  | .tractionOffWait => "TractionOffWait"
  | .confirmWait => "ConfirmWait"
  | .readyWait => "ReadyWait"
  | .promotionEnable => "PromotionEnable"
  | .arcMin => "ArcMin"
  | .iceWindow => "IceWindow"
  | .iceT1 => "IceT1"
  | .iceT2 => "IceT2"
  | .iceT3 => "IceT3"
  | .iceDrop => "IceDrop"
  | .iceTemp => "IceTemp"
  | .heatDuty1 => "HeatDuty1"
  | .heatDuty2 => "HeatDuty2"
  | .heatDuty3 => "HeatDuty3"
  | .preDuty => "PreDuty"
  | .heatBudget => "HeatBudget"
  | .scrapeClear => "ScrapeClear"
  | .scrapeRest => "ScrapeRest"
  | .currentLimit => "CurrentLimit"
  | .maxUp => "MaxUp"
  | .preferredPosition => "PreferredPosition"
  | .holdOver => "HoldOver"
  | .captureFilter => "CaptureFilter"
  | .headClassP1 => "HeadClassP1"
  | .headClassP2 => "HeadClassP2"
  | .headClassP3 => "HeadClassP3"
  | .headClassP4 => "HeadClassP4"
  | .roofEndP1 => "RoofEndP1"
  | .roofEndP2 => "RoofEndP2"
  | .roofEndP3 => "RoofEndP3"
  | .roofEndP4 => "RoofEndP4"

/-- All items, in the order of `Item`. -/
def Item.all : List Item := [
  .baseForceAC, .baseForceDC, .aeroCoeffAC, .aeroCoeffDC, .kice, .scrapeExtra,
  .forceMinAC, .forceMinDC, .forceMaxAC, .forceMaxDC, .pressGain, .pmax,
  .slew, .defaultTouch, .hWork, .hMax, .hStow, .raiseSlew,
  .lowerSlew, .raiseTimeout, .lowerTimeout, .addLevel, .raiseAir, .twoUpAir,
  .critAir, .searchStart, .searchStep, .searchMax, .hystMax, .calibrationAge,
  .deadLevel, .freqLowAC25, .freqHighAC25, .vrLowAC25, .vrHighAC25, .freqLowAC15,
  .freqHighAC15, .vrLowAC15, .vrHighAC15, .meanLowDC3, .meanHighDC3, .meanLowDC15,
  .meanHighDC15, .confirmCount, .iOff, .prepTime, .prepMargin, .clearance,
  .tractionOffWait, .confirmWait, .readyWait, .promotionEnable, .arcMin, .iceWindow,
  .iceT1, .iceT2, .iceT3, .iceDrop, .iceTemp, .heatDuty1,
  .heatDuty2, .heatDuty3, .preDuty, .heatBudget, .scrapeClear, .scrapeRest,
  .currentLimit, .maxUp, .preferredPosition, .holdOver, .captureFilter, .headClassP1,
  .headClassP2, .headClassP3, .headClassP4, .roofEndP1, .roofEndP2, .roofEndP3,
  .roofEndP4]

namespace Machine

/-- The record's value of an item. -/
def cfgGet (c : CfgRec) (i : Item) : Int := c.vals[i.ctorIdx]'(i.ctorIdx_lt)

/-- The record's value of an item that is never negative. -/
def cfgNat (c : CfgRec) (i : Item) : Nat := (cfgGet c i).toNat

/-- The record with one item's value replaced. -/
def cfgSet (c : CfgRec) (i : Item) (v : Int) : CfgRec := ⟨c.vals.set i.ctorIdx v i.ctorIdx_lt⟩

/-- The record of defaults (R175: "every item takes its default"). -/
def cfgDefaults : CfgRec := ⟨#v[
  70, 90, 97, 60, 15, 20, 40, 40, 230, 300, 40, 5000,
  10, 2400, 500, 2800, 80, 8, 20, 8000, 6000, 1500, 4500, 5500,
  3500, 1800, 20, 4000, 300, 5000, 50, 4800, 5200, 1750, 2900, 1550,
  1790, 1100, 1800, 200, 390, 100, 195, 4, 20, 8000, 100, 50,
  3000, 3000, 5000, 1, 100, 2000, 4, 16, 48, 1000, 4, 4,
  8, 16, 8, 24, 1500, 500, 600, 2, 0, 1, 0, 0,
  0, 1, 1, 0, 1, 0, 1]⟩

/-- `v` brought into `[lo, hi]` (00_scope.md 1.5.3). -/
def clampInto (lo hi v : Int) : Int := if v < lo then lo else if hi < v then hi else v

/-- The pairs of items of which the first must not exceed the second: force limits (R49), search pressures (R66),
the low and high items of the bands (R87) and the ice thresholds, IceT2 before IceT1 (09_ice_clearing.md 9.1). -/
def orderedPairs : List (Item × Item) := [
  (.forceMinAC, .forceMaxAC), (.forceMinDC, .forceMaxDC), (.searchStart, .searchMax), (.freqLowAC25, .freqHighAC25),
  (.vrLowAC25, .vrHighAC25), (.freqLowAC15, .freqHighAC15), (.vrLowAC15, .vrHighAC15), (.meanLowDC3, .meanHighDC3),
  (.meanLowDC15, .meanHighDC15), (.iceT2, .iceT3), (.iceT1, .iceT2)]

/-- A value of an item after the clamp into its range and into the order of its neighbours as they stand
(R49, R66, R87, R176): an item that must not exceed another is set to that one where it would, and likewise below. An item of
named values, or one that is off or on, has the positions of its list as its range, so that a position beyond the list is
clamped to the last one or the first (R176), where check 3 of R181 could refuse it as an enumerated field: R185 does not say
which of the two it is. DESIGN CHOICE, log entry 44. -/
def clampItem (c : CfgRec) (i : Item) (v : Int) : Int :=
  let ranged := clampInto i.lo i.hi v
  let under := orderedPairs.foldl
    (fun w q => if q.1 = i then (if cfgGet c q.2 < w then cfgGet c q.2 else w) else w) ranged
  orderedPairs.foldl
    (fun w q => if q.2 = i then (if w < cfgGet c q.1 then cfgGet c q.1 else w) else w) under

/-- A stored record as it is taken at a load whose checksum agrees (R175): each item clamped into its range, then
each low item that exceeds its high item lowered to it (R49, R66, R87, 9.1), with no fault. A stored position beyond the list
of an item of named values is clamped as in `clampItem`. DESIGN CHOICE, log entry 44. -/
def cfgLoad (c : CfgRec) : CfgRec :=
  let ranged : CfgRec := Item.all.foldl (fun r i => cfgSet r i (clampInto i.lo i.hi (cfgGet c i))) c
  orderedPairs.foldl
    (fun r q => if cfgGet r q.2 < cfgGet r q.1 then cfgSet r q.1 (cfgGet r q.2) else r) ranged

/-- The installation item that holds a pantograph's head class. -/
def headItem : Panto → Item
  | .p1 => .headClassP1
  | .p2 => .headClassP2
  | .p3 => .headClassP3
  | .p4 => .headClassP4

/-- The installation item that holds a pantograph's roof end. -/
def endItem : Panto → Item
  | .p1 => .roofEndP1
  | .p2 => .roofEndP2
  | .p3 => .roofEndP3
  | .p4 => .roofEndP4

end Machine
end Sys2Proof
end

