-- ==== Sys2Proof/Syntax.lean ====
section
/-!
DEFINITION. The names of the manual (00_scope.md 1.5.6 and the chapters) and the commands: one constructor of
`Instr` for each row of spec/opcode_table.json, with the row's operands.
-/

namespace Sys2Proof

/-- The traction masters (00_scope.md 1.4). -/
inductive Master where
  | a | b
  deriving DecidableEq, Repr

/-- Line systems AC25, AC15, DC3, DC15. -/
inductive LineSystem where
  | ac25 | ac15 | dc3 | dc15
  deriving DecidableEq, Repr

/-- Measured classes: the four line systems, DEAD, UNKNOWN. -/
inductive LineClass where
  | sys (s : LineSystem)
  | dead
  | unknown
  deriving DecidableEq, Repr

/-- Head classes AC_HEAD and DC_HEAD. -/
inductive Head where
  | ac | dc
  deriving DecidableEq, Repr

/-- Roof ends END_1 and END_2. -/
inductive RoofEnd where
  | end1 | end2
  deriving DecidableEq, Repr

/-- Running directions. -/
inductive Direction where
  | standstill | forward | reverse
  deriving DecidableEq, Repr

/-- Lift states, in the order of 1.5.6. -/
inductive LiftState where
  | stowed | raising | contact | lowering | dropped | searching | outOfService
  deriving DecidableEq, Repr

/-- Roles. -/
inductive Role where
  | none | collecting | scraping | calibrating
  deriving DecidableEq, Repr

/-- Modes. -/
inductive Mode where
  | dormant | waking | standby | service | workshop
  deriving DecidableEq, Repr

/-- Changeover phases. -/
inductive Phase where
  | idle | armed | tractionOff | breakerOpen | lowering | coast | probe | confirm | masterReady | close | halted
  deriving DecidableEq, Repr

/-- Changeover paths. -/
inductive Path where
  | sectionChange | neutral | zone | select | identify | substitute
  deriving DecidableEq, Repr

/-- Section kinds. -/
inductive SectionKind where
  | systemChange | neutral | lowerZone | iceWatch
  deriving DecidableEq, Repr

/-- The seven switches, in the order of R185. -/
inductive SwId where
  | breaker
  | selector
  | iso (p : Panto)
  | earth
  deriving DecidableEq, Repr

/-- The positions of a two-position switch. -/
inductive TwoPos where
  | opened | closed
  deriving DecidableEq, Repr

/-- The positions of the system selector. -/
inductive SelPos where
  | ac | mid | dc
  deriving DecidableEq, Repr

/-- A pattern of the two position contacts of the breaker, an isolator or the earthing switch. -/
structure TwoPattern where
  openContact   : Bool
  closedContact : Bool
  deriving DecidableEq, Repr

/-- A pattern of the three position contacts of the selector. -/
structure SelPattern where
  acContact  : Bool
  midContact : Bool
  dcContact  : Bool
  deriving DecidableEq, Repr

/-- The patterns of all position contacts standing at one event (R110, R111). -/
structure Contacts where
  breaker  : TwoPattern
  selector : SelPattern
  iso      : PerP TwoPattern
  earth    : TwoPattern
  deriving DecidableEq, Repr

/-- A settled reading of one switch (R98). -/
inductive SettledReading where
  | breaker (r : TwoPattern)
  | selector (r : SelPattern)
  | iso (p : Panto) (r : TwoPattern)
  | earth (r : TwoPattern)
  deriving DecidableEq, Repr

/-- The conversions of one scan: none where the multiplexer reports no conversion (R23). -/
structure Readings where
  actuator  : PerP (Option Int)
  strip     : PerP (Option Int)
  height    : PerP (Option Int)
  reservoir : Option Int
  ambient   : Option Int
  deriving DecidableEq, Repr

/-- One sample slot of the converter (R79, R80). -/
inductive SampleSlot where
  /-- A pair with its conversion-good mark: voltage in 10 V, current in 1 A. -/
  | pair (voltage current : Int)
  /-- A pair without the mark, or a slot in which no pair is delivered. -/
  | unmeasured
  deriving DecidableEq, Repr

/-- What an arc detector line shows at ARC_PULSE_START (R149). -/
inductive ArcEdge where
  /-- A rising edge. -/
  | rising
  /-- The line is low. -/
  | low
  deriving DecidableEq, Repr

/-- Why a frame in progress is bad, apart from the time between its bytes (R180). -/
inductive FrameFault where
  | kind | length | check
  deriving DecidableEq, Repr

/-- Status of a Calibration Table entry. -/
inductive CalStatus where
  | none | valid | suspect | failed
  deriving DecidableEq, Repr

/-- Result of a touch search (R71, R73). -/
inductive SearchResult where
  | ok | hysteresisHigh | startTooHigh | noTouch | aborted
  deriving DecidableEq, Repr

/-- The fields of a Calibration Table entry that the attached memory keeps (04_touch_search.md 4.6). -/
structure CalFields where
  touch      : Nat
  release    : Nat
  hysteresis : Nat
  status     : CalStatus
  lastResult : Option SearchResult
  calPos     : Option Nat
  deriving DecidableEq, Repr

/-- What the attached serial memory holds: a configuration record whose checksum agrees, or none; and for each
pantograph an entry whose check value agrees, or none (R76, R175). -/
structure MemImage where
  config  : Option CfgRec
  entries : PerP (Option CalFields)
  deriving DecidableEq, Repr

/-- How the read-back of an entry write ended (R77). -/
inductive EntryReadBack where
  | matched
  /-- It does not match, and the older stored entry still passes its check. -/
  | mismatchOldKept
  /-- It does not match, and the failed write left no valid check value. -/
  | mismatchBad
  deriving DecidableEq, Repr

/-- What every request frame carries beside its fields: the link it arrived on, its tag, and whether its payload
has the length R185 gives and a value of its set in each enumerated field (check 3 of R181). Where it has not, the
fields the command carries mean nothing, and no rule reads them. -/
structure Req where
  link       : Link
  tag        : Nat
  wellFormed : Bool
  deriving DecidableEq, Repr

/-- What an Announce Marker carries (R118). -/
structure Marker where
  id        : Nat
  kind      : SectionKind
  start     : Nat
  length    : Nat
  newSystem : Option LineSystem
  deriving DecidableEq, Repr

/-- The commands: the steps of spec/opcode_table.json, in the table's order. -/
inductive Instr where
  | powerOn (contacts : Contacts) (mem : MemImage)
  | warmRestart (contacts : Contacts)
  | claimLead (q : Req)
  | releaseLead (q : Req)
  | enterMode (q : Req) (target : Mode)
  | wake (q : Req)
  | heldWakeDue
  | raise (q : Req) (p : Panto)
  | raiseAuto (q : Req)
  | lower (q : Req) (named : Option Panto)
  | selectSystem (q : Req) (sys : Option LineSystem)
  | clearHalt (q : Req)
  | declareReady (q : Req) (sys : LineSystem) (serial : Nat)
  | openBreaker (q : Req)
  | closeBreaker (q : Req)
  | setIceMode (q : Req) (forced : Nat) (enable : Bool)
  | startTouchSearch (q : Req) (p : Panto)
  | clearDrop (q : Req) (p : Panto)
  | setOutOfService (q : Req) (p : Panto)
  | returnToService (q : Req) (p : Panto)
  | switchCommandBreakerOpen (q : Req)
  | switchCommandBreakerClose (q : Req)
  | switchCommandSelector (q : Req) (pos : SelPos)
  | switchCommandIsolator (q : Req) (p : Panto) (pos : TwoPos)
  | switchCommandEarth (q : Req) (pos : TwoPos)
  | clearSwitchFault (q : Req) (sw : SwId)
  | clearFaults (q : Req)
  | writeConfigurationItem (q : Req) (item : Option Item) (value : Int)
  | storeConfiguration (q : Req)
  | restart (q : Req)
  | motionReport (q : Req) (position speed : Nat) (direction : Direction)
  | announceMarker (q : Req) (m : Marker)
  | withdrawMarker (q : Req) (id : Nat)
  | emergencyLower (q : Req)
  | releaseHold (q : Req)
  | readStatusDigest (q : Req)
  | readRoofPlan (q : Req)
  | readPantographStatus (q : Req) (n : Nat)
  | readSwitches (q : Req)
  | readLineRecord (q : Req)
  | readSectionQueue (q : Req)
  | readIce (q : Req)
  | readArcHistory (q : Req) (offset : Nat)
  | readCalibration (q : Req) (n : Nat)
  | readFaultRecord (q : Req)
  | readSelfTest (q : Req)
  | readLinkCounters (q : Req)
  | readConfigurationItem (q : Req) (item : Option Item)
  | unknownRequest (q : Req) (code : Nat)
  | badFrame (l : Link) (why : FrameFault)
  | frameByteTimeout (l : Link)
  | replySent (l : Link) (contacts : Contacts)
  | linkPresenceTimeout (l : Link)
  | scanComplete (r : Readings)
  | selfTestValvesStart
  | selfTestValvesCheck
  | endOfWaking
  | selfTestTimeout
  | dwellExpiry (p : Panto)
  | airHoldExpiry (p : Panto)
  | raiseTimeout (p : Panto)
  | lowerTimeout (p : Panto)
  | servoDeviation (p : Panto)
  | automaticDrop (p : Panto)
  | samplePair (slot : SampleSlot)
  | windowClose (slot : SampleSlot)
  | tractionOffWaitExpiry
  | confirmWaitExpiry
  | readyWaitExpiry
  | settledReading (r : SettledReading)
  | switchOperationTimeout (sw : SwId)
  | motionStale
  | positionLost
  | arcPulseStart (p : Panto) (edge : ArcEdge)
  | arcPulseEnd (p : Panto) (us : Nat)
  | arcPulseTimerExpiry (p : Panto)
  | heaterPeriodStart
  | calibrationEntryWriteDone (r : EntryReadBack)
  | configurationStoreDone (matched : Bool)
  | frameOpened (l : Link) (byte : Byte)
  deriving DecidableEq, Repr

end Sys2Proof
end

