-- ==== Sys2Proof/WellFormed.lean ====
section
/-!
DEFINITION. Which commands can arrive at all: each number a command carries fits the field of the frame, the
converter or the timer that delivers it (R79, R150, R185). A meaning does not ask for it; statements and the
request encoder do.
-/

namespace Sys2Proof

/-- A number of `n` bytes. -/
def fitsBytes (n v : Nat) : Bool := v < 256 ^ n

/-- A sample as the converter delivers it (R79). -/
def fitsSample (v : Int) : Bool := -32768 ≤ v && v ≤ 32767

/-- A value of four signed bytes (R185, Write Configuration Item). -/
def fitsValue (v : Int) : Bool := -2147483648 ≤ v && v ≤ 2147483647

def SampleSlot.wf : SampleSlot → Bool
  | .pair v i => fitsSample v && fitsSample i
  | .unmeasured => true

def Marker.wf (m : Marker) : Bool :=
  fitsBytes 2 m.id && fitsBytes 4 m.start && fitsBytes 2 m.length

def Req.wf (q : Req) : Bool := fitsBytes 1 q.tag

/-- The command is one that the outside world can deliver. -/
def Instr.wf : Instr → Bool
  | .powerOn _ _ => true
  | .warmRestart _ => true
  | .claimLead q => q.wf
  | .releaseLead q => q.wf
  | .enterMode q _ => q.wf
  | .wake q => q.wf
  | .heldWakeDue => true
  | .raise q _ => q.wf
  | .raiseAuto q => q.wf
  | .lower q _ => q.wf
  | .selectSystem q _ => q.wf
  | .clearHalt q => q.wf
  | .declareReady q _ serial => q.wf && fitsBytes 2 serial
  | .openBreaker q => q.wf
  | .closeBreaker q => q.wf
  | .setIceMode q forced _ => q.wf && fitsBytes 1 forced
  | .startTouchSearch q _ => q.wf
  | .clearDrop q _ => q.wf
  | .setOutOfService q _ => q.wf
  | .returnToService q _ => q.wf
  | .switchCommandBreakerOpen q => q.wf
  | .switchCommandBreakerClose q => q.wf
  | .switchCommandSelector q _ => q.wf
  | .switchCommandIsolator q _ _ => q.wf
  | .switchCommandEarth q _ => q.wf
  | .clearSwitchFault q _ => q.wf
  | .clearFaults q => q.wf
  | .writeConfigurationItem q _ v => q.wf && fitsValue v
  | .storeConfiguration q => q.wf
  | .restart q => q.wf
  | .motionReport q pos speed _ => q.wf && fitsBytes 4 pos && fitsBytes 2 speed
  | .announceMarker q m => q.wf && m.wf
  | .withdrawMarker q id => q.wf && fitsBytes 2 id
  | .emergencyLower q => q.wf
  | .releaseHold q => q.wf
  | .readStatusDigest q => q.wf
  | .readRoofPlan q => q.wf
  | .readPantographStatus q n => q.wf && fitsBytes 1 n
  | .readSwitches q => q.wf
  | .readLineRecord q => q.wf
  | .readSectionQueue q => q.wf
  | .readIce q => q.wf
  | .readArcHistory q offset => q.wf && fitsBytes 1 offset
  | .readCalibration q n => q.wf && fitsBytes 1 n
  | .readFaultRecord q => q.wf
  | .readSelfTest q => q.wf
  | .readLinkCounters q => q.wf
  | .readConfigurationItem q _ => q.wf
  | .unknownRequest q code => q.wf && fitsBytes 1 code
  | .badFrame _ _ => true
  | .frameByteTimeout _ => true
  | .replySent _ _ => true
  | .linkPresenceTimeout _ => true
  | .scanComplete _ => true
  | .selfTestValvesStart => true
  | .selfTestValvesCheck => true
  | .endOfWaking => true
  | .selfTestTimeout => true
  | .dwellExpiry _ => true
  | .airHoldExpiry _ => true
  | .raiseTimeout _ => true
  | .lowerTimeout _ => true
  | .servoDeviation _ => true
  | .automaticDrop _ => true
  | .samplePair slot => slot.wf
  | .windowClose slot => slot.wf
  | .tractionOffWaitExpiry => true
  | .confirmWaitExpiry => true
  | .readyWaitExpiry => true
  | .settledReading _ => true
  | .switchOperationTimeout _ => true
  | .motionStale => true
  | .positionLost => true
  | .arcPulseStart _ _ => true
  | .arcPulseEnd _ us => us ≤ 65535
  | .arcPulseTimerExpiry _ => true
  | .heaterPeriodStart => true
  | .calibrationEntryWriteDone _ => true
  | .configurationStoreDone _ => true
  | .frameOpened _ _ => true

end Sys2Proof
end

