-- ==== Sys2Proof/Decode.lean ====
section
/-!
DEFINITION. What bits spell a command. The rows of spec/opcode_table.json give no bits, so no table word spells one;
the requests travel as frames (11_master_links.md R179, R180, R185): their check, how a frame's bytes are judged, the
request a valid frame carries, and the frame of a request.
-/

namespace Sys2Proof

/-- The command that a word spells by the table's bits: none, since every row of the table has an empty list of
fields. -/
def decodeTableWord (_nbits _w : Nat) : Option Instr := none

/-! ## Check (R179) -/

/-- One bit of the CRC-8 of R179: polynomial x^8 + x^2 + x + 1, most significant bit first. -/
def crcShift (r : Byte) : Byte := if r.msb then (r <<< 1) ^^^ 0x07#8 else r <<< 1

/-- The register after one more byte. -/
def crcByte (r b : Byte) : Byte :=
  crcShift (crcShift (crcShift (crcShift (crcShift (crcShift (crcShift (crcShift (r ^^^ b))))))))

/-- CRC-8 with initial value 0 and no final inversion. -/
def crc8 (bs : List Byte) : Byte := bs.foldl crcByte 0

/-! ## A frame in progress (R180) -/

/-- How the bytes that follow the start byte stand. -/
inductive FrameStatus where
  /-- More bytes belong to the frame. -/
  | more
  | bad (why : FrameFault)
  /-- The check byte has come and agrees. -/
  | valid (code tag : Nat) (payload : List Nat)
  deriving DecidableEq, Repr

/-- The tail after the length byte: payload and check byte. -/
def judgeTail (kind code tag len : Byte) (tail : List Byte) : FrameStatus :=
  if tail.length ≤ len.toNat then .more
  else
    let payload := tail.take len.toNat
    if tail[len.toNat]? = some (crc8 ([kind, code, tag, len] ++ payload)) then
      .valid code.toNat tag.toNat (payload.map BitVec.toNat)
    else .bad .check

/-- The bytes after the start byte are judged as they stand (R180). -/
def judgeFrame (bs : List Byte) : FrameStatus :=
  match bs with
  | [] => .more
  | kind :: rest =>
    if kind ≠ 0x01#8 then .bad .kind
    else
      match rest with
      | code :: tag :: len :: tail => if 48 < len.toNat then .bad .length else judgeTail kind code tag len tail
      | _ => .more

/-! ## Fields of payloads (R185) -/

/-- A number of several bytes, the most significant first (R179). -/
def beNat (bs : List Nat) : Nat := bs.foldl (fun n b => n * 256 + b) 0

/-- A signed number of four bytes. -/
def beInt (bs : List Nat) : Int := if 2 ^ 31 ≤ beNat bs then (beNat bs : Int) - 2 ^ 32 else beNat bs

/-- A value of an enumerated field: the one at the place the field gives. -/
def pick {α : Type} (l : List α) (n : Nat) : Option α := l[n]?

def modes : List Mode := [.dormant, .waking, .standby, .service, .workshop]
def systems : List (Option LineSystem) := [none, some .ac25, some .ac15, some .dc3, some .dc15]
def pantos : List (Option Panto) := [none, some .p1, some .p2, some .p3, some .p4]
def switches : List SwId := [.breaker, .selector, .iso .p1, .iso .p2, .iso .p3, .iso .p4, .earth]
def twoPositions : List TwoPos := [.opened, .closed]
def selPositions : List SelPos := [.ac, .mid, .dc]
def directions : List Direction := [.standstill, .forward, .reverse]
def kinds : List SectionKind := [.systemChange, .neutral, .lowerZone, .iceWatch]
def offOn : List Bool := [false, true]

/-- An item's name in ASCII. -/
def Item.ascii (i : Item) : List Nat := i.name.toList.map Char.toNat

/-- The item of a name, if there is one. -/
def itemNamed (bs : List Nat) : Option Item := Item.all.find? fun i => i.ascii == bs

/-! ## The request of a valid frame -/

/-- A request whose payload check 3 of R181 passes, or with fields of no meaning where it fails. -/
def fielded {α : Type} (l : Link) (tag : Nat) (v : Option α) (good : Req → α → Instr) (bad : Req → Instr) : Instr :=
  match v with
  | some x => good ⟨l, tag, true⟩ x
  | none => bad ⟨l, tag, false⟩

/-- A request with no payload. -/
def bare (l : Link) (tag : Nat) (payload : List Nat) (f : Req → Instr) : Instr := f ⟨l, tag, payload.isEmpty⟩

/-- A field of one byte. -/
def oneByte {α : Type} (f : Nat → Option α) (payload : List Nat) : Option α :=
  match payload with
  | [n] => f n
  | _ => none

/-- A value of an enumerated field that counts from 1. -/
def present {α : Type} (l : List (Option α)) (n : Nat) : Option α := (pick l n).join

def readyFields (payload : List Nat) : Option (LineSystem × Nat) :=
  match payload with
  | [s, h, l] => (present systems s).map fun s => (s, beNat [h, l])
  | _ => none

def iceFields (payload : List Nat) : Option (Nat × Bool) :=
  match payload with
  | [f, e] => (pick offOn e).map fun e => (f, e)
  | _ => none

def writeFields (payload : List Nat) : Option (Int × List Nat) :=
  match payload with
  | a :: b :: c :: d :: name => if 1 ≤ name.length ∧ name.length ≤ 24 then some (beInt [a, b, c, d], name) else none
  | _ => none

def motionFields (payload : List Nat) : Option (Nat × Nat × Direction) :=
  match payload with
  | [a, b, c, d, e, f, g] => (pick directions g).map fun g => (beNat [a, b, c, d], beNat [e, f], g)
  | _ => none

def markerFields (payload : List Nat) : Option Marker :=
  match payload with
  | [i, j, k, a, b, c, d, m, n, s] =>
    match pick kinds k, pick systems s with
    | some k, some s => some ⟨beNat [i, j], k, beNat [a, b, c, d], beNat [m, n], s⟩
    | _, _ => none
  | _ => none

def nameField (payload : List Nat) : Option (List Nat) :=
  if 1 ≤ payload.length ∧ payload.length ≤ 24 then some payload else none

/-- Switch Command, by its switch and position (R185, R108). -/
def switchCommand (q : Req) (sw pos : Nat) : Option Instr :=
  match pick switches sw with
  | some .breaker =>
    (pick twoPositions pos).map fun p =>
      match p with
      | .opened => .switchCommandBreakerOpen q
      | .closed => .switchCommandBreakerClose q
  | some .selector => (pick selPositions pos).map (.switchCommandSelector q)
  | some (.iso p) => (pick twoPositions pos).map (.switchCommandIsolator q p)
  | some .earth => (pick twoPositions pos).map (.switchCommandEarth q)
  | none => none

def switchRequest (l : Link) (tag : Nat) (payload : List Nat) : Instr :=
  match payload with
  | [sw, pos] => (switchCommand ⟨l, tag, true⟩ sw pos).getD (.switchCommandBreakerOpen ⟨l, tag, false⟩)
  | _ => .switchCommandBreakerOpen ⟨l, tag, false⟩

def raiseRequest (l : Link) (tag : Nat) (payload : List Nat) : Instr :=
  fielded l tag (oneByte (pick pantos) payload)
    (fun q n =>
      match n with
      | some p => .raise q p
      | none => .raiseAuto q)
    .raiseAuto

/-- The request that a valid frame carries (the catalogue of 11.4 and the payloads of R185). -/
def parseRequest (l : Link) (code tag : Nat) (payload : List Nat) : Instr :=
  match code with
  | 0x01 => bare l tag payload .claimLead
  | 0x02 => bare l tag payload .releaseLead
  | 0x03 => fielded l tag (oneByte (pick modes) payload) .enterMode (.enterMode · .standby)
  | 0x04 => bare l tag payload .wake
  | 0x05 => raiseRequest l tag payload
  | 0x06 => fielded l tag (oneByte (pick pantos) payload) .lower (.lower · none)
  | 0x07 => fielded l tag (oneByte (pick systems) payload) .selectSystem (.selectSystem · none)
  | 0x08 => bare l tag payload .clearHalt
  | 0x09 => fielded l tag (readyFields payload) (fun q v => .declareReady q v.1 v.2) (.declareReady · .ac25 0)
  | 0x0A => bare l tag payload .openBreaker
  | 0x0B => bare l tag payload .closeBreaker
  | 0x0C => fielded l tag (iceFields payload) (fun q v => .setIceMode q v.1 v.2) (.setIceMode · 0 false)
  | 0x0D => fielded l tag (oneByte (present pantos) payload) .startTouchSearch (.startTouchSearch · .p1)
  | 0x0E => fielded l tag (oneByte (present pantos) payload) .clearDrop (.clearDrop · .p1)
  | 0x0F => fielded l tag (oneByte (present pantos) payload) .setOutOfService (.setOutOfService · .p1)
  | 0x10 => fielded l tag (oneByte (present pantos) payload) .returnToService (.returnToService · .p1)
  | 0x11 => switchRequest l tag payload
  | 0x12 => fielded l tag (oneByte (pick switches) payload) .clearSwitchFault (.clearSwitchFault · .breaker)
  | 0x13 => bare l tag payload .clearFaults
  | 0x14 =>
    fielded l tag (writeFields payload) (fun q v => .writeConfigurationItem q (itemNamed v.2) v.1)
      (.writeConfigurationItem · none 0)
  | 0x15 => bare l tag payload .storeConfiguration
  | 0x16 => bare l tag payload .restart
  | 0x20 => fielded l tag (motionFields payload) (fun q v => .motionReport q v.1 v.2.1 v.2.2)
      (.motionReport · 0 0 .standstill)
  | 0x21 => fielded l tag (markerFields payload) .announceMarker (.announceMarker · ⟨0, .iceWatch, 0, 0, none⟩)
  | 0x22 => fielded l tag (if payload.length = 2 then some (beNat payload) else none) .withdrawMarker
      (.withdrawMarker · 0)
  | 0x23 => bare l tag payload .emergencyLower
  | 0x24 => bare l tag payload .releaseHold
  | 0x40 => bare l tag payload .readStatusDigest
  | 0x41 => bare l tag payload .readRoofPlan
  | 0x42 => fielded l tag (oneByte some payload) .readPantographStatus (.readPantographStatus · 0)
  | 0x43 => bare l tag payload .readSwitches
  | 0x44 => bare l tag payload .readLineRecord
  | 0x45 => bare l tag payload .readSectionQueue
  | 0x46 => bare l tag payload .readIce
  | 0x47 => fielded l tag (oneByte some payload) .readArcHistory (.readArcHistory · 0)
  | 0x48 => fielded l tag (oneByte some payload) .readCalibration (.readCalibration · 0)
  | 0x49 => bare l tag payload .readFaultRecord
  | 0x4A => bare l tag payload .readSelfTest
  | 0x4B => bare l tag payload .readLinkCounters
  | 0x4C => fielded l tag ((nameField payload).map itemNamed) .readConfigurationItem (.readConfigurationItem · none)
  | _ => .unknownRequest ⟨l, tag, true⟩ code

/-! ## The frame of a request (R179, R185) -/

/-- A number in `n` bytes, the most significant first (R179). -/
def beBytes : Nat → Nat → List Nat
  | 0, _ => []
  | n + 1, v => v / 256 ^ n % 256 :: beBytes n v

/-- A signed number in four bytes. -/
def beInt32 (v : Int) : List Nat := beBytes 4 (v % 2 ^ 32).toNat

def modeByte : Mode → Nat
  | .dormant => 0
  | .waking => 1
  | .standby => 2
  | .service => 3
  | .workshop => 4

def systemByte : Option LineSystem → Nat
  | none => 0
  | some .ac25 => 1
  | some .ac15 => 2
  | some .dc3 => 3
  | some .dc15 => 4

def pantoByte : Option Panto → Nat
  | none => 0
  | some p => p.num

def switchByte : SwId → Nat
  | .breaker => 0
  | .selector => 1
  | .iso p => p.num + 1
  | .earth => 6

def twoByte : TwoPos → Nat
  | .opened => 0
  | .closed => 1

def selByte : SelPos → Nat
  | .ac => 0
  | .mid => 1
  | .dc => 2

def directionByte : Direction → Nat
  | .standstill => 0
  | .forward => 1
  | .reverse => 2

def kindByte : SectionKind → Nat
  | .systemChange => 0
  | .neutral => 1
  | .lowerZone => 2
  | .iceWatch => 3

def boolByte : Bool → Nat
  | false => 0
  | true => 1

/-- A name that is no item's, for a request whose item is not found. -/
def unknownName : List Nat := [63]

def itemBytes : Option Item → List Nat
  | some i => i.ascii
  | none => unknownName

def markerBytes (m : Marker) : List Nat :=
  beBytes 2 m.id ++ [kindByte m.kind] ++ beBytes 4 m.start ++ beBytes 2 m.length ++ [systemByte m.newSystem]

/-- The codes of the catalogue of 11.4. -/
def catalogued (code : Nat) : Bool :=
  (1 ≤ code && code ≤ 0x16) || (0x20 ≤ code && code ≤ 0x24) || (0x40 ≤ code && code ≤ 0x4C)

/-- The request whose payload passes check 3 of R181, with its code and payload; none for every other command. -/
def requestOf : Instr → Option (Req × Nat × List Nat)
  | .claimLead q => some (q, 0x01, [])
  | .releaseLead q => some (q, 0x02, [])
  | .enterMode q m => some (q, 0x03, [modeByte m])
  | .wake q => some (q, 0x04, [])
  | .raise q p => some (q, 0x05, [p.num])
  | .raiseAuto q => some (q, 0x05, [0])
  | .lower q p => some (q, 0x06, [pantoByte p])
  | .selectSystem q s => some (q, 0x07, [systemByte s])
  | .clearHalt q => some (q, 0x08, [])
  | .declareReady q s n => some (q, 0x09, systemByte (some s) :: beBytes 2 n)
  | .openBreaker q => some (q, 0x0A, [])
  | .closeBreaker q => some (q, 0x0B, [])
  | .setIceMode q f e => some (q, 0x0C, [f, boolByte e])
  | .startTouchSearch q p => some (q, 0x0D, [p.num])
  | .clearDrop q p => some (q, 0x0E, [p.num])
  | .setOutOfService q p => some (q, 0x0F, [p.num])
  | .returnToService q p => some (q, 0x10, [p.num])
  | .switchCommandBreakerOpen q => some (q, 0x11, [0, 0])
  | .switchCommandBreakerClose q => some (q, 0x11, [0, 1])
  | .switchCommandSelector q s => some (q, 0x11, [1, selByte s])
  | .switchCommandIsolator q p s => some (q, 0x11, [p.num + 1, twoByte s])
  | .switchCommandEarth q s => some (q, 0x11, [6, twoByte s])
  | .clearSwitchFault q s => some (q, 0x12, [switchByte s])
  | .clearFaults q => some (q, 0x13, [])
  | .writeConfigurationItem q i v => some (q, 0x14, beInt32 v ++ itemBytes i)
  | .storeConfiguration q => some (q, 0x15, [])
  | .restart q => some (q, 0x16, [])
  | .motionReport q p v d => some (q, 0x20, beBytes 4 p ++ beBytes 2 v ++ [directionByte d])
  | .announceMarker q m => some (q, 0x21, markerBytes m)
  | .withdrawMarker q n => some (q, 0x22, beBytes 2 n)
  | .emergencyLower q => some (q, 0x23, [])
  | .releaseHold q => some (q, 0x24, [])
  | .readStatusDigest q => some (q, 0x40, [])
  | .readRoofPlan q => some (q, 0x41, [])
  | .readPantographStatus q n => some (q, 0x42, [n])
  | .readSwitches q => some (q, 0x43, [])
  | .readLineRecord q => some (q, 0x44, [])
  | .readSectionQueue q => some (q, 0x45, [])
  | .readIce q => some (q, 0x46, [])
  | .readArcHistory q n => some (q, 0x47, [n])
  | .readCalibration q n => some (q, 0x48, [n])
  | .readFaultRecord q => some (q, 0x49, [])
  | .readSelfTest q => some (q, 0x4A, [])
  | .readLinkCounters q => some (q, 0x4B, [])
  | .readConfigurationItem q i => some (q, 0x4C, itemBytes i)
  | .unknownRequest q code => if catalogued code then none else some (q, code, [])
  | .powerOn _ _ | .warmRestart _ | .heldWakeDue | .badFrame _ _ | .frameByteTimeout _ | .replySent _ _
  | .linkPresenceTimeout _ | .scanComplete _ | .selfTestValvesStart | .selfTestValvesCheck | .endOfWaking
  | .selfTestTimeout | .dwellExpiry _ | .airHoldExpiry _ | .raiseTimeout _ | .lowerTimeout _ | .servoDeviation _
  | .automaticDrop _ | .samplePair _ | .windowClose _ | .tractionOffWaitExpiry | .confirmWaitExpiry
  | .readyWaitExpiry | .settledReading _ | .switchOperationTimeout _ | .motionStale | .positionLost
  | .arcPulseStart _ _ | .arcPulseEnd _ _ | .arcPulseTimerExpiry _ | .heaterPeriodStart
  | .calibrationEntryWriteDone _ | .configurationStoreDone _ | .frameOpened _ _ => none

/-- Kind, code, tag, length, payload: bytes 1 to 4 + n. -/
def frameBody (code tag : Nat) (payload : List Nat) : List Byte :=
  ([0x01, code, tag, payload.length] ++ payload).map (BitVec.ofNat 8)

/-- The bytes after the start byte of a frame: its body and its check. -/
def frameBytes (code tag : Nat) (payload : List Nat) : List Byte :=
  frameBody code tag payload ++ [crc8 (frameBody code tag payload)]

/-- The link of a request and the bytes after the start byte of its frame; none for a command that is no request,
and for a request marked as failing check 3 of R181. -/
def encodeRequest (i : Instr) : Option (Link × List Byte) :=
  match requestOf i with
  | some (q, code, payload) => if q.wellFormed then some (q.link, frameBytes code q.tag payload) else none
  | none => none

end Sys2Proof
end

