-- ==== Sys2Proof/Machine/State.lean ====
section
/-!
DEFINITION. The state of the part, block by block (00_scope.md 1.3), the queue of commands that wait, the reasons
a step could stop, and the state after power-on. INVENTORY.md lists every field with its rule and reset value.
-/

namespace Sys2Proof.Machine

/-! ## Roof Plan (01_the_roof_plan.md) -/

/-- Role origins. -/
inductive Origin where
  | a | b | internal
  deriving DecidableEq, Repr

/-- The role of one pantograph with its origin, absent while the role is NONE. -/
structure RoleRec where
  role   : Role
  origin : Option Origin
  deriving DecidableEq, Repr

/-- A readiness record that is present: a system and a changeover serial. -/
structure Ready where
  sys    : LineSystem
  serial : Nat
  deriving DecidableEq, Repr

structure Plan where
  lead   : Option Master
  roles  : PerP RoleRec
  hold   : Bool
  readyA : Option Ready
  readyB : Option Ready
  epoch  : Nat
  deriving DecidableEq, Repr

/-! ## Sensor Scan (02_pantograph_lift_control.md 2.1) -/

inductive Validity where
  | unknown | good | faulty
  deriving DecidableEq, Repr

structure Chan where
  value    : Option Int
  validity : Validity
  reported : Bool
  deriving DecidableEq, Repr

structure Sensors where
  actuator  : PerP Chan
  strip     : PerP Chan
  height    : PerP Chan
  reservoir : Chan
  ambient   : Chan
  deriving DecidableEq, Repr

/-! ## Lift Controllers (02 2.3.2) -/

/-- Held raise. -/
inductive Held where
  | none | behindLowering | dwell | air
  deriving DecidableEq, Repr

inductive SearchPhase where
  | held | rise | release
  deriving DecidableEq, Repr

/-- The search record (04_touch_search.md 4.3). `clamped` marks a step commanded at Pmax under the clamp of R60. -/
structure SearchRec where
  phase     : SearchPhase
  step      : Nat
  pressure  : Nat
  clamped   : Bool
  settle    : Option Nat
  reference : Option Int
  rise      : Option Nat
  deriving DecidableEq, Repr

/-- `hystLimit` is the HystMax in force when the search's present step was commanded: a write applies from the next step
(R66). `lowerNoted` marks a lower taken between a warm restart and its adoption scan: the Lift Controller decides nothing
before that scan (R44), and the pantograph is then not adopted (log entry 26). -/
structure Lift where
  state           : LiftState
  commanded       : Nat
  targetForce     : Option Nat
  targetPressure  : Option Nat
  held            : Held
  heldSearch      : Bool
  lowerPending    : Bool
  lowerNoted      : Bool
  raiseTimer      : Option Nat
  lowerTimer      : Option Nat
  dwellTimer      : Option Nat
  airTimer        : Option Nat
  devTimer        : Option Nat
  lowStrip        : Nat
  history         : List Int
  quickVent       : Bool
  servoDeviation  : Bool
  lowerOverdue    : Bool
  noWireLower     : Bool
  forceClamped    : Bool
  pressureClamped : Bool
  search          : Option SearchRec
  hystLimit       : Nat
  deriving DecidableEq, Repr

/-- A working Calibration Table entry: the kept fields and the stored mark (set: SAVED). -/
structure CalEntry where
  fields : CalFields
  saved  : Bool
  deriving DecidableEq, Repr

/-! ## Line Monitor (05_line_measurement_and_system_identification.md 5.2) -/

/-- The window result of R82 with the last period of R97. -/
structure WindowResult where
  mean         : Option Int
  meanAbs      : Option Nat
  rms          : Option Nat
  current      : Option Nat
  periodValid  : Bool
  freq         : Option Nat
  lastPeriod   : Option Nat
  cls          : LineClass
  confirmation : Bool
  tractionOff  : Bool
  deriving DecidableEq, Repr

structure LineMon where
  pairCount     : Nat
  voltSum       : Int
  absVoltSum    : Nat
  absCurSum     : Nat
  unmeasured    : Bool
  armed         : Bool
  crossCount    : Nat
  crossSeen     : Bool
  lastPeriod    : Option Nat
  result        : Option WindowResult
  runClass      : Option LineClass
  runLength     : Nat
  confirmed     : Option LineClass
  lowCount      : Nat
  measureFaulty : Bool
  deriving DecidableEq, Repr

/-! ## Switch Unit (06_roof_switchgear.md 6.1) -/

/-- States of the breaker, an isolator or the earthing switch. -/
inductive TwoState where
  | opened | closing | closed | opening | failed
  deriving DecidableEq, Repr

/-- States of the system selector. -/
inductive SelState where
  | ac | dc | mid | moving | failed
  deriving DecidableEq, Repr

/-- Command sources. -/
inductive Source where
  | a | b | p | internal | external
  deriving DecidableEq, Repr

structure TwoSw where
  state    : TwoState
  lastCmd  : TwoPos
  source   : Source
  timer    : Option Nat
  disagree : Bool
  output   : TwoPos
  settled  : TwoPattern
  deriving DecidableEq, Repr

structure SelSw where
  state    : SelState
  lastCmd  : SelPos
  source   : Source
  timer    : Option Nat
  disagree : Bool
  drive    : Option SelPos
  settled  : SelPattern
  deriving DecidableEq, Repr

structure Switches where
  breaker  : TwoSw
  selector : SelSw
  iso      : PerP TwoSw
  earth    : TwoSw
  deriving DecidableEq, Repr

/-! ## Section Queue (07_section_queue_and_train_position.md) -/

/-- A section entry; `active` and `served` are its State and Served mark. -/
structure Entry where
  id        : Nat
  kind      : SectionKind
  start     : Nat
  length    : Nat
  newSystem : Option LineSystem
  active    : Bool
  served    : Bool
  deriving DecidableEq, Repr

structure Queue where
  entries       : List Entry
  position      : Nat
  speed         : Nat
  direction     : Direction
  lastDirection : Option Direction
  motionAge     : Nat
  stale         : Bool
  deriving DecidableEq, Repr

/-! ## Changeover Sequencer (08_the_changeover_sequence.md) -/

/-- The Line Record (8.1). -/
structure LineRecord where
  measured   : LineClass
  determined : Option LineSystem
  source     : Option Panto
  tractionOff : Bool
  advisory   : Option Nat
  serial     : Nat
  deriving DecidableEq, Repr

/-- Halt reasons, in the order of the table of R141. -/
inductive HaltReason where
  | breaker | lower | switch | positionLost | noPantograph | raise | mismatch | noLine | masterNotReady | noMaster
  | add | masterLower | emergency | routeReversed | restart
  deriving DecidableEq, Repr

/-- Where the steps of a path inside COAST and PROBE stand (R135, R136). -/
inductive Work where
  /-- Nothing outstanding. -/
  | none
  /-- PROBE of a wrong-system IDENTIFY: the breaker's OPEN report is awaited. -/
  | awaitOpen
  /-- PROBE of a wrong-system IDENTIFY: the roof is coming down. -/
  | awaitDown
  /-- Steps 1 and 2 of the switch work are asked. -/
  | switches
  /-- Step 4 of the switch work is asked. -/
  | isolator
  /-- The switch work is done. -/
  | ready
  /-- The candidate's raise has been passed. -/
  | raising
  deriving DecidableEq, Repr

/-- The Sequencer record (8.2). -/
structure Seq where
  phase        : Phase
  path         : Option Path
  activeEntry  : Option Nat
  lateMark     : Bool
  expected     : Option LineSystem
  expectedHead : Option Head
  candidate    : Option Panto
  retry        : Bool
  mismatch     : Bool
  work         : Work
  timer        : Option Nat
  haltReason   : Option HaltReason
  deriving DecidableEq, Repr

/-! ## Ice Unit (09_ice_clearing.md) -/

inductive CaptureState where
  | waitLow | low | timing | heldHigh
  deriving DecidableEq, Repr

structure Capture where
  state : CaptureState
  timer : Nat
  mark  : Bool
  deriving DecidableEq, Repr

inductive Severity where
  | short | long | sustained
  deriving DecidableEq, Repr

structure ArcRecord where
  seqNo    : Nat
  panto    : Panto
  position : Nat
  duration : Nat
  speed    : Nat
  severity : Severity
  counted  : Bool
  deriving DecidableEq, Repr

/-- `history` holds the newest record first. -/
structure Ice where
  capture      : PerP Capture
  history      : List ArcRecord
  arcCount     : Nat
  score        : Nat
  raw          : Nat
  hysteresis   : Nat
  fallStart    : Option Nat
  forced       : Nat
  enable       : Bool
  watch        : Bool
  nearest      : Option Nat
  cap          : Nat
  level        : Nat
  demand       : PerP Nat
  duty         : PerP Nat
  applied      : PerP Nat
  preheat      : Option Panto
  scraper      : Option Panto
  lastLowering : Option Nat
  deriving DecidableEq, Repr

/-! ## Condition Unit (10_modes_self_test_and_faults.md) -/

/-- Fault kinds, in the order in which 10.4 lists them. -/
inductive FaultKind where
  | addTrip | switchFailed | wrongSystem | lateSection | missedSection | positionLost | lowerTimeout
  | raiseTimeout | noWire | servoDeviation | tractionNotReduced | noLine | masterNotReady | calibrationFailed
  | airLow | sensorFault | configBad | noPantograph
  deriving DecidableEq, Repr

theorem FaultKind.ctorIdx_lt (k : FaultKind) : k.ctorIdx < 18 := by
  cases k <;> decide

/-- Fault subjects. -/
inductive Subject where
  | none
  | panto (p : Panto)
  | switch (s : SwId)
  | link (l : Link)
  deriving DecidableEq, Repr

structure FirstFault where
  kind     : FaultKind
  subject  : Subject
  position : Nat
  speed    : Nat
  phase    : Phase
  mode     : Mode
  deriving DecidableEq, Repr

structure FaultRecord where
  first    : Option FirstFault
  counters : Vector Nat 18
  present  : Bool
  deriving DecidableEq, Repr

inductive TestResult where
  | pass | fail | skipped
  deriving DecidableEq, Repr

structure SensorResults where
  actuator  : PerP (Option TestResult)
  strip     : PerP (Option TestResult)
  height    : PerP (Option TestResult)
  reservoir : Option TestResult
  ambient   : Option TestResult
  deriving DecidableEq, Repr

structure SwitchResults where
  breaker  : Option TestResult
  selector : Option TestResult
  iso      : PerP (Option TestResult)
  earth    : Option TestResult
  deriving DecidableEq, Repr

structure SelfTest where
  config      : Option TestResult
  calibration : PerP (Option TestResult)
  sensors     : SensorResults
  valves      : PerP (Option TestResult)
  strips      : PerP (Option TestResult)
  switches    : SwitchResults
  links       : PerL (Option TestResult)
  completed   : Bool
  deriving DecidableEq, Repr

/-- Where the VALVES and STRIPS steps stand (R174). -/
inductive TestStep where
  | notBegun
  /-- The pantograph's VALVES step runs; milliseconds since its command of 500. -/
  | valves (p : Panto) (elapsed : Nat)
  /-- The pantograph's STRIPS step is judged at the next scan. -/
  | strips (p : Panto)
  | finished
  deriving DecidableEq, Repr

/-- What the restart logic keeps from the taking of a warm restart to the end of adoption (R21, R178). -/
structure Restart where
  lead            : Option Master
  roles           : PerP RoleRec
  lifts           : PerP LiftState
  mode            : Mode
  standbyLowering : Bool
  deriving DecidableEq, Repr

structure Cond where
  mode            : Mode
  standbyLowering : Bool
  modeTimer       : Nat
  heldWake        : Bool
  returnMode      : Mode
  selfTest        : SelfTest
  testStep        : TestStep
  configGood      : Bool
  configSaved     : Bool
  cfg             : CfgRec
  faults          : FaultRecord
  configLoaded    : Bool
  entryLoaded     : PerP Bool
  restart         : Option Restart
  reloadPending   : Bool
  newMaxUp        : Option Int
  deriving DecidableEq, Repr

/-! ## Memory port (R77, R175, R176) -/

/-- A write offered to the memory port. -/
inductive MemJob where
  | entry (p : Panto)
  | store
  deriving DecidableEq, Repr

/-- The write in flight with the contents it writes. -/
inductive Flight where
  | entry (p : Panto) (fields : CalFields)
  | store (cfg : CfgRec)
  deriving DecidableEq, Repr

structure MemPort where
  image      : MemImage
  inFlight   : Option Flight
  waiting    : List MemJob
  storeDirty : Bool
  deriving DecidableEq, Repr

/-! ## Links (11_master_links.md) -/

/-- Refusal codes, in the order of R179. -/
inductive RefCode where
  | notLead | leadHeld | wrongMode | wrongLink | busy | interlock | airLimit | emergencyHold | changeoverActive
  | queueFull | staleMarker | overlap | markerLocked | staleReady | outOfRange | notAvailable | tooSoon
  | unknownRequest
  deriving DecidableEq, Repr

inductive ReplyOutcome where
  | accepted
  | done
  | clamped
  | refused (c : RefCode)
  deriving DecidableEq, Repr

structure RoofPlanView where
  lead      : Option Master
  roles     : PerP RoleRec
  hold      : Bool
  readyA    : Option Ready
  readyB    : Option Ready
  epoch     : Nat
  raised    : Nat
  committed : Nat
  deriving DecidableEq, Repr

structure ChanView where
  value    : Option Int
  validity : Validity
  deriving DecidableEq, Repr

structure PantoView where
  state           : LiftState
  held            : Held
  heldSearch      : Bool
  lowerPending    : Bool
  commanded       : Nat
  targetForce     : Option Nat
  targetPressure  : Option Nat
  touch           : Nat
  actuator        : ChanView
  strip           : ChanView
  height          : ChanView
  servoDeviation  : Bool
  lowerOverdue    : Bool
  noWireLower     : Bool
  forceClamped    : Bool
  pressureClamped : Bool
  uncalibrated    : Bool
  stale           : Bool
  search          : Option SearchRec
  deriving DecidableEq, Repr

/-- `remaining` is absent while the operation timer is stopped. -/
structure TwoSwView where
  state     : TwoState
  lastCmd   : TwoPos
  source    : Source
  disagree  : Bool
  remaining : Option Nat
  deriving DecidableEq, Repr

structure SelSwView where
  state     : SelState
  lastCmd   : SelPos
  source    : Source
  disagree  : Bool
  remaining : Option Nat
  deriving DecidableEq, Repr

structure SwitchesView where
  breaker  : TwoSwView
  selector : SelSwView
  iso      : PerP TwoSwView
  earth    : TwoSwView
  deriving DecidableEq, Repr

structure LineView where
  record        : LineRecord
  result        : Option WindowResult
  lastPeriod    : Option Nat
  runClass      : Option LineClass
  runLength     : Nat
  confirmed     : Option LineClass
  measureFaulty : Bool
  seq           : Seq
  deriving DecidableEq, Repr

structure IceView where
  score        : Nat
  raw          : Nat
  hysteresis   : Nat
  fallStart    : Option Nat
  forced       : Nat
  enable       : Bool
  watch        : Bool
  cap          : Nat
  level        : Nat
  demand       : PerP Nat
  duty         : PerP Nat
  preheat      : Option Panto
  scraper      : Option Panto
  lastLowering : Option Nat
  arcCount     : Nat
  deriving DecidableEq, Repr

structure LinkView where
  present   : Bool
  age       : Option Nat
  badFrames : Nat
  mask      : Mask
  attention : Bool
  deriving DecidableEq, Repr

/-- What a reply carries after its outcome (R179). -/
inductive ReplyData where
  | none
  | epoch (n : Nat)
  | evicted (id : Option Nat)
  | digest (bytes : List Byte)
  | roofPlan (v : RoofPlanView)
  | panto (v : PantoView)
  | switches (v : SwitchesView)
  | line (v : LineView)
  | sections (v : Queue)
  | ice (v : IceView)
  | arcs (count held : Nat) (records : List ArcRecord)
  | calibration (fields : CalFields) (saved stale : Bool)
  | faults (v : FaultRecord)
  | selfTest (v : SelfTest) (mode : Mode) (modeTimer : Nat) (returnMode : Mode)
  | counters (v : PerL LinkView)
  | item (value lo hi initial : Int) (saved : Bool)
  deriving DecidableEq, Repr

structure Reply where
  code    : Nat
  tag     : Nat
  outcome : ReplyOutcome
  data    : ReplyData
  deriving DecidableEq, Repr

/-- `frame` holds the bytes after the start byte of the frame in progress; `replies` the replies that wait or are
being sent, the one being sent first. -/
structure LinkRec where
  present   : Bool
  age       : Option Nat
  badFrames : Nat
  mask      : Mask
  frame     : Option (List Byte)
  replies   : List Reply
  deriving DecidableEq, Repr

/-! ## The part and its queue of commands -/

/-- Everything the spec gives the part. `freeCount` is the model's own: the counter of free values drawn. -/
structure Block where
  plan      : Plan
  sensors   : Sensors
  lift      : PerP Lift
  cal       : PerP CalEntry
  line      : LineMon
  sw        : Switches
  queue     : Queue
  record    : LineRecord
  seq       : Seq
  ice       : Ice
  cond      : Cond
  mem       : MemPort
  links     : PerL LinkRec
  freeCount : Nat
  deriving DecidableEq, Repr

/-- The part with the commands that wait, first in, first out. -/
structure State where
  pending : List Instr
  block   : Block
  deriving DecidableEq, Repr

/-- Reasons a step could stop in a fault. The spec stops the part on nothing: its faults are entries of the Fault
Record. -/
inductive Fault where
  /-- Raised by no command; safe, since no behaviour of the part is cut off by it. -/
  | never
  deriving DecidableEq, Repr

/-- Reasons a step could be refused. -/
inductive Refusal where
  /-- Raised by an arm of `exec` whose command has no meaning yet; safe. No arm raises it now. -/
  | notModelled (mnemonic : String)
  deriving DecidableEq, Repr

/-! ## State after power-on -/

def Lift.initial : Lift where
  state := .stowed
  commanded := 0
  targetForce := none
  targetPressure := none
  held := .none
  heldSearch := false
  lowerPending := false
  lowerNoted := false
  raiseTimer := none
  lowerTimer := none
  dwellTimer := none
  airTimer := none
  devTimer := none
  lowStrip := 0
  history := []
  quickVent := false
  servoDeviation := false
  lowerOverdue := false
  noWireLower := false
  forceClamped := false
  pressureClamped := false
  search := none
  hystLimit := 0

def Chan.initial : Chan := ⟨none, .unknown, false⟩

/-- An entry of status NONE: touch, release and hysteresis 0, last result and position absent (R76). -/
def CalFields.blank : CalFields := ⟨0, 0, 0, .none, none, none⟩

def LineMon.initial : LineMon where
  pairCount := 0
  voltSum := 0
  absVoltSum := 0
  absCurSum := 0
  unmeasured := false
  armed := false
  crossCount := 0
  crossSeen := false
  lastPeriod := none
  result := none
  runClass := none
  runLength := 0
  confirmed := none
  lowCount := 0
  measureFaulty := false

def TwoSw.initial : TwoSw := ⟨.opened, .opened, .internal, none, false, .opened, ⟨true, false⟩⟩

def SelSw.initial : SelSw := ⟨.mid, .mid, .internal, none, false, none, ⟨false, true, false⟩⟩

def Queue.initial : Queue := ⟨[], 0, 0, .standstill, none, 0, true⟩

def LineRecord.initial : LineRecord := ⟨.unknown, none, none, false, none, 0⟩

def Seq.initial : Seq := ⟨.idle, none, none, false, none, none, none, false, false, .none, none, none⟩

def Capture.initial : Capture := ⟨.waitLow, 0, false⟩

def Ice.initial : Ice where
  capture := .const Capture.initial
  history := []
  arcCount := 0
  score := 0
  raw := 0
  hysteresis := 0
  fallStart := none
  forced := 0
  enable := false
  watch := false
  nearest := none
  cap := 3
  level := 0
  demand := .const 0
  duty := .const 0
  applied := .const 0
  preheat := none
  scraper := none
  lastLowering := none

def FaultRecord.empty : FaultRecord := ⟨none, Vector.replicate 18 0, false⟩

/-- The self-test record cleared, as at each entry to WAKING before the items are run. -/
def SelfTest.cleared : SelfTest where
  config := none
  calibration := .const none
  sensors := ⟨.const none, .const none, .const none, none, none⟩
  valves := .const none
  strips := .const none
  switches := ⟨none, none, .const none, none⟩
  links := .const none
  completed := false

/-- The memory image that `State.reset` stands on: a record of defaults and four entries of status NONE, all with
good checks. DESIGN CHOICE, log entry 4 (unsafe). -/
def MemImage.delivered : MemImage := ⟨some cfgDefaults, .const (some CalFields.blank)⟩

/-- The contact patterns that `State.reset` stands on: every two-position switch OPEN, the selector at MID.
DESIGN CHOICE, log entry 4 (unsafe). -/
def Contacts.allOpen : Contacts :=
  ⟨⟨true, false⟩, ⟨false, true, false⟩, .const ⟨true, false⟩, ⟨true, false⟩⟩

def LinkRec.initial : LinkRec := ⟨false, none, 0, 0xFFFF, none, []⟩

def Block.initial : Block where
  plan := ⟨none, .const ⟨.none, none⟩, false, none, none, 0⟩
  sensors := ⟨.const Chan.initial, .const Chan.initial, .const Chan.initial, Chan.initial, Chan.initial⟩
  lift := .const Lift.initial
  cal := .const ⟨CalFields.blank, true⟩
  line := LineMon.initial
  sw := ⟨TwoSw.initial, SelSw.initial, .const TwoSw.initial, TwoSw.initial⟩
  queue := Queue.initial
  record := LineRecord.initial
  seq := Seq.initial
  ice := Ice.initial
  cond := {
    mode := .waking
    standbyLowering := false
    modeTimer := 0
    heldWake := false
    returnMode := .standby
    selfTest := { SelfTest.cleared with
      config := some .pass
      calibration := .const (some .pass)
      switches := ⟨some .pass, some .pass, .const (some .pass), some .pass⟩ }
    testStep := .notBegun
    configGood := true
    configSaved := true
    cfg := cfgDefaults
    faults := FaultRecord.empty
    configLoaded := true
    entryLoaded := .const true
    restart := none
    reloadPending := false
    newMaxUp := none }
  mem := ⟨MemImage.delivered, none, [], false⟩
  links := .const LinkRec.initial
  freeCount := 0

/-- The part right after power-on with the memory image and the contact patterns of log entry 4, and no command
waiting. `test_powerOn_is_reset` shows that POWER_ON with those brings a block here; it leaves the counter
of free values as it is (log entry 9). -/
def State.reset : State := ⟨[], Block.initial⟩

end Sys2Proof.Machine
end

