-- ==== Sys2Proof/Machine/Ops.lean ====
section
/-!
DEFINITION. The named operations every block shares: reading a record, changing one pantograph's record, roles,
the Fault Record (R177) and the offers to the memory port (R77).
-/

namespace Sys2Proof

/-- RAISING, CONTACT or SEARCHING: in the raised count (01 1.1). -/
def LiftState.raised : LiftState → Bool
  | .raising => true
  | .contact => true
  | .searching => true
  | _ => false

/-- RAISING or CONTACT. -/
def LiftState.up : LiftState → Bool
  | .raising => true
  | .contact => true
  | _ => false

/-- STOWED, DROPPED or OUT_OF_SERVICE. -/
def LiftState.atRest : LiftState → Bool
  | .stowed => true
  | .dropped => true
  | .outOfService => true
  | _ => false

def RoofEnd.other : RoofEnd → RoofEnd
  | .end1 => .end2
  | .end2 => .end1

end Sys2Proof

namespace Sys2Proof.Machine

/-! ## Reading -/

/-- The working value of a configuration item. -/
def Block.cfg (b : Block) (i : Item) : Int := cfgGet b.cond.cfg i

/-- The working value of a configuration item that is never negative. -/
def Block.nat (b : Block) (i : Item) : Nat := cfgNat b.cond.cfg i

/-- An item of off and on. -/
def Block.on (b : Block) (i : Item) : Bool := b.cfg i = 1

def Block.lc (b : Block) (p : Panto) : Lift := b.lift.get p

def Block.role (b : Block) (p : Panto) : Role := (b.plan.roles.get p).role

/-- Head class of the installation record (00_scope.md 1.5.5). -/
def Block.head (b : Block) (p : Panto) : Head := if b.cfg (headItem p) = 1 then .dc else .ac

/-- Roof end of the installation record. -/
def Block.roofEnd (b : Block) (p : Panto) : RoofEnd := if b.cfg (endItem p) = 1 then .end2 else .end1

/-- An AC_HEAD serves AC25 and AC15, a DC_HEAD serves DC3 and DC15 (00_scope.md 1.5.5). -/
def serves : Head → LineSystem → Bool
  | .ac, .ac25 => true
  | .ac, .ac15 => true
  | .dc, .dc3 => true
  | .dc, .dc15 => true
  | _, _ => false

/-- The head class that serves a system. -/
def headFor : LineSystem → Head
  | .ac25 => .ac
  | .ac15 => .ac
  | .dc3 => .dc
  | .dc15 => .dc

/-- The collector: the pantograph holding COLLECTING. -/
def collector (b : Block) : Option Panto := Panto.all.find? fun p => b.role p == .collecting

/-- The pantograph holding SCRAPING. -/
def scraping (b : Block) : Option Panto := Panto.all.find? fun p => b.role p == .scraping

/-- A channel's reading, where the latest one was plausible (R23). -/
def Chan.reading (c : Chan) : Option Int := if c.validity = .good then c.value else none

/-- The value a channel is judged on where a FAULTY one is judged on its held value (R26, R41, R157). -/
def Chan.heldValue (c : Chan) : Option Int := if c.validity = .unknown then none else c.value

/-- The reservoir is sufficient for a raise or a search to begin (R26). -/
def airSufficient (b : Block) : Bool :=
  match b.sensors.reservoir.heldValue with
  | some v => b.cfg .raiseAir ≤ v
  | none => false

/-- Not sensor-unavailable: the height and actuator-pressure channels are GOOD (R25). -/
def sensorsGood (b : Block) (p : Panto) : Bool :=
  (b.sensors.height.get p).validity == .good && (b.sensors.actuator.get p).validity == .good

/-- The height or the actuator-pressure channel is FAULTY (R25). -/
def sensorFaulty (b : Block) (p : Panto) : Bool :=
  (b.sensors.height.get p).validity == .faulty || (b.sensors.actuator.get p).validity == .faulty

/-- Neither DROPPED nor OUT_OF_SERVICE nor sensor-unavailable (condition 5 of R6). -/
def available (b : Block) (p : Panto) : Bool :=
  (b.lc p).state != .dropped && (b.lc p).state != .outOfService && sensorsGood b p

/-! ## Changing one record -/

def Block.setLift (b : Block) (p : Panto) (l : Lift) : Block := { b with lift := b.lift.set p l }

def setRole (p : Panto) (r : Role) (o : Origin) (b : Block) : Block :=
  { b with plan := { b.plan with roles := b.plan.roles.set p ⟨r, some o⟩ } }

/-- The role becomes NONE and its origin absent (R13). -/
def clearRole (p : Panto) (b : Block) : Block :=
  { b with plan := { b.plan with roles := b.plan.roles.set p ⟨.none, none⟩ } }

def setTractionOff (v : Bool) (b : Block) : Block := { b with record := { b.record with tractionOff := v } }

def setPhase (ph : Phase) (b : Block) : Block := { b with seq := { b.seq with phase := ph } }

def setPreheat (v : Option Panto) (b : Block) : Block := { b with ice := { b.ice with preheat := v } }

/-- A warm restart waits for its adoption scan: until then the Lift Controllers decide nothing, no lift state changes
and the roles are kept (R21, R44). -/
def adoptionWaits (b : Block) : Bool := b.cond.restart.isSome

/-- `f` at any time but while a warm restart waits for its adoption scan. -/
def onceAdopted (f : Block → Block) (b : Block) : Block := if adoptionWaits b then b else f b

/-- `f` at each pantograph, P1 first. -/
def eachPanto (f : Panto → Block → Block) (b : Block) : Block := f .p4 (f .p3 (f .p2 (f .p1 b)))

/-! ## Fault Record (R177) -/

/-- The SEVERE kinds (10.4). -/
def FaultKind.severe : FaultKind → Bool
  | .addTrip => true
  | .switchFailed => true
  | .wrongSystem => true
  | .lateSection => true
  | .missedSection => true
  | .positionLost => true
  | .lowerTimeout => true
  | _ => false

/-- A fault is reported: its counter rises, saturating at 255, the fault-present flag is set, and an absent
first-fault record is filled where the kind passes the capture filter (R177). -/
def recordFault (k : FaultKind) (subject : Subject) (b : Block) : Block :=
  let f := b.cond.faults
  let n := f.counters[k.ctorIdx]'(k.ctorIdx_lt)
  let first : Option FirstFault :=
    match f.first with
    | some r => some r
    | none =>
      if b.on .captureFilter && !k.severe then none
      else some ⟨k, subject, b.queue.position, b.queue.speed, b.seq.phase, b.cond.mode⟩
  { b with cond := { b.cond with
      faults := ⟨first, f.counters.set k.ctorIdx (satAdd 255 n 1) k.ctorIdx_lt, true⟩ } }

/-! ## Reports for the change masks (R184) -/

def LinkRec.mark (m : Mask) (l : LinkRec) : LinkRec := { l with mask := l.mask ||| m }

/-- The bits of `m` are set in all three masks. -/
def markAll (m : Mask) (b : Block) : Block :=
  { b with links := ⟨b.links.a.mark m, b.links.b.mark m, b.links.p.mark m⟩ }

/-- A report for the change masks: the bit of the field is set in all three, even where no value the digest carries
changes. -/
def report (field : Nat) (b : Block) : Block := markAll (BitVec.twoPow 16 field) b

/-! ## Memory port (R77, R176) -/

/-- A write begins: it carries the working entry, or the working record, as it stands now. -/
def beginWrite (j : MemJob) (b : Block) : Block :=
  match j with
  | .entry p => { b with mem := { b.mem with inFlight := some (.entry p (b.cal.get p).fields) } }
  | .store => { b with mem := { b.mem with inFlight := some (.store b.cond.cfg), storeDirty := false } }

/-- A write is offered to the port. It waits while another is in flight, and an entry already waiting is not
offered twice: its one write carries the entry as it stands when the write begins. -/
def offerWrite (j : MemJob) (b : Block) : Block :=
  match b.mem.inFlight with
  | none => beginWrite j b
  | some _ =>
    if b.mem.waiting.contains j then b
    else { b with mem := { b.mem with waiting := b.mem.waiting ++ [j] } }

/-- The port takes its next waiting write, if any. -/
def nextWrite (b : Block) : Block :=
  match b.mem.waiting with
  | [] => { b with mem := { b.mem with inFlight := none } }
  | j :: js => beginWrite j { b with mem := { b.mem with inFlight := none, waiting := js } }

/-- A working entry changes: its stored mark becomes UNSAVED, it is offered for writing, and the change is reported, one
that writes what stood there already too (R72, R73, R184). -/
def changeEntry (p : Panto) (f : CalFields → CalFields) (b : Block) : Block :=
  report 7 (offerWrite (.entry p) { b with cal := b.cal.set p ⟨f (b.cal.get p).fields, false⟩ })

/-- The entry is STALE: its position is more than CalibrationAge kilometres behind (R78). -/
def stale (b : Block) (p : Panto) : Bool :=
  match (b.cal.get p).fields.calPos with
  | some c => c + b.nat .calibrationAge * 1000 < b.queue.position
  | none => false

/-- The pantograph is uncalibrated: its entry's status is NONE or FAILED (R55). Between a warm restart and a reload that
waits for a memory write the old working entry still decides it: R44 clears the status flags and R63 sets this one again at
the reload. DESIGN CHOICE, log entry 36. -/
def uncalibrated (b : Block) (p : Panto) : Bool :=
  match (b.cal.get p).fields.status with
  | .valid => false
  | .suspect => false
  | .none => true
  | .failed => true

/-! ## Counts of the Roof Plan (01 1.1) -/

def countP (f : Panto → Bool) : Nat := Panto.all.countP f

def raisedCount (b : Block) : Nat := countP fun p => (b.lc p).state.raised

/-- In the committed count: raised, or holding a role with a raise held by its Lift Controller. -/
def committed (b : Block) (p : Panto) : Bool :=
  (b.lc p).state.raised || (b.role p != .none && (b.lc p).held != .none)

def committedCount (b : Block) : Nat := countP (committed b)

/-- The committed count with `p` counted is within MaxUp (R6 condition 9, R8, R10, R11). -/
def airAllows (b : Block) (p : Panto) : Bool :=
  countP (fun x => x == p || committed b x) ≤ b.nat .maxUp

/-! ## Positions of the roof (R7, R164) -/

/-- END_1 leads running FORWARD or at STANDSTILL, END_2 running REVERSE. -/
def leadingEnd (b : Block) : RoofEnd := if b.queue.direction = .reverse then .end2 else .end1

/-- The end at the configured preferred position. -/
def preferredEnd (b : Block) : RoofEnd :=
  if b.cfg .preferredPosition = 1 then leadingEnd b else (leadingEnd b).other

/-- The pantographs in the order of R7: those at the preferred end, then the others, lowest number first. -/
def preferredOrder (b : Block) : List Panto :=
  (Panto.all.filter fun p => b.roofEnd p == preferredEnd b) ++
    (Panto.all.filter fun p => b.roofEnd p != preferredEnd b)

end Sys2Proof.Machine
end

