-- ==== Sys2Proof/Machine/Force.lean ====
section
/-!
DEFINITION. The force law (03_contact_force_and_pressure.md): its six stages, an evaluation for one pantograph,
and the steps by which the commanded pressure follows the target.
-/

namespace Sys2Proof.Machine

/-- The items of one head class that the law reads (section 3.2). -/
structure ForceItems where
  base  : Nat
  aero  : Nat
  least : Nat
  most  : Nat
  deriving DecidableEq, Repr

def forceItems (b : Block) : Head → ForceItems
  | .ac => ⟨b.nat .baseForceAC, b.nat .aeroCoeffAC, b.nat .forceMinAC, b.nat .forceMaxAC⟩
  | .dc => ⟨b.nat .baseForceDC, b.nat .aeroCoeffDC, b.nat .forceMinDC, b.nat .forceMaxDC⟩

/-- The aerodynamic term (R50). -/
def aeroTerm (ka v : Nat) : Nat := ka * v * v / 100000

/-- The ice term (R51). -/
def iceTerm (role : Role) (level kice : Nat) : Nat :=
  match role with
  | .collecting => level * kice
  | .scraping => level * kice
  | .none => 0
  | .calibrating => 0

/-- The scraper term (R52). -/
def scraperTerm (role : Role) (extra : Nat) : Nat := if role = .scraping then extra else 0

/-- The raw force of a pantograph (R53). -/
def rawForce (b : Block) (p : Panto) : Nat :=
  let f := forceItems b (b.head p)
  f.base + aeroTerm f.aero b.queue.speed + iceTerm (b.role p) b.ice.level (b.nat .kice) +
    scraperTerm (b.role p) (b.nat .scrapeExtra)

/-- `v` clamped into `[lo, hi]`. -/
def clampForce (lo hi v : Nat) : Nat := if v < lo then lo else if hi < v then hi else v

/-- The target force: the raw force clamped into the limits of the head class (R53). -/
def targetForceOf (b : Block) (p : Panto) : Nat :=
  let f := forceItems b (b.head p)
  clampForce f.least f.most (rawForce b p)

/-- The pressure increment, rounded half up (R54). -/
def pressureIncrement (force gain : Nat) : Nat := (force * gain + 8) / 16

/-- The touch pressure in use (R55). -/
def touchInUse (b : Block) (p : Panto) : Nat :=
  if uncalibrated b p then b.nat .defaultTouch else (b.cal.get p).fields.touch

/-- Touch pressure plus increment, before the clamp to Pmax. -/
def rawPressure (b : Block) (p : Panto) : Nat :=
  touchInUse b p + pressureIncrement (targetForceOf b p) (b.nat .pressGain)

/-- The target pressure (R56). -/
def targetPressureOf (b : Block) (p : Panto) : Nat := min (rawPressure b p) (b.nat .pmax)

/-- One evaluation of the law for one pantograph: target force, target pressure and clamp flags (R47, R53, R56). -/
def evaluate (p : Panto) (b : Block) : Block :=
  b.setLift p { b.lc p with
    targetForce := some (targetForceOf b p)
    targetPressure := some (targetPressureOf b p)
    forceClamped := targetForceOf b p != rawForce b p
    pressureClamped := decide (b.nat .pmax ≤ rawPressure b p) }

/-- The evaluation of every pantograph in RAISING or CONTACT that a write of a force-law item makes (R47, R49). -/
def evaluateUp (b : Block) : Block :=
  eachPanto (fun p b => if (b.lc p).state.up then evaluate p b else b) b

/-- `from_` moved toward `target` by at most `up` upward and `down` downward. -/
def stepToward (up down from_ target : Nat) : Nat :=
  if from_ < target then min target (from_ + up) else max target (from_ - down)

/-- The step of the raise ramp (R57). -/
def rampStep (b : Block) (l : Lift) : Nat :=
  match l.targetPressure with
  | some t => stepToward (b.nat .raiseSlew) (b.nat .slew) l.commanded t
  | none => l.commanded

/-- The step of regulation in CONTACT, none while NO_WIRE_LOWER is set (R58). -/
def contactStep (b : Block) (l : Lift) : Nat :=
  if l.noWireLower then l.commanded
  else match l.targetPressure with
    | some t => stepToward (b.nat .slew) (b.nat .slew) l.commanded t
    | none => l.commanded

/-- The force-law items, a write of which evaluates the law anew (R47, R49). -/
def forceLawItem : Item → Bool
  | .baseForceAC => true
  | .baseForceDC => true
  | .aeroCoeffAC => true
  | .aeroCoeffDC => true
  | .kice => true
  | .scrapeExtra => true
  | .forceMinAC => true
  | .forceMinDC => true
  | .forceMaxAC => true
  | .forceMaxDC => true
  | .pressGain => true
  | .pmax => true
  | .slew => true
  | .defaultTouch => true
  | _ => false

/-- A search record whose step pressure is brought within a new Pmax (R60). Such a step counts from then on as one
commanded at Pmax, so that NO_TOUCH follows where it finds none (R69 item 3): the rule does not say so of a step that was
commanded before the write. DESIGN CHOICE, log entry 36. -/
def SearchRec.within (pmax : Nat) (r : SearchRec) : SearchRec :=
  if pmax < r.pressure then { r with pressure := pmax, clamped := true } else r

/-- One pantograph's commanded pressure within Pmax. The search record follows it while the search runs, and keeps its
last values in LOWERING (R60, R72). -/
def Lift.within (pmax : Nat) (l : Lift) : Lift :=
  { l with
    commanded := min l.commanded pmax
    search := if l.state = .searching then l.search.map (SearchRec.within pmax) else l.search }

/-- A new Pmax brings every commanded pressure within it, in every lift state (R60, R61). -/
def clampCommanded (b : Block) : Block := eachPanto (fun p b => b.setLift p ((b.lc p).within (b.nat .pmax))) b

end Sys2Proof.Machine
end

