-- ==== Sys2Proof/Machine/Switchgear.lean ====
section
/-!
DEFINITION. The Switch Unit (06_roof_switchgear.md): feedback, operations, the breaker's open and close with their
interlocks, the guard, and the moves of the selector, the isolators and the earthing switch.
-/

namespace Sys2Proof

/-! ## Patterns and positions (R98) -/

def TwoPattern.shows (r : TwoPattern) : TwoPos → Bool
  | .opened => r.openContact && !r.closedContact
  | .closed => !r.openContact && r.closedContact

/-- Exactly one position shown. -/
def TwoPattern.consistent (r : TwoPattern) : Bool := r.openContact != r.closedContact

def SelPattern.shows (r : SelPattern) : SelPos → Bool
  | .ac => r.acContact && !r.midContact && !r.dcContact
  | .mid => !r.acContact && r.midContact && !r.dcContact
  | .dc => !r.acContact && !r.midContact && r.dcContact

def SelPattern.consistent (r : SelPattern) : Bool := r.shows .ac || r.shows .mid || r.shows .dc

/-- Two or more positions shown. -/
def SelPattern.several (r : SelPattern) : Bool :=
  (r.acContact && r.midContact) || (r.acContact && r.dcContact) || (r.midContact && r.dcContact)

def TwoPos.atRest : TwoPos → Machine.TwoState
  | .opened => .opened
  | .closed => .closed

def TwoPos.travel : TwoPos → Machine.TwoState
  | .opened => .opening
  | .closed => .closing

def SelPos.atRest : SelPos → Machine.SelState
  | .ac => .ac
  | .mid => .mid
  | .dc => .dc

/-- The position a consistent pattern shows. -/
def TwoPattern.position (r : TwoPattern) : Option TwoPos :=
  if r.shows .opened then some .opened else if r.shows .closed then some .closed else none

def SelPattern.position (r : SelPattern) : Option SelPos :=
  if r.shows .ac then some .ac else if r.shows .mid then some .mid else if r.shows .dc then some .dc else none

end Sys2Proof

namespace Sys2Proof.Machine

/-! ## Single switches (R98 to R101) -/

def TwoState.travelling : TwoState → Bool
  | .closing => true
  | .opening => true
  | _ => false

/-- At rest in OPEN with its disagreement flag clear: what counts as OPEN for every condition that requires the
switch OPEN (R98). -/
def TwoSw.isOpen (s : TwoSw) : Bool := s.state == .opened && !s.disagree

/-- A movement is accepted (R99). -/
def TwoSw.move (cmd : TwoPos) (src : Source) (s : TwoSw) : TwoSw :=
  { s with state := cmd.travel, lastCmd := cmd, source := src, timer := some 0, disagree := false, output := cmd }

def SelSw.move (cmd : SelPos) (src : Source) (s : SelSw) : SelSw :=
  { s with state := .moving, lastCmd := cmd, source := src, timer := some 0, disagree := false, drive := some cmd }

/-- The switch becomes FAILED (R100): the timer stops, a breaker's output is set to OPEN and the others keep
theirs; the flag is set while the latest settled reading is inconsistent (R98). -/
def TwoSw.fail (isBreaker : Bool) (s : TwoSw) : TwoSw :=
  { s with state := .failed, timer := none, disagree := !s.settled.consistent,
           output := if isBreaker then .opened else s.output }

def SelSw.fail (s : SelSw) : SelSw :=
  { s with state := .failed, timer := none, disagree := !s.settled.consistent, drive := none }

/-- A settled reading of a breaker, isolator or earthing switch, with whether SWITCH_FAILED is recorded
(R98, R100, R101): of a switch OPEN, at the first reading in disagreement after one in agreement. -/
def TwoSw.settle (isBreaker : Bool) (r : TwoPattern) (s0 : TwoSw) : TwoSw × Bool :=
  let s := { s0 with settled := r }
  match s.state with
  | .closing | .opening =>
    if r.shows s.lastCmd then ({ s with state := s.lastCmd.atRest, timer := none, disagree := false }, false)
    else if r.openContact && r.closedContact then (s.fail isBreaker, true)
    else (s, false)
  | .opened =>
    if r.shows .opened then ({ s with disagree := false }, false)
    else ({ s with disagree := true }, s0.settled.shows .opened)
  | .closed =>
    if r.shows .closed then ({ s with disagree := false }, false)
    else if isBreaker && r.shows .opened then
      ({ s with state := .opened, lastCmd := .opened, source := .external, disagree := false, output := .opened },
        false)
    else (s.fail isBreaker, true)
  | .failed => ({ s with disagree := !r.consistent }, false)

/-- A settled reading of the selector, with whether SWITCH_FAILED is recorded (R98, R100, R101). -/
def SelSw.settle (r : SelPattern) (s0 : SelSw) : SelSw × Bool :=
  let s := { s0 with settled := r }
  let rest (pos : SelPos) : SelSw × Bool :=
    if r.shows pos then ({ s with disagree := false }, false) else (s.fail, true)
  match s.state with
  | .moving =>
    if r.shows s.lastCmd then
      ({ s with state := s.lastCmd.atRest, timer := none, disagree := false, drive := none }, false)
    else if r.several then (s.fail, true)
    else (s, false)
  | .ac => rest .ac
  | .mid => rest .mid
  | .dc => rest .dc
  | .failed => ({ s with disagree := !r.consistent }, false)

/-- R99 for a breaker, isolator or earthing switch: the outcome the state alone decides, or none where the
interlocks are examined. -/
def TwoSw.examine (s : TwoSw) (cmd : TwoPos) : Option ReplyOutcome :=
  match s.state, cmd with
  | .opened, .opened => some .done
  | .opened, .closed => if s.disagree then some (.refused .notAvailable) else none
  | .closed, .closed => some .done
  | .closed, .opened => none
  | .closing, _ => some (.refused .busy)
  | .opening, _ => some (.refused .busy)
  | .failed, _ => some (.refused .notAvailable)

/-- R99 for the selector. -/
def SelSw.examine (s : SelSw) (cmd : SelPos) : Option ReplyOutcome :=
  match s.state with
  | .moving => some (.refused .busy)
  | .failed => some (.refused .notAvailable)
  | st => if st = cmd.atRest then some .done else none

/-! ## The switches of the roof -/

def Block.setBreaker (b : Block) (s : TwoSw) : Block := { b with sw := { b.sw with breaker := s } }
def Block.setEarth (b : Block) (s : TwoSw) : Block := { b with sw := { b.sw with earth := s } }
def Block.setSelector (b : Block) (s : SelSw) : Block := { b with sw := { b.sw with selector := s } }
def Block.setIso (b : Block) (p : Panto) (s : TwoSw) : Block :=
  { b with sw := { b.sw with iso := b.sw.iso.set p s } }

def isoOpen (b : Block) (p : Panto) : Bool := (b.sw.iso.get p).isOpen

/-- Each isolator other than `p`'s is OPEN. -/
def othersOpen (b : Block) (p : Panto) : Bool := Panto.all.all fun x => x == p || isoOpen b x

def earthOpen (b : Block) : Bool := b.sw.earth.isOpen

/-- CLOSING or CLOSED. -/
def breakerEngaged (b : Block) : Bool := b.sw.breaker.state == .closing || b.sw.breaker.state == .closed

/-- The selector position of a head class. -/
def selFor : Head → SelPos
  | .ac => .ac
  | .dc => .dc

/-- The selector stands at the position of `p`'s head class. -/
def selectorAt (b : Block) (p : Panto) : Bool := b.sw.selector.state == (selFor (b.head p)).atRest

/-- An open of the line breaker, from any source and in any state (R102). One that finds it FAILED leaves its last command
and its source as they stood: the row names output and state alone. DESIGN CHOICE, log entry 41. -/
def openBreaker (src : Source) (b : Block) : Block :=
  match b.sw.breaker.state with
  | .opened => b
  | .closed => b.setBreaker (b.sw.breaker.move .opened src)
  | .closing => b.setBreaker (b.sw.breaker.move .opened src)
  | .opening => b
  | .failed => b.setBreaker { b.sw.breaker with output := .opened }

/-- The reply to a master's open (R102). -/
def openReply (b : Block) : ReplyOutcome := if b.sw.breaker.state = .opened then .done else .accepted

/-- Conditions 3 to 5 of R103 for the pantograph of the closed isolator. -/
def collectorFit (b : Block) (p : Panto) : Bool :=
  b.role p == .collecting && (b.lc p).state == .contact && selectorAt b p &&
    (match b.record.determined with
      | some s => serves (b.head p) s
      | none => false)

/-- Conditions 1 to 5 of R103. -/
def closeConditions (b : Block) : Bool :=
  earthOpen b &&
    Panto.all.any fun p =>
      (b.sw.iso.get p).state == .closed && othersOpen b p && collectorFit b p

/-- A present traction master's readiness record names the determined system; an absent one is left out. -/
def readyFor (b : Block) (present : Bool) (r : Option Ready) : Bool :=
  !present || (match r with
    | some x => b.record.determined == some x.sys
    | none => false)

/-- Condition 6 of R103. -/
def readinessMet (b : Block) : Bool :=
  (b.links.a.present || b.links.b.present) && readyFor b b.links.a.present b.plan.readyA &&
    readyFor b b.links.b.present b.plan.readyB

/-- Conditions 4 and 5 of the examination of R103: the breaker's state, then the interlocks; CLOSING is entered
when all hold. -/
def closeBreaker (src : Source) (b : Block) : Block × ReplyOutcome :=
  match b.sw.breaker.examine .closed with
  | some o => (b, o)
  | none =>
    if closeConditions b && readinessMet b then (b.setBreaker (b.sw.breaker.move .closed src), .accepted)
    else (b, .refused .interlock)

/-- The guard of R104: a breaker CLOSING or CLOSED with one of conditions 1 to 5 of R103 not holding is opened with
source INTERNAL. -/
def guardBreaker (b : Block) : Block :=
  if breakerEngaged b && !closeConditions b then openBreaker .internal b else b

/-- A move of the selector (R105). -/
def moveSelector (pos : SelPos) (src : Source) (b : Block) : Block × ReplyOutcome :=
  match b.sw.selector.examine pos with
  | some o => (b, o)
  | none =>
    if b.sw.breaker.isOpen then (b.setSelector (b.sw.selector.move pos src), .accepted)
    else (b, .refused .interlock)

/-- The interlock of an isolator command (R106). -/
def isolatorInterlock (b : Block) (p : Panto) : TwoPos → Bool
  | .closed => b.sw.breaker.isOpen && othersOpen b p && b.role p == .collecting
  | .opened => b.sw.breaker.isOpen

/-- A close or open of an isolator (R106). -/
def moveIsolator (p : Panto) (pos : TwoPos) (src : Source) (b : Block) : Block × ReplyOutcome :=
  match (b.sw.iso.get p).examine pos with
  | some o => (b, o)
  | none =>
    if isolatorInterlock b p pos then (b.setIso p ((b.sw.iso.get p).move pos src), .accepted)
    else (b, .refused .interlock)

/-- The line has measured dead for at least 2000 ms (R89). -/
def lineDead (b : Block) : Bool := b.line.runClass == some .dead && 40 ≤ b.line.runLength

/-- The interlock of an earthing switch command in WORKSHOP (R107). -/
def earthInterlock (b : Block) : TwoPos → Bool
  | .closed => Panto.all.all (fun p => (b.lc p).state.atRest) && b.sw.breaker.isOpen && lineDead b
  | .opened => true

/-- A close or open of the earthing switch (R107). -/
def moveEarth (pos : TwoPos) (src : Source) (b : Block) : Block × ReplyOutcome :=
  match b.sw.earth.examine pos with
  | some o => (b, o)
  | none =>
    if earthInterlock b pos then (b.setEarth (b.sw.earth.move pos src), .accepted)
    else (b, .refused .interlock)

/-! ## Settled readings and timeouts as the unit takes them -/

def failureIf (failed : Bool) (sw : SwId) (b : Block) : Block :=
  if failed then recordFault .switchFailed (.switch sw) b else b

/-- A settled reading is judged (R98, R100, R101). -/
def takeReading (r : SettledReading) (b : Block) : Block :=
  match r with
  | .breaker x =>
    let o := b.sw.breaker.settle true x
    failureIf o.2 .breaker (b.setBreaker o.1)
  | .selector x =>
    let o := b.sw.selector.settle x
    failureIf o.2 .selector (b.setSelector o.1)
  | .iso p x =>
    let o := (b.sw.iso.get p).settle false x
    failureIf o.2 (.iso p) (b.setIso p o.1)
  | .earth x =>
    let o := b.sw.earth.settle false x
    failureIf o.2 .earth (b.setEarth o.1)

/-- An open has been taken in CLOSING and no time has passed since: the timer runs anew from 0 for the open, and no reading
has shown the breaker closed. Of the close no expiry follows any more (R102). -/
def TwoSw.closeInterrupted (s : TwoSw) : Bool :=
  s.state == .opening && s.timer == some 0 && !s.settled.shows .closed

/-- The operation timer expires with the switch still in travel (R100); not the timer of a close that an open taken first
has interrupted (R102). -/
def takeTimeout (sw : SwId) (b : Block) : Block :=
  match sw with
  | .breaker =>
    if b.sw.breaker.state.travelling && !b.sw.breaker.closeInterrupted then
      recordFault .switchFailed (.switch sw) (b.setBreaker (b.sw.breaker.fail true)) else b
  | .selector =>
    if b.sw.selector.state = .moving then
      recordFault .switchFailed (.switch sw) (b.setSelector b.sw.selector.fail) else b
  | .iso p =>
    if (b.sw.iso.get p).state.travelling then
      recordFault .switchFailed (.switch sw) (b.setIso p ((b.sw.iso.get p).fail false)) else b
  | .earth =>
    if b.sw.earth.state.travelling then
      recordFault .switchFailed (.switch sw) (b.setEarth (b.sw.earth.fail false)) else b

/-! ## Clearing a FAILED switch (R109) -/

/-- The switch takes a position without moving: its output and last command are set to it. -/
def TwoSw.adopt (pos : TwoPos) (src : Source) (s : TwoSw) : TwoSw :=
  { s with state := pos.atRest, lastCmd := pos, source := src, timer := none, disagree := false, output := pos }

def SelSw.adopt (pos : SelPos) (src : Source) (s : SelSw) : SelSw :=
  { s with state := pos.atRest, lastCmd := pos, source := src, timer := none, disagree := false, drive := none }

/-- Clear Switch Fault of one switch, once its mode has been examined (R109). -/
def clearSwitchFaultOf (sw : SwId) (src : Source) (b : Block) : Block × ReplyOutcome :=
  match sw with
  | .breaker =>
    if b.sw.breaker.state != .failed then (b, .done)
    else if b.sw.breaker.settled.shows .opened then (b.setBreaker (b.sw.breaker.adopt .opened src), .done)
    else (b, .refused .interlock)
  | .selector =>
    if b.sw.selector.state != .failed then (b, .done)
    else match b.sw.selector.settled.position with
      | some pos => (b.setSelector (b.sw.selector.adopt pos src), .done)
      | none => (b, .refused .interlock)
  | .iso p =>
    if (b.sw.iso.get p).state != .failed then (b, .done)
    else match (b.sw.iso.get p).settled.position with
      | some pos =>
        if pos = .closed ∧ (b.role p = .scraping ∨ b.role p = .calibrating) then (b, .refused .interlock)
        else (b.setIso p ((b.sw.iso.get p).adopt pos src), .done)
      | none => (b, .refused .interlock)
  | .earth =>
    if b.sw.earth.state != .failed then (b, .done)
    else match b.sw.earth.settled.position with
      | some pos => (b.setEarth (b.sw.earth.adopt pos src), .done)
      | none => (b, .refused .interlock)

/-! ## Resets (R110, R111) -/

/-- A breaker, isolator or earthing switch that takes its state from a pattern (R110, R111); an inconsistent one
gives FAILED with output and last command OPEN, and records SWITCH_FAILED. -/
def TwoSw.fromPattern (r : TwoPattern) (s0 : TwoSw) : TwoSw × Bool :=
  let s := { s0 with settled := r }
  match r.position with
  | some pos => (s.adopt pos .internal, false)
  | none => ({ s with state := .failed, lastCmd := .opened, source := .internal, timer := none, disagree := false,
                      output := .opened }, true)

def SelSw.fromPattern (r : SelPattern) (s0 : SelSw) : SelSw × Bool :=
  let s := { s0 with settled := r }
  match r.position with
  | some pos => (s.adopt pos .internal, false)
  | none => ({ s with state := .failed, lastCmd := .mid, source := .internal, timer := none, disagree := false,
                      drive := none }, true)

/-- The line breaker at power-on (R110): a closed pattern gives OPENING. -/
def breakerAtPowerOn (r : TwoPattern) (s : TwoSw) : TwoSw × Bool :=
  if r.shows .closed then (({ s with settled := r } : TwoSw).move .opened .internal, false) else s.fromPattern r

/-- The switches at power-on (R110). Of several that are FAILED the first of breaker, selector, ISO1 to ISO4 and earth records
SWITCH_FAILED first: R177 takes either first. DESIGN CHOICE, log entry 38. -/
def switchesAtPowerOn (c : Contacts) (b : Block) : Block :=
  let br := breakerAtPowerOn c.breaker TwoSw.initial
  let se := SelSw.initial.fromPattern c.selector
  let is := PerP.ofFun fun p => TwoSw.initial.fromPattern (c.iso.get p)
  let ea := TwoSw.initial.fromPattern c.earth
  let b1 := { b with sw := ⟨br.1, se.1, .ofFun fun p => (is.get p).1, ea.1⟩ }
  failureIf ea.2 .earth (eachPanto (fun p => failureIf (is.get p).2 (.iso p))
    (failureIf se.2 .selector (failureIf br.2 .breaker b1)))

/-- A breaker, isolator or earthing switch at a warm restart (R111): a movement goes on with its timer anew, OPEN
stays OPEN, and any other takes its state from the pattern; outputs are held. A switch OPEN whose pattern disagrees keeps
its latest reading, so that R101 records a disagreement that spans the restart once. A switch that the pattern makes FAILED
keeps its last command and command source, which the rule does not give: DESIGN CHOICE, log entry 31. -/
def TwoSw.atRestart (isBreaker : Bool) (r : TwoPattern) (s0 : TwoSw) : TwoSw × Bool :=
  let s := { s0 with settled := r, disagree := false }
  match s.state with
  | .closing | .opening => ({ s with timer := some 0 }, false)
  | .opened => ({ s with output := .opened, settled := if r.shows .opened then r else s0.settled }, false)
  | .closed | .failed =>
    match r.position with
    | some pos => (s.adopt pos .internal, false)
    | none => ({ s.fail isBreaker with disagree := false }, true)

/-- The line breaker at a warm restart: as the others, but a close is opened trip-free. -/
def breakerAtRestart (r : TwoPattern) (s : TwoSw) : TwoSw × Bool :=
  if s.state = .closing then (({ s with settled := r } : TwoSw).move .opened .internal, false) else s.atRestart true r

/-- The selector at a warm restart (R111); FAILED as for the others (log entry 31). -/
def SelSw.atRestart (r : SelPattern) (s0 : SelSw) : SelSw × Bool :=
  let s := { s0 with settled := r, disagree := false }
  match s.state with
  | .moving => ({ s with timer := some 0 }, false)
  | _ =>
    match r.position with
    | some pos => (s.adopt pos .internal, false)
    | none => ({ s.fail with disagree := false }, true)

/-- The switches at a warm restart, before the check of a CLOSED breaker, which the guard makes (R111). Their faults are
recorded in the order of power-on. DESIGN CHOICE, log entry 38. -/
def switchesAtRestart (c : Contacts) (b : Block) : Block :=
  let br := breakerAtRestart c.breaker b.sw.breaker
  let se := b.sw.selector.atRestart c.selector
  let is := PerP.ofFun fun p => (b.sw.iso.get p).atRestart false (c.iso.get p)
  let ea := b.sw.earth.atRestart false c.earth
  let b1 := { b with sw := ⟨br.1, se.1, .ofFun fun p => (is.get p).1, ea.1⟩ }
  failureIf ea.2 .earth (eachPanto (fun p => failureIf (is.get p).2 (.iso p))
    (failureIf se.2 .selector (failureIf br.2 .breaker b1)))

end Sys2Proof.Machine
end

