-- ==== Sys2Proof/Machine/Halt.lean ====
section
/-!
DEFINITION. The parts of the Changeover Sequencer that other blocks' operations reach at once: the determined
system, the served mark of an entry, and the halt (R127, R141).
-/

namespace Sys2Proof.Machine

/-- The determined system with its source pantograph is written; a change of it clears both readiness records
(R18, R127). -/
def setDetermined (sys : Option LineSystem) (source : Option Panto) (b : Block) : Block :=
  let b1 := { b with record := { b.record with determined := sys, source := source } }
  if b.record.determined = sys then b1
  else { b1 with plan := { b1.plan with readyA := none, readyB := none } }

/-- The active entry's served mark is set (R140, R141). -/
def serveEntry (id : Option Nat) (b : Block) : Block :=
  match id with
  | none => b
  | some n =>
    { b with queue := { b.queue with
        entries := b.queue.entries.map fun e => if e.id = n ∧ e.active = true then { e with served := true } else e } }

/-- The subject of MASTER_NOT_READY at the expiry of ReadyWait: the link of the one present traction master that is
not ready, none otherwise (R139). -/
def notReadySubject (b : Block) : Subject :=
  let lacks (present : Bool) (r : Option Ready) : Bool :=
    present && !(match r with
      | some x => b.record.determined == some x.sys && x.serial == b.record.serial
      | none => false)
  match lacks b.links.a.present b.plan.readyA, lacks b.links.b.present b.plan.readyB with
  | true, false => .link .a
  | false, true => .link .b
  | _, _ => .none

def candidateSubject (b : Block) : Subject :=
  match b.seq.candidate with
  | some p => .panto p
  | none => .none

/-- The fault the Sequencer records at a halt (the table of R141). -/
def haltFault (r : HaltReason) (b : Block) : Block :=
  match r with
  | .positionLost => recordFault .positionLost .none b
  | .noPantograph => recordFault .noPantograph .none b
  | .mismatch => recordFault .wrongSystem (candidateSubject b) b
  | .noLine => recordFault .noLine (candidateSubject b) b
  | .masterNotReady => recordFault .masterNotReady (notReadySubject b) b
  | .noMaster => recordFault .masterNotReady .none b
  | .breaker => b
  | .lower => b
  | .switch => b
  | .raise => b
  | .add => b
  | .masterLower => b
  | .emergency => b
  | .routeReversed => b
  | .restart => b

/-- The halt of a running path (R141). -/
def enterHalt (r : HaltReason) (b : Block) : Block :=
  let b1 := haltFault r b
  let b2 := if r = .mismatch then setDetermined none none b1 else b1
  let b3 := serveEntry b.seq.activeEntry b2
  let b4 := { b3 with seq := { b3.seq with phase := .halted, haltReason := some r, timer := none, work := .none } }
  openBreaker .internal (setPreheat none b4)

/-- A halt is asked: nothing in IDLE, only EMERGENCY replaces a standing reason in HALTED, and a running path halts
(R141). -/
def halt (r : HaltReason) (b : Block) : Block :=
  match b.seq.phase with
  | .idle => b
  | .halted => if r = .emergency then { b with seq := { b.seq with haltReason := some r } } else b
  | _ => enterHalt r b

end Sys2Proof.Machine
end

