-- ==== Sys2Proof/Machine/SelfTestOps.lean ====
section
/-!
DEFINITION. The steps of the wake self-test (R174) that other blocks' operations reach: the VALVES step of a
pantograph, its skipping, and the record of results.
-/

namespace Sys2Proof.Machine

def setValves (p : Panto) (r : TestResult) (b : Block) : Block :=
  { b with cond := { b.cond with selfTest := { b.cond.selfTest with
      valves := b.cond.selfTest.valves.set p (some r) } } }

def setStrips (p : Panto) (r : TestResult) (b : Block) : Block :=
  { b with cond := { b.cond with selfTest := { b.cond.selfTest with
      strips := b.cond.selfTest.strips.set p (some r) } } }

def setTestStep (t : TestStep) (b : Block) : Block := { b with cond := { b.cond with testStep := t } }

/-- The pantograph's valve is tested: it is STOWED, its height and actuator channels are GOOD and the reservoir is
sufficient; otherwise its steps are SKIPPED (R174). -/
def valveTestable (b : Block) (p : Panto) : Bool :=
  (b.lc p).state == .stowed && sensorsGood b p && airSufficient b

/-- The pressure of the VALVES step: 50.0 kPa (R174). -/
def valveTestPressure : Nat := 500

/-- The VALVES steps of the pantographs that remain, up to the first that is tested (R174). -/
def valvesFrom : List Panto → Block → Block
  | [], b => setTestStep .finished b
  | p :: ps, b =>
    if valveTestable b p then
      setTestStep (.valves p 0) (b.setLift p { b.lc p with commanded := valveTestPressure })
    else valvesFrom ps (setStrips p .skipped (setValves p .skipped b))

/-- The pantographs whose steps follow `p`'s. -/
def Panto.after : Panto → List Panto
  | .p1 => [.p2, .p3, .p4]
  | .p2 => [.p3, .p4]
  | .p3 => [.p4]
  | .p4 => []

/-- A lower taken during the pantograph's VALVES step ends the step SKIPPED (R174). -/
def skipValves (p : Panto) (b : Block) : Block :=
  match b.cond.testStep with
  | .valves q _ =>
    if q = p then
      valvesFrom (Panto.after p)
        (setStrips p .skipped (setValves p .skipped (b.setLift p { b.lc p with commanded := 0 })))
    else b
  | _ => b

end Sys2Proof.Machine
end

