-- ==== Sys2Proof/Machine/LiftControl.lean ====
section
/-!
DEFINITION. The Lift Controllers (02_pantograph_lift_control.md) and the touch search (04_touch_search.md): taking
a raise, a search or a lower, the changes of lift state, and what a scan completion does by lift state.
-/

namespace Sys2Proof.Machine

/-! ## Changes of lift state -/

/-- The target and the clamp flags are absent and clear outside RAISING and CONTACT (R47). -/
def Lift.noTarget (l : Lift) : Lift :=
  { l with targetForce := none, targetPressure := none, forceClamped := false, pressureClamped := false }

/-- The record at the start of LOWERING, from the commanded pressure reached; a search record keeps its last values
(R36, R47, R72). -/
def Lift.toLowering (l : Lift) : Lift :=
  { l.noTarget with
    state := .lowering, raiseTimer := none, lowerTimer := some 0, devTimer := none, lowStrip := 0
    lowerPending := false, noWireLower := false, servoDeviation := false, lowerOverdue := false }

/-- The pantograph takes a record in which it is no longer in CONTACT. A candidate that leaves CONTACT so in CONFIRM,
MASTER_READY or CLOSE halts the path (R137). -/
def leaveContact (p : Panto) (l : Lift) (b : Block) : Block :=
  let b1 := b.setLift p l
  if (b.lc p).state = .contact ∧ b.seq.candidate = some p ∧
      (b.seq.phase = .confirm ∨ b.seq.phase = .masterReady ∨ b.seq.phase = .close) then
    halt .raise b1
  else b1

/-- LOWERING begins. -/
def beginLowering (p : Panto) (b : Block) : Block := leaveContact p (b.lc p).toLowering b

/-- The record at the arrival in STOWED: the dwell starts, and a raise held behind the lowering becomes DWELL
(R30, R39). -/
def Lift.toStowed (l : Lift) : Lift :=
  { l.noTarget with
    state := .stowed, commanded := 0, quickVent := false, lowerTimer := none, lowerOverdue := false, lowStrip := 0
    dwellTimer := some 0, held := if l.held = .behindLowering then .dwell else l.held
    search := if l.heldSearch then l.search else none }

/-- Arrival in STOWED; the role is cleared unless a raise is held (R13). -/
def arriveStowed (p : Panto) (b : Block) : Block :=
  let b1 := b.setLift p (b.lc p).toStowed
  if (b.lc p).held = .none then clearRole p b1 else b1

/-- RAISING begins; the law is evaluated at the event (R33, R47). -/
def beginRaise (p : Panto) (b : Block) : Block :=
  evaluate p (b.setLift p { b.lc p with
    state := .raising, held := .none, heldSearch := false, airTimer := none, raiseTimer := some 0
    history := [], lowStrip := 0, commanded := 0 })

/-- CONTACT begins at a scan that finds contact; the law is evaluated at the event (R33, R47). -/
def enterContact (p : Panto) (b : Block) : Block :=
  evaluate p (b.setLift p { b.lc p with state := .contact, raiseTimer := none, devTimer := none })

/-! ## The touch search (R67 to R74) -/

/-- A step of the search is commanded: the pressure asked, or Pmax where it is above Pmax (R60, R69), under the HystMax of
this event (R66). -/
def commandStep (p : Panto) (r : SearchRec) (pressure : Nat) (b : Block) : Block :=
  let asked := min pressure (b.nat .pmax)
  b.setLift p { b.lc p with
    commanded := asked
    hystLimit := b.nat .hystMax
    search := some { r with pressure := asked, clamped := decide (b.nat .pmax < pressure), settle := some 0 } }

def SearchRec.held : SearchRec := ⟨.held, 0, 0, false, none, none, none⟩

/-- The search begins: SEARCHING, RISE, step 1 at SearchStart (R67). -/
def beginSearch (p : Panto) (b : Block) : Block :=
  let l := b.lc p
  commandStep p ⟨.rise, 1, 0, false, none, none, none⟩ (b.nat .searchStart)
    (b.setLift p { l.noTarget with
      state := .searching, held := .none, heldSearch := false, airTimer := none, history := [], lowStrip := 0 })

/-- The last result becomes ABORTED and the entry is offered to the memory (R73, R74). -/
def abortEntry (p : Panto) (b : Block) : Block := changeEntry p (fun f => { f with lastResult := some .aborted }) b

/-- A search in RISE or RELEASE is aborted: LOWERING begins at once (R73). -/
def abortSearch (p : Panto) (b : Block) : Block := beginLowering p (abortEntry p b)

/-- A search ends with a result other than ABORTED: the entry is set and LOWERING begins (R71, R72). -/
def endSearch (p : Panto) (result : SearchResult) (f : CalFields → CalFields) (b : Block) : Block :=
  let position := b.queue.position
  beginLowering p (changeEntry p
    (fun c => { f c with lastResult := some result, calPos := some position }) b)

/-- START_TOO_HIGH or NO_TOUCH: status FAILED, the measured values kept, CALIBRATION_FAILED recorded (R71). -/
def failSearch (p : Panto) (result : SearchResult) (b : Block) : Block :=
  endSearch p result (fun c => { c with status := .failed }) (recordFault .calibrationFailed (.panto p) b)

/-- The release pressure is decided (R71), against the HystMax under which its step was commanded: one written since
applies from the next step (R66). -/
def finishSearch (p : Panto) (rise release : Nat) (b : Block) : Block :=
  let hyst := rise - release
  let touch := (rise + release + 1) / 2
  if hyst ≤ (b.lc p).hystLimit then
    endSearch p .ok (fun c => { c with touch := touch, release := release, hysteresis := hyst, status := .valid }) b
  else
    endSearch p .hysteresisHigh
      (fun c => { c with touch := touch, release := release, hysteresis := hyst, status := .suspect }) b

/-- Touch: at or above HWork, and a rise over the settle of less than 3 mm (R68, R69). -/
def touchFound (b : Block) (height : Int) (before : Option Int) : Bool :=
  b.cfg .hWork ≤ height && (match before with
    | some h0 => decide (height - h0 < 3)
    | none => false)

/-- Touch is found: the rise pressure is the commanded pressure of the step (R69 item 1). -/
def SearchRec.touched (r : SearchRec) : SearchRec := { r with rise := some r.pressure }

/-- A rise step is judged (R69). -/
def judgeRise (p : Panto) (r : SearchRec) (height : Int) (before : Option Int) (b : Block) : Block :=
  if touchFound b height before then
    if r.step = 1 then failSearch p .startTooHigh (b.setLift p { b.lc p with search := some r.touched })
    else
      commandStep p { r.touched with phase := .release, step := 1, reference := some height }
        (r.pressure - b.nat .searchStep) b
  else if 255 ≤ r.step then failSearch p .noTouch b
  else if r.clamped = true ∨ b.nat .searchMax < r.pressure + b.nat .searchStep then failSearch p .noTouch b
  else commandStep p { r with step := r.step + 1 } (r.pressure + b.nat .searchStep) b

/-- A release step is judged (R70). -/
def judgeRelease (p : Panto) (r : SearchRec) (height : Int) (b : Block) : Block :=
  let fall := r.reference.getD height - height
  let rise := r.rise.getD r.pressure
  if 10 < fall then finishSearch p rise r.pressure b
  else if r.pressure = 0 then finishSearch p rise 0 b
  else
    commandStep p { r with step := r.step + 1, reference := some height } (r.pressure - b.nat .searchStep) b

/-! ## Held raises and raises taken (R29 to R32) -/

/-- A held raise is discarded: its timers end and the role is cleared; a held search ends ABORTED
(R13, R32, R74). -/
def discardHeld (p : Panto) (b : Block) : Block :=
  let l := b.lc p
  let b1 := if l.heldSearch then abortEntry p b else b
  clearRole p (b1.setLift p { b1.lc p with
    held := .none, heldSearch := false, airTimer := none, search := if l.heldSearch then none else l.search })

/-- The raise or search begins, by its kind. One that begins on a pantograph in its VALVES step ends the step SKIPPED, as
the pantograph leaves STOWED (R174; DESIGN CHOICE, log entry 22). -/
def beginWork (p : Panto) (search : Bool) (b : Block) : Block :=
  if search then beginSearch p (skipValves p b) else beginRaise p (skipValves p b)

/-- A held raise that comes due begins with the earthing switch OPEN, and is discarded otherwise (R30 to R32). -/
def heldDue (p : Panto) (b : Block) : Block :=
  if earthOpen b then beginWork p (b.lc p).heldSearch b else discardHeld p b

def holdRaise (p : Panto) (kind : Held) (search : Bool) (b : Block) : Block :=
  b.setLift p { b.lc p with
    held := kind, heldSearch := search
    airTimer := if kind = .air then some 0 else none
    search := if search then some SearchRec.held else (b.lc p).search }

/-- A raise or search is taken by the Lift Controller (R29, R67). -/
def takeRaise (p : Panto) (search : Bool) (b : Block) : Block :=
  let l := b.lc p
  match l.state with
  | .stowed =>
    if l.held ≠ .none then b
    else if l.dwellTimer.isSome then holdRaise p .dwell search b
    else if !airSufficient b then holdRaise p .air search b
    else if earthOpen b then beginWork p search b
    else discardHeld p (holdRaise p .dwell search b)
  | .lowering => if l.held ≠ .none then b else holdRaise p .behindLowering search b
  | .raising => b
  | .contact => b
  | .searching => b
  | .dropped => b
  | .outOfService => b

/-! ## Lowers taken (R36 to R38) -/

/-- The breaker is CLOSING, CLOSED or OPENING, so that an ordinary lower of the collector waits for it (R36). -/
def holdsLower (b : Block) : Bool :=
  match b.sw.breaker.state with
  | .closing => true
  | .closed => true
  | .opening => true
  | .opened => false
  | .failed => false

/-- A lower of the collector waits for the breaker (R36). -/
def waitsForBreaker (b : Block) (immediate : Bool) (p : Panto) : Bool :=
  (b.lc p).state == .contact && !immediate && b.role p == .collecting && holdsLower b

/-- The lower pends on the breaker, whose open is asked (R36). -/
def pendLower (p : Panto) (b : Block) : Block :=
  if (b.lc p).lowerPending then b
  else openBreaker .internal (b.setLift p { b.lc p with lowerPending := true })

/-- A lower taken while a restart waits for its adoption scan is noted for that scan (R44; log entry 26). -/
def noteLower (p : Panto) (b : Block) : Block := b.setLift p { b.lc p with lowerNoted := true }

/-- A lower is taken outside the wait for an adoption scan: immediate or ordinary (R36, R37, R38). In STOWED it ends a
VALVES step, whether or not a raise is held (R174). -/
def actOnLower (immediate : Bool) (p : Panto) (b : Block) : Block :=
  match (b.lc p).state with
  | .stowed => if (b.lc p).held ≠ .none then discardHeld p (skipValves p b) else skipValves p b
  | .raising => beginLowering p b
  | .contact => if waitsForBreaker b immediate p then pendLower p b else beginLowering p b
  | .lowering => if (b.lc p).held ≠ .none then discardHeld p b else b
  | .searching => abortSearch p b
  | .dropped => b
  | .outOfService => b

/-- A lower is taken: immediate or ordinary. Between a warm restart and its adoption scan no lift state changes (R44):
one that waits for the breaker pends, and any other is noted for the adoption scan. -/
def takeLower (immediate : Bool) (p : Panto) (b : Block) : Block :=
  if adoptionWaits b then (if waitsForBreaker b immediate p then pendLower p b else noteLower p b)
  else actOnLower immediate p b

/-- A lower pending on the breaker ends when the breaker is OPEN or FAILED, though not before an adoption scan that waits
(R37, R44). -/
def releasePendingOf (p : Panto) (b : Block) : Block :=
  if (b.lc p).lowerPending = true ∧ (b.lc p).state = .contact ∧ holdsLower b = false ∧ adoptionWaits b = false then
    beginLowering p b
  else b

def releasePending (b : Block) : Block := eachPanto releasePendingOf b

/-- A lower to every pantograph in RAISING or CONTACT (R133, R134). -/
def lowerUp (immediate : Bool) (b : Block) : Block :=
  eachPanto (fun p b => if (b.lc p).state.up then takeLower immediate p b else b) b

/-- A lower to every pantograph (R15, R171). -/
def lowerAll (immediate : Bool) (b : Block) : Block := eachPanto (takeLower immediate) b

/-- Every search ends ABORTED, running or held (R73, R74). A search that a warm restart has ended has nothing left to abort,
though its state is still shown (R44, R75). -/
def abortSearches (b : Block) : Block :=
  onceAdopted (eachPanto fun p b =>
    if (b.lc p).state = .searching then abortSearch p b
    else if (b.lc p).heldSearch then discardHeld p b
    else b) b

/-- Every held raise is discarded (R128). -/
def discardAllHeld (b : Block) : Block :=
  eachPanto (fun p b => if (b.lc p).held ≠ .none then discardHeld p b else b) b

/-! ## The automatic drop (R41) -/

/-- The record at a drop. -/
def Lift.toDropped (l : Lift) : Lift :=
  { l.noTarget with
    state := .dropped, commanded := 0, quickVent := true, raiseTimer := none, devTimer := none, lowerTimer := none
    lowStrip := 0, lowerPending := false, noWireLower := false, servoDeviation := false, search := none }

/-- DROPPED is entered with ADD_TRIP recorded, a running search ending ABORTED (items 1 to 3 of R41, R73). -/
def enterDropped (p : Panto) (b : Block) : Block :=
  let b1 := if (b.lc p).state = .searching then abortEntry p b else b
  recordFault .addTrip (.panto p) (b1.setLift p (b1.lc p).toDropped)

/-- The drop itself: items 1 to 3 of R41, and for a collector item 4; the role is cleared (R13). -/
def dropLift (p : Panto) (b : Block) : Block :=
  let b1 := enterDropped p b
  clearRole p (if b.role p = .collecting then openBreaker .internal b1 else b1)

/-! ## Timeouts -/

/-- RaiseTimeout expires in RAISING (R34). -/
def raiseTimeoutOf (p : Panto) (b : Block) : Block :=
  if (b.lc p).state = .raising then beginLowering p (recordFault .raiseTimeout (.panto p) b) else b

/-- The deviation timer reaches 2000 ms in CONTACT (R35). -/
def servoDeviationOf (p : Panto) (b : Block) : Block :=
  if (b.lc p).state = .contact ∧ (b.lc p).devTimer.isSome = true then
    recordFault .servoDeviation (.panto p) (b.setLift p { b.lc p with devTimer := none, servoDeviation := true })
  else b

/-! ## Scan completions by lift state (R25, R31, R33 to R35, R39, R57 to R59, R68) -/

/-- The greatest number of height readings kept: the present one and those of the 300 ms before (R33). -/
def historyLength : Nat := 31

def Lift.addHeight (l : Lift) (h : Int) : Lift := { l with history := (h :: l.history).take historyLength }

/-- The reading of the scan 300 ms before the present one. -/
def Lift.heightBefore (l : Lift) : Option Int := l.history[30]?

/-- The low-strip count after a scan (R41). A FAULTY strip channel without any value leaves the count as it is: R41 has no
row for it. DESIGN CHOICE, log entry 45. -/
def countStrip (b : Block) (p : Panto) : Nat :=
  match (b.sensors.strip.get p).heldValue with
  | some v => if v < b.cfg .addLevel then min 2 ((b.lc p).lowStrip + 1) else 0
  | none => (b.lc p).lowStrip

/-- Contact is found (R33). -/
def contactFound (b : Block) (p : Panto) : Bool :=
  match (b.sensors.height.get p).reading, (b.lc p).heightBefore with
  | some h, some h0 => b.cfg .hWork ≤ h && h - h0 < 5
  | _, _ => false

/-- A plausible height above HMax (R34, R68). -/
def aboveHMax (b : Block) (p : Panto) : Bool :=
  match (b.sensors.height.get p).reading with
  | some h => b.cfg .hMax < h
  | none => false

/-- The reading differs from the commanded pressure by more than 300; none where the actuator channel gives no
reading (R35). -/
def deviates (b : Block) (p : Panto) : Option Bool :=
  match (b.sensors.actuator.get p).reading with
  | some v => some (decide (300 < (v - ((b.lc p).commanded : Int)).natAbs))
  | none => none

/-- The deviation check of a scan in CONTACT (R35). -/
def deviationCheck (p : Panto) (b : Block) : Block :=
  let l := b.lc p
  match deviates b p with
  | none => b.setLift p { l with devTimer := none }
  | some false => b.setLift p { l with devTimer := none, servoDeviation := false }
  | some true =>
    if l.servoDeviation then b
    else match l.devTimer with
      | none => b.setLift p { l with devTimer := some 0 }
      | some t => if 2000 ≤ t then servoDeviationOf p b else b

/-- NO_WIRE in CONTACT: an ordinary lower; while it waits on the breaker the pressure is frozen (R34). A lower that was
pending before, to which R36 adds nothing, freezes the pressure too. DESIGN CHOICE, log entry 40. -/
def noWireInContact (p : Panto) (b : Block) : Block :=
  let b1 := takeLower false p (recordFault .noWire (.panto p) b)
  if (b1.lc p).state = .contact then b1.setLift p { b1.lc p with noWireLower := true } else b1

/-- The rest of a scan in RAISING after the drop check: sensor loss, NO_WIRE, the raise timeout, contact. R59 does not
place the sensor loss of R25; it stands here before the height checks and the timeout, so that neither NO_WIRE nor
RAISE_TIMEOUT is recorded with it. DESIGN CHOICE, log entry 36. -/
def raisingChecks (p : Panto) (b : Block) : Block :=
  if sensorFaulty b p then beginLowering p b
  else if aboveHMax b p then beginLowering p (recordFault .noWire (.panto p) b)
  else if b.nat .raiseTimeout ≤ ((b.lc p).raiseTimer.getD 0) then raiseTimeoutOf p b
  else if contactFound b p then enterContact p b
  else b

/-- The rest of a scan in CONTACT after the drop check: NO_WIRE, once for each event, and, where the pantograph stays in
CONTACT, the deviation check (R59). -/
def contactChecks (p : Panto) (b : Block) : Block :=
  let b1 := if aboveHMax b p && !(b.lc p).noWireLower then noWireInContact p b else b
  if (b1.lc p).state = .contact then deviationCheck p b1 else b1

/-- The rest of a scan in SEARCHING after the drop check: sensor loss, HMax, and the step once it has stood 400 ms
(R68, R73). R73 lets an abort and the judging of a step that come together be taken in either order; within one scan the
drop and the sensor loss stand first, so that the result is ABORTED. DESIGN CHOICE, log entry 36. Above HMax NO_WIRE is
recorded before CALIBRATION_FAILED, so that it fills an empty first-fault record: R177 takes either first. DESIGN CHOICE,
log entry 39. -/
def searchChecks (p : Panto) (b : Block) : Block :=
  if sensorFaulty b p then abortSearch p b
  else if aboveHMax b p then failSearch p .noTouch (recordFault .noWire (.panto p) b)
  else
    match (b.lc p).search, (b.sensors.height.get p).reading with
    | some r, some h =>
      if 400 ≤ r.settle.getD 0 then
        match r.phase with
        | .rise => judgeRise p r h (b.lc p).heightBefore b
        | .release => judgeRelease p r h b
        | .held => b
      else b
    | _, _ => b

/-- The height reading of the scan enters the history. -/
def noteHeight (p : Panto) (b : Block) : Block :=
  match (b.sensors.height.get p).reading with
  | some h => b.setLift p ((b.lc p).addHeight h)
  | none => b

/-- The drop check of a scan (R41), then the rest of the scan's checks: `drop` is what a drop does, reactions of
other blocks included. -/
def checked (drop : Panto → Block → Block) (rest : Panto → Block → Block) (p : Panto) (b : Block) : Block :=
  let n := countStrip b p
  let b1 := b.setLift p { b.lc p with lowStrip := n }
  if 2 ≤ n then drop p b1 else rest p b1

/-- A held raise is discarded where the pantograph has become sensor-unavailable, in STOWED and in LOWERING (R25, R32). -/
def discardUnavailable (p : Panto) (b : Block) : Block :=
  if (b.lc p).held ≠ .none ∧ sensorFaulty b p = true then discardHeld p b else b

/-- LOWERING at a scan: the fall, the discard of a held raise on sensor loss, and the arrival in STOWED on a plausible
height (R32, R39). -/
def loweringScan (p : Panto) (b : Block) : Block :=
  let b1 := discardUnavailable p
    (b.setLift p { b.lc p with commanded := (b.lc p).commanded - b.nat .lowerSlew })
  match (b.sensors.height.get p).reading with
  | some h => if h ≤ b.cfg .hStow then arriveStowed p b1 else b1
  | none => b1

/-- STOWED at a scan: a held raise is discarded on sensor loss, and one held AIR comes due (R25, R31). -/
def stowedScan (p : Panto) (b : Block) : Block :=
  let b1 := discardUnavailable p b
  if (b1.lc p).held = .air ∧ airSufficient b1 = true then heldDue p b1 else b1

/-- What a completed scan does to one pantograph: evaluation, step, checks, by the state it held before the scan
(R59). -/
def liftScan (drop : Panto → Block → Block) (p : Panto) (b : Block) : Block :=
  match (b.lc p).state with
  | .stowed => stowedScan p b
  | .raising =>
    let b1 := evaluate p b
    let b2 := b1.setLift p { b1.lc p with commanded := rampStep b1 (b1.lc p) }
    checked drop raisingChecks p (noteHeight p b2)
  | .contact =>
    let b1 := evaluate p b
    let b2 := b1.setLift p { b1.lc p with commanded := contactStep b1 (b1.lc p) }
    checked drop contactChecks p b2
  | .lowering => loweringScan p b
  | .searching => checked drop searchChecks p (noteHeight p b)
  | .dropped => b
  | .outOfService => b

end Sys2Proof.Machine
end

