-- ==== Sys2Proof/Machine/Sequencer.lean ====
section
/-!
DEFINITION. The Changeover Sequencer (08_the_changeover_sequence.md): the choice of the candidate, the start of a
path, the entry to each phase, the switch work, and the one step of progress a path makes on the roof as it stands.
-/

namespace Sys2Proof.Machine

/-! ## Candidate (R131) -/

/-- The head class serves what the path expects: the expected system, or the expected head class. -/
def servesExpected (b : Block) (p : Panto) : Bool :=
  match b.seq.expected, b.seq.expectedHead with
  | some s, _ => serves (b.head p) s
  | none, some h => b.head p == h
  | none, none => false

/-- A path that may keep the collector as its candidate. -/
def Path.keepsCollector : Path → Bool
  | .neutral => true
  | .zone => true
  | .select => true
  | .identify => true
  | .substitute => true
  | .sectionChange => false

def keepsCollector (b : Block) : Bool :=
  match b.seq.path with
  | some k => Path.keepsCollector k
  | none => false

/-- The collector qualifies as candidate while in RAISING or CONTACT. -/
def collectorQualifies (b : Block) (p : Panto) : Bool :=
  keepsCollector b && b.role p == .collecting && (b.lc p).state.up && servesExpected b p && available b p

def stowedQualifies (b : Block) (p : Panto) : Bool :=
  (b.lc p).state == .stowed && servesExpected b p && available b p

/-- The choice of the candidate: the one chosen earlier where it still qualifies, else the collector, else the
first STOWED pantograph in the order of R7 (R131). -/
def chooseCandidate (b : Block) : Option Panto :=
  let kept := b.seq.candidate.filter fun p => collectorQualifies b p || stowedQualifies b p
  match kept with
  | some p => some p
  | none =>
    match Panto.all.find? (collectorQualifies b) with
    | some p => some p
    | none => (preferredOrder b).find? (stowedQualifies b)

/-- The candidate is recorded, and a pre-heat request moves with it (R131, R163). -/
def setCandidate (c : Option Panto) (b : Block) : Block :=
  let b1 := { b with seq := { b.seq with candidate := c } }
  if b.ice.preheat.isSome then setPreheat c b1 else b1

/-! ## Start and end of a path (R128, R129) -/

/-- A record carried over to a new serial where it names the determined system (R18). -/
def carryReady (b : Block) (serial : Nat) (r : Option Ready) : Option Ready :=
  match r with
  | some x => if b.record.determined = some x.sys then some ⟨x.sys, serial⟩ else none
  | none => none

/-- A path of kind NEUTRAL or ZONE carries the readiness records over (R18). -/
def Path.carries : Path → Bool
  | .neutral => true
  | .zone => true
  | .sectionChange => false
  | .select => false
  | .identify => false
  | .substitute => false

/-- SCRAPING is cleared on every pantograph that holds it, and an ordinary lower passed to it (R13, R129). -/
def lowerScrapers (b : Block) : Block :=
  eachPanto (fun p b => if b.role p = .scraping then takeLower false p (clearRole p b) else b) b

/-- The start of a path (R128): the record is set, the serial advances, readiness is cleared or carried over, the
traction-off request is set where the path does not pass TRACTION_OFF, searches end, held raises are discarded, the
scraper is lowered, and the phase is reported, one that ends at the same event too (R184). -/
def startPath (k : Path) (entry : Option Nat) (late : Bool) (expected : Option LineSystem)
    (expectedHead : Option Head) (phase : Phase) (b : Block) : Block :=
  let serial := wrapSucc b.record.serial
  let b1 := { b with
    record := { b.record with
      serial := serial
      tractionOff := if phase = .armed ∨ phase = .tractionOff then b.record.tractionOff else true }
    plan := { b.plan with
      readyA := if Path.carries k then carryReady b serial b.plan.readyA else none
      readyB := if Path.carries k then carryReady b serial b.plan.readyB else none }
    seq := { phase := phase, path := some k, activeEntry := entry, lateMark := late, expected := expected
             expectedHead := expectedHead, candidate := none, retry := false, mismatch := false, work := .none
             timer := none, haltReason := none } }
  report 5 (lowerScrapers (discardAllHeld (abortSearches b1)))

/-- The path ends in IDLE with its entry served and the traction-off request withdrawn (R130, R140). -/
def finishPath (b : Block) : Block :=
  setTractionOff false (serveEntry b.seq.activeEntry { b with
    seq := { b.seq with phase := .idle, path := none, activeEntry := none, work := .none, timer := none } })

/-! ## Entries to phases (R132 to R140) -/

def enterTractionOff (b : Block) : Block :=
  setTractionOff true { b with seq := { b.seq with phase := .tractionOff, timer := some 0 } }

def enterBreakerOpen (b : Block) : Block :=
  let b1 := openBreaker .internal { b with seq := { b.seq with phase := .breakerOpen, timer := none } }
  if b.seq.lateMark = true ∧ b.seq.path ≠ some .neutral then lowerUp true b1 else b1

def enterLowering (b : Block) : Block :=
  lowerUp false { b with seq := { b.seq with phase := .lowering, timer := none } }

def setWork (w : Work) (b : Block) : Block := { b with seq := { b.seq with work := w } }

/-- An outcome that refuses. -/
def ReplyOutcome.refuses : ReplyOutcome → Bool
  | .refused _ => true
  | _ => false

/-- One switch command of the work, halting with reason SWITCH where it is refused (R135). -/
def workCommand (f : Block → Block × ReplyOutcome) (b : Block) : Block :=
  let o := f b
  if o.2.refuses then halt .switch o.1 else o.1

/-- Steps 1 and 2 of the switch work are asked together (R135): ISO1 to ISO4 and then the selector. A command refused halts
the path, and those after it are not asked, so that switches asked before it may have begun to move; R135 does not say which
of the others have been asked then. DESIGN CHOICE, log entry 43. -/
def startWork (c : Panto) (b : Block) : Block :=
  let ask (p : Panto) (b : Block) : Block :=
    if b.seq.phase = .halted then b
    else if p = c ∨ isoOpen b p = true then b
    else workCommand (moveIsolator p .opened .internal) b
  let b1 := eachPanto ask (setWork .switches b)
  if b1.seq.phase = .halted then b1 else workCommand (moveSelector (selFor (b1.head c)) .internal) b1

/-- A path run as ZONE with the determined system absent: no candidate, no switch work (R130, R135). -/
def zoneWithoutSystem (b : Block) : Bool := b.seq.path == some .zone && b.seq.expected == none

/-- A path that waits for position in COAST: SECTION_CHANGE, NEUTRAL and ZONE, but not the probe of another class
(R135, R138). -/
def waitsForPosition (b : Block) : Bool :=
  !b.seq.retry && (match b.seq.path with
    | some .sectionChange => true
    | some .neutral => true
    | some .zone => true
    | _ => false)

/-- The collector stays up through a NEUTRAL path, which has no switch work (R135). The probe of another class has brought
the roof down, and prepares its candidate as any other path. DEDUCED, log entry 35. -/
def staysUp (b : Block) : Bool := b.seq.path == some .neutral && !b.seq.retry

/-- The work at the entry to COAST, once the candidate is chosen. Where none is found the halted record keeps the candidate
chosen earlier: R131 does not say. DESIGN CHOICE, log entry 36. -/
def coastWork (b : Block) : Block :=
  if zoneWithoutSystem b then setWork .ready (setCandidate none b)
  else match chooseCandidate b with
    | none => halt .noPantograph b
    | some c =>
      let b1 := setCandidate (some c) b
      if staysUp b then setWork .ready b1 else startWork c b1

/-- The entry to COAST (R135): steps 1 and 2 are asked before the position lost is judged, so that switches may have begun
to move. The rule does not order the two. DESIGN CHOICE, log entry 36. -/
def enterCoast (b : Block) : Block :=
  let b1 := coastWork { b with seq := { b.seq with phase := .coast, timer := none } }
  if b1.seq.phase = .coast ∧ waitsForPosition b1 = true ∧ 5000 ≤ b1.queue.motionAge then halt .positionLost b1 else b1

/-- The answer of the Roof Plan to the Sequencer's request for COLLECTING (R9): the plan after it, or none where
it is refused. -/
def grantCollecting (c : Panto) (b : Block) : Option Block :=
  if b.role c = .collecting then some b
  else if Panto.all.any (fun p => p != c && b.role p == .collecting) then none
  else if b.plan.hold then none
  else if b.role c = .none then some (setRole c .collecting .internal b)
  else none

/-- The candidate's raise is passed through the Roof Plan (R8, R15, R136), which passes raises only to a pantograph that has
been given a role (2.4): a candidate that lost COLLECTING while STOWED in COAST, by Set Out of Service and Return to
Service, is asked for it again, and a refusal halts as one in COAST does. R136 leaves that case open. DESIGN CHOICE, log
entry 36. -/
def passRaise (b : Block) : Block :=
  match b.seq.candidate with
  | none => halt .noPantograph b
  | some c =>
    if !available b c then halt .noPantograph b
    else if b.plan.hold || !airAllows b c then halt .raise b
    else match grantCollecting c b with
      | none => halt .noPantograph b
      | some b1 => takeRaise c false (setWork .raising b1)

def enterProbe (b : Block) : Block := passRaise { b with seq := { b.seq with phase := .probe, timer := none } }

def enterConfirm (b : Block) : Block :=
  { b with seq := { b.seq with phase := .confirm, timer := some 0, work := .none } }

def enterMasterReady (sys : LineSystem) (b : Block) : Block :=
  setDetermined (some sys) b.seq.candidate
    { b with seq := { b.seq with phase := .masterReady, timer := some 0, work := .none } }

/-- The entry to CLOSE: the close is examined from condition 3 of R103 onward; a refusal halts with reason BREAKER
(R140). -/
def enterClose (b : Block) : Block :=
  let b1 := { b with seq := { b.seq with phase := .close, timer := none } }
  if b1.plan.hold then halt .breaker b1
  else
    let o := closeBreaker .internal b1
    if o.2.refuses then halt .breaker o.1 else o.1

/-! ## Progress (R133 to R140) -/

/-- Every pantograph is reported out of RAISING, CONTACT, SEARCHING and LOWERING (R134). While an adoption is waited for no
lift state is reported, and a path waits (R44). DEDUCED, log entry 10. -/
def roofDown (b : Block) : Bool :=
  !adoptionWaits b && Panto.all.all fun p => !((b.lc p).state.raised || (b.lc p).state == .lowering)

/-- The path passes LOWERING (R133). -/
def passesLowering (b : Block) : Bool :=
  match b.seq.path with
  | some .sectionChange => true
  | some .zone => true
  | some .select => Panto.all.any fun p => (b.lc p).state.up && !servesExpected b p
  | some .identify => Panto.all.any fun p => (b.lc p).state.up && !servesExpected b p
  | _ => false

/-- Steps 3 and 4 of the switch work as they become due (R135). A switch of the work that reports FAILED halts where it
reports (`haltIfLeft`). -/
def advanceWork (b : Block) : Block :=
  match b.seq.candidate with
  | none => b
  | some c =>
    match b.seq.work with
    | .switches =>
      if othersOpen b c && selectorAt b c then
        match grantCollecting c b with
        | none => halt .noPantograph b
        | some b1 => workCommand (moveIsolator c .closed .internal) (setWork .isolator b1)
      else b
    | .isolator => if (b.sw.iso.get c).state = .closed then setWork .ready b else b
    | .ready => b
    | .none => b
    | .awaitOpen => b
    | .awaitDown => b
    | .raising => b

/-- The position has passed the active entry's end plus Clearance (R135). -/
def entryPassed (b : Block) : Bool :=
  b.queue.entries.any fun e =>
    some e.id == b.seq.activeEntry && e.active && e.start + e.length + b.nat .clearance ≤ b.queue.position

/-- The exit from COAST once the switch work is done (R130, R135); the probe of another class goes to PROBE whatever the
path (R138). -/
def leaveCoast (b : Block) : Block :=
  if zoneWithoutSystem b then finishPath b
  else if b.seq.retry then enterProbe b
  else match b.seq.path with
    | some .neutral => enterConfirm b
    | some .substitute => enterConfirm b
    | _ => enterProbe b

def coastStep (b : Block) : Block :=
  let b1 := advanceWork b
  if b1.seq.phase = .coast ∧ b1.seq.work = .ready ∧ (waitsForPosition b1 = false ∨ entryPassed b1 = true) then
    leaveCoast b1
  else b1

/-- The breaker is FAILED while its OPEN report is awaited (R133). -/
def breakerFailedHalt (b : Block) : Block := halt .breaker (lowerUp true b)

/-- PROBE: the preparation of a wrong-system IDENTIFY, then the candidate's raise (R136). A breaker OPEN with its
disagreement flag set does not count as OPEN (R98). -/
def probeStep (b : Block) : Block :=
  match b.seq.work with
  | .awaitOpen =>
    if b.sw.breaker.isOpen then lowerUp false (setWork .awaitDown b)
    else if b.sw.breaker.state = .failed then breakerFailedHalt b
    else b
  | .awaitDown =>
    if roofDown b then
      match chooseCandidate b with
      | none => halt .noPantograph b
      | some c => startWork c (setCandidate (some c) b)
    else b
  | .switches => advanceWork b
  | .isolator => advanceWork b
  | .ready => passRaise b
  | .raising =>
    match b.seq.candidate with
    | none => halt .noPantograph b
    | some c =>
      match (b.lc c).state with
      | .contact => enterConfirm b
      | .raising => b
      | .stowed => if (b.lc c).held = .none then halt .raise b else b
      | .lowering => if (b.lc c).held = .none then halt .raise b else b
      | .searching => halt .raise b
      | .dropped => halt .raise b
      | .outOfService => halt .raise b
  | .none => b

/-- At least one traction master is present and the readiness record of each present one names the determined
system under the present serial (R139). -/
def masterWaitMet (b : Block) : Bool :=
  let ok (present : Bool) (r : Option Ready) : Bool :=
    !present || (match r with
      | some x => b.record.determined == some x.sys && x.serial == b.record.serial
      | none => false)
  (b.links.a.present || b.links.b.present) && ok b.links.a.present b.plan.readyA && ok b.links.b.present b.plan.readyB

/-- In HALTED(RESTART) the traction-off request is withdrawn not before the end of the adoption (R148). -/
def defersWithdrawal (b : Block) : Bool := adoptionWaits b && b.seq.haltReason == some .restart

/-- The traction-off request of a halted path is withdrawn once the breaker is OPEN (R141). -/
def withdrawInHalt (b : Block) : Block :=
  if b.record.tractionOff && b.sw.breaker.isOpen && !defersWithdrawal b then setTractionOff false b else b

/-- One step of progress of the changeover on the roof as it stands. A breaker OPEN with its disagreement flag set does not
count as OPEN (R98). A breaker that stands FAILED already at the entry to BREAKER_OPEN halts there as one that reports
FAILED: R133 speaks of the report alone. DESIGN CHOICE, log entry 37. -/
def seqStep (b : Block) : Block :=
  match b.seq.phase with
  | .idle => b
  | .armed => b
  | .tractionOff => b
  | .breakerOpen =>
    if b.sw.breaker.isOpen then (if passesLowering b then enterLowering b else enterCoast b)
    else if b.sw.breaker.state = .failed then breakerFailedHalt b
    else b
  | .lowering => if roofDown b then enterCoast b else b
  | .coast => coastStep b
  | .probe => probeStep b
  | .confirm => b
  | .masterReady =>
    if !(b.links.a.present || b.links.b.present) then halt .noMaster b
    else if masterWaitMet b then enterClose b
    else b
  | .close =>
    match b.sw.breaker.state with
    | .closed => finishPath b
    | .closing => b
    | _ => halt .breaker b
  | .halted => withdrawInHalt b

/-! ## Offered entries (R130) -/

/-- The path of a NEUTRAL entry: it runs as ZONE where a collector is raised but the determined system is absent (R130).
"Raised" is judged on the role alone, before the start of the path discards held raises: a collector LOWERING, or with its
raise held, counts. DESIGN CHOICE, log entry 37. -/
def neutralPath (b : Block) : Path :=
  if (collector b).isSome = true ∧ b.record.determined = none then .zone else .neutral

/-- The Sequencer takes an entry that the Section Queue offers, armed or late (R130). Whether a pantograph holds COLLECTING
at a late NEUTRAL or ZONE is judged after the start of the path has discarded held raises with their roles (R128): R130 says
"at the start of its path" and does not order the two. DESIGN CHOICE, log entry 41. -/
def offerEntry (e : Entry) (late : Bool) (b : Block) : Block :=
  let phase : Phase := if late then .breakerOpen else .armed
  match e.kind with
  | .systemChange =>
    let b1 := startPath .sectionChange (some e.id) late e.newSystem none phase b
    if late then enterBreakerOpen b1
    else
      let c := chooseCandidate b1
      let b2 := setCandidate c b1
      if 1 ≤ b.ice.level then setPreheat c b2 else b2
  | .iceWatch => b
  | _ =>
    let k : Path := if e.kind = .neutral then neutralPath b else .zone
    let b1 := startPath k (some e.id) late b.record.determined none phase b
    if late then (if (collector b1).isSome then enterBreakerOpen b1 else finishPath b1)
    else if k = .zone then setCandidate (collector b1) b1
    else b1

/-- The next accepted Motion Report after the arming leaves ARMED (R130). Whether a pantograph holds COLLECTING is judged at
that report and not at the arming: the rule does not say which, and a collector LOWERING may arrive between. DESIGN CHOICE,
log entry 36. A path that ends so does not set the traction-off request, and a request that stood before it stays set: the
rule says only that it is not set. DESIGN CHOICE, log entry 37. -/
def leaveArmed (b : Block) : Block :=
  if (b.seq.path = some .neutral ∨ b.seq.path = some .zone) ∧ collector b = none then
    serveEntry b.seq.activeEntry { b with seq := { b.seq with phase := .idle, path := none, activeEntry := none } }
  else enterTractionOff b

/-! ## Selected and identifying paths (R130) -/

/-- SELECT and IDENTIFY enter at TRACTION_OFF with the breaker CLOSING or CLOSED, at BREAKER_OPEN otherwise. -/
def startSelected (k : Path) (expected : Option LineSystem) (expectedHead : Option Head) (b : Block) : Block :=
  if breakerEngaged b then enterTractionOff (startPath k none false expected expectedHead .tractionOff b)
  else enterBreakerOpen (startPath k none false expected expectedHead .breakerOpen b)

/-- The expected head class of an IDENTIFY with no expected system (R128). -/
def identifyHead (b : Block) : Head :=
  match Panto.all.find? (fun p => b.role p == .collecting && (b.lc p).state.up) with
  | some p => b.head p
  | none => .ac

def startIdentify (b : Block) : Block := startSelected .identify none (some (identifyHead b)) b

def startSelect (s : LineSystem) (b : Block) : Block := startSelected .select (some s) none b

/-! ## Drops (R9, R146, R147) -/

/-- A SUBSTITUTE path starts with the scraper as its candidate (R147). With the determined system absent nothing is
expected, and the path halts with NO_PANTOGRAPH at COAST. DESIGN CHOICE, log entry 40. -/
def startSubstitute (c : Panto) (b : Block) : Block :=
  let b1 := startPath .substitute none false b.record.determined none .breakerOpen (setRole c .collecting .internal b)
  enterBreakerOpen (setCandidate (some c) b1)

/-- The scraper that may take over from a dropped collector. -/
def substitute (b : Block) (dropped : Panto) : Option Panto :=
  Panto.all.find? fun p => p != dropped && b.role p == .scraping && (b.lc p).state == .contact

/-- The drop of a pantograph with the Sequencer's response to it (R41, R146). -/
def dropPanto (p : Panto) (b : Block) : Block :=
  let wasCollector := b.role p == .collecting
  let wasCandidate := b.seq.candidate == some p
  let b1 := dropLift p b
  if b.seq.phase = .idle then
    if wasCollector && b.on .promotionEnable && !b.plan.hold then
      match substitute b p with
      | some c => startSubstitute c b1
      | none => b1
    else b1
  else if wasCollector || wasCandidate then halt .add b1
  else b1

/-- AUTOMATIC_DROP takes effect in RAISING, CONTACT and SEARCHING (R41). -/
def dropIfRaised (p : Panto) (b : Block) : Block := if (b.lc p).state.raised then dropPanto p b else b

/-! ## Window results (R91 to R95, R137, R138) -/

/-- A pantograph in CONTACT that holds COLLECTING. -/
def collectorInContact (b : Block) : Option Panto :=
  Panto.all.find? fun p => b.role p == .collecting && (b.lc p).state == .contact

/-- The wrong-system detection: the confirmed system where it holds (R91). -/
def wrongSystem (b : Block) : Option LineSystem :=
  match b.record.determined, b.line.confirmed with
  | some d, some (.sys s) =>
    let engaged := breakerEngaged b || (match collectorInContact b with
      | some p => (b.sw.iso.get p).state == .closed
      | none => false)
    if d ≠ s ∧ engaged = true then some s else none
  | _, _ => none

def collectorSubject (b : Block) : Subject :=
  match collector b with
  | some p => .panto p
  | none => .none

/-- The actions of the wrong-system detection: the open, the fault, the traction-off request and the IDENTIFY path
(R91, R92). A collector that serves the system is the candidate and goes to CONFIRM as R136 says, a sensor-unavailable one
too, without the judgement that R131 gives at the entry to PROBE. DESIGN CHOICE, log entry 37. The fault is recorded before
the path starts, so that a first-fault record shows the phase that the detection found: R92 and R177 leave that open.
DESIGN CHOICE, log entry 41. -/
def startWrongSystem (s : LineSystem) (b : Block) : Block :=
  let b1 := openBreaker .internal (recordFault .wrongSystem (collectorSubject b) b)
  let b2 := startPath .identify none false (some s) none .probe (setPreheat none (setTractionOff true b1))
  match collectorInContact b2 with
  | some p =>
    if serves (b2.head p) s then setWork .raising (setCandidate (some p) b2) else setWork .awaitOpen b2
  | none => setWork .awaitOpen b2

/-- The lost-line detection and the withdrawal of the traction-off request in IDLE (R94, R95). -/
def lostLine (b : Block) : Block :=
  if b.line.confirmed = some .dead ∧ b.sw.breaker.state = .closed ∧
      b.nat .confirmCount + 60 ≤ b.line.runLength ∧ b.record.tractionOff = false then
    setTractionOff true (recordFault .noLine (collectorSubject b) b)
  else if b.record.tractionOff = true ∧ b.record.determined.isSome = true ∧
      b.line.confirmed = b.record.determined.map .sys then
    setTractionOff false b
  else b

/-- The probe of another class (R138). -/
def probeOther (s : LineSystem) (b : Block) : Block :=
  if b.seq.retry then halt .mismatch b
  else enterLowering { b with seq := { b.seq with retry := true, expected := some s } }

/-- CONFIRM examines the confirmed class that a window hands on, whether that window made the confirmation or found it
standing (R137). -/
def confirmStep (b : Block) : Block :=
  match b.line.confirmed with
  | some (.sys s) =>
    let served := match b.seq.candidate with
      | some p => serves (b.head p) s
      | none => false
    if b.seq.expected = some s then enterMasterReady s b
    else if served then
      if b.seq.path = some .identify ∧ b.seq.expected = none then enterMasterReady s b
      else enterMasterReady s { b with seq := { b.seq with mismatch := true } }
    else probeOther s b
  | _ => b

/-- The window result as the Sequencer takes it: the measured class, then what the phase does with it
(R89, R91 to R95, R132, R137). In TRACTION_OFF a window that meets the traction-off check and at which the wrong-system
detection holds is taken by the detection: the rules order neither before the other. DESIGN CHOICE, log entry 38. -/
def takeWindow (r : WindowResult) (b0 : Block) : Block :=
  let b := { b0 with record := { b0.record with measured := r.cls } }
  match b.seq.phase with
  | .idle =>
    match wrongSystem b with
    | some s => startWrongSystem s b
    | none => lostLine b
  | .armed =>
    match wrongSystem b with
    | some s => startWrongSystem s b
    | none => b
  | .tractionOff =>
    match wrongSystem b with
    | some s => startWrongSystem s b
    | none => if r.tractionOff then enterBreakerOpen b else b
  | .confirm => confirmStep b
  | _ => b

end Sys2Proof.Machine
end

