-- ==== Sys2Proof/Machine/Sections.lean ====
section
/-!
DEFINITION. The Section Queue (07_section_queue_and_train_position.md): Motion Reports, the removal pass, activation,
announcements and withdrawals, and the two values the Ice Unit is given.
-/

namespace Sys2Proof.Machine

/-- The end of an entry (7.2). -/
def Entry.stop (e : Entry) : Nat := e.start + e.length

/-- Each starts before the other ends (7.2). -/
def overlap (aStart aStop bStart bStop : Nat) : Bool := aStart < bStop && bStart < aStop

def Block.setEntries (b : Block) (l : List Entry) : Block := { b with queue := { b.queue with entries := l } }

/-- Insertion in the queue's order: after every entry of equal start (R119). -/
def insertEntry (e : Entry) : List Entry → List Entry
  | [] => [e]
  | x :: xs => if x.start ≤ e.start then x :: insertEntry e xs else e :: x :: xs

/-- A served ACTIVE entry is removed where another is taken up (R120, R122). -/
def dropServed (b : Block) : Block := b.setEntries (b.queue.entries.filter fun e => !(e.active && e.served))

/-- The entry of that id becomes ACTIVE with served clear. -/
def activate (id : Nat) (b : Block) : Block :=
  b.setEntries (b.queue.entries.map fun e => if e.id = id then { e with active := true, served := false } else e)

def unservedActive (b : Block) : Option Entry := b.queue.entries.find? fun e => e.active && !e.served

/-- A WAITING entry becomes late: ACTIVE, LATE_SECTION recorded, offered to the Sequencer as late (R120). -/
def takeLate (e : Entry) (b : Block) : Block :=
  offerEntry { e with active := true, served := false } true
    (recordFault .lateSection .none (activate e.id (dropServed b)))

/-- A WAITING entry is armed (R122). -/
def takeArmed (e : Entry) (b : Block) : Block :=
  offerEntry { e with active := true, served := false } false (activate e.id (dropServed b))

/-! ## Removal pass (R121) -/

inductive Removal where
  | keep
  | drop
  /-- Removed with MISSED_SECTION. -/
  | missed
  deriving DecidableEq, Repr

/-- The table of R121 for one entry. A WAITING entry whose start is passed in WAKING after a warm restart goes by its row for
modes other than SERVICE, without fault: R126 has it late with the phase IDLE, and standing until it is missed in HALTED,
of no mode. DESIGN CHOICE, log entry 39. -/
def removalOf (b : Block) (e : Entry) : Removal :=
  let gone := decide (e.stop + b.nat .clearance ≤ b.queue.position)
  if e.kind = .iceWatch then (if e.stop ≤ b.queue.position then .drop else .keep)
  else if e.active then
    if e.served then (if gone then .drop else .keep)
    else if b.seq.phase = .idle ∧ gone = true then .missed
    else .keep
  else if b.cond.mode = .service then (if gone then .missed else .keep)
  else if e.start ≤ b.queue.position then .drop
  else .keep

/-- MISSED_SECTION once for each entry. -/
def recordMissed : List Entry → Block → Block
  | [], b => b
  | _ :: es, b => recordMissed es (recordFault .missedSection .none b)

def removalPass (b : Block) : Block :=
  recordMissed (b.queue.entries.filter fun e => removalOf b e == .missed)
    (b.setEntries (b.queue.entries.filter fun e => removalOf b e == .keep))

/-! ## Activation (R122) -/

/-- The prepare distance (R122). -/
def prepareDistance (speed prepTime prepMargin : Nat) : Nat := speed * prepTime / 3600 + prepMargin

def reach (b : Block) : Nat := prepareDistance b.queue.speed (b.nat .prepTime) (b.nat .prepMargin)

/-- Activation as it is judged at a Motion Report (R122). An activation and another event that takes the Sequencer out of
IDLE are taken one after the other: where the other was taken first, the report finds the phase not IDLE, nothing is
offered and no served entry is removed, so that no entry has to return from a declined offer. R122 speaks of the offer
declined as well as of no activation judged outside IDLE. DESIGN CHOICE, log entry 38. -/
def activation (b : Block) : Block :=
  if b.cond.mode = .service ∧ b.seq.phase = .idle then
    match unservedActive b with
    | some e =>
      if e.start ≤ b.queue.position then offerEntry e true b
      else if e.start ≤ b.queue.position + reach b then offerEntry e false b
      else b
    | none =>
      match b.queue.entries.find? (fun e => !e.active && e.kind != .iceWatch) with
      | none => b
      | some e =>
        if e.start ≤ b.queue.position then takeLate e b
        else if e.start ≤ b.queue.position + reach b then takeArmed e b
        else b
  else b

/-! ## What the Ice Unit is given (R124) -/

/-- The entry counts for the nearest-section distance. -/
def Entry.ahead (e : Entry) : Bool := e.kind != .iceWatch && !(e.active && e.served)

def nearestOf (position : Nat) : List Entry → Option Nat
  | [] => none
  | e :: es =>
    if e.ahead then
      match nearestOf position es with
      | none => some (e.start - position)
      | some d => some (min (e.start - position) d)
    else nearestOf position es

def watchOf (b : Block) : Bool :=
  b.queue.entries.any fun e => e.kind == .iceWatch && e.start ≤ b.queue.position && b.queue.position < e.stop

/-- The nearest-section distance and the watch mark are handed to the Ice Unit (R124). -/
def handOver (b : Block) : Block :=
  { b with ice := { b.ice with nearest := nearestOf b.queue.position b.queue.entries, watch := watchOf b } }

/-! ## Motion Reports (R114 to R117) -/

/-- A report that the held position or its own speed contradicts (R114). -/
def motionRefused (b : Block) (position speed : Nat) (direction : Direction) : Bool :=
  position < b.queue.position || (direction == .standstill && speed != 0)

def Direction.running : Direction → Option Direction
  | .standstill => none
  | d => some d

/-- The report turns the running direction round (R117). -/
def directionChange (b : Block) (direction : Direction) : Bool :=
  match Direction.running direction, b.queue.lastDirection with
  | some d, some old => d != old
  | _, _ => false

/-- The held values are replaced (R114, R115 item 1). -/
def holdMotion (position speed : Nat) (direction : Direction) (b : Block) : Block :=
  { b with queue := { b.queue with
      position := position
      speed := min speed 400
      direction := direction
      lastDirection := match Direction.running direction with
        | some d => some d
        | none => b.queue.lastDirection
      motionAge := 0
      stale := false } }

/-- A direction change empties the queue and halts a running path (R117, R145). -/
def reverseRoute (b : Block) : Block := halt .routeReversed (b.setEntries [])

/-- The active entry's start less 150 m has been passed (R132). -/
def nearStart (b : Block) : Bool :=
  b.queue.entries.any fun e => some e.id == b.seq.activeEntry && e.active && e.start ≤ b.queue.position + 150

/-- The exits of ARMED and TRACTION_OFF that a report brings, for the phase in which the report found the
Sequencer (R130, R132). -/
def motionExits (before : Phase) (b : Block) : Block :=
  if b.seq.phase ≠ before then b
  else if before = .armed then leaveArmed b
  else if before = .tractionOff ∧ nearStart b = true then enterBreakerOpen b
  else b

/-- The speed abort of the touch searches (R73). -/
def speedAbort (b : Block) : Block := if 30 < b.queue.speed then abortSearches b else b

/-- Items 1 to 4 of R115 and the results handed to the Lift Controllers, the Sequencer and the Ice Unit. -/
def acceptMotion (position speed : Nat) (direction : Direction) (b : Block) : Block :=
  let before := b.seq.phase
  let b1 := holdMotion position speed direction b
  let b2 := if directionChange b direction then reverseRoute b1 else b1
  handOver (motionExits before (speedAbort (activation (removalPass b2))))

/-! ## Announce Marker (R118 to R120) -/

def SectionKind.limit : SectionKind → Nat
  | .iceWatch => 50000
  | _ => 5000

/-- Row 1 of R118. -/
def markerInRange (m : Marker) : Bool :=
  1 ≤ m.length && m.length ≤ SectionKind.limit m.kind && (m.newSystem.isSome == (m.kind == .systemChange)) &&
    m.start + m.length ≤ 4294967295

/-- The queue holds the id. -/
def holdsId (b : Block) (id : Nat) : Bool := b.queue.entries.any fun e => e.id == id

/-- The examination of an announcement, row by row (R118). -/
def markerRefusal (b : Block) (m : Marker) : Option RefCode :=
  let pos := b.queue.position
  let stop := m.start + m.length
  let timed := m.kind != .iceWatch
  if !markerInRange m then some .outOfRange
  else if b.queue.entries.any (fun e => e.active && e.id == m.id) then some .markerLocked
  else if stop ≤ pos ∨ (b.cond.mode ≠ .service ∧ timed = true ∧ m.start ≤ pos) then some .staleMarker
  else if timed = true ∧ b.queue.entries.any (fun e =>
      e.id != m.id && e.kind != .iceWatch && overlap e.start e.stop m.start stop) = true then some .overlap
  else if timed = true ∧ m.start ≤ pos ∧
      ¬(b.cond.mode = .service ∧ b.seq.phase = .idle ∧ (unservedActive b).isNone = true) then some .overlap
  else if holdsId b m.id = false ∧ 8 ≤ b.queue.entries.length ∧
      b.queue.entries.any (fun e => !e.active && m.start < e.start) = false then some .queueFull
  else none

def entryOf (m : Marker) : Entry := ⟨m.id, m.kind, m.start, m.length, m.newSystem, false, false⟩

/-- The farthest WAITING entry, evicted where a new id finds the queue full (R119). -/
def evictedBy (b : Block) (m : Marker) : Option Nat :=
  if holdsId b m.id = false ∧ 8 ≤ b.queue.entries.length then
    (b.queue.entries.reverse.find? fun e => !e.active).map Entry.id
  else none

/-- An announcement that has passed R118 is inserted, reported and handed over to the Ice Unit, a replacement by equal
fields too (R119, R124, R184), and is late where its start has been passed (R120). -/
def insertMarker (m : Marker) (b : Block) : Block :=
  let kept := b.queue.entries.filter fun e => e.id != m.id && some e.id != evictedBy b m
  let b1 := handOver (report 9 (b.setEntries (insertEntry (entryOf m) kept)))
  if m.kind ≠ .iceWatch ∧ m.start ≤ b.queue.position then takeLate (entryOf m) b1 else b1

/-! ## Withdraw Marker (R123, R143) -/

def removeId (id : Nat) (b : Block) : Block := b.setEntries (b.queue.entries.filter fun e => e.id != id)

/-- The end of a changeover by withdrawal of its entry (R143). -/
def endByWithdrawal (b : Block) : Block :=
  setPreheat none (setTractionOff false { b with
    seq := { b.seq with phase := .idle, path := none, activeEntry := none, work := .none, timer := none } })

/-- The withdrawal of an id with its outcome (R123, R143). -/
def withdraw (id : Nat) (b : Block) : Block × ReplyOutcome :=
  match b.queue.entries.find? (fun e => e.id == id) with
  | none => (b, .done)
  | some e =>
    if e.active = false ∨ e.served = true ∨ b.seq.activeEntry ≠ some id then (removeId id b, .done)
    else
      match b.seq.phase with
      | .idle => (removeId id b, .done)
      | .halted => (removeId id b, .done)
      | .armed => (endByWithdrawal (removeId id b), .done)
      | .tractionOff => (endByWithdrawal (removeId id b), .done)
      | _ => (b, .refused .markerLocked)

end Sys2Proof.Machine
end

