-- ==== Sys2Proof/Machine/IceUnit.lean ====
section
/-!
DEFINITION. The Ice Unit (09_ice_clearing.md): arc capture, the ice estimate, the heaters and the scraper.
-/

namespace Sys2Proof.Machine

/-! ## Arcs (R149 to R151) -/

/-- Severity of a duration in microseconds (R151). -/
def severityOf (us : Nat) : Severity := if us < 1000 then .short else if us < 10000 then .long else .sustained

/-- The greatest value of the pulse timer. -/
def pulseLimit : Nat := 65535

def Block.setCapture (b : Block) (p : Panto) (c : Capture) : Block :=
  { b with ice := { b.ice with capture := b.ice.capture.set p c } }

/-- The arc count advances and the record enters the history as its newest, of at most 32 (R151). -/
def enterArc (p : Panto) (us : Nat) (counted : Bool) (b : Block) : Block :=
  let n := wrapSucc b.ice.arcCount
  let r : ArcRecord := ⟨n, p, b.queue.position, us, b.queue.speed, severityOf us, counted⟩
  { b with ice := { b.ice with arcCount := n, history := (r :: b.ice.history).take 32 } }

/-! ## The estimate (R154 to R157) -/

def Severity.weight : Severity → Nat
  | .short => 1
  | .long => 4
  | .sustained => 16

/-- The record is scored for the collector `c` (R154). -/
def scored (c : Panto) (position window : Nat) (r : ArcRecord) : Bool :=
  r.panto == c && r.counted && position ≤ r.position + window

def scoreSum (c : Panto) (position window : Nat) : List ArcRecord → Nat
  | [] => 0
  | r :: rs => (if scored c position window r then r.severity.weight else 0) + scoreSum c position window rs

/-- The ice score (R154). -/
def scoreOf (b : Block) : Nat :=
  match collector b with
  | some c => scoreSum c b.queue.position (b.nat .iceWindow) b.ice.history
  | none => 0

/-- The raw level of a score (R154). -/
def rawOf (b : Block) (score : Nat) : Nat :=
  if score < b.nat .iceT1 then 0
  else if score < b.nat .iceT2 then 1
  else if score < b.nat .iceT3 then 2
  else 3

/-- The hysteresis level and the fall start judged against a raw level; `fall` where the event is an accepted Motion
Report of a running direction (R155). -/
def judgeLevel (fall : Bool) (raw : Nat) (b : Block) : Block :=
  let i := b.ice
  if i.hysteresis < raw then { b with ice := { i with raw := raw, hysteresis := raw, fallStart := none } }
  else if raw = i.hysteresis then { b with ice := { i with raw := raw, fallStart := none } }
  else match i.fallStart with
    | none => { b with ice := { i with raw := raw, fallStart := some b.queue.position } }
    | some start =>
      if fall = true ∧ start + b.nat .iceDrop ≤ b.queue.position then
        let h := i.hysteresis - 1
        { b with ice := { i with
            raw := raw, hysteresis := h, fallStart := if raw < h then some b.queue.position else none } }
      else { b with ice := { i with raw := raw } }

/-- The raw level is taken anew from the score as it stands (R154, a write of a threshold). -/
def retakeRaw (b : Block) : Block := judgeLevel false (rawOf b b.ice.score) b

/-- The score is evaluated, and with it the raw and the hysteresis level (R154, R155). -/
def evaluateScore (fall : Bool) (b : Block) : Block :=
  let b1 := { b with ice := { b.ice with score := scoreOf b } }
  judgeLevel fall (rawOf b1 b1.ice.score) b1

/-- The evaluation at an accepted Motion Report. -/
def scoreAtMotion (b : Block) : Block := evaluateScore (b.queue.direction != .standstill) b

/-- An arc record is made and the score evaluated (R151). -/
def makeArc (p : Panto) (us : Nat) (counted : Bool) (b : Block) : Block := evaluateScore false (enterArc p us counted b)

/-- The temperature cap (R157). -/
def capOf (b : Block) : Nat :=
  match b.sensors.ambient.heldValue with
  | some t => if b.cfg .iceTemp < t then 1 else 3
  | none => 3

/-- The final level of its parts (R157). -/
def levelOf (cap hysteresis forced : Nat) (watch : Bool) : Nat :=
  min cap (max hysteresis (max forced (if watch then 1 else 0)))

/-- The final level is computed again from its parts (R157). -/
def takeLevel (b : Block) : Block :=
  let cap := capOf b
  { b with ice := { b.ice with cap := cap, level := levelOf cap b.ice.hysteresis b.ice.forced b.ice.watch } }

def setAdvisory (v : Option Nat) (b : Block) : Block := { b with record := { b.record with advisory := v } }

/-- The current-limit advisory at a change of the level from `before` (R158). -/
def adviseOn (before : Nat) (b : Block) : Block :=
  if b.ice.level = 3 then (if before = 3 then b else setAdvisory (some (b.nat .currentLimit)) b)
  else if before = 3 then setAdvisory none b
  else b

/-- The advisory brought to the level at the first completed scan after a warm restart (R159); after power-on it agrees
with the level already. -/
def adviseAfterRestart (b : Block) : Block :=
  if b.ice.level = 3 then
    (if b.record.advisory.isNone then setAdvisory (some (b.nat .currentLimit)) b else b)
  else setAdvisory none b

/-! ## Heaters (R160 to R162) -/

/-- D1, D2 and D3 at levels 1, 2 and 3 (R160). -/
def levelDuty (b : Block) : Nat :=
  match b.ice.level with
  | 0 => 0
  | 1 => b.nat .heatDuty1
  | 2 => b.nat .heatDuty2
  | _ => b.nat .heatDuty3

/-- The claimants of the budget (R160): a role's holder in RAISING or CONTACT, and the STOWED pantograph named for
pre-heat. -/
def heated (b : Block) (r : Role) : Option Panto :=
  Panto.all.find? fun p => b.role p == r && (b.lc p).state.up

def preheated (b : Block) : Option Panto := b.ice.preheat.filter fun p => (b.lc p).state == .stowed

/-- The demand of each pantograph (R160). -/
def demandOf (b : Block) (p : Panto) : Nat :=
  if heated b .collecting = some p then levelDuty b
  else if preheated b = some p then b.nat .preDuty
  else if heated b .scraping = some p then levelDuty b
  else 0

/-- What a claimant asks for. -/
def claim (b : Block) (c : Option Panto) : Nat :=
  match c with
  | some p => demandOf b p
  | none => 0

/-- The three shares in their order: collector, pre-heat, scraper (R161). -/
def collectorShare (b : Block) : Nat := min (claim b (heated b .collecting)) (b.nat .heatBudget)

def preheatShare (b : Block) : Nat := min (claim b (preheated b)) (b.nat .heatBudget - collectorShare b)

def scraperShare (b : Block) : Nat :=
  min (claim b (heated b .scraping)) (b.nat .heatBudget - collectorShare b - preheatShare b)

/-- The duty of each pantograph (R161). -/
def dutyOf (b : Block) (p : Panto) : Nat :=
  if heated b .collecting = some p then collectorShare b
  else if preheated b = some p then preheatShare b
  else if heated b .scraping = some p then scraperShare b
  else 0

/-- The budget is shared; duties are 0 from a warm restart to the end of adoption (R159, R161). That the demands are 0 with
them, where R160 still finds their claimants, is not said. DESIGN CHOICE, log entry 37. -/
def shareBudget (b : Block) : Block :=
  if adoptionWaits b then { b with ice := { b.ice with demand := .const 0, duty := .const 0 } }
  else { b with ice := { b.ice with demand := .ofFun (demandOf b), duty := .ofFun (dutyOf b) } }

/-- The sum of the four heater duties. -/
def dutySum (b : Block) : Nat := b.ice.duty.p1 + b.ice.duty.p2 + b.ice.duty.p3 + b.ice.duty.p4

/-- The pre-heat request ends where the named pantograph has left STOWED (R163). -/
def endPreheat (b : Block) : Block :=
  match b.ice.preheat with
  | some p => if (b.lc p).state = .stowed then b else setPreheat none b
  | none => b

/-! ## The scraper (R10, R164 to R168) -/

/-- The scraper candidate (R164). -/
def scraperCandidate (b : Block) : Option Panto :=
  match collector b with
  | none => none
  | some c =>
    if b.roofEnd c = leadingEnd b then none
    else Panto.all.find? fun p => b.head p == b.head c && b.roofEnd p == leadingEnd b

def channelsGood (b : Block) (p : Panto) : Bool :=
  sensorsGood b p && (b.sensors.strip.get p).validity == .good

def channelFaulty (b : Block) (p : Panto) : Bool :=
  sensorFaulty b p || (b.sensors.strip.get p).validity == .faulty

def entryValid (b : Block) (p : Panto) : Bool := (b.cal.get p).fields.status == .valid

/-- The reservoir's value, a FAULTY channel being judged on its held value, is present and at or above `level`. -/
def airAtLeast (b : Block) (level : Int) : Bool :=
  match b.sensors.reservoir.heldValue with
  | some v => level ≤ v
  | none => false

def collectorUp (b : Block) : Bool :=
  match collector b with
  | some c => (b.lc c).state == .contact
  | none => false

/-- The next section is farther than ScrapeClear (R165 condition 6). -/
def clearAhead (b : Block) : Bool :=
  match b.ice.nearest with
  | some d => b.nat .scrapeClear < d
  | none => true

/-- ScrapeRest has been travelled since the last scraper lowering (R165 condition 7). -/
def rested (b : Block) : Bool :=
  match b.ice.lastLowering with
  | some at_ => at_ + b.nat .scrapeRest ≤ b.queue.position
  | none => true

/-- The seven conditions of R165 for the candidate `p`. -/
def wantsScraper (b : Block) (p : Panto) : Bool :=
  2 ≤ b.ice.level && b.ice.enable &&
    (b.cond.mode == .service && b.seq.phase == .idle && !b.plan.hold) &&
    collectorUp b &&
    ((b.lc p).state == .stowed && b.role p == .none && entryValid b p && channelsGood b p && isoOpen b p) &&
    airAtLeast b (b.cfg .twoUpAir) && clearAhead b && rested b

/-- The Roof Plan's examination of a SCRAPING request, in order (R10). -/
def scrapingRefusal (b : Block) (p : Panto) : Option RefCode :=
  if b.plan.hold then some .emergencyHold
  else if b.seq.phase ≠ .idle then some .changeoverActive
  else if !earthOpen b then some .interlock
  else if (b.lc p).state = .dropped ∨ (b.lc p).state = .outOfService ∨ channelFaulty b p = true ∨
      entryValid b p = false then some .notAvailable
  else if b.role p ≠ .none ∨ (b.lc p).state ≠ .stowed then some .busy
  else if !isoOpen b p then some .interlock
  else if !airAllows b p then some .airLimit
  else none

def setScraper (v : Option Panto) (b : Block) : Block := { b with ice := { b.ice with scraper := v } }

/-- The scraper's run ends: its record becomes absent and the last-lowering position is set (R166, R168). It is reported
here, since another run may begin at the same event (R169, R184). -/
def endScraper (b : Block) : Block :=
  report 10 { b with ice := { b.ice with scraper := none, lastLowering := some b.queue.position } }

/-- The Ice Unit asks for SCRAPING (R165); a refusal changes nothing. -/
def askScraper (p : Panto) (b : Block) : Block :=
  match scrapingRefusal b p with
  | some _ => b
  | none => takeRaise p false (setScraper (some p) (setRole p .scraping .internal b))

/-- One of the lowering conditions of R166 holds for the scraper `p`. -/
def lowersScraper (b : Block) (p : Panto) : Bool :=
  b.ice.level < 2 || !b.ice.enable || !clearAhead b || !airAtLeast b (b.cfg .critAir) || !collectorUp b ||
    scraperCandidate b != some p || b.cond.mode != .service || channelFaulty b p || !entryValid b p

/-- The Ice Unit lowers its scraper: SCRAPING is released and an ordinary lower passed (R166). -/
def lowerScraper (p : Panto) (b : Block) : Block := endScraper (takeLower false p (clearRole p b))

/-- The Ice Unit judges its scraper (R165, R166). -/
def judgeScraper (b : Block) : Block :=
  match scraping b with
  | some p => if b.ice.scraper = some p ∧ lowersScraper b p = true then lowerScraper p b else b
  | none =>
    match scraperCandidate b with
    | some p => if wantsScraper b p then askScraper p b else b
    | none => b

/-- The scraper is no longer up or going up as a scraper. -/
def scraperGone (b : Block) (p : Panto) : Bool :=
  b.role p != .scraping ||
    (match (b.lc p).state with
      | .raising => false
      | .contact => false
      | .stowed => (b.lc p).held == .none
      | .lowering => true
      | .dropped => true
      | .searching => true
      | .outOfService => true)

/-- The scraper record after an event that was not the Ice Unit's own lowering: absent where its pantograph now
collects (R167), ended where it was lowered, dropped or discarded (R166, R168). -/
def followScraper (b : Block) : Block :=
  match b.ice.scraper with
  | none => b
  | some p =>
    if b.role p = .collecting then setScraper none b
    else if scraperGone b p then endScraper b
    else b

/-! ## What every event does to the Ice Unit -/

/-- Something that R165 lists among the events of a judgement has changed between `s` and `b`. -/
def scraperEvent (s b : Block) : Bool :=
  s.ice.level != b.ice.level || s.lift.p1.state != b.lift.p1.state || s.lift.p2.state != b.lift.p2.state ||
    s.lift.p3.state != b.lift.p3.state || s.lift.p4.state != b.lift.p4.state || s.plan.roles != b.plan.roles ||
    s.seq.phase != b.seq.phase || s.plan.hold != b.plan.hold || s.ice.nearest != b.ice.nearest

/-- The score is evaluated where the collector has changed (R154). -/
def followCollector (s b : Block) : Block := if collector s = collector b then b else evaluateScore false b

/-- The Section Queue hands over where an entry has changed (R124). -/
def followEntries (s b : Block) : Block := if s.queue.entries = b.queue.entries then b else handOver b

/-- The event completed the first scan after a reset: the ambient channel has left UNKNOWN (R22). -/
def firstScan (s b : Block) : Bool := s.sensors.ambient.validity == .unknown && b.sensors.ambient.validity != .unknown

/-- The level, and the advisory with it (R157 to R159). -/
def followLevel (s b : Block) : Block :=
  if firstScan s b then adviseAfterRestart (takeLevel b) else adviseOn s.ice.level (takeLevel b)

/-- The scraper record while an adoption is waited for, when the Ice Unit keeps it (R168): it ends where the start of a path
has cleared SCRAPING (R129, R166). -/
def followReleased (b : Block) : Block :=
  match b.ice.scraper with
  | some p => if adoptionWaits b = true ∧ b.role p ≠ .scraping then endScraper b else b
  | none => b

/-- The Ice Unit's part of an event that began at `s` and has come to `b`; `judge` where the event is one at which
the scraper is judged in any case (R154 to R168). While a warm restart waits for its adoption, and at the adoption itself, the
scraper record is the restart logic's, but for a path begun, and nothing is judged. -/
def iceSettle (s : Block) (judge : Bool) (b : Block) : Block :=
  let b1 := followEntries s (followCollector s b)
  if adoptionWaits b1 || adoptionWaits s then shareBudget (endPreheat (followLevel s (followReleased b1)))
  else
    let b2 := followLevel s (followScraper b1)
    let b3 := if judge || scraperEvent s b2 then judgeScraper b2 else b2
    shareBudget (endPreheat b3)

end Sys2Proof.Machine
end

