-- ==== Sys2Proof/Machine/Flags.lean ====
section
/-!
DEFINITION. What the masters see change: the Status Digest (R187), the change masks (R184) and the plan epoch (R19).
-/

namespace Sys2Proof.Machine

/-! ## Codes of the digest (R187) -/

def bit (v : Bool) (place : Nat) : Nat := if v then 2 ^ place else 0

/-- A number in two bytes, the most significant first (R179). -/
def bytes2 (n : Nat) : List Nat := [n / 256 % 256, n % 256]

def modeCode : Mode → Nat
  | .dormant => 0
  | .waking => 1
  | .standby => 2
  | .service => 3
  | .workshop => 4

def roleCode : Role → Nat
  | .none => 0
  | .collecting => 1
  | .scraping => 2
  | .calibrating => 3

def liftCode : LiftState → Nat
  | .stowed => 0
  | .raising => 1
  | .contact => 2
  | .lowering => 3
  | .dropped => 4
  | .searching => 5
  | .outOfService => 6

def heldCode : Held → Nat
  | .none => 0
  | .behindLowering => 1
  | .dwell => 2
  | .air => 3

def leadCode : Option Master → Nat
  | none => 0
  | some .a => 1
  | some .b => 2

/-- A line system or none, counted from 1. -/
def systemCode : Option LineSystem → Nat
  | none => 0
  | some .ac25 => 1
  | some .ac15 => 2
  | some .dc3 => 3
  | some .dc15 => 4

/-- A confirmed class or none; UNKNOWN is never confirmed. -/
def classCode : Option LineClass → Nat
  | none => 0
  | some (.sys s) => systemCode (some s)
  | some .dead => 5
  | some .unknown => 6

def pantoCode : Option Panto → Nat
  | none => 0
  | some p => p.num

def phaseCode : Phase → Nat
  | .idle => 0
  | .armed => 1
  | .tractionOff => 2
  | .breakerOpen => 3
  | .lowering => 4
  | .coast => 5
  | .probe => 6
  | .confirm => 7
  | .masterReady => 8
  | .close => 9
  | .halted => 10

def pathCode : Option Path → Nat
  | none => 0
  | some .sectionChange => 1
  | some .neutral => 2
  | some .zone => 3
  | some .select => 4
  | some .identify => 5
  | some .substitute => 6

def haltCode : Option HaltReason → Nat
  | none => 0
  | some r => r.ctorIdx + 1

def twoCode : TwoState → Nat
  | .opened => 0
  | .closing => 1
  | .closed => 2
  | .opening => 3
  | .failed => 4

def selCode : SelState → Nat
  | .ac => 0
  | .dc => 1
  | .mid => 2
  | .moving => 3
  | .failed => 4

def calCode : CalStatus → Nat
  | .none => 0
  | .valid => 1
  | .suspect => 2
  | .failed => 3

def directionCode : Direction → Nat
  | .standstill => 0
  | .forward => 1
  | .reverse => 2

def subjectCode : Subject → Nat
  | .none => 0
  | .panto p => p.num
  | .switch .breaker => 5
  | .switch .selector => 6
  | .switch (.iso p) => 6 + p.num
  | .switch .earth => 11
  | .link .a => 12
  | .link .b => 13
  | .link .p => 14

/-! ## The sixteen fields (R187) -/

def twoGroup (s : TwoSw) : Nat := twoCode s.state * 2 + bit s.disagree 0

def selGroup (s : SelSw) : Nat := selCode s.state * 2 + bit s.disagree 0

def liftByte (b : Block) (p : Panto) : Nat :=
  roleCode (b.role p) * 64 + liftCode (b.lc p).state * 8 + heldCode (b.lc p).held * 2 + bit (b.lc p).lowerPending 0

def readyByte (b : Block) (r : Option Ready) : Nat :=
  systemCode (r.map Ready.sys) * 32 + bit (r.any fun x => x.serial == b.record.serial) 4

def calByte (b : Block) (p : Panto) : Nat :=
  calCode (b.cal.get p).fields.status * 64 + bit (stale b p) 5 + bit (!(b.cal.get p).saved) 4 +
    bit (b.lc p).servoDeviation 3 + bit (b.lc p).lowerOverdue 2 + bit (b.lc p).noWireLower 1 + bit (uncalibrated b p) 0

/-- The channels in the order of bits 0 to 13 of the Sensors field. -/
def channels (b : Block) : List Chan :=
  Panto.all.map b.sensors.actuator.get ++ Panto.all.map b.sensors.strip.get ++ Panto.all.map b.sensors.height.get ++
    [b.sensors.reservoir, b.sensors.ambient]

/-- Bits set from `place` upward, one for each channel that is not GOOD. -/
def notGoodBits (place : Nat) : List Chan → Nat
  | [] => 0
  | c :: cs => bit (c.validity != .good) place + notGoodBits (place + 1) cs

def activeEntry (b : Block) : Option Entry := b.queue.entries.find? Entry.active

/-- Some result of the item is FAIL. -/
def anyFail (l : List (Option TestResult)) : Bool := l.contains (some .fail)

def PerP.list {α : Type} (v : PerP α) : List α := [v.p1, v.p2, v.p3, v.p4]

def SensorResults.list (r : SensorResults) : List (Option TestResult) :=
  PerP.list r.actuator ++ PerP.list r.strip ++ PerP.list r.height ++ [r.reservoir, r.ambient]

def SwitchResults.list (r : SwitchResults) : List (Option TestResult) :=
  [r.breaker, r.selector] ++ PerP.list r.iso ++ [r.earth]

def linkResults (t : SelfTest) : List (Option TestResult) := [t.links.a, t.links.b, t.links.p]

def selfTestByte (t : SelfTest) : Nat :=
  bit t.completed 7 + bit (anyFail [t.config]) 6 + bit (anyFail (PerP.list t.calibration)) 5 +
    bit (anyFail t.sensors.list) 4 + bit (anyFail (PerP.list t.valves)) 3 + bit (anyFail (PerP.list t.strips)) 2 +
    bit (anyFail t.switches.list) 1 + bit (anyFail (linkResults t)) 0

/-- The fields of the digest after its mask bytes, field `k` at place `k`. -/
def digestFields (b : Block) : List (List Nat) := [
  [modeCode b.cond.mode * 32 + bit b.cond.standbyLowering 4 + bit b.cond.heldWake 3],
  bytes2 b.plan.epoch ++ [leadCode b.plan.lead * 64 + bit b.plan.hold 5],
  Panto.all.map (liftByte b),
  [readyByte b b.plan.readyA, readyByte b b.plan.readyB],
  [systemCode b.record.determined * 32 + pantoCode b.record.source * 4 + bit b.record.tractionOff 1 +
      bit b.record.advisory.isSome 0,
    classCode b.line.confirmed * 32] ++ bytes2 b.record.serial ++ bytes2 (b.record.advisory.getD 0),
  [phaseCode b.seq.phase,
    pathCode b.seq.path * 32 + pantoCode b.seq.candidate * 4 + bit b.seq.mismatch 1,
    haltCode b.seq.haltReason],
  [twoGroup b.sw.breaker * 16 + selGroup b.sw.selector,
    twoGroup b.sw.iso.p1 * 16 + twoGroup b.sw.iso.p2,
    twoGroup b.sw.iso.p3 * 16 + twoGroup b.sw.iso.p4,
    twoGroup b.sw.earth * 16],
  Panto.all.map (calByte b),
  bytes2 (notGoodBits 0 (channels b) + bit b.line.measureFaulty 14),
  [bit (activeEntry b).isSome 7 + b.queue.entries.length * 8 + bit b.queue.stale 2 +
    directionCode b.queue.direction] ++ bytes2 (((activeEntry b).map Entry.id).getD 0),
  [b.ice.level * 64 + b.ice.forced * 16 + bit b.ice.enable 3,
    pantoCode b.ice.scraper * 32 + pantoCode b.ice.preheat * 4] ++ PerP.list b.ice.duty,
  bytes2 b.ice.arcCount,
  [bit b.cond.faults.present 7 + (match b.cond.faults.first with
      | some f => f.kind.ctorIdx + 1
      | none => 0),
    match b.cond.faults.first with
      | some f => subjectCode f.subject
      | none => 0],
  [bit b.links.a.present 2 + bit b.links.b.present 1 + bit b.links.p.present 0],
  [selfTestByte b.cond.selfTest],
  [bit b.cond.configGood 1 + bit (!b.cond.configSaved) 0]]

/-- The 47 bytes of the digest for a link whose mask is `m` (R187). -/
def digestBytes (m : Mask) (b : Block) : List Byte :=
  (bytes2 m.toNat ++ (digestFields b).flatten).map (BitVec.ofNat 8)

/-! ## Change masks (R184) -/

/-- Bits `place` and upward, set where the fields of the two digests differ. -/
def fieldDiff (place : Nat) : List (List Nat) → List (List Nat) → Mask
  | x :: xs, y :: ys => (if x = y then 0 else BitVec.twoPow 16 place) ||| fieldDiff (place + 1) xs ys
  | _, _ => 0

/-- The bit of a report that no value of the digest need show. -/
def reportBit (changed : Bool) (place : Nat) : Mask := if changed then BitVec.twoPow 16 place else 0

/-- The matters reported beyond the digest's values: section entries, readiness records, Calibration Table entries,
the scraper record and self-test results (R72, R119, R169, R174, R184). The announcement of a marker, the start of a
path, the change of a calibration entry and the end of a scraper's run report theirs where they are made (`report`), since
no value of theirs need differ at the event's end. -/
def reports (s b : Block) : Mask :=
  reportBit (s.queue.entries != b.queue.entries) 9 |||
    reportBit (s.plan.readyA != b.plan.readyA || s.plan.readyB != b.plan.readyB) 3 |||
    reportBit (s.cal != b.cal) 7 |||
    reportBit (s.ice.lastLowering != b.ice.lastLowering) 10 |||
    reportBit (s.cond.selfTest != b.cond.selfTest) 14

/-- The fields changed by an event that began at `s` and ended at `b`. -/
def changed (s b : Block) : Mask := fieldDiff 0 (digestFields s) (digestFields b) ||| reports s b

/-- The bits of the changed fields are set in all three masks (R184). -/
def markChanges (s b : Block) : Block := markAll (changed s b) b

/-! ## The plan epoch (R19) -/

/-- The plan's principal contents: lead, roles with their origins, hold, lift states, determined system. -/
structure Principal where
  lead       : Option Master
  roles      : PerP RoleRec
  hold       : Bool
  lifts      : PerP LiftState
  determined : Option LineSystem
  deriving DecidableEq, Repr

def liftStates (b : Block) : PerP LiftState := .ofFun fun p => (b.lc p).state

def principal (b : Block) : Principal :=
  ⟨b.plan.lead, b.plan.roles, b.plan.hold, liftStates b, b.record.determined⟩

/-- What stood when the restart that is being adopted was taken: lead, roles and lift states as the restart logic
kept them (R21). -/
def principalAt (r : Restart) (s : Block) : Principal := { principal s with lead := r.lead, roles := r.roles, lifts := r.lifts }

/-- The contents that an event's epoch is judged against: those at its start, or, for the end of adoption, those at
the taking of the restart (R19, R21). -/
def reference (s b : Block) : Principal :=
  match s.cond.restart, b.cond.restart with
  | some r, none => principalAt r s
  | _, _ => principal s

/-- The epoch advances once where the event changed the principal contents (R19). -/
def advanceEpoch (s b : Block) : Block :=
  if reference s b = principal b then b else { b with plan := { b.plan with epoch := wrapSucc b.plan.epoch } }

/-- The close of every event that began at `s`: the epoch, then the change masks. -/
def close (s b : Block) : Block := markChanges s (advanceEpoch s b)

end Sys2Proof.Machine
end

