-- ==== Sys2Proof/Machine/LineMonitor.lean ====
section
/-!
DEFINITION. The Line Monitor (05_line_measurement_and_system_identification.md): sample pairs, crossing capture,
the close of a window, classification, runs and the traction-off check.
-/

namespace Sys2Proof.Machine

/-! ## Pairs (R80, R81, R83) -/

/-- The capture is cleared (R83). -/
def LineMon.clearCapture (l : LineMon) : LineMon :=
  { l with armed := false, crossCount := 0, crossSeen := false, lastPeriod := none }

/-- A positive-going crossing falls at this sample (R83). -/
def LineMon.crosses (l : LineMon) (v : Int) : Bool := l.armed && 100 ≤ v

/-- The armed mark after a sample (R83). -/
def LineMon.armedAfter (l : LineMon) (v : Int) : Bool :=
  if v ≤ -100 then true else if l.crosses v then false else l.armed

/-- The crossing capture examines a measured sample (R83). The period is the number of samples from one crossing
sample to the next. DEDUCED, log entry 33. -/
def LineMon.capture (v : Int) (l : LineMon) : LineMon :=
  if l.crosses v then
    { l with
      armed := l.armedAfter v
      lastPeriod := if l.crossSeen then some (satAdd 65535 l.crossCount 1) else l.lastPeriod
      crossSeen := true
      crossCount := 0 }
  else { l with armed := l.armedAfter v, crossCount := satAdd 65535 l.crossCount 1 }

/-- A pair or an unmeasured slot enters the window in progress (R80, R81). -/
def LineMon.takeSlot (slot : SampleSlot) (l : LineMon) : LineMon :=
  match slot with
  | .pair v i =>
    let c := l.capture v
    { c with
      pairCount := l.pairCount + 1
      voltSum := l.voltSum + v
      absVoltSum := l.absVoltSum + v.natAbs
      absCurSum := l.absCurSum + i.natAbs }
  | .unmeasured => { l.clearCapture with pairCount := l.pairCount + 1, unmeasured := true }

/-- Pairs of one window. -/
def windowPairs : Nat := 320

/-! ## Classification (R84 to R87) -/

/-- The quotients of a measured window (R81, R85), with the period and frequency (R84). -/
structure WindowFigures where
  mean        : Int
  meanAbs     : Nat
  rms         : Nat
  current     : Nat
  periodValid : Bool
  freq        : Option Nat
  deriving DecidableEq, Repr

/-- The rms estimate (R85). -/
def rmsOf (a : Nat) : Nat := a * 71 / 64

/-- The frequency of a period in hundredths of a hertz (R84). -/
def freqOf (period : Nat) : Nat := 640000 / period

def LineMon.periodValid (l : LineMon) : Bool := l.lastPeriod.isSome && l.crossCount ≤ 639

def LineMon.figures (l : LineMon) : WindowFigures :=
  let a := l.absVoltSum / windowPairs
  { mean := l.voltSum.tdiv windowPairs
    meanAbs := a
    rms := rmsOf a
    current := l.absCurSum / windowPairs
    periodValid := l.periodValid
    freq := if l.periodValid then l.lastPeriod.map freqOf else none }

/-- `lo ≤ v ≤ hi`. -/
def within (lo hi v : Int) : Bool := lo ≤ v && v ≤ hi

/-- The class of a measured window, row by row (R86). -/
def classify (c : CfgRec) (w : WindowFigures) : LineClass :=
  if (w.meanAbs : Int) < cfgGet c .deadLevel then .dead
  else
    match w.periodValid, w.freq with
    | true, some f =>
      if within (cfgGet c .freqLowAC25) (cfgGet c .freqHighAC25) f then
        (if within (cfgGet c .vrLowAC25) (cfgGet c .vrHighAC25) w.rms then .sys .ac25 else .unknown)
      else if within (cfgGet c .freqLowAC15) (cfgGet c .freqHighAC15) f then
        (if within (cfgGet c .vrLowAC15) (cfgGet c .vrHighAC15) w.rms then .sys .ac15 else .unknown)
      else .unknown
    | _, _ =>
      if 0 ≤ w.mean then
        (if within (cfgGet c .meanLowDC3) (cfgGet c .meanHighDC3) w.mean then .sys .dc3
          else if within (cfgGet c .meanLowDC15) (cfgGet c .meanHighDC15) w.mean then .sys .dc15
          else .unknown)
      else .unknown

/-! ## Runs (R88) and the traction-off check (R90) -/

/-- The run length after a window of the class. -/
def LineMon.runAfter (l : LineMon) (cls : LineClass) : Nat :=
  if l.runClass = some cls then satAdd 255 l.runLength 1 else 1

/-- The confirmed class after a window of the class: kept through a run once made, whatever ConfirmCount becomes. -/
def LineMon.confirmedAfter (l : LineMon) (count : Nat) (cls : LineClass) : Option LineClass :=
  if cls = .unknown then none
  else if count ≤ l.runAfter cls then some cls
  else if l.runClass = some cls ∧ l.confirmed = some cls then some cls
  else none

/-- The window in progress is cleared for the next (R81). -/
def LineMon.nextWindow (l : LineMon) : LineMon :=
  { l with pairCount := 0, voltSum := 0, absVoltSum := 0, absCurSum := 0, unmeasured := false }

/-- The record after the close of a window of a class with its result and low-current count (R82). -/
def LineMon.record (l : LineMon) (count : Nat) (r : WindowResult) (low : Nat) : LineMon :=
  { l.nextWindow with
    result := some r
    runClass := some r.cls
    runLength := l.runAfter r.cls
    confirmed := l.confirmedAfter count r.cls
    lowCount := low
    measureFaulty := l.unmeasured }

/-- The low-current count after a measured window (R90). -/
def LineMon.lowAfter (l : LineMon) (iOff current : Nat) : Nat :=
  if current < iOff then satAdd 2 l.lowCount 1 else 0

/-- The result of the window in progress at its close, with the low-current count (R80 to R86, R90); it makes a
confirmation where the confirmed class changes from absent to present (R88). -/
def windowResult (b : Block) (l : LineMon) : WindowResult × Nat :=
  if l.unmeasured then (⟨none, none, none, none, false, none, l.lastPeriod, .unknown, false, false⟩, 0)
  else
    let w := l.figures
    let low := l.lowAfter (b.nat .iOff) w.current
    let cls := classify b.cond.cfg w
    let confirms := l.confirmed.isNone && (l.confirmedAfter (b.nat .confirmCount) cls).isSome
    (⟨some w.mean, some w.meanAbs, some w.rms, some w.current, w.periodValid, w.freq, l.lastPeriod, cls, confirms,
      low == 2⟩, low)

/-- The close of a window (R82): the record, SENSOR_FAULT at the first unmeasured one (R80), and the result handed
to the Sequencer (R89 to R95). -/
def closeWindow (b : Block) : Block :=
  let r := windowResult b b.line
  let b1 := { b with line := b.line.record (b.nat .confirmCount) r.1 r.2 }
  let b2 := if b.line.unmeasured && !b.line.measureFaulty then recordFault .sensorFault .none b1 else b1
  takeWindow r.1 b2

/-- The slot is the window's last. -/
def lastSlot (b : Block) : Bool := windowPairs ≤ b.line.pairCount + 1

def takeSlot (slot : SampleSlot) (b : Block) : Block := { b with line := b.line.takeSlot slot }

end Sys2Proof.Machine
end

