-- ==== Sys2Proof/Machine/Conditions.lean ====
section
/-!
DEFINITION. The Condition Unit (10_modes_self_test_and_faults.md): modes, loads of the stored records, the ends of
the self-test, warm restart and adoption; and what closes every event.
-/

namespace Sys2Proof.Machine

/-! ## Modes (R170 to R173) -/

/-- The mode changes: the mode timer restarts, standby lowering and the held Wake are clear, and a search accepted in
the mode left is aborted (R73, R170). -/
def setMode (m : Mode) (b : Block) : Block :=
  abortSearches { b with cond := { b.cond with mode := m, modeTimer := 0, standbyLowering := false, heldWake := false } }

/-- A scraper in RAISING or CONTACT, which a lower brings down at once. -/
def raisedScraper (b : Block) (p : Panto) : Bool :=
  b.role p == .scraping && (b.lc p).state.up && !adoptionWaits b

/-- A lower to every pantograph by an Emergency Lower or an Enter STANDBY, which the Ice Unit takes as its own where it
brings a scraper down: SCRAPING is released at the start of that lowering, and of no other (R13, R166). DEDUCED, log
entry 15. -/
def lowerRoof (immediate : Bool) (b : Block) : Block :=
  eachPanto (fun p b => takeLower immediate p (if raisedScraper b p then clearRole p b else b)) b

/-- Standby lowering begins (R171). -/
def beginStandbyLowering (b : Block) : Block :=
  let b1 := { b with cond := { b.cond with standbyLowering := true } }
  lowerRoof false (openBreaker .internal (halt .masterLower b1))

/-- Every pantograph is STOWED, DROPPED or OUT_OF_SERVICE (R107, R170). -/
def roofAtRest (b : Block) : Bool := Panto.all.all fun p => (b.lc p).state.atRest

def noHeldRaise (b : Block) : Bool := Panto.all.all fun p => (b.lc p).held == .none

/-- STANDBY is entered once the roof is at rest with no held raise (R171). -/
def standbyCheck (b : Block) : Block :=
  if b.cond.standbyLowering && roofAtRest b && noHeldRaise b then setMode .standby b else b

/-! ## The self-test (R174) -/

def setTest (t : SelfTest) (b : Block) : Block := { b with cond := { b.cond with selfTest := t } }

/-- PASS where the condition holds. -/
def verdict (good : Bool) : TestResult := if good then .pass else .fail

/-- The SWITCHES item: FAIL for a FAILED switch. -/
def switchResults (b : Block) : SwitchResults where
  breaker := some (verdict (b.sw.breaker.state != .failed))
  selector := some (verdict (b.sw.selector.state != .failed))
  iso := .ofFun fun p => some (verdict ((b.sw.iso.get p).state != .failed))
  earth := some (verdict (b.sw.earth.state != .failed))

/-- The CONFIG and CALIBRATION items, from the loads. -/
def withLoadResults (b : Block) (t : SelfTest) : SelfTest :=
  { t with
    config := some (verdict b.cond.configLoaded)
    calibration := .ofFun fun p => some (verdict (b.cond.entryLoaded.get p)) }

/-- The SENSORS item: FAIL for a channel FAULTY or UNKNOWN. -/
def sensorResults (s : Sensors) : SensorResults :=
  let good (c : Chan) : Option TestResult := some (verdict (c.validity == .good))
  { actuator := .ofFun fun p => good (s.actuator.get p)
    strip := .ofFun fun p => good (s.strip.get p)
    height := .ofFun fun p => good (s.height.get p)
    reservoir := good s.reservoir
    ambient := good s.ambient }

/-- The LINKS item. -/
def linkVerdicts (b : Block) : PerL (Option TestResult) :=
  .ofFun fun l => some (verdict (b.links.get l).present)

/-- WAKING is entered with a return mode: the record is cleared and CONFIG, CALIBRATION and SWITCHES take their
results (R172 to R174). -/
def enterWaking (ret : Mode) (b : Block) : Block :=
  { b with cond := { b.cond with
      mode := .waking, standbyLowering := false, modeTimer := 0, heldWake := false, returnMode := ret
      testStep := .notBegun
      selfTest := withLoadResults b { SelfTest.cleared with switches := switchResults b } } }

/-- The items that are judged before LINKS all have a result. -/
def judged (t : SelfTest) : Bool :=
  t.config.isSome && (PerP.list t.calibration).all Option.isSome && t.sensors.list.all Option.isSome &&
    (PerP.list t.valves).all Option.isSome && (PerP.list t.strips).all Option.isSome &&
    t.switches.list.all Option.isSome

/-- A pantograph in RAISING, CONTACT or LOWERING keeps STANDBY waiting (R178 step 3). -/
def roofBusy (b : Block) : Bool :=
  Panto.all.any fun p => (b.lc p).state.up || (b.lc p).state == .lowering

/-- STANDBY at once, or SERVICE with standby lowering begun while the roof is not down (R178 step 3). -/
def enterStandby (b : Block) : Block :=
  if roofBusy b then beginStandbyLowering (setMode .service b) else setMode .standby b

/-- The end of WAKING (R174, R178 step 3). -/
def endWaking (b : Block) : Block :=
  match b.cond.returnMode with
  | .workshop => setMode .workshop b
  | .service =>
    if b.cond.configGood && b.cond.selfTest.completed then setMode .service b else enterStandby b
  | .standby => enterStandby b
  | .waking => enterStandby b
  | .dormant => enterStandby b

/-- The mode timer has come to `n`. -/
def reachModeTime (n : Nat) (b : Block) : Block :=
  { b with cond := { b.cond with modeTimer := max n b.cond.modeTimer } }

/-- LINKS is judged, the completed mark set, and WAKING ends (R174). -/
def completeWaking (b : Block) : Block :=
  endWaking (setTest { b.cond.selfTest with links := linkVerdicts b, completed := true } b)

def failUnjudged (r : Option TestResult) : Option TestResult := some (r.getD .fail)

def PerP.map' {α β : Type} (f : α → β) (v : PerP α) : PerP β := ⟨f v.p1, f v.p2, f v.p3, f v.p4⟩

/-- Every item without a result is FAIL (R174, the timeout of 4000 ms). -/
def SelfTest.failRest (t : SelfTest) : SelfTest where
  config := failUnjudged t.config
  calibration := PerP.map' failUnjudged t.calibration
  sensors := ⟨PerP.map' failUnjudged t.sensors.actuator, PerP.map' failUnjudged t.sensors.strip,
    PerP.map' failUnjudged t.sensors.height, failUnjudged t.sensors.reservoir, failUnjudged t.sensors.ambient⟩
  valves := PerP.map' failUnjudged t.valves
  strips := PerP.map' failUnjudged t.strips
  switches := ⟨failUnjudged t.switches.breaker, failUnjudged t.switches.selector,
    PerP.map' failUnjudged t.switches.iso, failUnjudged t.switches.earth⟩
  links := ⟨failUnjudged t.links.a, failUnjudged t.links.b, failUnjudged t.links.p⟩
  completed := false

/-- A VALVES step left running by the timeout returns its pressure to 0 (log entry 21). -/
def stopValves (b : Block) : Block :=
  match b.cond.testStep with
  | .valves p _ => setTestStep .finished (b.setLift p { b.lc p with commanded := 0 })
  | _ => setTestStep .finished b

/-- The self-test is not complete at 4000 ms (R174). -/
def timeoutWaking (b : Block) : Block := endWaking (setTest b.cond.selfTest.failRest (stopValves b))

/-- WAKING ends at the first event at which 2000 ms have passed and every other item has its result, or 4000 ms have passed
(R174), though not before an adoption that waits (R178). -/
def wakingCheck (b : Block) : Block :=
  if b.cond.mode = .waking ∧ adoptionWaits b = false then
    (if judged b.cond.selfTest then (if 2000 ≤ b.cond.modeTimer then completeWaking b else b)
      else if 4000 ≤ b.cond.modeTimer then timeoutWaking b
      else b)
  else b

/-! ## Loads (R76, R175) -/

/-- The stored configuration record is taken, or the defaults with CONFIG_BAD (R175). -/
def loadConfig (b : Block) : Block :=
  match b.mem.image.config with
  | some c =>
    { b with cond := { b.cond with cfg := cfgLoad c, configGood := true, configSaved := true, configLoaded := true } }
  | none =>
    recordFault .configBad .none
      { b with cond := { b.cond with cfg := cfgDefaults, configGood := false, configSaved := false,
                                     configLoaded := false } }

def loadedEntry (f : Option CalFields) : CalEntry :=
  match f with
  | some x => ⟨x, true⟩
  | none => ⟨CalFields.blank, false⟩

/-- The Calibration Table is loaded (R76). -/
def loadEntries (b : Block) : Block :=
  { b with
    cal := .ofFun fun p => loadedEntry (b.mem.image.entries.get p)
    cond := { b.cond with entryLoaded := .ofFun fun p => (b.mem.image.entries.get p).isSome } }

/-! ## Warm restart (R178 and the rules it names) -/

/-- A pantograph at a warm restart (R44, R63, R75): held raises, pending lowers, search steps, timers and flags end;
the commanded pressure stays with the valve latch. The quick-vent stays as it stood, and with hold-over is released at the
adoption scan with the latch: R44 speaks of its release without hold-over alone. DESIGN CHOICE, log entry 39. -/
def Lift.atRestart (l : Lift) : Lift :=
  { Lift.initial with state := l.state, commanded := l.commanded, quickVent := l.quickVent }

/-- Without hold-over every valve is vented and every quick-vent released (R44). -/
def ventAll (b : Block) : Block :=
  { b with lift := .ofFun fun p => { b.lc p with commanded := 0, quickVent := false } }

/-- The Section Queue at a warm restart (R126). -/
def Queue.atRestart (q : Queue) : Queue :=
  { q with entries := q.entries.map (fun e => { e with active := false, served := false }), motionAge := 0, stale := true }

/-- The Sequencer at a warm restart (R148). -/
def Seq.atRestart (q : Seq) : Seq :=
  let kept := { q with activeEntry := none, timer := none, work := .none }
  if q.phase = .idle ∨ q.phase = .halted then kept
  else { kept with phase := .halted, haltReason := some .restart }

/-- The Ice Unit at a warm restart (R153, R159, R162, R163). -/
def Ice.atRestart (i : Ice) : Ice :=
  { Ice.initial with
    hysteresis := i.hysteresis, forced := i.forced, enable := i.enable
    lastLowering := i.lastLowering, scraper := i.scraper
    level := levelOf 3 i.hysteresis i.forced false }

/-- A link at a warm restart: ABSENT, its count 0, its mask full (R180, R183, R184); replies not yet sent and a frame
in progress are kept (log entry 17). -/
def LinkRec.atRestart (l : LinkRec) : LinkRec := { l with present := false, age := none, badFrames := 0, mask := 0xFFFF }

/-- The mode that WAKING leads to after a restart taken in `r` (R178). -/
def returnAfter (r : Restart) (holdOver : Bool) : Mode :=
  if holdOver then
    match r.mode with
    | .service => if r.standbyLowering then .standby else .service
    | .workshop => .workshop
    | .dormant => .standby
    | .waking => .standby
    | .standby => .standby
  else .standby

/-- The reload of a warm restart, once no write is in flight or waiting: the records are loaded with MaxUp held back
to the adoption scan, the commanded pressures are brought within the Pmax loaded (R61; DESIGN CHOICE, log entry 36), and
what hangs on HoldOver is done (R44, R76, R175, R178). -/
def reload (b : Block) : Block :=
  let held := b.cfg .maxUp
  let b1 := loadEntries (loadConfig b)
  let b2 := { b1 with cond := { b1.cond with
      reloadPending := false
      newMaxUp := some (b1.cfg .maxUp)
      cfg := cfgSet b1.cond.cfg .maxUp held
      selfTest := withLoadResults b1 b1.cond.selfTest
      returnMode := match b1.cond.restart with
        | some r => returnAfter r (b1.on .holdOver)
        | none => .standby } }
  if b2.on .holdOver then clampCommanded b2 else ventAll b2

/-- The reload is made where it waits and the port is at rest. -/
def reloadIfIdle (b : Block) : Block :=
  if b.cond.reloadPending = true ∧ b.mem.inFlight = none then reload b else b

/-- The values the blocks take at a warm restart, apart from the reload. The faults of this event show the mode WAKING and the
phase after R148, and a SWITCH_FAILED comes before the CONFIG_BAD of the reload: R177 says only that the record takes them
at that event, and leaves the order of two faults open. DESIGN CHOICE, log entry 38. -/
def restartBlocks (c : Contacts) (b : Block) : Block :=
  let keep : Restart :=
    ⟨b.plan.lead, b.plan.roles, liftStates b, b.cond.mode, b.cond.standbyLowering⟩
  let b1 := { b with
    plan := { b.plan with lead := none }
    sensors := Block.initial.sensors
    lift := .ofFun fun p => (b.lc p).atRestart
    line := LineMon.initial
    queue := b.queue.atRestart
    seq := b.seq.atRestart
    ice := b.ice.atRestart
    links := ⟨b.links.a.atRestart, b.links.b.atRestart, b.links.p.atRestart⟩
    cond := { b.cond with
      mode := .waking, standbyLowering := false, modeTimer := 0, heldWake := false, returnMode := .standby
      selfTest := SelfTest.cleared, testStep := .notBegun
      restart := some keep, reloadPending := true, newMaxUp := none } }
  let b2 := switchesAtRestart c b1
  setTest { b2.cond.selfTest with switches := switchResults b2 } b2

/-- A warm restart is taken (R178). A breaker found CLOSED without its conditions is opened by the guard (R111). -/
def warmRestart (c : Contacts) (b : Block) : Block := guardBreaker (reloadIfIdle (restartBlocks c b))

/-! ## Power-on (R173) -/

/-- Application of supply with contact patterns and a memory image: every block at its power-on value, the records
loaded, the switches taken from their contacts, WAKING entered with return mode STANDBY (R173). -/
def powerOn (c : Contacts) (m : MemImage) : Block :=
  let b1 := { Block.initial with mem := ⟨m, none, [], false⟩ }
  enterWaking .standby (switchesAtPowerOn c (loadEntries (loadConfig b1)))

/-! ## Adoption (R45, R46, R64, R112, R148) -/

/-- The actuator pressure taken as commanded at the adoption scan, within Pmax (R44, R60); a free value where the
channel gives no reading (log entry 9). -/
def adoptedPressure (b : Block) (p : Panto) : Nat :=
  match (b.sensors.actuator.get p).reading with
  | some v => min v.toNat (b.nat .pmax)
  | none => min (freePressure (b.freeCount + p.num)) (b.nat .pmax)

/-- Every commanded pressure is taken at the adoption scan; the counter of free values passes those drawn. -/
def takePressures (b : Block) : Block :=
  { b with
    lift := .ofFun fun p => { b.lc p with commanded := adoptedPressure b p }
    freeCount := b.freeCount + 4 }

/-- The conditions of R45 for one pantograph; one that took a lower between the restart and the adoption is not adopted
(log entry 26). -/
def adoptable (b : Block) (p : Panto) : Bool :=
  (b.role p == .collecting || b.role p == .scraping) && !(b.lc p).lowerNoted &&
    (match (b.sensors.height.get p).reading with
      | some h => b.cfg .hWork ≤ h
      | none => false) &&
    (match (b.sensors.actuator.get p).reading with
      | some v => (v - (targetPressureOf b p : Int)).natAbs ≤ 300
      | none => false) &&
    (match (b.sensors.strip.get p).reading with
      | some v => b.cfg .addLevel ≤ v
      | none => false) &&
    earthOpen b

/-- Those adopted, within MaxUp: the collector before a scraper (R45). -/
def adopted (b : Block) : List Panto :=
  let fit := Panto.all.filter (adoptable b)
  ((fit.filter fun p => b.role p == .collecting) ++ (fit.filter fun p => b.role p != .collecting)).take (b.nat .maxUp)

/-- The record of a pantograph that is STOWED by the adoption scan. No re-raise dwell starts: R30 starts one at each arrival
in STOWED, and R44 counts the dwell as passed at the restart. DESIGN CHOICE, log entry 38. -/
def Lift.stowedAtAdoption (l : Lift) : Lift :=
  { l.noTarget with state := .stowed, commanded := 0, quickVent := false, lowStrip := 0, lowerPending := false }

/-- The height read is plausible and at or below HStow. -/
def readsStowed (b : Block) (p : Panto) : Bool :=
  match (b.sensors.height.get p).reading with
  | some h => h ≤ b.cfg .hStow
  | none => false

/-- A pantograph not adopted, by its height (R45, R46). -/
def settleDown (p : Panto) (b : Block) : Block :=
  leaveContact p
    (if readsStowed b p then (b.lc p).stowedAtAdoption else { (b.lc p).toLowering with quickVent := false }) b

/-- One pantograph is adopted into CONTACT or settles by its height; what was noted for the adoption is done. -/
def adoptOne (chosen : List Panto) (p : Panto) (b0 : Block) : Block :=
  let b := b0.setLift p { b0.lc p with lowerNoted := false }
  if chosen.contains p then enterContact p (b.setLift p { b.lc p with quickVent := false })
  else clearRole p (settleDown p b)

/-- The reloaded MaxUp takes effect (R175). -/
def takeMaxUp (b : Block) : Block :=
  match b.cond.newMaxUp with
  | some v => { b with cond := { b.cond with cfg := cfgSet b.cond.cfg .maxUp v, newMaxUp := none } }
  | none => b

/-- The scraper record at the end of adoption: the pantograph adopted with SCRAPING, absent where there is none. One
that was LOWERING at the restart, its record ended, is recorded anew, so that it is judged like any other (R168). DEDUCED,
log entry 15. -/
def adoptScraper (b : Block) : Block :=
  setScraper (Panto.all.find? fun p => b.role p == .scraping && (b.lc p).state == .contact) b

/-- The breaker at the end of adoption (R112, R148). -/
def adoptBreaker (b : Block) : Block :=
  let b1 :=
    if b.sw.breaker.state = .closed ∧ (b.plan.hold = true ∨ closeConditions b = false) then openBreaker .internal b
    else b
  if b1.seq.phase = .halted ∧ b1.seq.haltReason = some .restart then openBreaker .internal b1 else b1

/-- The adoption scan of a restart (R45, R46, R178 step 1). -/
def adoption (b0 : Block) : Block :=
  let b := takeMaxUp b0
  let held := b.on .holdOver
  let b1 := if held then takePressures b else b
  let chosen := if held then adopted b1 else []
  let b2 := eachPanto (adoptOne chosen) b1
  adoptBreaker (adoptScraper { b2 with cond := { b2.cond with restart := none } })

/-! ## What closes every event -/

/-- One round of the blocks' answers to one another: the guard of the breaker (R104), lowers pending on it (R37), the
Sequencer's progress, and the ends of WAKING and of the standby lowering. -/
def round (b : Block) : Block := standbyCheck (wakingCheck (seqStep (releasePending (guardBreaker b))))

/-- `n` rounds. -/
def rounds : Nat → Block → Block
  | 0, b => b
  | n + 1, b => rounds n (round b)

/-- More rounds than one event can use: the longest chain of answers passes each phase of a path once. -/
def roundLimit : Nat := 12

/-- The end of an event that began at `s`, has done its own effect at `b`, and may concern other blocks: they answer
one another, the Ice Unit follows, whose discard of a scraper's raise may end the standby lowering (R171), the guard is
judged, and the epoch and the change masks are brought up. -/
def settle (s : Block) (judge : Bool) (b : Block) : Block :=
  close s (guardBreaker (standbyCheck (iceSettle s judge (rounds roundLimit b))))

end Sys2Proof.Machine
end

