-- ==== Sys2Proof/Machine/Links.lean ====
section
/-!
DEFINITION. The Link Interface (11_master_links.md): presence, the examination of a request, its reply, and the
contents of the reads.
-/

namespace Sys2Proof.Machine

/-- What a meaning answers. -/
abbrev Result := Host.Outcome State Fault Refusal

/-- The next state with the block `b`; the commands that wait are untouched. -/
def toNext (s : State) (b : Block) : Result := .next { s with block := b }

/-- An event that concerns other blocks: its effect on the block, then the settling. -/
def event (s : State) (judge : Bool) (f : Block → Block) : Result := toNext s (settle s.block judge (f s.block))

/-- An event whose effect concerns its own block and the masters' view alone. -/
def quietEvent (s : State) (f : Block → Block) : Result := toNext s (close s.block (f s.block))

/-! ## Links and masters -/

def Link.traction : Link → Bool
  | .a => true
  | .b => true
  | .p => false

/-- The traction master of a link. -/
def masterOf : Link → Option Master
  | .a => some .a
  | .b => some .b
  | .p => none

def sourceOf : Link → Source
  | .a => .a
  | .b => .b
  | .p => .p

/-- The origin of a role assigned on a request (R5). -/
def originOf : Link → Origin
  | .a => .a
  | .b => .b
  | .p => .internal

def setLink (l : Link) (r : LinkRec) (b : Block) : Block := { b with links := b.links.set l r }

/-- A valid frame refreshes its link's presence (R180, R183); it ends the frame in progress. -/
def refresh (l : Link) (b : Block) : Block :=
  setLink l { b.links.get l with present := true, age := some 0, frame := none } b

/-- The reply joins those of its link (R182). -/
def pushReply (l : Link) (r : Reply) (b : Block) : Block :=
  setLink l { b.links.get l with replies := (b.links.get l).replies ++ [r] } b

/-- A frame in progress is bad: the link's count rises and the frame is discarded (R180). -/
def dropFrame (l : Link) (b : Block) : Block :=
  setLink l { b.links.get l with badFrames := satAdd 65535 (b.links.get l).badFrames 1, frame := none } b

/-! ## The examination of a request (R4, R181) -/

/-- The column of the table of R4 in which a request stands. -/
inductive Column where
  /-- Open to either traction master, or not a traction master's. -/
  | anyMaster
  /-- Reserved to the lead holder. -/
  | lead
  /-- Wake: reserved to the lead holder while there is one. -/
  | leadIfHeld
  deriving DecidableEq, Repr

/-- The links a request is allowed on (11.4). -/
inductive Allowed where
  | traction | protection | every
  deriving DecidableEq, Repr

def Allowed.permits : Allowed → Link → Bool
  | .traction, l => Link.traction l
  | .protection, l => !Link.traction l
  | .every, _ => true

structure Gate where
  allowed : Allowed
  /-- Taken in DORMANT: a read or a Wake. -/
  dormant : Bool
  column  : Column
  deriving DecidableEq, Repr

/-- A request of a traction master that any of the two may make. -/
def Gate.masters : Gate := ⟨.traction, false, .anyMaster⟩
/-- A request reserved to the lead. -/
def Gate.leader : Gate := ⟨.traction, false, .lead⟩
/-- A request of the Protection Master. -/
def Gate.protection : Gate := ⟨.protection, false, .anyMaster⟩
def Gate.wake : Gate := ⟨.traction, true, .leadIfHeld⟩
def Gate.read : Gate := ⟨.every, true, .anyMaster⟩

/-- The link's master holds the lead. -/
def holdsLead (b : Block) (l : Link) : Bool := (masterOf l).isSome && masterOf l == b.plan.lead

/-- The lead check (R4). -/
def leadCheck (b : Block) (l : Link) : Column → Bool
  | .anyMaster => true
  | .lead => holdsLead b l
  | .leadIfHeld => b.plan.lead.isNone || holdsLead b l

/-- Checks 2 to 4 of R181, then the lead check of R4: the first that fails. -/
def examine (q : Req) (g : Gate) (b : Block) : Option RefCode :=
  if !g.allowed.permits q.link then some .wrongLink
  else if !q.wellFormed then some .outOfRange
  else if b.cond.mode = .dormant ∧ g.dormant = false then some .wrongMode
  else if !leadCheck b q.link g.column then some .notLead
  else none

/-! ## Answers -/

/-- How an owner's effect reaches the other blocks. -/
inductive Reach where
  /-- It does not: the epoch and the masks alone follow. -/
  | own
  | others
  /-- It does, and it is an event at which the scraper is judged in any case (R165). -/
  | scraper
  deriving DecidableEq, Repr

/-- An owner's answer: the block after its effect, the outcome, and the data of the reply. -/
structure Answer where
  block   : Block
  outcome : ReplyOutcome
  data    : ReplyData
  reach   : Reach

/-- Refused: nothing changes. -/
def refuse (c : RefCode) (b : Block) : Answer := ⟨b, .refused c, .none, .own⟩
/-- DONE with no change. -/
def unchanged (b : Block) : Answer := ⟨b, .done, .none, .own⟩
/-- An effect that concerns other blocks. -/
def effect (o : ReplyOutcome) (b : Block) : Answer := ⟨b, o, .none, .others⟩
/-- An effect on the owner's own state. -/
def ownEffect (o : ReplyOutcome) (b : Block) : Answer := ⟨b, o, .none, .own⟩

/-- A switch command's or withdrawal's answer: a refusal changes nothing. -/
def answerOf (r : Block × ReplyOutcome) : Answer := ⟨r.1, r.2, .none, if r.2.refuses then .own else .others⟩

/-- An answer that the state alone may decide first, with no change (R99, R109, R123). -/
def answerUnless (early : Option ReplyOutcome) (r : Block → Block × ReplyOutcome) (b : Block) : Answer :=
  match early with
  | some o => ownEffect o b
  | none => answerOf (r b)

/-- The event ends as far as the answer reaches. -/
def finish (s : Block) : Reach → Block → Block
  | .own, b => close s b
  | .others, b => settle s false b
  | .scraper, b => settle s true b

/-- The answer to a request: the first check that fails refuses it, otherwise its owner decides (R181). -/
def answer (q : Req) (g : Gate) (owner : Block → Answer) (b : Block) : Answer :=
  match examine q g (refresh q.link b) with
  | some c => refuse c (refresh q.link b)
  | none => owner (refresh q.link b)

/-- A valid request frame is taken: the presence of its link is refreshed, the request is examined, its owner
decides, and the reply echoes code and tag (R181 to R183). -/
def request (q : Req) (code : Nat) (g : Gate) (owner : Block → Answer) (s : State) : Result :=
  let a := answer q g owner s.block
  toNext s (finish s.block a.reach (pushReply q.link ⟨code, q.tag, a.outcome, a.data⟩ a.block))

/-! ## Reads (R186) -/

/-- A read that its parameter refuses, or its contents. -/
abbrev View := Block → Except RefCode ReplyData

def refusedRead (q : Req) (code : Nat) (c : RefCode) : Reply := ⟨code, q.tag, .refused c, .none⟩

/-- The reply to a read of the block `b` (R181, R186). -/
def readReply (q : Req) (code : Nat) (view : View) (b : Block) : Reply :=
  match examine q .read b with
  | some c => refusedRead q code c
  | none =>
    match view b with
    | .ok d => ⟨code, q.tag, .done, d⟩
    | .error c => refusedRead q code c

/-- A read: answered from the state at the event, which the presence of its own link is part of; nothing else
changes (R186). -/
def read (q : Req) (code : Nat) (view : View) (s : State) : Result :=
  let b := close s.block (refresh q.link s.block)
  toNext s (pushReply q.link (readReply q code view b) b)

/-- The pantograph of a numeric field. -/
def pantoOf (n : Nat) : Option Panto :=
  match n with
  | 1 => some .p1
  | 2 => some .p2
  | 3 => some .p3
  | 4 => some .p4
  | _ => none

def chanView (c : Chan) : ChanView := ⟨c.value, c.validity⟩

def roofPlanView (b : Block) : RoofPlanView :=
  ⟨b.plan.lead, b.plan.roles, b.plan.hold, b.plan.readyA, b.plan.readyB, b.plan.epoch, raisedCount b, committedCount b⟩

def pantoView (p : Panto) (b : Block) : PantoView :=
  let l := b.lc p
  { state := l.state
    held := l.held
    heldSearch := l.heldSearch
    lowerPending := l.lowerPending
    commanded := l.commanded
    targetForce := l.targetForce
    targetPressure := l.targetPressure
    touch := touchInUse b p
    actuator := chanView (b.sensors.actuator.get p)
    strip := chanView (b.sensors.strip.get p)
    height := chanView (b.sensors.height.get p)
    servoDeviation := l.servoDeviation
    lowerOverdue := l.lowerOverdue
    noWireLower := l.noWireLower
    forceClamped := l.forceClamped
    pressureClamped := l.pressureClamped
    uncalibrated := uncalibrated b p
    stale := stale b p
    search := l.search }

/-- Operation timeouts in milliseconds (6.1). -/
def switchTimeout : SwId → Nat
  | .breaker => 200
  | .selector => 1500
  | .iso _ => 2000
  | .earth => 3000

def twoView (limit : Nat) (s : TwoSw) : TwoSwView :=
  ⟨s.state, s.lastCmd, s.source, s.disagree, s.timer.map fun t => limit - t⟩

def switchesView (b : Block) : SwitchesView where
  breaker := twoView (switchTimeout .breaker) b.sw.breaker
  selector :=
    let s := b.sw.selector
    ⟨s.state, s.lastCmd, s.source, s.disagree, s.timer.map fun t => switchTimeout .selector - t⟩
  iso := .ofFun fun p => twoView (switchTimeout (.iso p)) (b.sw.iso.get p)
  earth := twoView (switchTimeout .earth) b.sw.earth

/-- The Line Record with the results of the latest window close, each absent before the first (R97). -/
def lineView (b : Block) : LineView :=
  ⟨b.record, b.line.result, b.line.result.bind WindowResult.lastPeriod, b.line.runClass, b.line.runLength, b.line.confirmed,
    b.line.measureFaulty, b.seq⟩

def iceView (b : Block) : IceView where
  score := b.ice.score
  raw := b.ice.raw
  hysteresis := b.ice.hysteresis
  fallStart := b.ice.fallStart
  forced := b.ice.forced
  enable := b.ice.enable
  watch := b.ice.watch
  cap := b.ice.cap
  level := b.ice.level
  demand := b.ice.demand
  duty := b.ice.duty
  preheat := b.ice.preheat
  scraper := b.ice.scraper
  lastLowering := b.ice.lastLowering
  arcCount := b.ice.arcCount

/-- The Arc History from an offset, at most 8 records, newest first (R152). -/
def arcsView (offset : Nat) (b : Block) : Except RefCode ReplyData :=
  if 31 < offset then .error .outOfRange
  else .ok (.arcs b.ice.arcCount b.ice.history.length ((b.ice.history.drop offset).take 8))

def linkView (l : LinkRec) : LinkView := ⟨l.present, l.age, l.badFrames, l.mask, l.mask != 0⟩

def countersView (b : Block) : PerL LinkView := ⟨linkView b.links.a, linkView b.links.b, linkView b.links.p⟩

/-- A read of one pantograph; a number outside 1 to 4 is refused. -/
def pantoRead (n : Nat) (f : Panto → Block → ReplyData) (b : Block) : Except RefCode ReplyData :=
  match pantoOf n with
  | some p => .ok (f p b)
  | none => .error .outOfRange

def calibrationView (p : Panto) (b : Block) : ReplyData :=
  .calibration (b.cal.get p).fields (b.cal.get p).saved (stale b p)

/-- A read of one configuration item; an unknown name is refused. -/
def itemView (item : Option Item) (b : Block) : Except RefCode ReplyData :=
  match item with
  | some i => .ok (.item (b.cfg i) i.lo i.hi i.initial b.cond.configSaved)
  | none => .error .outOfRange

/-- The mask of a link is emptied (R184). -/
def emptyMask (l : Link) (b : Block) : Block := setLink l { b.links.get l with mask := 0 } b

end Sys2Proof.Machine
end

