-- ==== Sys2Proof/Machine/Scan.lean ====
section
/-!
DEFINITION. What a completed scan does before the blocks answer one another: the passing of milliseconds (log entry
2), the fourteen channels (R22 to R24), the Lift Controllers or the adoption, and the self-test's judgements (R174).
-/

namespace Sys2Proof.Machine

/-! ## The passing of time -/

/-- The scan's period in milliseconds (R22). A scan in progress at a change to or from DORMANT counts with the period of
the mode in which it completes: the rule does not say which. DESIGN CHOICE, log entry 36. -/
def scanPeriod (b : Block) : Nat := if b.cond.mode = .dormant then 100 else 10

/-- A timer that runs, staying at its limit. -/
def tick (limit ms : Nat) (t : Option Nat) : Option Nat := t.map fun n => satAdd limit n ms

def SearchRec.tick (ms : Nat) (r : SearchRec) : SearchRec := { r with settle := Machine.tick 400 ms r.settle }

def Lift.tick (ms : Nat) (l : Lift) : Lift :=
  { l with
    raiseTimer := Machine.tick 65535 ms l.raiseTimer
    lowerTimer := Machine.tick 65535 ms l.lowerTimer
    dwellTimer := Machine.tick 1000 ms l.dwellTimer
    airTimer := Machine.tick 30000 ms l.airTimer
    devTimer := Machine.tick 2000 ms l.devTimer
    search := if l.state = .searching then l.search.map (SearchRec.tick ms) else l.search }

def TwoSw.tick (limit ms : Nat) (s : TwoSw) : TwoSw := { s with timer := Machine.tick limit ms s.timer }

def SelSw.tick (limit ms : Nat) (s : SelSw) : SelSw := { s with timer := Machine.tick limit ms s.timer }

def Switches.tick (ms : Nat) (w : Switches) : Switches where
  breaker := w.breaker.tick (switchTimeout .breaker) ms
  selector := w.selector.tick (switchTimeout .selector) ms
  iso := .ofFun fun p => (w.iso.get p).tick (switchTimeout (.iso p)) ms
  earth := w.earth.tick (switchTimeout .earth) ms

def LinkRec.tick (ms : Nat) (l : LinkRec) : LinkRec := { l with age := Machine.tick 65535 ms l.age }

def TestStep.tick (ms : Nat) : TestStep → TestStep
  | .valves p t => .valves p (satAdd 300 t ms)
  | t => t

/-- Every running timer and age advances by the period (log entry 2). -/
def passTime (ms : Nat) (b : Block) : Block :=
  { b with
    lift := .ofFun fun p => (b.lc p).tick ms
    sw := b.sw.tick ms
    queue := { b.queue with motionAge := satAdd 65535 b.queue.motionAge ms }
    seq := { b.seq with timer := Machine.tick 65535 ms b.seq.timer }
    cond := { b.cond with modeTimer := satAdd 65535 b.cond.modeTimer ms, testStep := b.cond.testStep.tick ms }
    links := ⟨b.links.a.tick ms, b.links.b.tick ms, b.links.p.tick ms⟩ }

/-! ## Channels (R23, R24) -/

/-- A conversion within a plausible range. -/
def plausible (lo hi : Int) (v : Option Int) : Option Int := v.filter fun x => lo ≤ x && x ≤ hi

def plausiblePressure (v : Option Int) : Option Int := plausible 0 6000 v

/-- A strip reading below 0 is taken as 0 (R23). -/
def plausibleStrip (v : Option Int) : Option Int := plausible 0 6000 (v.map fun x => if x < 0 then 0 else x)

def plausibleHeight (v : Option Int) : Option Int := plausible 0 3000 v

def plausibleAmbient (v : Option Int) : Option Int := plausible (-50) 60 v

/-- A channel takes what of its conversion is plausible (R23, R24). -/
def Chan.take (v : Option Int) (c : Chan) : Chan :=
  match v with
  | some x => ⟨some x, .good, false⟩
  | none => ⟨c.value, .faulty, true⟩

/-- SENSOR_FAULT is recorded where the channel is not plausible and not yet reported (R24). -/
def faultOf (v : Option Int) (c : Chan) (subject : Subject) (b : Block) : Block :=
  if v.isNone && !c.reported then recordFault .sensorFault subject b else b

def Sensors.take (r : Readings) (s : Sensors) : Sensors where
  actuator := .ofFun fun p => (s.actuator.get p).take (plausiblePressure (r.actuator.get p))
  strip := .ofFun fun p => (s.strip.get p).take (plausibleStrip (r.strip.get p))
  height := .ofFun fun p => (s.height.get p).take (plausibleHeight (r.height.get p))
  reservoir := s.reservoir.take (plausiblePressure r.reservoir)
  ambient := s.ambient.take (plausibleAmbient r.ambient)

/-- All fourteen channels are published together, then the faults of those newly implausible are recorded. -/
def publish (r : Readings) (b : Block) : Block :=
  let s := b.sensors
  let b1 := { b with sensors := s.take r }
  let b2 := eachPanto (fun p => faultOf (plausiblePressure (r.actuator.get p)) (s.actuator.get p) (.panto p)) b1
  let b3 := eachPanto (fun p => faultOf (plausibleStrip (r.strip.get p)) (s.strip.get p) (.panto p)) b2
  let b4 := eachPanto (fun p => faultOf (plausibleHeight (r.height.get p)) (s.height.get p) (.panto p)) b3
  faultOf (plausibleAmbient r.ambient) s.ambient .none
    (faultOf (plausiblePressure r.reservoir) s.reservoir .none b4)

/-! ## The self-test at a scan (R174) -/

/-- SENSORS is judged at the scan at 1000 ms. -/
def judgeSensors (b : Block) : Block :=
  if b.cond.mode = .waking ∧ 1000 ≤ b.cond.modeTimer ∧ b.cond.selfTest.sensors.reservoir = none then
    setTest { b.cond.selfTest with sensors := sensorResults b.sensors } b
  else b

/-- A pantograph whose strip fails in the self-test drops, its count and timers ended, without role or held raise (R13,
R41, R174). -/
def dropInTest (p : Panto) (b : Block) : Block := discardHeld p (enterDropped p b)

/-- STRIPS is judged at the scan after the pantograph's VALVES step; the next step then begins. A pantograph whose held raise
has begun since its VALVES check is judged all the same, and drops where its strip fails, without the drop's effects on a
path: R174 does not say whether its STRIPS step is SKIPPED. DESIGN CHOICE, log entry 22. -/
def judgeStrips (b : Block) : Block :=
  match b.cond.testStep with
  | .strips p =>
    match (b.sensors.strip.get p).reading with
    | some v =>
      if b.cfg .addLevel ≤ v then valvesFrom (Panto.after p) (setStrips p .pass b)
      else valvesFrom (Panto.after p) (setStrips p .fail (dropInTest p b))
    | none => valvesFrom (Panto.after p) (setStrips p .fail (dropInTest p b))
  | _ => b

def judgeTest (b : Block) : Block :=
  if b.cond.mode = .waking then judgeStrips (judgeSensors b) else b

/-! ## The scan -/

/-- The Lift Controllers' part: the adoption at the first scan of a restart whose records are loaded, otherwise a
scan of each (R44, R59). Between the restart and the adoption they wait. -/
def liftPart (b : Block) : Block :=
  if adoptionWaits b then (if b.cond.reloadPending then b else adoption b)
  else eachPanto (liftScan dropPanto) b

def scan (r : Readings) (b : Block) : Block := judgeTest (liftPart (publish r (passTime (scanPeriod b) b)))

end Sys2Proof.Machine
end

