-- ==== Sys2Proof/Machine/Arcs.lean ====
section
/-!
DEFINITION. SET_ICE_MODE and the Ice Unit's events: ARC_PULSE_START, ARC_PULSE_END, ARC_PULSE_TIMER_EXPIRY,
HEATER_PERIOD_START.
-/

namespace Sys2Proof.Machine

/-- Set Ice Mode (R156). -/
def setIceMode (forced : Nat) (enable : Bool) (b : Block) : Answer :=
  match b.cond.mode with
  | .dormant => refuse .wrongMode b
  | .waking => refuse .wrongMode b
  | _ =>
    if 3 < forced then refuse .outOfRange b
    else ⟨{ b with ice := { b.ice with forced := forced, enable := enable } }, .done, .none, .scraper⟩

def execSetIceMode (q : Req) (forced : Nat) (enable : Bool) (s : State) : Result :=
  request q 0x0C .leader (setIceMode forced enable) s

/-- ARC_PULSE_START: a rising edge, or a low level, on a detector line (R149). -/
def arcStart (p : Panto) (edge : ArcEdge) (b : Block) : Block :=
  let c := b.ice.capture.get p
  match edge, c.state with
  | .low, .waitLow => b.setCapture p { c with state := .low }
  | .rising, .low => b.setCapture p ⟨.timing, 0, b.role p == .collecting⟩
  | _, _ => b

def execArcPulseStart (p : Panto) (edge : ArcEdge) (s : State) : Result := quietEvent s (arcStart p edge)

/-- ARC_PULSE_END: a falling edge, with the pulse timer's value (R149, R150). -/
def arcEnd (p : Panto) (us : Nat) (b : Block) : Block :=
  let c := b.ice.capture.get p
  let n := min us pulseLimit
  match c.state with
  | .timing =>
    let b1 := b.setCapture p { c with state := .low, timer := n }
    if b.nat .arcMin ≤ n then makeArc p n c.mark b1 else b1
  | .heldHigh => b.setCapture p { c with state := .low }
  | .waitLow => b.setCapture p { c with state := .low }
  | .low => b

def execArcPulseEnd (p : Panto) (us : Nat) (s : State) : Result := event s false (arcEnd p us)

/-- ARC_PULSE_TIMER_EXPIRY: the pulse timer reaches 65,535 µs in TIMING (R150). -/
def arcExpiry (p : Panto) (b : Block) : Block :=
  let c := b.ice.capture.get p
  match c.state with
  | .timing => makeArc p pulseLimit c.mark (b.setCapture p { c with state := .heldHigh, timer := pulseLimit })
  | .waitLow => b
  | .low => b
  | .heldHigh => b

def execArcPulseTimerExpiry (p : Panto) (s : State) : Result := event s false (arcExpiry p)

/-- HEATER_PERIOD_START: every output takes the duty its pantograph holds (R162). -/
def heaterStart (b : Block) : Block := { b with ice := { b.ice with applied := b.ice.duty } }

def execHeaterPeriodStart (s : State) : Result := quietEvent s heaterStart

end Sys2Proof.Machine
end

