-- ==== Sys2Proof/Machine/Authority.lean ====
section
/-!
DEFINITION. Lead, readiness, modes and restart requests: CLAIM_LEAD, RELEASE_LEAD, DECLARE_READY, ENTER_MODE, WAKE,
HELD_WAKE_DUE, RESTART, and the emergency hold of the Protection Master: EMERGENCY_LOWER, RELEASE_HOLD.
-/

namespace Sys2Proof.Machine

def setLead (m : Option Master) (b : Block) : Block := { b with plan := { b.plan with lead := m } }

/-- A claim granted: the reply carries the plan epoch after the change (R1). -/
def claimed (m : Master) (b : Block) : Answer := ⟨setLead (some m) b, .done, .epoch (wrapSucc b.plan.epoch), .own⟩

/-- Claim Lead at the Roof Plan (R1). -/
def claimLead (l : Link) (b : Block) : Answer :=
  match masterOf l, b.plan.lead with
  | some m, none => claimed m b
  | some m, some h => if h = m then ⟨b, .done, .epoch b.plan.epoch, .own⟩ else refuse .leadHeld b
  | none, _ => refuse .wrongLink b

def execClaimLead (q : Req) (s : State) : Result := request q 0x01 .masters (claimLead q.link) s

/-- Release Lead (R2). -/
def releaseLead (l : Link) (b : Block) : Answer :=
  if holdsLead b l then ownEffect .done (setLead none b) else refuse .notLead b

def execReleaseLead (q : Req) (s : State) : Result := request q 0x02 .masters (releaseLead q.link) s

/-! ## Modes (R170 to R172) -/

/-- Enter Mode in STANDBY. -/
def fromStandby (target : Mode) (b : Block) : Answer :=
  match target with
  | .standby => unchanged b
  | .service =>
    if b.cond.configGood && b.cond.selfTest.completed then effect .done (setMode .service b) else refuse .interlock b
  | .workshop => effect .done (setMode .workshop b)
  | .dormant =>
    if b.cond.modeTimer < 2000 then refuse .tooSoon b
    else if roofAtRest b && b.sw.breaker.isOpen then effect .done (setMode .dormant b)
    else refuse .busy b
  | .waking => refuse .wrongMode b

/-- Enter Mode in SERVICE; the row of standby lowering comes before the others (R170, R171). -/
def fromService (target : Mode) (b : Block) : Answer :=
  match target with
  | .standby => if b.cond.standbyLowering then ownEffect .accepted b else effect .accepted (beginStandbyLowering b)
  | .service => if b.cond.standbyLowering then refuse .busy b else unchanged b
  | .dormant => if b.cond.standbyLowering then refuse .busy b else refuse .wrongMode b
  | .waking => if b.cond.standbyLowering then refuse .busy b else refuse .wrongMode b
  | .workshop => if b.cond.standbyLowering then refuse .busy b else refuse .wrongMode b

def fromWorkshop (target : Mode) (b : Block) : Answer :=
  match target with
  | .workshop => unchanged b
  | .standby => effect .done (setMode .standby b)
  | .service => refuse .wrongMode b
  | .dormant => refuse .wrongMode b
  | .waking => refuse .wrongMode b

/-- The table of R170. A target of WAKING, and of DORMANT in DORMANT, stands in no row of its own: log entry 34. -/
def enterMode (target : Mode) (b : Block) : Answer :=
  match b.cond.mode with
  | .standby => fromStandby target b
  | .service => fromService target b
  | .workshop => fromWorkshop target b
  | .waking => if target = .waking then unchanged b else refuse .wrongMode b
  | .dormant => refuse .wrongMode b

def execEnterMode (q : Req) (target : Mode) (s : State) : Result := request q 0x03 .leader (enterMode target) s

def setHeldWake (v : Bool) (b : Block) : Block := { b with cond := { b.cond with heldWake := v } }

/-- Wake (R172). -/
def wake (b : Block) : Answer :=
  if b.cond.mode ≠ .dormant then refuse .wrongMode b
  else if b.cond.heldWake then ownEffect .accepted b
  else if 1000 ≤ b.cond.modeTimer then effect .accepted (enterWaking .standby b)
  else ownEffect .accepted (setHeldWake true b)

def execWake (q : Req) (s : State) : Result := request q 0x04 .wake wake s

/-- HELD_WAKE_DUE: the mode timer reaches 1000 ms with a Wake held (R172). -/
def heldWakeDue (b : Block) : Block :=
  if b.cond.mode = .dormant ∧ b.cond.heldWake = true then enterWaking .standby b else b

def execHeldWakeDue (s : State) : Result := event s false heldWakeDue

/-! ## Readiness (R17) -/

def setReady (m : Master) (r : Option Ready) (b : Block) : Block :=
  match m with
  | .a => { b with plan := { b.plan with readyA := r } }
  | .b => { b with plan := { b.plan with readyB := r } }

/-- Declare Ready (R17). -/
def declareReady (l : Link) (sys : LineSystem) (serial : Nat) (b : Block) : Answer :=
  match masterOf l with
  | some m =>
    if b.record.determined = some sys ∧ b.record.serial = serial then
      effect .done (setReady m (some ⟨sys, serial⟩) b)
    else refuse .staleReady b
  | none => refuse .wrongLink b

def execDeclareReady (q : Req) (sys : LineSystem) (serial : Nat) (s : State) : Result :=
  request q 0x09 .masters (declareReady q.link sys serial) s

/-! ## Restart (R178) -/

/-- RESTART: answered ACCEPTED; the restart is taken when the reply has been sent. -/
def execRestart (q : Req) (s : State) : Result := request q 0x16 .leader (ownEffect .accepted) s

/-! ## Emergency hold (R15, R16) -/

def setHold (v : Bool) (b : Block) : Block := { b with plan := { b.plan with hold := v } }

/-- Emergency Lower: the hold, the open, the halt and the immediate lowers, at one event (R15, R144). -/
def emergencyLower (b : Block) : Block := lowerRoof true (halt .emergency (openBreaker .p (setHold true b)))

def execEmergencyLower (q : Req) (s : State) : Result :=
  request q 0x23 .protection (fun b => effect .accepted (emergencyLower b)) s

/-- Release Hold (R16). -/
def releaseHold (b : Block) : Answer := if b.plan.hold then effect .done (setHold false b) else unchanged b

def execReleaseHold (q : Req) (s : State) : Result := request q 0x24 .protection releaseHold s

end Sys2Proof.Machine
end

