-- ==== Sys2Proof/Machine/Changeover.lean ====
section
/-!
DEFINITION. The changeover's requests, SELECT_SYSTEM and CLEAR_HALT, and its timers: TRACTION_OFF_WAIT_EXPIRY,
CONFIRM_WAIT_EXPIRY, READY_WAIT_EXPIRY.
-/

namespace Sys2Proof.Machine

/-- Conditions 1 to 4 of a Select System (R130), the first of which is the mode alone. -/
def selectRefusal (b : Block) : Option RefCode :=
  if b.cond.mode ≠ .service then some .wrongMode
  else if b.seq.phase ≠ .idle ∧ b.seq.phase ≠ .halted then some .changeoverActive
  else if b.plan.hold then some .emergencyHold
  else if !earthOpen b then some .interlock
  else none

/-- The roof already collects on the system named, with the breaker CLOSED (R130). -/
def selectMet (b : Block) (sys : LineSystem) : Bool :=
  b.record.determined == some sys && b.sw.breaker.state == .closed &&
    Panto.all.any fun p => b.role p == .collecting && (b.lc p).state == .contact && serves (b.head p) sys

/-- Select System (R130). -/
def selectSystem (sys : Option LineSystem) (b : Block) : Answer :=
  match selectRefusal b with
  | some c => refuse c b
  | none =>
    match sys with
    | none => effect .accepted (startIdentify b)
    | some x => if selectMet b x then unchanged b else effect .accepted (startSelect x b)

def execSelectSystem (q : Req) (sys : Option LineSystem) (s : State) : Result :=
  request q 0x07 .leader (selectSystem sys) s

/-- The halt is left for IDLE (R142). -/
def leaveHalt (b : Block) : Block :=
  { b with seq := { b.seq with
      phase := .idle, haltReason := none, path := none, candidate := none, expected := none, retry := false
      activeEntry := none, work := .none, timer := none } }

/-- Clear Halt (R142). -/
def clearHaltOf (b : Block) : Answer :=
  match b.seq.phase with
  | .halted => effect .done (leaveHalt b)
  | .idle => unchanged b
  | _ => refuse .changeoverActive b

def execClearHalt (q : Req) (s : State) : Result := request q 0x08 .leader clearHaltOf s

/-- TRACTION_OFF_WAIT_EXPIRY: TRACTION_NOT_REDUCED is recorded and the breaker is opened under load (R132). -/
def tractionOffExpiry (b : Block) : Block :=
  if b.seq.phase = .tractionOff then enterBreakerOpen (recordFault .tractionNotReduced .none b) else b

def execTractionOffWaitExpiry (s : State) : Result := event s false tractionOffExpiry

/-- CONFIRM_WAIT_EXPIRY: the halt with reason NO_LINE (R137). -/
def confirmExpiry (b : Block) : Block := if b.seq.phase = .confirm then halt .noLine b else b

def execConfirmWaitExpiry (s : State) : Result := event s false confirmExpiry

/-- READY_WAIT_EXPIRY: the halt with reason MASTER_NOT_READY (R139). -/
def readyExpiry (b : Block) : Block := if b.seq.phase = .masterReady then halt .masterNotReady b else b

def execReadyWaitExpiry (s : State) : Result := event s false readyExpiry

end Sys2Proof.Machine
end

