-- ==== Sys2Proof/Machine/Configuration.lean ====
section
/-!
DEFINITION. CLEAR_FAULTS, WRITE_CONFIGURATION_ITEM, STORE_CONFIGURATION, and the memory port's completions:
CALIBRATION_ENTRY_WRITE_DONE, CONFIGURATION_STORE_DONE.
-/

namespace Sys2Proof.Machine

/-- Clear Faults, in STANDBY, SERVICE or WORKSHOP (R177). -/
def clearFaultsOf (b : Block) : Answer :=
  match b.cond.mode with
  | .dormant => refuse .wrongMode b
  | .waking => refuse .wrongMode b
  | _ => ownEffect .done { b with cond := { b.cond with faults := FaultRecord.empty } }

def execClearFaults (q : Req) (s : State) : Result := request q 0x13 .leader clearFaultsOf s

/-! ## Write Configuration Item (R176) -/

/-- The pantograph whose head class or roof end the item holds (R49). -/
def installed : Item → Option Panto
  | .headClassP1 => some .p1
  | .headClassP2 => some .p2
  | .headClassP3 => some .p3
  | .headClassP4 => some .p4
  | .roofEndP1 => some .p1
  | .roofEndP2 => some .p2
  | .roofEndP3 => some .p3
  | .roofEndP4 => some .p4
  | _ => none

/-- RAISING, CONTACT, SEARCHING or LOWERING. -/
def inMotion (b : Block) (p : Panto) : Bool := (b.lc p).state.raised || (b.lc p).state == .lowering

/-- The refusals of the owning rules, each BUSY: MaxUp below the committed count (R8), and a change of the installation
of a pantograph that is up, going up or coming down (R49). The latter is judged on the value after the clamp, so that a value
beyond the list that is clamped to the one that stands is no change. DESIGN CHOICE, log entry 44. -/
def writeBusy (b : Block) (i : Item) (v : Int) : Bool :=
  (i == .maxUp && v < (committedCount b : Int)) ||
    (match installed i with
      | some p => inMotion b p && clampItem b.cond.cfg i v != b.cfg i
      | none => false)

/-- The working record takes a value; the stored mark becomes UNSAVED (R176). -/
def writeItem (i : Item) (v : Int) (b : Block) : Block :=
  { b with
    cond := { b.cond with cfg := cfgSet b.cond.cfg i v, configSaved := false }
    mem := { b.mem with storeDirty := true } }

/-- What a write does at its event beyond the value: commanded pressures within a new Pmax and evaluations
(R47, R49, R60), the ice score and raw level (R154), the advisory (R158). -/
def afterWrite (i : Item) (b : Block) : Block :=
  let b1 := if i = .pmax then clampCommanded b else b
  let b2 := if forceLawItem i then evaluateUp b1 else b1
  match i with
  | .iceWindow => evaluateScore false b2
  | .iceT1 => retakeRaw b2
  | .iceT2 => retakeRaw b2
  | .iceT3 => retakeRaw b2
  | .currentLimit => if b2.ice.level = 3 then setAdvisory (some (b2.nat .currentLimit)) b2 else b2
  | _ => b2

/-- Write Configuration Item (R176): refused, or written and CLAMPED where the value was changed. -/
def writeConfigurationItem (item : Option Item) (v : Int) (b : Block) : Answer :=
  if b.cond.mode ≠ .workshop then refuse .wrongMode b
  else
    match item with
    | none => refuse .outOfRange b
    | some i =>
      if writeBusy b i v then refuse .busy b
      else
        let w := clampItem b.cond.cfg i v
        effect (if w = v then .done else .clamped) (afterWrite i (writeItem i w b))

def execWriteConfigurationItem (q : Req) (item : Option Item) (value : Int) (s : State) : Result :=
  request q 0x14 .leader (writeConfigurationItem item value) s

/-! ## Store Configuration (R176) -/

/-- A store is offered or in flight. -/
def storing (b : Block) : Bool :=
  b.mem.waiting.contains .store ||
    (match b.mem.inFlight with
      | some (.store _) => true
      | _ => false)

/-- Store Configuration (R176). -/
def storeConfiguration (b : Block) : Answer :=
  if b.cond.mode ≠ .workshop then refuse .wrongMode b
  else if storing b then refuse .busy b
  else ownEffect .accepted (offerWrite .store b)

def execStoreConfiguration (q : Req) (s : State) : Result := request q 0x15 .leader storeConfiguration s

/-! ## Completions at the memory port (R76, R77, R175, R176) -/

def setStored (p : Panto) (f : Option CalFields) (b : Block) : Block :=
  { b with mem := { b.mem with image := { b.mem.image with entries := b.mem.image.entries.set p f } } }

/-- The entry's stored mark becomes SAVED where the working entry has not changed since the write began (R77). -/
def saveEntry (p : Panto) (f : CalFields) (b : Block) : Block :=
  if (b.cal.get p).fields = f ∧ b.mem.waiting.contains (.entry p) = false then
    { b with cal := b.cal.set p ⟨f, true⟩ }
  else b

/-- The read-back of an entry write (R77). -/
def entryWritten (p : Panto) (f : CalFields) (r : EntryReadBack) (b : Block) : Block :=
  match r with
  | .matched => saveEntry p f (setStored p (some f) b)
  | .mismatchOldKept => b
  | .mismatchBad => setStored p none b

/-- CALIBRATION_ENTRY_WRITE_DONE (R77); a reload that waits follows the last write (R76, R175). -/
def entryWriteDone (r : EntryReadBack) (b : Block) : Block :=
  match b.mem.inFlight with
  | some (.entry p f) => reloadIfIdle (nextWrite (entryWritten p f r b))
  | _ => b

def execCalibrationEntryWriteDone (r : EntryReadBack) (s : State) : Result := event s false (entryWriteDone r)

/-- The read-back of a store (R176). -/
def storeWritten (c : CfgRec) (ok : Bool) (b : Block) : Block :=
  if ok then
    { b with
      mem := { b.mem with image := { b.mem.image with config := some c } }
      cond := { b.cond with configGood := true, configSaved := !b.mem.storeDirty } }
  else
    { b with
      mem := { b.mem with image := { b.mem.image with config := none } }
      cond := { b.cond with configGood := false, configSaved := false } }

/-- CONFIGURATION_STORE_DONE (R176); a reload that waits follows the last write (R76, R175). -/
def storeDone (ok : Bool) (b : Block) : Block :=
  match b.mem.inFlight with
  | some (.store c) => reloadIfIdle (nextWrite (storeWritten c ok b))
  | _ => b

def execConfigurationStoreDone (matched : Bool) (s : State) : Result := event s false (storeDone matched)

end Sys2Proof.Machine
end

