-- ==== Sys2Proof/Machine/Lifting.lean ====
section
/-!
DEFINITION. Requests about the pantographs: RAISE, RAISE_AUTO, LOWER, START_TOUCH_SEARCH, CLEAR_DROP,
SET_OUT_OF_SERVICE, RETURN_TO_SERVICE; and the Lift Controllers' timers: DWELL_EXPIRY, AIR_HOLD_EXPIRY, RAISE_TIMEOUT,
LOWER_TIMEOUT, SERVO_DEVIATION, AUTOMATIC_DROP.
-/

namespace Sys2Proof.Machine

/-- The mode is SERVICE with no accepted Enter STANDBY still lowering the roof. -/
def inService (b : Block) : Bool := b.cond.mode == .service && !b.cond.standbyLowering

/-! ## Raises (R6, R7) -/

/-- Conditions 1 to 4 of R6. -/
def raiseRefusal (b : Block) : Option RefCode :=
  if !inService b then some .wrongMode
  else if b.plan.hold then some .emergencyHold
  else if b.seq.phase ≠ .idle then some .changeoverActive
  else if !earthOpen b then some .interlock
  else none

/-- Pn collects and is RAISING, in CONTACT, or has a raise held. -/
def alreadyRaised (b : Block) (p : Panto) : Bool :=
  b.role p == .collecting && ((b.lc p).state.up || (b.lc p).held != .none)

def determinedServed (b : Block) (p : Panto) : Bool :=
  match b.record.determined with
  | some s => serves (b.head p) s
  | none => false

def otherCollects (b : Block) (p : Panto) : Bool := Panto.all.any fun x => x != p && b.role x == .collecting

/-- Conditions 5 to 9 of R6 and the outcome, for a Raise whose requester has link `l`. -/
def raiseNamed (l : Link) (p : Panto) (b : Block) : Answer :=
  if !available b p then refuse .notAvailable b
  else if alreadyRaised b p then unchanged b
  else if b.role p = .collecting ∧ (b.lc p).state = .lowering then
    if airAllows b p then effect .accepted (takeRaise p false b) else refuse .airLimit b
  else if (b.role p ≠ .none ∧ b.role p ≠ .collecting) ∨ (b.lc p).state = .searching then refuse .busy b
  else if !determinedServed b p then refuse .interlock b
  else if otherCollects b p then refuse .interlock b
  else if !airAllows b p then refuse .airLimit b
  else effect .accepted (takeRaise p false (setRole p .collecting (originOf l) b))

/-- Raise Pn (R6). -/
def raisePanto (l : Link) (p : Panto) (b : Block) : Answer :=
  match raiseRefusal b with
  | some c => refuse c b
  | none => raiseNamed l p b

def execRaise (q : Req) (p : Panto) (s : State) : Result := request q 0x05 .leader (raisePanto q.link p) s

/-- The preferred pantograph for the determined system (R7). -/
def preferredPanto (b : Block) : Option Panto :=
  (preferredOrder b).find? fun p => determinedServed b p && available b p

/-- A pantograph holds COLLECTING and serves the determined system (R7). -/
def servedCollector (b : Block) : Bool :=
  Panto.all.any fun p => b.role p == .collecting && determinedServed b p

/-- Raise AUTO (R7). -/
def raiseAutoOf (l : Link) (b : Block) : Answer :=
  match raiseRefusal b with
  | some c => refuse c b
  | none =>
    if b.record.determined = none then effect .accepted (startIdentify b)
    else if servedCollector b then unchanged b
    else match preferredPanto b with
      | some p => raiseNamed l p b
      | none => refuse .notAvailable b

def execRaiseAuto (q : Req) (s : State) : Result := request q 0x05 .leader (raiseAutoOf q.link) s

/-! ## Lower (R14, R144) -/

/-- The pantographs a Lower names. -/
def namedBy (n : Option Panto) : List Panto :=
  match n with
  | some p => [p]
  | none => Panto.all

/-- STOWED with no held raise. -/
def restsStowed (b : Block) (p : Panto) : Bool := (b.lc p).state == .stowed && (b.lc p).held == .none

/-- The lower is passed to the Lift Controllers of a list. -/
def passLowers : List Panto → Block → Block
  | [], b => b
  | p :: ps, b => passLowers ps (takeLower false p b)

/-- A VALVES step of the self-test runs on the pantograph (R174). -/
def inValves (b : Block) (p : Panto) : Bool :=
  match b.cond.testStep with
  | .valves q _ => q == p
  | _ => false

/-- Lower of one pantograph or of all four (R14, R36, R144). Where every one named is STOWED with no held raise nothing
changes, but for a VALVES step, which a lower ends (R174, log entry 22). -/
def lowerNamed (n : Option Panto) (b : Block) : Answer :=
  if (namedBy n).all (restsStowed b) then
    if (namedBy n).any (inValves b) then effect .done (passLowers (namedBy n) b) else unchanged b
  else effect .accepted (passLowers (namedBy n) (halt .masterLower b))

def execLower (q : Req) (named : Option Panto) (s : State) : Result := request q 0x06 .masters (lowerNamed named) s

/-! ## Touch search (R11, R65) -/

/-- Why a Start Touch Search is refused, in the order of R11 and R65. -/
def searchRefusal (b : Block) (p : Panto) : Option RefCode :=
  if b.plan.hold then some .emergencyHold
  else if !earthOpen b then some .interlock
  else if !available b p then some .notAvailable
  else if !(b.cond.mode == .workshop || inService b) then some .wrongMode
  else if 30 < b.queue.speed then some .interlock
  else if (b.lc p).state ≠ .stowed then some .busy
  else if b.role p ≠ .none then some .busy
  else if !isoOpen b p then some .interlock
  else if b.seq.phase ≠ .idle then some .changeoverActive
  else if !airAllows b p then some .airLimit
  else none

/-- Start Touch Search (R11, R65, R67). -/
def startTouchSearch (l : Link) (p : Panto) (b : Block) : Answer :=
  match searchRefusal b p with
  | some c => refuse c b
  | none => effect .accepted (takeRaise p true (setRole p .calibrating (originOf l) b))

def execStartTouchSearch (q : Req) (p : Panto) (s : State) : Result :=
  request q 0x0D .leader (startTouchSearch q.link p) s

/-! ## Clear Drop and out of service (R42, R43) -/

/-- The strip channel is GOOD and at or above AddLevel. -/
def stripWhole (b : Block) (p : Panto) : Bool :=
  match (b.sensors.strip.get p).reading with
  | some v => b.cfg .addLevel ≤ v
  | none => false

/-- Clear Drop (R42): the arrival in STOWED releases the quick-vent, starts the dwell and clears the role (R13, R30). -/
def clearDropOf (p : Panto) (b : Block) : Answer :=
  if b.cond.mode ≠ .standby ∧ b.cond.mode ≠ .workshop then refuse .wrongMode b
  else if (b.lc p).state ≠ .dropped then unchanged b
  else if stripWhole b p then effect .done (arriveStowed p b)
  else refuse .interlock b

def execClearDrop (q : Req) (p : Panto) (s : State) : Result := request q 0x0E .leader (clearDropOf p) s

/-- STANDBY, SERVICE or WORKSHOP. -/
def awakeMode (b : Block) : Bool :=
  match b.cond.mode with
  | .standby => true
  | .service => true
  | .workshop => true
  | .waking => false
  | .dormant => false

/-- A pantograph becomes OUT_OF_SERVICE: its pressure is 0 and its role is cleared (R13, R43). -/
def takeOutOfService (p : Panto) (b : Block) : Block :=
  clearRole p (b.setLift p { (b.lc p).noTarget with
    state := .outOfService, commanded := 0, quickVent := false, lowStrip := 0 })

/-- Set Out of Service (R43). -/
def outOfServiceOf (p : Panto) (b : Block) : Answer :=
  if !awakeMode b then refuse .wrongMode b
  else if restsStowed b p then effect .done (takeOutOfService p b)
  else if (b.lc p).state = .outOfService then unchanged b
  else refuse .busy b

def execSetOutOfService (q : Req) (p : Panto) (s : State) : Result := request q 0x0F .leader (outOfServiceOf p) s

/-- Return to Service (R43), with the arrival in STOWED as any other: a role given since to a candidate out of service is
cleared (R13, R30). -/
def returnOf (p : Panto) (b : Block) : Answer :=
  if !awakeMode b then refuse .wrongMode b
  else if (b.lc p).state = .outOfService then effect .done (arriveStowed p b)
  else unchanged b

def execReturnToService (q : Req) (p : Panto) (s : State) : Result := request q 0x10 .leader (returnOf p) s

/-! ## Timers of the Lift Controllers

A warm restart ends every timer (R44): none expires while it waits for its adoption scan. -/

/-- DWELL_EXPIRY: 1000 ms in STOWED have passed; a raise held DWELL is judged as though taken now (R30, R32). -/
def dwellExpiry (p : Panto) (b : Block) : Block :=
  if (b.lc p).dwellTimer.isNone then b
  else
    let b1 := b.setLift p { b.lc p with dwellTimer := none }
    if (b1.lc p).state = .stowed ∧ (b1.lc p).held = .dwell then
      if airSufficient b1 then heldDue p b1
      else b1.setLift p { b1.lc p with held := .air, airTimer := some 0 }
    else b1

def execDwellExpiry (p : Panto) (s : State) : Result := event s false (onceAdopted (dwellExpiry p))

/-- AIR_HOLD_EXPIRY: the raise held AIR is discarded and AIR_LOW recorded (R31). -/
def airHoldExpiry (p : Panto) (b : Block) : Block :=
  if (b.lc p).held = .air then discardHeld p (recordFault .airLow (.panto p) b) else b

def execAirHoldExpiry (p : Panto) (s : State) : Result := event s false (onceAdopted (airHoldExpiry p))

/-- RAISE_TIMEOUT (R34). -/
def execRaiseTimeout (p : Panto) (s : State) : Result := event s false (onceAdopted (raiseTimeoutOf p))

/-- The Sequencer waits for the roof to come down (R134, R136). -/
def waitsForRoof (b : Block) : Bool :=
  b.seq.phase == .lowering || (b.seq.phase == .probe && b.seq.work == .awaitDown)

/-- LOWER_TIMEOUT: the pressure is set to 0, the quick-vent asserted, and a wait for the roof halts (R40, R134). -/
def lowerTimeout (p : Panto) (b : Block) : Block :=
  if (b.lc p).state = .lowering ∧ (b.lc p).lowerOverdue = false then
    let b1 := recordFault .lowerTimeout (.panto p)
      (b.setLift p { b.lc p with commanded := 0, quickVent := true, lowerOverdue := true })
    if waitsForRoof b then halt .lower b1 else b1
  else b

def execLowerTimeout (p : Panto) (s : State) : Result := event s false (onceAdopted (lowerTimeout p))

/-- SERVO_DEVIATION: 2000 ms beyond the deviation band (R35). -/
def execServoDeviation (p : Panto) (s : State) : Result := event s false (onceAdopted (servoDeviationOf p))

/-- AUTOMATIC_DROP: the low-strip count reaches 2 (R41, R146, R147). -/
def execAutomaticDrop (p : Panto) (s : State) : Result := event s false (onceAdopted (dropIfRaised p))

end Sys2Proof.Machine
end

