-- ==== Sys2Proof/Machine/Measurement.lean ====
section
/-!
DEFINITION. SCAN_COMPLETE, the self-test's events (SELF_TEST_VALVES_START, SELF_TEST_VALVES_CHECK, END_OF_WAKING,
SELF_TEST_TIMEOUT) and the Line Monitor's (SAMPLE_PAIR, WINDOW_CLOSE).
-/

namespace Sys2Proof.Machine

/-- SCAN_COMPLETE (R22): the scan, then the Ice Unit's judgements (R165). -/
def execScanComplete (r : Readings) (s : State) : Result := event s true (scan r)

/-- SELF_TEST_VALVES_START: 1000 ms of WAKING have passed and the VALVES steps begin with P1's (R174). -/
def valvesStart (b : Block) : Block :=
  if b.cond.mode = .waking ∧ b.cond.testStep = .notBegun ∧ adoptionWaits b = false then
    valvesFrom Panto.all (reachModeTime 1000 b)
  else b

def execSelfTestValvesStart (s : State) : Result := event s false valvesStart

/-- A failed valve: OUT_OF_SERVICE with SERVO_DEVIATION recorded, and without role or held raise (R174, R13). -/
def failValve (p : Panto) (b : Block) : Block :=
  discardHeld p (recordFault .servoDeviation (.panto p)
    (b.setLift p { b.lc p with state := .outOfService, lowStrip := 0, lowerPending := false }))

/-- The actuator reading is at 200 or above; a FAULTY channel is judged on its held value (log entry 21). -/
def valveHolds (b : Block) (p : Panto) : Bool :=
  match (b.sensors.actuator.get p).heldValue with
  | some v => 200 ≤ v
  | none => false

/-- The judgement of a VALVES step; the pressure returns to 0 (R174). -/
def judgeValve (p : Panto) (b : Block) : Block :=
  let b1 := setTestStep (.strips p) (b.setLift p { b.lc p with commanded := 0 })
  if valveHolds b p then setValves p .pass b1 else setValves p .fail (failValve p b1)

/-- SELF_TEST_VALVES_CHECK: 300 ms have passed from the command of 500 (R174). -/
def valvesCheck (b : Block) : Block :=
  match b.cond.testStep with
  | .valves p _ => judgeValve p b
  | _ => b

def execSelfTestValvesCheck (s : State) : Result := event s false valvesCheck

/-- END_OF_WAKING: 2000 ms have passed and every item before LINKS has its result (R174). WAKING does not end before an
adoption that waits (R178). -/
def endOfWaking (b : Block) : Block :=
  if b.cond.mode = .waking ∧ judged b.cond.selfTest = true then onceAdopted completeWaking (reachModeTime 2000 b) else b

def execEndOfWaking (s : State) : Result := event s false endOfWaking

/-- SELF_TEST_TIMEOUT: 4000 ms have passed with an item still without result (R174). WAKING does not end before an
adoption that waits (R178). -/
def selfTestTimeout (b : Block) : Block :=
  if b.cond.mode = .waking ∧ judged b.cond.selfTest = false then onceAdopted timeoutWaking (reachModeTime 4000 b) else b

def execSelfTestTimeout (s : State) : Result := event s false selfTestTimeout

/-! ## Sample slots (R79 to R82) -/

/-- SAMPLE_PAIR: one slot of the converter. The slot that is the window's 320th closes it. -/
def execSamplePair (slot : SampleSlot) (s : State) : Result :=
  if lastSlot s.block then event s false (fun b => closeWindow (takeSlot slot b))
  else quietEvent s (takeSlot slot)

/-- WINDOW_CLOSE: the slot that closes a window (R82). A slot that is not yet the 320th is taken as any other (log
entry 7). -/
def execWindowClose (slot : SampleSlot) (s : State) : Result :=
  if lastSlot s.block then event s false (fun b => closeWindow (takeSlot slot b))
  else quietEvent s (takeSlot slot)

end Sys2Proof.Machine
end

