-- ==== Sys2Proof/Machine/Motion.lean ====
section
/-!
DEFINITION. The Protection Master's requests about the route, MOTION_REPORT, ANNOUNCE_MARKER, WITHDRAW_MARKER, and the
timers of the motion age: MOTION_STALE, POSITION_LOST.
-/

namespace Sys2Proof.Machine

/-- Motion Report (R114, R115): refused, or accepted and CLAMPED where the speed is above 400. -/
def motionReport (position speed : Nat) (direction : Direction) (b : Block) : Answer :=
  if motionRefused b position speed direction then refuse .outOfRange b
  else
    ⟨scoreAtMotion (acceptMotion position speed direction b), if 400 < speed then .clamped else .done, .none, .scraper⟩

def execMotionReport (q : Req) (position speed : Nat) (direction : Direction) (s : State) : Result :=
  request q 0x20 .protection (motionReport position speed direction) s

/-- Announce Marker (R118 to R120): the reply carries the id evicted. -/
def announceMarker (m : Marker) (b : Block) : Answer :=
  match markerRefusal b m with
  | some c => refuse c b
  | none => ⟨insertMarker m b, .done, .evicted (evictedBy b m), .others⟩

def execAnnounceMarker (q : Req) (m : Marker) (s : State) : Result := request q 0x21 .protection (announceMarker m) s

/-- Withdraw Marker (R123, R143). -/
def execWithdrawMarker (q : Req) (id : Nat) (s : State) : Result :=
  request q 0x22 .protection (fun b => answerUnless (if holdsId b id then none else some .done) (withdraw id) b) s

/-- The motion age has come to `n`. -/
def reachMotionAge (n : Nat) (b : Block) : Block :=
  { b with queue := { b.queue with motionAge := max n b.queue.motionAge } }

/-- MOTION_STALE: the motion age reaches 1000 ms (R116). -/
def motionStale (b : Block) : Block :=
  let b1 := reachMotionAge 1000 b
  { b1 with queue := { b1.queue with stale := true } }

def execMotionStale (s : State) : Result := quietEvent s motionStale

/-- POSITION_LOST: the motion age reaches 5000 ms; a path in ARMED or COAST halts (R116, R130, R135, R145). -/
def positionLost (b : Block) : Block :=
  let b1 := reachMotionAge 5000 b
  match b.seq.phase with
  | .armed => halt .positionLost b1
  | .coast => halt .positionLost b1
  | _ => b1

def execPositionLost (s : State) : Result := event s false positionLost

end Sys2Proof.Machine
end

