-- ==== Sys2Proof/Machine/Reads.lean ====
section
/-!
DEFINITION. The reads (R152, R184, R186).
-/

namespace Sys2Proof.Machine

/-- READ_STATUS_DIGEST: the reply carries the reading link's mask before the read and the digest; the read then
empties that mask (R184, R187). A read that R181 refuses empties nothing. -/
def execReadStatusDigest (q : Req) (s : State) : Result :=
  let b := close s.block (refresh q.link s.block)
  match examine q .read b with
  | some c => toNext s (pushReply q.link (refusedRead q 0x40 c) b)
  | none =>
    toNext s (emptyMask q.link
      (pushReply q.link ⟨0x40, q.tag, .done, .digest (digestBytes (b.links.get q.link).mask b)⟩ b))

def execReadRoofPlan (q : Req) (s : State) : Result := read q 0x41 (fun b => .ok (.roofPlan (roofPlanView b))) s

def execReadPantographStatus (q : Req) (n : Nat) (s : State) : Result :=
  read q 0x42 (pantoRead n fun p b => .panto (pantoView p b)) s

def execReadSwitches (q : Req) (s : State) : Result := read q 0x43 (fun b => .ok (.switches (switchesView b))) s

def execReadLineRecord (q : Req) (s : State) : Result := read q 0x44 (fun b => .ok (.line (lineView b))) s

def execReadSectionQueue (q : Req) (s : State) : Result := read q 0x45 (fun b => .ok (.sections b.queue)) s

def execReadIce (q : Req) (s : State) : Result := read q 0x46 (fun b => .ok (.ice (iceView b))) s

def execReadArcHistory (q : Req) (offset : Nat) (s : State) : Result := read q 0x47 (arcsView offset) s

def execReadCalibration (q : Req) (n : Nat) (s : State) : Result := read q 0x48 (pantoRead n calibrationView) s

def execReadFaultRecord (q : Req) (s : State) : Result := read q 0x49 (fun b => .ok (.faults b.cond.faults)) s

def execReadSelfTest (q : Req) (s : State) : Result :=
  read q 0x4A (fun b => .ok (.selfTest b.cond.selfTest b.cond.mode b.cond.modeTimer b.cond.returnMode)) s

def execReadLinkCounters (q : Req) (s : State) : Result := read q 0x4B (fun b => .ok (.counters (countersView b))) s

def execReadConfigurationItem (q : Req) (item : Option Item) (s : State) : Result := read q 0x4C (itemView item) s

end Sys2Proof.Machine
end

