-- ==== Sys2Proof/Machine/Resets.lean ====
section
/-!
DEFINITION. The resets: POWER_ON and WARM_RESTART.
-/

namespace Sys2Proof.Machine

/-- POWER_ON (R173): every block at its power-on value, whatever stood before (R20, R27, R63, R96, R110, R126, R148,
R153, R159, R175 to R177, R180, R183, R184). The counter of free values goes on (log entry 9). -/
def execPowerOn (contacts : Contacts) (mem : MemImage) (s : State) : Result :=
  toNext s { powerOn contacts mem with freeCount := s.block.freeCount }

/-- WARM_RESTART: the restart line is asserted (R178). -/
def execWarmRestart (contacts : Contacts) (s : State) : Result := toNext s (warmRestart contacts s.block)

end Sys2Proof.Machine
end

