-- ==== Sys2Proof/Machine/SwitchCommands.lean ====
section
/-!
DEFINITION. The switch requests: OPEN_BREAKER, CLOSE_BREAKER, the SWITCH_COMMAND family, CLEAR_SWITCH_FAULT; and the
Switch Unit's events: SETTLED_READING, SWITCH_OPERATION_TIMEOUT.
-/

namespace Sys2Proof.Machine

/-- A master's open of the line breaker (R102). -/
def openOf (l : Link) (b : Block) : Answer := effect (openReply b) (openBreaker (sourceOf l) b)

def execOpenBreaker (q : Req) (s : State) : Result := request q 0x0A .masters (openOf q.link) s

/-- A close from condition 2 of R103. -/
def closeFromPhase (l : Link) (b : Block) : Answer :=
  if b.seq.phase ≠ .idle then refuse .changeoverActive b
  else if b.plan.hold then refuse .emergencyHold b
  else answerUnless (b.sw.breaker.examine .closed) (closeBreaker (sourceOf l)) b

/-- Close Breaker (R103). -/
def closeOf (l : Link) (b : Block) : Answer :=
  if (b.cond.mode = .service ∧ b.cond.standbyLowering = false) ∨ b.cond.mode = .workshop then closeFromPhase l b
  else refuse .wrongMode b

def execCloseBreaker (q : Req) (s : State) : Result := request q 0x0B .leader (closeOf q.link) s

/-! ## Switch Command (R108): the code 0x11 names switch and position -/

/-- A Switch Command to open the breaker, decided by R102 in every mode. -/
def commandBreakerOpen (l : Link) (b : Block) : Answer := effect (openReply b) (openBreaker (sourceOf l) b)

def execSwitchCommandBreakerOpen (q : Req) (s : State) : Result :=
  request q 0x11 .leader (commandBreakerOpen q.link) s

/-- The phases in which the candidate's isolator or the selector leaving its position halts the path (R137). -/
def watchesSwitches (b : Block) : Bool :=
  b.seq.phase == .confirm || b.seq.phase == .masterReady || b.seq.phase == .close

/-- The candidate's isolator, CLOSED at the event's start, or the selector, at the candidate's class then, has left
its position (R137). -/
def leftPosition (s b : Block) : Bool :=
  match s.seq.candidate with
  | none => false
  | some c =>
    ((s.sw.iso.get c).state == .closed && (b.sw.iso.get c).state != .closed) ||
      (selectorAt s c && !selectorAt b c)

/-- The switch work of a path is set: in COAST, or in the preparation of PROBE (R135, R136). Once done it counts until COAST
is left, so that a switch FAILED while the position is waited for halts the path: R135 does not say whether that switch is
still "of the work". DESIGN CHOICE, log entry 43. -/
def worksSwitches (b : Block) : Bool :=
  (b.seq.phase == .coast || b.seq.phase == .probe) && !staysUp b && b.seq.candidate.isSome &&
    (b.seq.work == .switches || b.seq.work == .isolator || b.seq.work == .ready)

/-- A switch of the work, the selector or an isolator, reports FAILED (R135). -/
def workFails (s b : Block) : Bool :=
  (s.sw.selector.state != .failed && b.sw.selector.state == .failed) ||
    Panto.all.any fun p => (s.sw.iso.get p).state != .failed && (b.sw.iso.get p).state == .failed

/-- The halt with reason SWITCH that a movement brings: in CONFIRM, MASTER_READY and CLOSE where a switch leaves its
position (R137), in the switch work where one of its switches reports FAILED (R135). -/
def haltIfLeft (s b : Block) : Block :=
  if (watchesSwitches s && leftPosition s b) || (worksSwitches s && workFails s b) then halt .switch b else b

/-- A switch command whose movement may halt a path (R137). -/
def watched (f : Block → Block × ReplyOutcome) (b : Block) : Block × ReplyOutcome := (haltIfLeft b (f b).1, (f b).2)

/-- What a Switch Command does in WORKSHOP; in every other mode it is refused (R108). -/
def inWorkshop (f : Block → Answer) (b : Block) : Answer :=
  if b.cond.mode = .workshop then f b else refuse .wrongMode b

def execSwitchCommandBreakerClose (q : Req) (s : State) : Result :=
  request q 0x11 .leader (inWorkshop (closeFromPhase q.link)) s

def execSwitchCommandSelector (q : Req) (pos : SelPos) (s : State) : Result :=
  request q 0x11 .leader (inWorkshop fun b =>
    answerUnless (b.sw.selector.examine pos) (watched (moveSelector pos (sourceOf q.link))) b) s

def execSwitchCommandIsolator (q : Req) (p : Panto) (pos : TwoPos) (s : State) : Result :=
  request q 0x11 .leader (inWorkshop fun b =>
    answerUnless ((b.sw.iso.get p).examine pos) (watched (moveIsolator p pos (sourceOf q.link))) b) s

def execSwitchCommandEarth (q : Req) (pos : TwoPos) (s : State) : Result :=
  request q 0x11 .leader (inWorkshop fun b =>
    answerUnless (b.sw.earth.examine pos) (moveEarth pos (sourceOf q.link)) b) s

/-- The switch is FAILED. -/
def switchFailed (b : Block) : SwId → Bool
  | .breaker => b.sw.breaker.state == .failed
  | .selector => b.sw.selector.state == .failed
  | .iso p => (b.sw.iso.get p).state == .failed
  | .earth => b.sw.earth.state == .failed

/-- Clear Switch Fault (R109); of a switch that is not FAILED it is DONE with no change. -/
def clearSwitchFault (l : Link) (sw : SwId) (b : Block) : Answer :=
  if b.cond.mode = .standby ∨ b.cond.mode = .workshop then
    answerUnless (if switchFailed b sw then none else some .done) (clearSwitchFaultOf sw (sourceOf l)) b
  else refuse .wrongMode b

def execClearSwitchFault (q : Req) (sw : SwId) (s : State) : Result :=
  request q 0x12 .leader (clearSwitchFault q.link sw) s

/-! ## Readings and timeouts (R98, R100, R101) -/

/-- SETTLED_READING (R98, R100, R101). -/
def settledReading (r : SettledReading) (b : Block) : Block := haltIfLeft b (takeReading r b)

def execSettledReading (r : SettledReading) (s : State) : Result := event s false (settledReading r)

/-- SWITCH_OPERATION_TIMEOUT (R100). -/
def switchTimeoutOf (sw : SwId) (b : Block) : Block := haltIfLeft b (takeTimeout sw b)

def execSwitchOperationTimeout (sw : SwId) (s : State) : Result := event s false (switchTimeoutOf sw)

end Sys2Proof.Machine
end

