-- ==== Sys2Proof/Machine/Frames.lean ====
section
/-!
DEFINITION. The links' own events (R180 to R183): UNKNOWN_REQUEST, BAD_FRAME, FRAME_BYTE_TIMEOUT, FRAME_OPENED,
REPLY_SENT, LINK_PRESENCE_TIMEOUT.
-/

namespace Sys2Proof.Machine

/-- UNKNOWN_REQUEST: check 1 of R181 fails, on any link and in any mode; the presence is refreshed (R180). -/
def execUnknownRequest (q : Req) (code : Nat) (s : State) : Result :=
  toNext s (close s.block
    (pushReply q.link ⟨code, q.tag, .refused .unknownRequest, .none⟩ (refresh q.link s.block)))

/-- BAD_FRAME: a frame comes that is bad (R180). -/
def execBadFrame (l : Link) (_why : FrameFault) (s : State) : Result := quietEvent s (dropFrame l)

/-- More than 100 microseconds pass after a byte: a frame in progress is bad (R180). -/
def byteTimeout (l : Link) (b : Block) : Block :=
  if (b.links.get l).frame.isSome then dropFrame l b else b

def execFrameByteTimeout (l : Link) (s : State) : Result := quietEvent s (byteTimeout l)

/-! ## Bytes (R180) -/

def setFrame (l : Link) (f : Option (List Byte)) (b : Block) : Block :=
  setLink l { b.links.get l with frame := f } b

/-- The meaning of a request that a frame carries. No other command comes from a frame. -/
def runRequest (i : Instr) (s : State) : Result :=
  match i with
  | .claimLead q => execClaimLead q s
  | .releaseLead q => execReleaseLead q s
  | .enterMode q m => execEnterMode q m s
  | .wake q => execWake q s
  | .raise q p => execRaise q p s
  | .raiseAuto q => execRaiseAuto q s
  | .lower q p => execLower q p s
  | .selectSystem q x => execSelectSystem q x s
  | .clearHalt q => execClearHalt q s
  | .declareReady q x n => execDeclareReady q x n s
  | .openBreaker q => execOpenBreaker q s
  | .closeBreaker q => execCloseBreaker q s
  | .setIceMode q f e => execSetIceMode q f e s
  | .startTouchSearch q p => execStartTouchSearch q p s
  | .clearDrop q p => execClearDrop q p s
  | .setOutOfService q p => execSetOutOfService q p s
  | .returnToService q p => execReturnToService q p s
  | .switchCommandBreakerOpen q => execSwitchCommandBreakerOpen q s
  | .switchCommandBreakerClose q => execSwitchCommandBreakerClose q s
  | .switchCommandSelector q x => execSwitchCommandSelector q x s
  | .switchCommandIsolator q p x => execSwitchCommandIsolator q p x s
  | .switchCommandEarth q x => execSwitchCommandEarth q x s
  | .clearSwitchFault q x => execClearSwitchFault q x s
  | .clearFaults q => execClearFaults q s
  | .writeConfigurationItem q x v => execWriteConfigurationItem q x v s
  | .storeConfiguration q => execStoreConfiguration q s
  | .restart q => execRestart q s
  | .motionReport q x v d => execMotionReport q x v d s
  | .announceMarker q m => execAnnounceMarker q m s
  | .withdrawMarker q n => execWithdrawMarker q n s
  | .emergencyLower q => execEmergencyLower q s
  | .releaseHold q => execReleaseHold q s
  | .readStatusDigest q => execReadStatusDigest q s
  | .readRoofPlan q => execReadRoofPlan q s
  | .readPantographStatus q n => execReadPantographStatus q n s
  | .readSwitches q => execReadSwitches q s
  | .readLineRecord q => execReadLineRecord q s
  | .readSectionQueue q => execReadSectionQueue q s
  | .readIce q => execReadIce q s
  | .readArcHistory q n => execReadArcHistory q n s
  | .readCalibration q n => execReadCalibration q n s
  | .readFaultRecord q => execReadFaultRecord q s
  | .readSelfTest q => execReadSelfTest q s
  | .readLinkCounters q => execReadLinkCounters q s
  | .readConfigurationItem q x => execReadConfigurationItem q x s
  | .unknownRequest q c => execUnknownRequest q c s
  | .powerOn _ _ | .warmRestart _ | .heldWakeDue | .badFrame _ _ | .frameByteTimeout _ | .replySent _ _
  | .linkPresenceTimeout _ | .scanComplete _ | .selfTestValvesStart | .selfTestValvesCheck | .endOfWaking
  | .selfTestTimeout | .dwellExpiry _ | .airHoldExpiry _ | .raiseTimeout _ | .lowerTimeout _ | .servoDeviation _
  | .automaticDrop _ | .samplePair _ | .windowClose _ | .tractionOffWaitExpiry | .confirmWaitExpiry
  | .readyWaitExpiry | .settledReading _ | .switchOperationTimeout _ | .motionStale | .positionLost
  | .arcPulseStart _ _ | .arcPulseEnd _ _ | .arcPulseTimerExpiry _ | .heaterPeriodStart
  | .calibrationEntryWriteDone _ | .configurationStoreDone _ | .frameOpened _ _ => toNext s s.block

/-- A frame in progress stands at `bs`. -/
def takeFrame (l : Link) (bs : List Byte) (s : State) : Result :=
  match judgeFrame bs with
  | .more => toNext s (setFrame l (some bs) s.block)
  | .bad _ => quietEvent s (dropFrame l)
  | .valid code tag payload => runRequest (parseRequest l code tag payload) s

/-- FRAME_OPENED: one byte arrives. Outside a frame 0xC3 opens one and any other byte is passed over; a byte of a
frame in progress is taken into it, and at its check byte a valid frame's request is taken (R180, R181). -/
def execFrameOpened (l : Link) (byte : Byte) (s : State) : Result :=
  match (s.block.links.get l).frame with
  | none => toNext s (if byte = 0xC3#8 then setFrame l (some []) s.block else s.block)
  | some bs => takeFrame l (bs ++ [byte]) s

/-! ## Replies (R182) -/

/-- REPLY_SENT: the reply being sent ends and the next begins; after the reply to an accepted Restart the warm
restart is taken, from the contacts as they stand (R178, R182). -/
def execReplySent (l : Link) (contacts : Contacts) (s : State) : Result :=
  match (s.block.links.get l).replies with
  | [] => toNext s s.block
  | r :: rest =>
    let b := setLink l { s.block.links.get l with replies := rest } s.block
    toNext s (if r.code = 0x16 ∧ r.outcome = .accepted then warmRestart contacts b else b)

/-! ## The bytes of a reply (R179)

The request's code and tag are echoed. The data follow the outcome of a DONE or CLAMPED reply. -/

/-- The outcome, and after REFUSED the refusal code, numbered from 1 in the order of R179. -/
def outcomeBytes : ReplyOutcome → List Nat
  | .accepted => [0x00]
  | .done => [0x01]
  | .clamped => [0x02]
  | .refused c => [0x03, c.ctorIdx + 1]

/-- The data of a reply in bytes, or none where the spec gives contents without a layout. A reply with no evicted marker
carries its outcome alone. DESIGN CHOICE, log entry 27. -/
def dataBytes : ReplyData → Option (List Nat)
  | .none => some []
  | .epoch n => some (bytes2 n)
  | .evicted id => some ((id.map bytes2).getD [])
  | .digest bytes => some (bytes.map BitVec.toNat)
  | _ => none

/-- Kind, code, tag, length and payload of a reply (R179). -/
def replyBody (code tag : Nat) (payload : List Nat) : List Byte :=
  (0x02 :: code :: tag :: payload.length :: payload).map (BitVec.ofNat 8)

/-- The frame of a reply: the start byte, the body and its check (R179). -/
def replyFrame (r : Reply) : Option (List Byte) :=
  (dataBytes r.data).map fun data =>
    let body := replyBody r.code r.tag (outcomeBytes r.outcome ++ data)
    0xC3#8 :: body ++ [crc8 body]

/-- The frame being sent on a link (R182). -/
def sending (b : Block) (l : Link) : Option (List Byte) := (b.links.get l).replies.head?.bind replyFrame

/-! ## Presence (R183) -/

/-- The link ceases to be present: a lead its master holds lapses (R3) and that master's readiness is cleared
(R18). -/
def linkLost (l : Link) (b : Block) : Block :=
  let b1 := setLink l { b.links.get l with present := false, age := (b.links.get l).age.map (max 500) } b
  let b2 := if holdsLead b l then setLead none b1 else b1
  match masterOf l with
  | some m => setReady m none b2
  | none => b2

/-- 500 ms have passed from the last valid frame; a link that is ABSENT stays so (log entry 28). Where a valid frame that came
together with the expiry has been taken first, the timer stands at 0 and the link stays PRESENT (R183). -/
def presenceTimeout (l : Link) (b : Block) : Block :=
  if (b.links.get l).present = true ∧ (b.links.get l).age ≠ some 0 then linkLost l b else b

def execLinkPresenceTimeout (l : Link) (s : State) : Result := event s false (presenceTimeout l)

end Sys2Proof.Machine
end

