-- ==== Sys2Proof/Machine/Dispatch.lean ====
section
/-!
DEFINITION. One arm for each command: its meaning.
-/

namespace Sys2Proof.Machine

def exec (i : Instr) (s : State) : Host.Outcome State Fault Refusal :=
  match i with
  | .powerOn contacts mem => Sys2Proof.Machine.execPowerOn contacts mem s
  | .warmRestart contacts => Sys2Proof.Machine.execWarmRestart contacts s
  | .claimLead q => Sys2Proof.Machine.execClaimLead q s
  | .releaseLead q => Sys2Proof.Machine.execReleaseLead q s
  | .enterMode q target => Sys2Proof.Machine.execEnterMode q target s
  | .wake q => Sys2Proof.Machine.execWake q s
  | .heldWakeDue => Sys2Proof.Machine.execHeldWakeDue s
  | .raise q p => Sys2Proof.Machine.execRaise q p s
  | .raiseAuto q => Sys2Proof.Machine.execRaiseAuto q s
  | .lower q named => Sys2Proof.Machine.execLower q named s
  | .selectSystem q sys => Sys2Proof.Machine.execSelectSystem q sys s
  | .clearHalt q => Sys2Proof.Machine.execClearHalt q s
  | .declareReady q sys serial => Sys2Proof.Machine.execDeclareReady q sys serial s
  | .openBreaker q => Sys2Proof.Machine.execOpenBreaker q s
  | .closeBreaker q => Sys2Proof.Machine.execCloseBreaker q s
  | .setIceMode q forced enable => Sys2Proof.Machine.execSetIceMode q forced enable s
  | .startTouchSearch q p => Sys2Proof.Machine.execStartTouchSearch q p s
  | .clearDrop q p => Sys2Proof.Machine.execClearDrop q p s
  | .setOutOfService q p => Sys2Proof.Machine.execSetOutOfService q p s
  | .returnToService q p => Sys2Proof.Machine.execReturnToService q p s
  | .switchCommandBreakerOpen q => Sys2Proof.Machine.execSwitchCommandBreakerOpen q s
  | .switchCommandBreakerClose q => Sys2Proof.Machine.execSwitchCommandBreakerClose q s
  | .switchCommandSelector q pos => Sys2Proof.Machine.execSwitchCommandSelector q pos s
  | .switchCommandIsolator q p pos => Sys2Proof.Machine.execSwitchCommandIsolator q p pos s
  | .switchCommandEarth q pos => Sys2Proof.Machine.execSwitchCommandEarth q pos s
  | .clearSwitchFault q sw => Sys2Proof.Machine.execClearSwitchFault q sw s
  | .clearFaults q => Sys2Proof.Machine.execClearFaults q s
  | .writeConfigurationItem q item value => Sys2Proof.Machine.execWriteConfigurationItem q item value s
  | .storeConfiguration q => Sys2Proof.Machine.execStoreConfiguration q s
  | .restart q => Sys2Proof.Machine.execRestart q s
  | .motionReport q position speed direction => Sys2Proof.Machine.execMotionReport q position speed direction s
  | .announceMarker q m => Sys2Proof.Machine.execAnnounceMarker q m s
  | .withdrawMarker q id => Sys2Proof.Machine.execWithdrawMarker q id s
  | .emergencyLower q => Sys2Proof.Machine.execEmergencyLower q s
  | .releaseHold q => Sys2Proof.Machine.execReleaseHold q s
  | .readStatusDigest q => Sys2Proof.Machine.execReadStatusDigest q s
  | .readRoofPlan q => Sys2Proof.Machine.execReadRoofPlan q s
  | .readPantographStatus q n => Sys2Proof.Machine.execReadPantographStatus q n s
  | .readSwitches q => Sys2Proof.Machine.execReadSwitches q s
  | .readLineRecord q => Sys2Proof.Machine.execReadLineRecord q s
  | .readSectionQueue q => Sys2Proof.Machine.execReadSectionQueue q s
  | .readIce q => Sys2Proof.Machine.execReadIce q s
  | .readArcHistory q offset => Sys2Proof.Machine.execReadArcHistory q offset s
  | .readCalibration q n => Sys2Proof.Machine.execReadCalibration q n s
  | .readFaultRecord q => Sys2Proof.Machine.execReadFaultRecord q s
  | .readSelfTest q => Sys2Proof.Machine.execReadSelfTest q s
  | .readLinkCounters q => Sys2Proof.Machine.execReadLinkCounters q s
  | .readConfigurationItem q item => Sys2Proof.Machine.execReadConfigurationItem q item s
  | .unknownRequest q code => Sys2Proof.Machine.execUnknownRequest q code s
  | .badFrame l why => Sys2Proof.Machine.execBadFrame l why s
  | .frameByteTimeout l => Sys2Proof.Machine.execFrameByteTimeout l s
  | .replySent l contacts => Sys2Proof.Machine.execReplySent l contacts s
  | .linkPresenceTimeout l => Sys2Proof.Machine.execLinkPresenceTimeout l s
  | .scanComplete r => Sys2Proof.Machine.execScanComplete r s
  | .selfTestValvesStart => Sys2Proof.Machine.execSelfTestValvesStart s
  | .selfTestValvesCheck => Sys2Proof.Machine.execSelfTestValvesCheck s
  | .endOfWaking => Sys2Proof.Machine.execEndOfWaking s
  | .selfTestTimeout => Sys2Proof.Machine.execSelfTestTimeout s
  | .dwellExpiry p => Sys2Proof.Machine.execDwellExpiry p s
  | .airHoldExpiry p => Sys2Proof.Machine.execAirHoldExpiry p s
  | .raiseTimeout p => Sys2Proof.Machine.execRaiseTimeout p s
  | .lowerTimeout p => Sys2Proof.Machine.execLowerTimeout p s
  | .servoDeviation p => Sys2Proof.Machine.execServoDeviation p s
  | .automaticDrop p => Sys2Proof.Machine.execAutomaticDrop p s
  | .samplePair slot => Sys2Proof.Machine.execSamplePair slot s
  | .windowClose slot => Sys2Proof.Machine.execWindowClose slot s
  | .tractionOffWaitExpiry => Sys2Proof.Machine.execTractionOffWaitExpiry s
  | .confirmWaitExpiry => Sys2Proof.Machine.execConfirmWaitExpiry s
  | .readyWaitExpiry => Sys2Proof.Machine.execReadyWaitExpiry s
  | .settledReading r => Sys2Proof.Machine.execSettledReading r s
  | .switchOperationTimeout sw => Sys2Proof.Machine.execSwitchOperationTimeout sw s
  | .motionStale => Sys2Proof.Machine.execMotionStale s
  | .positionLost => Sys2Proof.Machine.execPositionLost s
  | .arcPulseStart p edge => Sys2Proof.Machine.execArcPulseStart p edge s
  | .arcPulseEnd p us => Sys2Proof.Machine.execArcPulseEnd p us s
  | .arcPulseTimerExpiry p => Sys2Proof.Machine.execArcPulseTimerExpiry p s
  | .heaterPeriodStart => Sys2Proof.Machine.execHeaterPeriodStart s
  | .calibrationEntryWriteDone r => Sys2Proof.Machine.execCalibrationEntryWriteDone r s
  | .configurationStoreDone matched => Sys2Proof.Machine.execConfigurationStoreDone matched s
  | .frameOpened l byte => Sys2Proof.Machine.execFrameOpened l byte s

end Sys2Proof.Machine
end

