-- ==== Sys2Proof/Safety.lean ====
section
/-!
DEFINITION. What counts as a safe state: the laws of the device, each in the words of its rule; and what the blocks'
answers to one another leave alone.
-/

namespace Sys2Proof.Machine

/-! ## Laws of the device -/

/-- The lead is held only by a traction master whose link is present (R3). -/
def LeadLaw (b : Block) : Prop :=
  ∀ l, (masterOf l).isSome = true → masterOf l = b.plan.lead → (b.links.get l).present = true

/-- At most one pantograph holds COLLECTING (R8). -/
def OneCollector (b : Block) : Prop := ∀ p x, b.role p = .collecting → b.role x = .collecting → p = x

/-- A pantograph holding SCRAPING or CALIBRATING has its isolator OPEN (R12). -/
def IsolatorLaw (b : Block) : Prop :=
  ∀ p, b.role p = .scraping ∨ b.role p = .calibrating → (b.sw.iso.get p).state = .opened

/-- While the line breaker is CLOSING or CLOSED, the earthing switch is OPEN, exactly one isolator is CLOSED, its
pantograph holds COLLECTING and is in CONTACT, the selector stands at that pantograph's head class, and the determined
system is one that it serves (R104, conditions 1 to 5 of R103). -/
def BreakerLaw (b : Block) : Prop :=
  breakerEngaged b = true →
    earthOpen b = true ∧ ∃ p, (b.sw.iso.get p).state = .closed ∧ (∀ x, x ≠ p → isoOpen b x = true) ∧
      b.role p = .collecting ∧ (b.lc p).state = .contact ∧ b.sw.selector.state = (selFor (b.head p)).atRest ∧
      ∃ sys, b.record.determined = some sys ∧ serves (b.head p) sys = true

/-- While the earthing switch is in any state other than OPEN, no pantograph is in RAISING, CONTACT or SEARCHING and the
line breaker is neither CLOSING nor CLOSED (R107). -/
def EarthLaw (b : Block) : Prop :=
  b.sw.earth.state ≠ .opened → (∀ p, (b.lc p).state.raised = false) ∧ breakerEngaged b = false

/-- The Section Queue holds at most 8 entries in ascending start position, with no two entries sharing a marker id, no
two non-ICE_WATCH spans overlapping, and at most one entry ACTIVE (R119). -/
structure QueueLaw (q : Queue) : Prop where
  length    : q.entries.length ≤ 8
  ascending : q.entries.Pairwise fun x y => x.start ≤ y.start
  ids       : q.entries.Pairwise fun x y => x.id ≠ y.id
  apart     : q.entries.Pairwise fun x y =>
    x.kind ≠ .iceWatch → y.kind ≠ .iceWatch → overlap x.start x.stop y.start y.stop = false
  active    : q.entries.Pairwise fun x y => ¬(x.active = true ∧ y.active = true)

/-- While the changeover phase is not IDLE, no pantograph holds the role SCRAPING (R129). -/
def ScraperLaw (b : Block) : Prop := b.seq.phase ≠ .idle → ∀ p, b.role p ≠ .scraping

/-- The sum of the four heater duties never exceeds HeatBudget (R161). -/
def HeaterLaw (b : Block) : Prop := dutySum b ≤ b.nat .heatBudget

/-- The final level is the lesser of the temperature cap and the greatest of the hysteresis level, the forced level and
the watch floor; it lies between 0 and 3, and while the ambient temperature, a FAULTY channel being judged on its held
value, is above IceTemp it is at most 1 (R157). -/
structure LevelLaw (b : Block) : Prop where
  parts : b.ice.level = min b.ice.cap (max b.ice.hysteresis (max b.ice.forced (if b.ice.watch then 1 else 0)))
  range : b.ice.level ≤ 3
  warm  : ∀ v, b.sensors.ambient.validity ≠ .unknown → b.sensors.ambient.value = some v → b.cfg .iceTemp < v →
    b.ice.level ≤ 1

/-- A confirmed class is the class of the current run and never UNKNOWN (R88). -/
def RunLaw (l : LineMon) : Prop := ∀ c, l.confirmed = some c → l.runClass = some c ∧ c ≠ .unknown

/-- Every item of a record lies in its range (R175, R176). -/
def InRange (c : CfgRec) : Prop := ∀ i : Item, i.lo ≤ cfgGet c i ∧ cfgGet c i ≤ i.hi

/-- The working record lies in its ranges, and so does a reloaded MaxUp that waits for its adoption scan. -/
def ConfigLaw (b : Block) : Prop :=
  InRange b.cond.cfg ∧ ∀ v, b.cond.newMaxUp = some v → Item.maxUp.lo ≤ v ∧ v ≤ Item.maxUp.hi

/-- What a warm restart leaves to its adoption scan, the reload and the reloaded MaxUp, is done with it (R175, R178). -/
def AdoptionLaw (b : Block) : Prop :=
  b.cond.restart = none → b.cond.reloadPending = false ∧ b.cond.newMaxUp = none

/-- A warm restart waits for its adoption scan in WAKING alone, with no standby lowering and no path running (R148,
R171, R178) but that of a wrong system detected meanwhile, which waits for the breaker or the roof, or goes on with
the collector that stands (R91, R136). -/
def RestartLaw (b : Block) : Prop :=
  b.cond.restart.isSome = true →
    b.cond.mode = .waking ∧ b.cond.standbyLowering = false ∧
      (b.seq.phase ∈ [.idle, .halted, .lowering, .confirm, .masterReady, .close] ∨
        b.seq.phase = .probe ∧ (b.seq.work = .awaitOpen ∨ b.seq.work = .awaitDown))

/-- A lower pends in CONTACT, and on a breaker CLOSING, CLOSED or OPENING: at OPEN or FAILED it begins, though not
before an adoption that waits (R37). -/
def PendingLaw (b : Block) : Prop :=
  b.cond.restart = none → ∀ p, (b.lc p).lowerPending = true → (b.lc p).state = .contact ∧ holdsLower b = true

/-- Every fault counter saturates at 255 (R177). -/
def FaultLaw (b : Block) : Prop := ∀ k : FaultKind, b.cond.faults.counters[k.ctorIdx]'(k.ctorIdx_lt) ≤ 255

/-- A held search is a held raise, of a pantograph that holds CALIBRATING (R11, R29, R67). -/
def SearchLaw (b : Block) : Prop :=
  ∀ p, (b.lc p).heldSearch = true → (b.lc p).held ≠ .none ∧ b.role p = .calibrating

/-- The committed count is within MaxUp, and with it the number of pantographs in RAISING, CONTACT or SEARCHING (R8);
a raise is held for a pantograph with a role alone, in STOWED or LOWERING, and none while a restart waits for its
adoption; a held search goes with CALIBRATING. -/
structure AirLaw (b : Block) : Prop where
  count    : committedCount b ≤ b.nat .maxUp
  held     : ∀ p, (b.lc p).held ≠ .none →
    b.role p ≠ .none ∧ ((b.lc p).state = .stowed ∨ (b.lc p).state = .lowering) ∧ b.cond.restart = none
  search   : SearchLaw b
  adoption : AdoptionLaw b

/-- Every commanded pressure lies between 0 and Pmax, and the target force of every pantograph in CONTACT between its
head class's Fmin and Fmax, which are in order (R49, R61). A pantograph shown in CONTACT before its adoption scan has
no target (R44, R63). -/
structure LimitsLaw (b : Block) : Prop where
  pressure : ∀ p, (b.lc p).commanded ≤ b.nat .pmax
  force    : b.cond.restart = none → ∀ p, (b.lc p).state = .contact → ∃ f, (b.lc p).targetForce = some f ∧
    (forceItems b (b.head p)).least ≤ f ∧ f ≤ (forceItems b (b.head p)).most
  ordered  : ∀ h, (forceItems b h).least ≤ (forceItems b h).most
  adoption : AdoptionLaw b

/-- A safe state: every law above holds. -/
structure Safe (s : State) : Prop where
  lead     : LeadLaw s.block
  one      : OneCollector s.block
  isolator : IsolatorLaw s.block
  breaker  : BreakerLaw s.block
  earth    : EarthLaw s.block
  queue    : QueueLaw s.block.queue
  scraper  : ScraperLaw s.block
  heater   : HeaterLaw s.block
  level    : LevelLaw s.block
  run      : RunLaw s.block.line
  config   : ConfigLaw s.block
  restart  : RestartLaw s.block
  pending  : PendingLaw s.block
  faults   : FaultLaw s.block
  air      : AirLaw s.block
  limits   : LimitsLaw s.block

/-! ## What the blocks' answers to one another leave alone -/

/-- The parts of the block that no answer of one block to another writes: lead, hold and readiness; the channels; the
Line Monitor; the earthing switch; the held motion; the Line Record but for traction-off and advisory; the configuration
and what a restart keeps; the attached memory; the links but for their masks; the arcs and the masters' ice settings. -/
structure Kept where
  lead         : Option Master
  hold         : Bool
  readyA       : Option Ready
  readyB       : Option Ready
  sensors      : Sensors
  line         : LineMon
  earth        : TwoSw
  motion       : Queue
  measured     : LineClass
  determined   : Option LineSystem
  source       : Option Panto
  serial       : Nat
  returnMode   : Mode
  configGood   : Bool
  configSaved  : Bool
  cfg          : CfgRec
  configLoaded : Bool
  entryLoaded  : PerP Bool
  restart      : Option Restart
  reload       : Bool
  newMaxUp     : Option Int
  image        : MemImage
  links        : PerL LinkRec
  capture      : PerP Capture
  history      : List ArcRecord
  arcCount     : Nat
  forced       : Nat
  enable       : Bool
  applied      : PerP Nat
  freeCount    : Nat
  deriving DecidableEq, Repr

def LinkRec.unmarked (l : LinkRec) : LinkRec := { l with mask := 0 }

def Block.kept (b : Block) : Kept where
  lead := b.plan.lead
  hold := b.plan.hold
  readyA := b.plan.readyA
  readyB := b.plan.readyB
  sensors := b.sensors
  line := b.line
  earth := b.sw.earth
  motion := { b.queue with entries := [] }
  measured := b.record.measured
  determined := b.record.determined
  source := b.record.source
  serial := b.record.serial
  returnMode := b.cond.returnMode
  configGood := b.cond.configGood
  configSaved := b.cond.configSaved
  cfg := b.cond.cfg
  configLoaded := b.cond.configLoaded
  entryLoaded := b.cond.entryLoaded
  restart := b.cond.restart
  reload := b.cond.reloadPending
  newMaxUp := b.cond.newMaxUp
  image := b.mem.image
  links := ⟨b.links.a.unmarked, b.links.b.unmarked, b.links.p.unmarked⟩
  capture := b.ice.capture
  history := b.ice.history
  arcCount := b.ice.arcCount
  forced := b.ice.forced
  enable := b.ice.enable
  applied := b.ice.applied
  freeCount := b.freeCount

/-! ## Words of the statements -/

/-- The reply joins those of the link. -/
def Answered (s t : State) (l : Link) (r : Reply) : Prop :=
  (t.block.links.get l).replies = (s.block.links.get l).replies ++ [r]

/-- The reply to the request `q` of a code, carrying nothing but its outcome. -/
def plainReply (code : Nat) (q : Req) (o : ReplyOutcome) : Reply := ⟨code, q.tag, o, .none⟩

/-- Nothing changes but the links: presence, replies and masks. -/
def OnlyLinks (s t : State) : Prop := t.block = { s.block with links := t.block.links }

/-- Nothing changes of what the blocks' answers leave alone (`Kept`), but for the link of the request. -/
def KeepsRest (s t : State) : Prop := { t.block.kept with links := s.block.kept.links } = s.block.kept

/-- The pantographs other than `p` stay as they are. -/
def OthersStay (p : Panto) (s t : State) : Prop :=
  ∀ x, x ≠ p → t.block.lc x = s.block.lc x ∧ t.block.plan.roles.get x = s.block.plan.roles.get x

/-- The state with one link's record replaced. -/
def State.withLink (s : State) (l : Link) (r : LinkRec) : State :=
  { s with block := { s.block with links := s.block.links.set l r } }

/-- The state after a bad frame on a link: its count one more, saturating at 65,535, and no frame in progress (R180). -/
def State.afterBadFrame (s : State) (l : Link) : State :=
  let r := s.block.links.get l
  s.withLink l { r with badFrames := min 65535 (r.badFrames + 1), frame := none }

/-- How often a fault kind has been recorded. -/
def faultCount (k : FaultKind) (b : Block) : Nat := b.cond.faults.counters[k.ctorIdx]'(k.ctorIdx_lt)

/-- The count of a fault kind after one more. -/
def oneMore (k : FaultKind) (b : Block) : Nat := min 255 (faultCount k b + 1)

/-- A fault of one kind is recorded once. -/
def Records (k : FaultKind) (s t : State) : Prop := faultCount k t.block = oneMore k s.block

/-- A well-formed request of a traction master, the part being awake. -/
structure Speaks (q : Req) (b : Block) : Prop where
  wellFormed : q.wellFormed = true
  awake      : b.cond.mode ≠ .dormant
  master     : (masterOf q.link).isSome = true

/-- A well-formed request of the lead holder, the part being awake. -/
structure Leads (q : Req) (b : Block) : Prop extends Speaks q b where
  lead : masterOf q.link = b.plan.lead

/-- A well-formed request of the Protection Master, the part being awake. -/
structure Protects (q : Req) (b : Block) : Prop where
  wellFormed : q.wellFormed = true
  awake      : b.cond.mode ≠ .dormant
  link       : q.link = .p

/-- No other block has work of its own under way: no path runs, no self-test, no restart waiting for its adoption, no
standby lowering, no VALVES step, and no lower waits on the breaker. -/
structure Resting (b : Block) : Prop where
  phase   : b.seq.phase = .idle ∨ b.seq.phase = .halted
  mode    : b.cond.mode ≠ .waking
  restart : b.cond.restart = none
  standby : b.cond.standbyLowering = false
  valves  : ∀ p n, b.cond.testStep ≠ .valves p n
  lowers  : ∀ p, (b.lc p).lowerPending = false

/-- What a raise needs of the part and of the pantograph named, apart from the pantograph's own lift state (R6). -/
structure MayRaise (p : Panto) (b : Block) : Prop where
  mode      : b.cond.mode = .service
  standby   : b.cond.standbyLowering = false
  hold      : b.plan.hold = false
  phase     : b.seq.phase = .idle
  earth     : earthOpen b = true
  available : available b p = true
  free      : b.role p = .none
  served    : ∃ sys, b.record.determined = some sys ∧ serves (b.head p) sys = true
  alone     : ∀ x, b.role x ≠ .collecting
  air       : airAllows b p = true

/-- A pantograph collects and is coming down, so that it meets conditions 6 to 8 of R6 by itself. -/
def returning (b : Block) (p : Panto) : Bool := b.role p == .collecting && (b.lc p).state == .lowering

/-- The nine conditions of R6 in their order, each with the code that refuses where it is not met. -/
def raiseConditions (p : Panto) (b : Block) : List (Bool × RefCode) := [
  (b.cond.mode == .service && !b.cond.standbyLowering, .wrongMode),
  (!b.plan.hold, .emergencyHold),
  (b.seq.phase == .idle, .changeoverActive),
  (b.sw.earth.isOpen, .interlock),
  ((b.lc p).state != .dropped && (b.lc p).state != .outOfService &&
    (b.sensors.height.get p).validity == .good && (b.sensors.actuator.get p).validity == .good, .notAvailable),
  (returning b p || ((b.role p == .none || b.role p == .collecting) && (b.lc p).state != .searching), .busy),
  (returning b p || (match b.record.determined with
    | some sys => serves (b.head p) sys
    | none => false), .interlock),
  (returning b p || Panto.all.all fun x => x == p || b.role x != .collecting, .interlock),
  (Panto.all.countP (fun x => x == p || committed b x) ≤ b.nat .maxUp, .airLimit)]

/-- The code of the first condition not met. -/
def firstUnmet (rows : List (Bool × RefCode)) : Option RefCode := (rows.find? fun r => !r.1).map Prod.snd

/-- The pantograph collects and is RAISING, in CONTACT, or has a raise held (R6). -/
def Collects (p : Panto) (b : Block) : Prop :=
  b.role p = .collecting ∧ ((b.lc p).state = .raising ∨ (b.lc p).state = .contact ∨ (b.lc p).held ≠ .none)

/-- The four conditions of a Select System in their order, each with the code that refuses where it is not met (R130). -/
def selectConditions (b : Block) : List (Bool × RefCode) := [
  (b.cond.mode == .service, .wrongMode),
  (b.seq.phase == .idle || b.seq.phase == .halted, .changeoverActive),
  (!b.plan.hold, .emergencyHold),
  (b.sw.earth.isOpen, .interlock)]

/-- What a touch search needs of the part and of the pantograph named (R11, R65). -/
structure MaySearch (p : Panto) (b : Block) : Prop where
  hold      : b.plan.hold = false
  earth     : earthOpen b = true
  available : available b p = true
  mode      : b.cond.mode = .workshop ∨ b.cond.mode = .service ∧ b.cond.standbyLowering = false
  speed     : b.queue.speed ≤ 30
  state     : (b.lc p).state = .stowed
  free      : b.role p = .none
  isolator  : isoOpen b p = true
  phase     : b.seq.phase = .idle
  air       : airAllows b p = true

/-- A channel judged on its held value where it is FAULTY (R26, R157, R165). -/
def Chan.Shows (c : Chan) (v : Int) : Prop := c.validity ≠ .unknown ∧ c.value = some v

/-- A channel's plausible reading (R23). -/
def Chan.Reads (c : Chan) (v : Int) : Prop := c.validity = .good ∧ c.value = some v

/-- The conditions of R11 and R65 in their order, each with the code that refuses where it is not met. -/
def searchConditions (p : Panto) (b : Block) : List (Bool × RefCode) := [
  (!b.plan.hold, .emergencyHold),
  (b.sw.earth.isOpen, .interlock),
  ((b.lc p).state != .dropped && (b.lc p).state != .outOfService &&
    (b.sensors.height.get p).validity == .good && (b.sensors.actuator.get p).validity == .good, .notAvailable),
  (b.cond.mode == .workshop || b.cond.mode == .service && !b.cond.standbyLowering, .wrongMode),
  (b.queue.speed ≤ 30, .interlock),
  ((b.lc p).state == .stowed, .busy),
  (b.role p == .none, .busy),
  ((b.sw.iso.get p).isOpen, .interlock),
  (b.seq.phase == .idle, .changeoverActive),
  (Panto.all.countP (fun x => x == p || committed b x) ≤ b.nat .maxUp, .airLimit)]

/-- A search step that the scan finds settled: 400 ms have passed, the height is plausible and within HMax, the actuator
channel is not FAULTY, and the strip is whole (R68, R69). -/
structure SettledStep (p : Panto) (b : Block) (r : SearchRec) (h : Int) : Prop where
  state    : (b.lc p).state = .searching
  record   : (b.lc p).search = some r
  settled  : ∃ n, r.settle = some n ∧ 400 ≤ n
  height   : (b.sensors.height.get p).Reads h
  within   : h ≤ b.cfg .hMax
  actuator : (b.sensors.actuator.get p).validity ≠ .faulty
  strip    : ∃ v, (b.sensors.strip.get p).Shows v ∧ b.cfg .addLevel ≤ v

/-- A search step is commanded: the pressure asked, or Pmax where that is less, with the settle timer started, under the
HystMax of this event (R60, R66, R69, R70). -/
structure CommandsStep (p : Panto) (b t : Block) (r : SearchRec) (pressure : Nat) : Prop where
  state     : (t.lc p).state = .searching
  commanded : (t.lc p).commanded = min pressure (b.nat .pmax)
  record    : (t.lc p).search = some { r with
    pressure := min pressure (b.nat .pmax), clamped := decide (b.nat .pmax < pressure), settle := some 0 }
  entry     : t.cal = b.cal
  limit     : (t.lc p).hystLimit = b.nat .hystMax

/-- A search ends with a result other than ABORTED: the entry holds the fields given with the result and the position
and is UNSAVED, LOWERING begins from the pressure reached, and the role and the search record stay (R71, R72). -/
structure EndsSearch (p : Panto) (b t : Block) (r : SearchRec) (result : SearchResult) (f : CalFields) : Prop where
  entry     : t.cal.get p = ⟨{ f with lastResult := some result, calPos := some b.queue.position }, false⟩
  others    : ∀ x, x ≠ p → t.cal.get x = b.cal.get x
  state     : (t.lc p).state = .lowering
  timer     : (t.lc p).lowerTimer = some 0
  commanded : (t.lc p).commanded = (b.lc p).commanded
  record    : (t.lc p).search = some r
  role      : t.role p = b.role p

/-! ## A scan of one pantograph (R25, R31 to R34, R41, R57) -/

/-- A scan of a pantograph finds its height `h` plausible, its actuator channel not FAULTY and its strip whole. -/
structure ReadsWhole (p : Panto) (b : Block) (h : Int) : Prop where
  height   : (b.sensors.height.get p).Reads h
  actuator : (b.sensors.actuator.get p).validity ≠ .faulty
  strip    : ∃ v, (b.sensors.strip.get p).Shows v ∧ b.cfg .addLevel ≤ v

/-- The height of this scan finds contact: HWork or above, and less than 5 mm above the reading of 300 ms before
(R33). -/
def FindsContact (p : Panto) (b : Block) (h : Int) : Prop :=
  b.cfg .hWork ≤ h ∧ ∃ before, (b.lc p).history[29]? = some before ∧ h - before < 5

/-- The commanded pressure one step of the raise ramp on: RaiseSlew toward a target pressure above it, Slew toward one
below, none passing it (R57). -/
def ramped (p : Panto) (b : Block) : Nat :=
  let c := (b.lc p).commanded
  let target := targetPressureOf b p
  if c < target then min target (c + b.nat .raiseSlew) else max target (c - b.nat .slew)

/-- The commanded pressure of a scan in CONTACT (R58): one step of Slew toward the target pressure of this scan's
evaluation, not passing it, and frozen while NO_WIRE_LOWER is set. -/
structure Regulates (p : Panto) (b t : Block) : Prop where
  target : (t.lc p).targetPressure = some (targetPressureOf b p)
  frozen : (b.lc p).noWireLower = true → (t.lc p).commanded = (b.lc p).commanded
  rises  : (b.lc p).noWireLower = false → (b.lc p).commanded ≤ targetPressureOf b p →
    (t.lc p).commanded = min (targetPressureOf b p) ((b.lc p).commanded + b.nat .slew)
  falls  : (b.lc p).noWireLower = false → targetPressureOf b p ≤ (b.lc p).commanded →
    (t.lc p).commanded = max (targetPressureOf b p) ((b.lc p).commanded - b.nat .slew)

/-- LOWERING begins at this scan, by a fault of the kind given or by none. -/
def LowersAtScan (p : Panto) (k : Option FaultKind) (b t : Block) : Prop :=
  (t.lc p).state = .lowering ∧ (t.lc p).lowerTimer = some 0 ∧ (t.lc p).raiseTimer = none ∧
    match k with
    | some k => faultCount k t = oneMore k b
    | none => t.cond.faults = b.cond.faults

/-- A scan of a pantograph in RAISING (R25, R33, R34, R57, R59): the pressure is ramped; the loss of a sensor, a height
above HMax and the raise timeout begin LOWERING, the first of these in that order (the model's choice of the order, log
entry 36); contact is found, or RAISING goes on. -/
structure ScansRaising (p : Panto) (b t : Block) : Prop where
  ramp    : (t.lc p).state = .raising ∨ (t.lc p).state = .contact → (t.lc p).commanded = ramped p b
  loss    : (∃ v, (b.sensors.strip.get p).Shows v ∧ b.cfg .addLevel ≤ v) →
    (b.sensors.height.get p).validity = .faulty ∨ (b.sensors.actuator.get p).validity = .faulty →
    LowersAtScan p none b t
  noWire  : ∀ h, ReadsWhole p b h → b.cfg .hMax < h → LowersAtScan p (some .noWire) b t
  timeout : ∀ h n, ReadsWhole p b h → h ≤ b.cfg .hMax → (b.lc p).raiseTimer = some n → b.nat .raiseTimeout ≤ n →
    LowersAtScan p (some .raiseTimeout) b t
  contact : ∀ h n, ReadsWhole p b h → h ≤ b.cfg .hMax → (b.lc p).raiseTimer = some n → n < b.nat .raiseTimeout →
    FindsContact p b h → (t.lc p).state = .contact ∧ (t.lc p).raiseTimer = none ∧ t.cond.faults = b.cond.faults
  waits   : ∀ h n, ReadsWhole p b h → h ≤ b.cfg .hMax → (b.lc p).raiseTimer = some n → n < b.nat .raiseTimeout →
    ¬FindsContact p b h → (t.lc p).state = .raising ∧ (t.lc p).raiseTimer = some n ∧ t.cond.faults = b.cond.faults

/-- A scan of a pantograph in RAISING, CONTACT or SEARCHING counts low strips; at the second in succession it drops, the
collector with the breaker's open (R41). -/
structure CountsLowStrips (p : Panto) (b t : Block) : Prop where
  drops : (∃ v, (b.sensors.strip.get p).Shows v ∧ v < b.cfg .addLevel) → 1 ≤ (b.lc p).lowStrip →
    (t.lc p).state = .dropped ∧ (t.lc p).commanded = 0 ∧ (t.lc p).quickVent = true ∧ (t.lc p).raiseTimer = none ∧
      (t.lc p).devTimer = none ∧ (t.lc p).lowerPending = false ∧ t.role p = .none ∧
      faultCount .addTrip t = oneMore .addTrip b ∧ (b.role p = .collecting → breakerEngaged t = false)
  first : (∃ v, (b.sensors.strip.get p).Shows v ∧ v < b.cfg .addLevel) → (b.lc p).lowStrip = 0 →
    (t.lc p).state.raised = true → (t.lc p).lowStrip = 1
  whole : (∃ v, (b.sensors.strip.get p).Shows v ∧ b.cfg .addLevel ≤ v) →
    (t.lc p).state ≠ .dropped ∧ (t.lc p).lowStrip = 0

/-- A scan of a pantograph in CONTACT that reads a height above HMax, where NO_WIRE has not been found already (R34):
it is recorded and an ordinary lower taken, which pends on the breaker for a collector with the breaker CLOSING,
CLOSED or OPENING (R36, R37). -/
structure LosesWire (p : Panto) (b t : Block) : Prop where
  recorded : faultCount .noWire t = oneMore .noWire b
  pends    : b.role p = .collecting → b.sw.breaker.state ∈ [.closing, .closed, .opening] →
    (t.lc p).state = .contact ∧ (t.lc p).lowerPending = true ∧ (t.lc p).noWireLower = true ∧ breakerEngaged t = false
  lowers   : b.role p ≠ .collecting ∨ b.sw.breaker.state ∈ [.opened, .failed] →
    (t.lc p).state = .lowering ∧ (t.lc p).lowerTimer = some 0

/-- A raise or search held by a pantograph at a scan (R25, R31, R32): it is discarded, its role cleared, on the loss
of a sensor in STOWED and in LOWERING; held AIR it begins once the reservoir is sufficient, and is discarded where the
earthing switch is not OPEN; any other stays as it is. -/
structure ScansHeld (p : Panto) (b t : Block) : Prop where
  loss   : (b.sensors.height.get p).validity = .faulty ∨ (b.sensors.actuator.get p).validity = .faulty →
    (t.lc p).held = .none ∧ (t.lc p).airTimer = none ∧ t.role p = .none
  begins : (b.sensors.height.get p).validity ≠ .faulty → (b.sensors.actuator.get p).validity ≠ .faulty →
    (b.lc p).state = .stowed → (b.lc p).held = .air → airSufficient b = true → b.sw.earth.isOpen = true →
    (t.lc p).held = .none ∧ (t.lc p).airTimer = none ∧ t.role p = b.role p ∧
      ((b.lc p).heldSearch = false →
        (t.lc p).state = .raising ∧ (t.lc p).commanded = 0 ∧ (t.lc p).raiseTimer = some 0) ∧
      ((b.lc p).heldSearch = true → (t.lc p).state = .searching ∧
        (t.lc p).commanded = min (b.nat .searchStart) (b.nat .pmax))
  earth  : (b.sensors.height.get p).validity ≠ .faulty → (b.sensors.actuator.get p).validity ≠ .faulty →
    (b.lc p).state = .stowed → (b.lc p).held = .air → airSufficient b = true → b.sw.earth.isOpen = false →
    (t.lc p).state = .stowed ∧ (t.lc p).held = .none ∧ (t.lc p).airTimer = none ∧ t.role p = .none ∧
      t.cond.faults = b.cond.faults
  stays  : (b.sensors.height.get p).validity ≠ .faulty → (b.sensors.actuator.get p).validity ≠ .faulty →
    (b.lc p).state = .stowed → (b.lc p).held ≠ .air ∨ airSufficient b = false → t = b

/-- STANDBY is reached as step 3 of R178 gives: at once where no pantograph is in RAISING, CONTACT or LOWERING, and by
standby lowering from SERVICE, the breaker opened, where one is. -/
structure ReachesStandby (s t : State) : Prop where
  down : (∀ p, (s.block.lc p).state ∉ [.raising, .contact, .lowering]) →
    t.block.cond.mode = .standby ∧ t.block.cond.standbyLowering = false
  up   : ∀ p, (s.block.lc p).state ∈ [.raising, .contact, .lowering] →
    t.block.cond.mode = .service ∧ t.block.cond.standbyLowering = true ∧ breakerEngaged t.block = false

/-- An item without result is FAIL. -/
def failing (r : Option TestResult) : Option TestResult := some (r.getD .fail)

/-- Every item of a self-test record that has no result is FAIL, the others keep theirs, and the completed mark is clear
(R174). -/
structure FailsTheRest (x y : SelfTest) : Prop where
  config      : y.config = failing x.config
  calibration : ∀ p, y.calibration.get p = failing (x.calibration.get p)
  actuator    : ∀ p, y.sensors.actuator.get p = failing (x.sensors.actuator.get p)
  strip       : ∀ p, y.sensors.strip.get p = failing (x.sensors.strip.get p)
  height      : ∀ p, y.sensors.height.get p = failing (x.sensors.height.get p)
  reservoir   : y.sensors.reservoir = failing x.sensors.reservoir
  ambient     : y.sensors.ambient = failing x.sensors.ambient
  valves      : ∀ p, y.valves.get p = failing (x.valves.get p)
  strips      : ∀ p, y.strips.get p = failing (x.strips.get p)
  breaker     : y.switches.breaker = failing x.switches.breaker
  selector    : y.switches.selector = failing x.switches.selector
  iso         : ∀ p, y.switches.iso.get p = failing (x.switches.iso.get p)
  earth       : y.switches.earth = failing x.switches.earth
  links       : ∀ l, y.links.get l = failing (x.links.get l)
  completed   : y.completed = false

/-- What the VALVES step of R174 asks of a pantograph and of the air: STOWED, its height and actuator channels GOOD,
and the reservoir at RaiseAir or above. -/
structure ValveReady (p : Panto) (b : Block) : Prop where
  state    : (b.lc p).state = .stowed
  height   : (b.sensors.height.get p).validity = .good
  actuator : (b.sensors.actuator.get p).validity = .good
  air      : ∃ v, b.sensors.reservoir.Shows v ∧ b.cfg .raiseAir ≤ v

/-- The VALVES and STRIPS steps of a pantograph are SKIPPED. -/
def StepsSkipped (p : Panto) (b : Block) : Prop :=
  b.cond.selfTest.valves.get p = some .skipped ∧ b.cond.selfTest.strips.get p = some .skipped

/-- The VALVES steps go on with the pantographs above number `n`, as `b` shows them: that of the first that is ready
begins, at 500 with its state STOWED, those before it being SKIPPED; where none is ready all are, and the steps are over
(R174). -/
structure TestsNext (n : Nat) (b t : Block) : Prop where
  begins : ∀ p, n < p.num → ValveReady p b → (∀ x, n < x.num → x.num < p.num → ¬ValveReady x b) →
    t.cond.testStep = .valves p 0 ∧ (t.lc p).commanded = 500 ∧ (t.lc p).state = .stowed ∧
      ∀ x, n < x.num → x.num < p.num → StepsSkipped x t
  ends   : (∀ x, n < x.num → ¬ValveReady x b) →
    t.cond.testStep = .finished ∧ ∀ x, n < x.num → StepsSkipped x t

/-- PASS for a channel that is GOOD, FAIL for one that is FAULTY or UNKNOWN (R174). -/
def Chan.judged (c : Chan) : Option TestResult := some (if c.validity = .good then .pass else .fail)

/-- The SEVERE kinds (10.4). -/
def severeKinds : List FaultKind :=
  [.addTrip, .switchFailed, .wrongSystem, .lateSection, .missedSection, .positionLost, .lowerTimeout]

/-- A fault reported of a kind with a subject (R177): its counter rises, saturating, the others stay, and the flag is
set; an absent first-fault record is filled, unless the capture filter is SEVERE and the kind is not, and a filled one
stays; nothing else changes. -/
structure ReportsFault (k : FaultKind) (subject : Subject) (b t : Block) : Prop where
  only    : t = { b with cond := { b.cond with faults := t.cond.faults } }
  count   : faultCount k t = oneMore k b
  others  : ∀ x, x ≠ k → faultCount x t = faultCount x b
  present : t.cond.faults.present = true
  stands  : ∀ r, b.cond.faults.first = some r → t.cond.faults.first = some r
  fills   : b.cond.faults.first = none → b.cfg .captureFilter ≠ 1 ∨ k ∈ severeKinds →
    t.cond.faults.first =
      some ⟨k, subject, b.queue.position, b.queue.speed, b.seq.phase, b.cond.mode⟩
  filters : b.cond.faults.first = none → b.cfg .captureFilter = 1 → k ∉ severeKinds → t.cond.faults.first = none

/-- An item as stored, brought into its range (R175). -/
def ranged (c : CfgRec) (i : Item) : Int := max i.lo (min i.hi (cfgGet c i))

/-- The records of the attached memory `m` have been loaded (R76, R175). A stored configuration is taken item by item
within the ranges, a low item lowered to its high item where it exceeds it: GOOD, SAVED, PASS; where there is none
every item takes its default: BAD, UNSAVED, FAIL. A stored entry is taken as it is, SAVED, PASS; one that fails its
check has status NONE, pressures and hysteresis 0 and no result or position, UNSAVED, FAIL. -/
structure LoadsRecords (m : MemImage) (t : Block) : Prop where
  stored   : ∀ c, m.config = some c →
    t.cond.configGood = true ∧ t.cond.configSaved = true ∧ t.cond.selfTest.config = some .pass
  items    : ∀ c, m.config = some c → ∀ i, (∀ y ∈ orderedPairs, y.1 ≠ i) → t.cfg i = ranged c i
  ordered  : ∀ c, m.config = some c → ∀ y ∈ orderedPairs, t.cfg y.1 = min (ranged c y.1) (t.cfg y.2)
  defaults : m.config = none → t.cond.configGood = false ∧ t.cond.configSaved = false ∧
    t.cond.selfTest.config = some .fail ∧ ∀ i, t.cfg i = i.initial
  entries  : ∀ p f, m.entries.get p = some f →
    t.cal.get p = ⟨f, true⟩ ∧ t.cond.selfTest.calibration.get p = some .pass
  unread   : ∀ p, m.entries.get p = none →
    t.cal.get p = ⟨⟨0, 0, 0, .none, none, none⟩, false⟩ ∧ t.cond.selfTest.calibration.get p = some .fail

/-- There is no scraper and none is asked for. -/
structure NoScraper (b : Block) : Prop where
  enable : b.ice.enable = false
  record : b.ice.scraper = none
  roles  : ∀ p, b.role p ≠ .scraping

/-- A breaker, isolator or earthing switch in travel to a position since this event, on a link's command (R99). -/
structure TwoSw.Travels (pos : TwoPos) (l : Link) (w : TwoSw) : Prop where
  state   : w.state = pos.travel
  lastCmd : w.lastCmd = pos
  source  : w.source = sourceOf l
  timer   : w.timer = some 0
  output  : w.output = pos
  agrees  : w.disagree = false

/-- A breaker, isolator or earthing switch stands at a position that a link's request found it in: nothing moves
(R109). -/
structure TwoSw.StandsAt (pos : TwoPos) (l : Link) (w : TwoSw) : Prop where
  state   : w.state = pos.atRest
  lastCmd : w.lastCmd = pos
  source  : w.source = sourceOf l
  timer   : w.timer = none
  output  : w.output = pos
  agrees  : w.disagree = false

/-- A settled reading `x` of a two-position switch `v`, which it leaves at `w` (R98, R100, R101). -/
structure JudgesReading (isBreaker : Bool) (x : TwoPattern) (v w : TwoSw) (s t : State) : Prop where
  ends     : v.state.travelling = true → x.shows v.lastCmd = true →
    w = { v with state := v.lastCmd.atRest, timer := none, disagree := false, settled := x }
  waits    : v.state.travelling = true → x.shows v.lastCmd = false → x ≠ ⟨true, true⟩ → w = { v with settled := x }
  agrees   : v.state = .opened ∧ x = ⟨true, false⟩ ∨ v.state = .closed ∧ x = ⟨false, true⟩ →
    w = { v with disagree := false, settled := x }
  differs  : v.state = .opened → x ≠ ⟨true, false⟩ → w = { v with disagree := true, settled := x }
  fails    : v.state.travelling = true ∧ x = ⟨true, true⟩ ∨
      v.state = .closed ∧ x ≠ ⟨false, true⟩ ∧ ¬(isBreaker = true ∧ x = ⟨true, false⟩) →
    w.state = .failed ∧ w.timer = none ∧ w.output = (if isBreaker = true then .opened else v.output) ∧
    Records .switchFailed s t
  failed   : v.state = .failed → w = { v with disagree := !x.consistent, settled := x }
  recorded : v.state = .opened → x ≠ ⟨true, false⟩ → v.settled = ⟨true, false⟩ → Records .switchFailed s t
  silent   : v.state = .failed ∨ v.state = .opened ∧ (x = ⟨true, false⟩ ∨ v.settled ≠ ⟨true, false⟩) ∨
      v.state.travelling = true ∧ x ≠ ⟨true, true⟩ →
    faultCount .switchFailed t.block = faultCount .switchFailed s.block

/-- An open has been taken in CLOSING, no time has passed since and no reading has shown the breaker closed: no expiry
of the interrupted close follows (R102). -/
def Interrupted (w : TwoSw) : Prop := w.state = .opening ∧ w.timer = some 0 ∧ w.settled ≠ ⟨false, true⟩

/-- The path stands halted with a reason. -/
def HaltedFor (r : HaltReason) (b : Block) : Prop := b.seq.phase = .halted ∧ b.seq.haltReason = some r

/-- COAST is entered at this step: from LOWERING with the roof down, or from BREAKER_OPEN at OPEN by a path that
lowers nothing (R133, R134). -/
def ReachesCoast (b : Block) : Prop :=
  b.seq.phase = .lowering ∧ b.cond.restart = none ∧ (∀ p, (b.lc p).state ∈ [.stowed, .dropped, .outOfService]) ∨
    b.seq.phase = .breakerOpen ∧ b.sw.breaker.isOpen = true ∧
      (b.seq.path = some .substitute ∨ b.seq.path ∈ [some .select, some .identify] ∧
        ∀ p, (b.lc p).state ∉ [.raising, .contact])

/-- The path has switch work: all but NEUTRAL, the probe of another class apart, and ZONE with nothing expected
(R135). -/
def HasSwitchWork (b : Block) : Prop :=
  (b.seq.path = some .neutral → b.seq.retry = true) ∧ ¬(b.seq.path = some .zone ∧ b.seq.expected = none)

/-- A command of steps 1 and 2 of the switch work is refused: an isolator other than the candidate's, or the selector,
is in travel or FAILED, or is to move with the breaker not OPEN (R99, R105, R106, R135). -/
def RefusesWork (c : Panto) (b : Block) : Prop :=
  (∃ x, x ≠ c ∧ ((b.sw.iso.get x).state ∈ [.closing, .opening, .failed] ∨
    (b.sw.iso.get x).state = .closed ∧ b.sw.breaker.isOpen = false)) ∨
  b.sw.selector.state ∈ [.moving, .failed] ∨
  b.sw.selector.state ≠ (selFor (b.head c)).atRest ∧ b.sw.breaker.isOpen = false

/-- The entry to COAST with the candidate `c` and switch work (R135): a refused command halts with reason SWITCH;
otherwise each isolator other than the candidate's that is CLOSED opens and a selector away from the candidate's class
moves there, though a path that waits for position halts where the motion age is at 5000 ms. -/
structure StartsWork (c : Panto) (b t : Block) : Prop where
  refused : RefusesWork c b → HaltedFor .switch t
  phase   : ¬RefusesWork c b → t.seq.phase = .coast ∨ HaltedFor .positionLost t
  iso     : ¬RefusesWork c b → ∀ x, x ≠ c → (t.sw.iso.get x).state =
    (if (b.sw.iso.get x).state = .closed then .opening else (b.sw.iso.get x).state)
  sel     : ¬RefusesWork c b → t.sw.selector.state =
    (if b.sw.selector.state = (selFor (b.head c)).atRest then b.sw.selector.state else .moving)

/-- What the request `q` of a code is answered where it moves a breaker, isolator or earthing switch `w` to a position and
the state of `w` alone decides (R99): at rest there it is DONE, in travel BUSY, and FAILED, or OPEN with the disagreement
flag set against a close, NOT_AVAILABLE. -/
structure DecidedByState (code : Nat) (q : Req) (w : TwoSw) (pos : TwoPos) (s t : State) : Prop where
  rests   : w.state = pos.atRest → pos = .opened ∨ w.disagree = false →
    OnlyLinks s t ∧ Answered s t q.link (plainReply code q .done)
  travels : w.state ∈ [.closing, .opening] → OnlyLinks s t ∧ Answered s t q.link (plainReply code q (.refused .busy))
  failed  : w.state = .failed ∨ w.state = .opened ∧ w.disagree = true ∧ pos = .closed →
    OnlyLinks s t ∧ Answered s t q.link (plainReply code q (.refused .notAvailable))

/-- What an open of the breaker asked by the request `q` does, by the breaker's state (R102). That an open of a FAILED
breaker leaves its last command and source is the model's choice (log entry 41). -/
structure OpensBreaker (code : Nat) (q : Req) (s t : State) : Prop where
  rest      : KeepsRest s t
  ofOpen    : s.block.sw.breaker.state = .opened →
    t.block.sw.breaker = s.block.sw.breaker ∧ Answered s t q.link (plainReply code q .done)
  ofClosed  : s.block.sw.breaker.state = .closed ∨ s.block.sw.breaker.state = .closing →
    t.block.sw.breaker.Travels .opened q.link ∧ Answered s t q.link (plainReply code q .accepted)
  ofOpening : s.block.sw.breaker.state = .opening →
    t.block.sw.breaker = s.block.sw.breaker ∧ Answered s t q.link (plainReply code q .accepted)
  ofFailed  : s.block.sw.breaker.state = .failed →
    t.block.sw.breaker = { s.block.sw.breaker with output := .opened } ∧
      Answered s t q.link (plainReply code q .accepted)

/-- What a close of the breaker asked by the request `q` does in the phase IDLE with the hold clear (R99, R103). -/
structure ClosesBreaker (code : Nat) (q : Req) (s t : State) : Prop where
  met    : s.block.sw.breaker.isOpen = true → closeConditions s.block = true → readinessMet s.block = true →
    t.block.sw.breaker.Travels .closed q.link ∧ KeepsRest s t ∧ Answered s t q.link (plainReply code q .accepted)
  unmet  : s.block.sw.breaker.isOpen = true → (closeConditions s.block && readinessMet s.block) = false →
    OnlyLinks s t ∧ Answered s t q.link (plainReply code q (.refused .interlock))
  closed : s.block.sw.breaker.state = .closed → OnlyLinks s t ∧ Answered s t q.link (plainReply code q .done)
  moving : s.block.sw.breaker.state.travelling = true →
    OnlyLinks s t ∧ Answered s t q.link (plainReply code q (.refused .busy))
  failed : s.block.sw.breaker.state = .failed →
    OnlyLinks s t ∧ Answered s t q.link (plainReply code q (.refused .notAvailable))

/-- A row of the catalogue of 11.4: the links, the column of R4, and whether it is taken in DORMANT. -/
structure CatalogueRow where
  links   : Allowed
  column  : Column
  dormant : Bool
  deriving DecidableEq, Repr

/-- The catalogue of 11.4 with the columns of R4. -/
def catalogue : Instr → Option CatalogueRow
  | .claimLead _ | .releaseLead _ | .lower _ _ | .declareReady _ _ _ | .openBreaker _ =>
    some ⟨.traction, .anyMaster, false⟩
  | .wake _ => some ⟨.traction, .leadIfHeld, true⟩
  | .enterMode _ _ | .raise _ _ | .raiseAuto _ | .selectSystem _ _ | .clearHalt _ | .closeBreaker _
  | .setIceMode _ _ _ | .startTouchSearch _ _ | .clearDrop _ _ | .setOutOfService _ _ | .returnToService _ _
  | .switchCommandBreakerOpen _ | .switchCommandBreakerClose _ | .switchCommandSelector _ _
  | .switchCommandIsolator _ _ _ | .switchCommandEarth _ _ | .clearSwitchFault _ _ | .clearFaults _
  | .writeConfigurationItem _ _ _ | .storeConfiguration _ | .restart _ => some ⟨.traction, .lead, false⟩
  | .motionReport _ _ _ _ | .announceMarker _ _ | .withdrawMarker _ _ | .emergencyLower _ | .releaseHold _ =>
    some ⟨.protection, .anyMaster, false⟩
  | .readStatusDigest _ | .readRoofPlan _ | .readPantographStatus _ _ | .readSwitches _ | .readLineRecord _
  | .readSectionQueue _ | .readIce _ | .readArcHistory _ _ | .readCalibration _ _ | .readFaultRecord _
  | .readSelfTest _ | .readLinkCounters _ | .readConfigurationItem _ _ => some ⟨.every, .anyMaster, true⟩
  | .unknownRequest _ _ | .powerOn _ _ | .warmRestart _ | .heldWakeDue | .badFrame _ _ | .frameByteTimeout _
  | .replySent _ _ | .linkPresenceTimeout _ | .scanComplete _ | .selfTestValvesStart | .selfTestValvesCheck
  | .endOfWaking | .selfTestTimeout | .dwellExpiry _ | .airHoldExpiry _ | .raiseTimeout _ | .lowerTimeout _
  | .servoDeviation _ | .automaticDrop _ | .samplePair _ | .windowClose _ | .tractionOffWaitExpiry
  | .confirmWaitExpiry | .readyWaitExpiry | .settledReading _ | .switchOperationTimeout _ | .motionStale
  | .positionLost | .arcPulseStart _ _ | .arcPulseEnd _ _ | .arcPulseTimerExpiry _ | .heaterPeriodStart
  | .calibrationEntryWriteDone _ | .configurationStoreDone _ | .frameOpened _ _ => none

/-- The conditions of R118 in their order, each with the code that refuses where it is not met. -/
def markerConditions (m : Marker) (b : Block) : List (Bool × RefCode) := [
  (1 ≤ m.length && (m.length ≤ if m.kind = .iceWatch then 50000 else 5000) &&
    (m.newSystem.isSome == (m.kind == .systemChange)) && m.start + m.length ≤ 4294967295, .outOfRange),
  (b.queue.entries.all fun e => !e.active || e.id != m.id, .markerLocked),
  (b.queue.position < m.start + m.length &&
    (b.cond.mode == .service || m.kind == .iceWatch || b.queue.position < m.start), .staleMarker),
  (m.kind == .iceWatch || b.queue.entries.all fun e => e.id == m.id || e.kind == .iceWatch ||
    e.start + e.length ≤ m.start || m.start + m.length ≤ e.start, .overlap),
  (m.kind == .iceWatch || b.queue.position < m.start ||
    b.cond.mode == .service && b.seq.phase == .idle && b.queue.entries.all (fun e => !e.active || e.served), .overlap),
  (b.queue.entries.any (fun e => e.id == m.id) || b.queue.entries.length < 8 ||
    b.queue.entries.any (fun e => !e.active && m.start < e.start), .queueFull)]

/-- The id evicted by a marker (R119): that of the last WAITING entry, where the id is new and the queue holds 8. -/
def farthestFor (m : Marker) (b : Block) : Option Nat :=
  if b.queue.entries.all (fun e => e.id != m.id) = true ∧ 8 ≤ b.queue.entries.length then
    (b.queue.entries.filter fun e => !e.active).getLast?.map Entry.id
  else none

/-- The conditions of R45 for one pantograph, and that no lower was taken for it since the restart (log entry 26). -/
structure MayBeAdopted (p : Panto) (b : Block) : Prop where
  role     : b.role p = .collecting ∨ b.role p = .scraping
  lowered  : (b.lc p).lowerNoted = false
  height   : ∃ h, (b.sensors.height.get p).Reads h ∧ b.cfg .hWork ≤ h
  pressure : ∃ v, (b.sensors.actuator.get p).Reads v ∧ (v - (targetPressureOf b p : Int)).natAbs ≤ 300
  strip    : ∃ v, (b.sensors.strip.get p).Reads v ∧ b.cfg .addLevel ≤ v
  earth    : b.sw.earth.isOpen = true

/-- The pressure taken as commanded at the adoption scan: the actuator's reading, within Pmax (R44, R60). -/
def Block.ReadsPressure (b : Block) (p : Panto) (n : Nat) : Prop :=
  ∃ v, (b.sensors.actuator.get p).Reads v ∧ n = min v.toNat (b.nat .pmax)

/-- A pantograph is adopted into CONTACT at the pressure read, with its role (R45). -/
structure IsAdopted (p : Panto) (b t : Block) : Prop where
  state    : (t.lc p).state = .contact
  pressure : ∀ n, b.ReadsPressure p n → (t.lc p).commanded = n
  vent     : (t.lc p).quickVent = false
  role     : t.plan.roles.get p = b.plan.roles.get p

/-- A pantograph not adopted is STOWED at a plausible height up to HStow and LOWERING, with its timer started and from
the pressure `n`, otherwise; its role is cleared (R45, R46). -/
structure SettlesDown (p : Panto) (n : Nat) (b t : Block) : Prop where
  stowed   : (∃ h, (b.sensors.height.get p).Reads h ∧ h ≤ b.cfg .hStow) →
    (t.lc p).state = .stowed ∧ (t.lc p).commanded = 0
  lowering : (∀ h, (b.sensors.height.get p).Reads h → b.cfg .hStow < h) →
    (t.lc p).state = .lowering ∧ (t.lc p).lowerTimer = some 0 ∧ (t.lc p).commanded = n
  vent     : (t.lc p).quickVent = false
  role     : t.plan.roles.get p = ⟨.none, none⟩

/-- A candidate that an adoption scan takes out of CONTACT in CONFIRM, MASTER_READY or CLOSE halts its path (R137),
and no other part of the adoption ends one. -/
structure CandidateAtAdoption (b t : Block) : Prop where
  leaves : ∀ c, b.seq.candidate = some c → b.seq.phase ∈ [.confirm, .masterReady, .close] →
    (b.lc c).state = .contact → (t.lc c).state ≠ .contact → t.seq.phase = .halted ∧ t.seq.haltReason = some .raise
  stays  : (∀ c, b.seq.candidate = some c → (t.lc c).state = .contact) ∨
      b.seq.phase ∉ [.confirm, .masterReady, .close] → t.seq = b.seq

/-- The seven conditions of R165, `p` being the scraper candidate. -/
structure WantsScraper (p : Panto) (b : Block) : Prop where
  level     : 2 ≤ b.ice.level
  enable    : b.ice.enable = true
  mode      : b.cond.mode = .service
  phase     : b.seq.phase = .idle
  hold      : b.plan.hold = false
  collector : ∃ c, collector b = some c ∧ (b.lc c).state = .contact
  candidate : scraperCandidate b = some p
  stowed    : (b.lc p).state = .stowed
  free      : b.role p = .none
  entry     : (b.cal.get p).fields.status = .valid
  channels  : (b.sensors.height.get p).validity = .good ∧ (b.sensors.actuator.get p).validity = .good ∧
    (b.sensors.strip.get p).validity = .good
  isolator  : (b.sw.iso.get p).isOpen = true
  air       : ∃ v, b.sensors.reservoir.Shows v ∧ b.cfg .twoUpAir ≤ v
  ahead     : ∀ d, b.ice.nearest = some d → b.nat .scrapeClear < d
  rested    : ∀ x, b.ice.lastLowering = some x → x + b.nat .scrapeRest ≤ b.queue.position

/-- One of the conditions of R166 at which the scraper `p` is lowered. -/
def LowersScraper (p : Panto) (b : Block) : Prop :=
  b.ice.level < 2 ∨ b.ice.enable = false ∨ (∃ d, b.ice.nearest = some d ∧ d ≤ b.nat .scrapeClear) ∨
    (∀ v, b.sensors.reservoir.Shows v → v < b.cfg .critAir) ∨
    (∀ c, collector b = some c → (b.lc c).state ≠ .contact) ∨ scraperCandidate b ≠ some p ∨ b.cond.mode ≠ .service ∨
    (b.sensors.height.get p).validity = .faulty ∨ (b.sensors.actuator.get p).validity = .faulty ∨
    (b.sensors.strip.get p).validity = .faulty ∨ (b.cal.get p).fields.status ≠ .valid

/-- SCRAPING is granted to `p` on the Ice Unit's request: it is recorded as scraper, and its raise begins from
pressure 0, or is held while the dwell runs or the air is short (R10, R29, R165). -/
structure BecomesScraper (p : Panto) (b t : Block) : Prop where
  role   : t.plan.roles.get p = ⟨.scraping, some .internal⟩
  record : t.ice.scraper = some p
  begins : (b.lc p).dwellTimer = none → airSufficient b = true →
    (t.lc p).state = .raising ∧ (t.lc p).commanded = 0 ∧ (t.lc p).raiseTimer = some 0
  dwells : (b.lc p).dwellTimer.isSome = true → (t.lc p).state = .stowed ∧ (t.lc p).held = .dwell
  airs   : (b.lc p).dwellTimer = none → airSufficient b = false →
    (t.lc p).state = .stowed ∧ (t.lc p).held = .air ∧ (t.lc p).airTimer = some 0
  others : ∀ x, x ≠ p → t.lc x = b.lc x ∧ t.plan.roles.get x = b.plan.roles.get x
  kept   : t.kept = b.kept

/-- The scraper `p` is lowered by the Ice Unit: its role and the scraper record end, the position is noted, and the
lower begins LOWERING or discards a held raise (R36, R166). -/
structure ScraperComesDown (p : Panto) (b t : Block) : Prop where
  role   : t.plan.roles.get p = ⟨.none, none⟩
  record : t.ice.scraper = none
  noted  : t.ice.lastLowering = some b.queue.position
  lowers : (b.lc p).state.up = true →
    (t.lc p).state = .lowering ∧ (t.lc p).lowerTimer = some 0 ∧ (t.lc p).commanded = (b.lc p).commanded
  drops  : (b.lc p).state = .stowed ∨ (b.lc p).state = .lowering →
    (t.lc p).state = (b.lc p).state ∧ (t.lc p).held = .none
  others : b.seq.phase = .idle → ∀ x, x ≠ p → t.lc x = b.lc x ∧ t.plan.roles.get x = b.plan.roles.get x
  kept   : t.kept = b.kept

/-- The hysteresis level judged against the raw level: it rises at once, and falls one step for each IceDrop of
travel, at an accepted Motion Report of a running direction (`fall`) alone (R155). -/
structure JudgesLevel (fall : Bool) (b t : Block) : Prop where
  rises  : b.ice.hysteresis < t.ice.raw → t.ice.hysteresis = t.ice.raw ∧ t.ice.fallStart = none
  stands : t.ice.raw = b.ice.hysteresis → t.ice.hysteresis = b.ice.hysteresis ∧ t.ice.fallStart = none
  starts : t.ice.raw < b.ice.hysteresis → b.ice.fallStart = none →
    t.ice.hysteresis = b.ice.hysteresis ∧ t.ice.fallStart = some b.queue.position
  falls  : ∀ x, b.ice.fallStart = some x → t.ice.raw < b.ice.hysteresis → fall = true →
    x + b.nat .iceDrop ≤ b.queue.position →
    t.ice.hysteresis = b.ice.hysteresis - 1 ∧
      t.ice.fallStart = if t.ice.raw < t.ice.hysteresis then some b.queue.position else none
  waits  : ∀ x, b.ice.fallStart = some x → t.ice.raw < b.ice.hysteresis →
    fall = false ∨ b.queue.position < x + b.nat .iceDrop →
    t.ice.hysteresis = b.ice.hysteresis ∧ t.ice.fallStart = some x

/-- The position has passed the entry's end plus Clearance. -/
def wellPast (b : Block) (e : Entry) : Bool := e.start + e.length + b.nat .clearance ≤ b.queue.position

/-- The table of R121: the entry is removed at the removal pass. -/
def leaves (b : Block) (e : Entry) : Bool :=
  if e.kind = .iceWatch then e.start + e.length ≤ b.queue.position
  else if e.active then (e.served || b.seq.phase == .idle) && wellPast b e
  else if b.cond.mode = .service then wellPast b e
  else e.start ≤ b.queue.position

/-- The rows of R121 that record MISSED_SECTION. -/
def missed (b : Block) (e : Entry) : Bool :=
  e.kind != .iceWatch && wellPast b e &&
    (if e.active then !e.served && b.seq.phase == .idle else b.cond.mode == .service)

/-- The queue with the entry `e` taken up: a served ACTIVE entry is removed and `e` is ACTIVE with served clear (R120,
R122). -/
def activated (e : Entry) (b : Block) : List Entry :=
  (b.queue.entries.filter fun x => !(x.active && x.served)).map fun x =>
    if x.id = e.id then { x with active := true, served := false } else x

/-- The pantograph serves the expected system, or is of the expected head class where no system is expected (R131,
R133). -/
def Wanted (p : Panto) (b : Block) : Prop :=
  (∀ sys, b.seq.expected = some sys → serves (b.head p) sys = true) ∧
    (b.seq.expected = none → b.seq.expectedHead = some (b.head p))

/-- The path of an entry: NEUTRAL runs as ZONE where a collector is raised but the determined system is absent (R130),
"raised" being judged on the role alone, before held raises are discarded (the model's choice, log entry 37). -/
def pathFor (e : Entry) (b : Block) : Path :=
  match e.kind with
  | .systemChange => .sectionChange
  | .neutral => if (collector b).isSome = true ∧ b.record.determined = none then .zone else .neutral
  | _ => .zone

/-- The Sequencer takes an entry, armed or late: a path of its kind starts under the next serial. An armed one stands
in ARMED; a late one in BREAKER_OPEN, but for a NEUTRAL or ZONE with no collector, which ends at once in IDLE with its
entry served and the traction-off request withdrawn (R128, R130). That the collector is looked for after held raises have
been discarded is the model's choice (log entry 41). -/
structure TakesEntry (e : Entry) (late : Bool) (b t : Block) : Prop where
  serial : t.record.serial = (b.record.serial + 1) % 65536
  armed  : late = false → t.seq.phase = .armed ∧ t.seq.path = some (pathFor e b) ∧ t.seq.activeEntry = some e.id ∧
    t.seq.lateMark = false
  opens  : late = true → e.kind = .systemChange ∨ (∃ p, t.role p = .collecting) →
    t.seq.phase = .breakerOpen ∧ t.seq.path = some (pathFor e b) ∧ t.seq.activeEntry = some e.id ∧
    t.seq.lateMark = true ∧ breakerEngaged t = false ∧ t.record.tractionOff = true
  ends   : late = true → e.kind ≠ .systemChange → (∀ p, t.role p ≠ .collecting) →
    t.seq.phase = .idle ∧ t.seq.path = none ∧ t.record.tractionOff = false ∧
    ∀ x ∈ t.queue.entries, x.id = e.id → x.active = true → x.served = true
  wanted : e.kind = .systemChange → t.seq.expected = e.newSystem
  scrap  : ∀ p, t.role p ≠ .scraping

/-- The block with the values of a Motion Report held (R114, R115). -/
def Block.heldAt (b : Block) (position speed : Nat) (direction : Direction) : Block :=
  { b with queue := { b.queue with
      position := position, speed := min speed 400, direction := direction, motionAge := 0, stale := false
      lastDirection := if direction = .standstill then b.queue.lastDirection else some direction } }

/-- What an accepted Motion Report that turns no direction round leaves at `t`, where `b` holds its values and `u` is `b`
after the removal pass and the activation: the entries, as far as none is served since, the faults and the serial are
those of `u`, and a Sequencer found in IDLE that `u` has in IDLE or ARMED stays so, with its queue (R115, R121, R122). -/
structure RunsRoute (b u t : Block) : Prop where
  entries : t.queue.entries.map (fun e => { e with served := false }) =
    u.queue.entries.map (fun e => { e with served := false })
  missed  : faultCount .missedSection t = faultCount .missedSection u
  late    : faultCount .lateSection t = faultCount .lateSection u
  kept    : { t.kept with links := u.kept.links } = u.kept
  rests   : b.seq.phase = .idle → u.seq.phase ∈ [.idle, .armed] →
    t.seq = u.seq ∧ t.queue.entries = u.queue.entries
  opens   : b.seq.phase = .idle → u.seq.phase = .breakerOpen → breakerEngaged t = false ∧ t.seq.lateMark = true

/-- The conditions of the wrong-system detection (R91). -/
structure WrongLine (sys : LineSystem) (b : Block) : Prop where
  confirmed  : b.line.confirmed = some (.sys sys)
  determined : ∃ d, b.record.determined = some d ∧ d ≠ sys
  engaged    : breakerEngaged b = true ∨
    ∃ p, b.role p = .collecting ∧ (b.lc p).state = .contact ∧ (b.sw.iso.get p).state = .closed

/-- The wrong-system detection's actions (R91): the breaker's open is asked, WRONG_SYSTEM recorded, the traction-off
request set, and an IDENTIFY path started at PROBE for the confirmed system under the next serial, readiness cleared
and the pre-heat given up; a collector in CONTACT that serves the system stays up as the candidate. An ACTIVE entry
stays ACTIVE (R92). -/
structure DetectsWrongSystem (sys : LineSystem) (b t : Block) : Prop where
  breaker   : breakerEngaged t = false ∧ (breakerEngaged b = true → t.sw.breaker.state = .opening)
  recorded  : faultCount .wrongSystem t = oneMore .wrongSystem b
  subject   : b.cond.faults.first = none → ∃ f, t.cond.faults.first = some f ∧ f.kind = .wrongSystem ∧
    (∀ p, b.role p = .collecting → f.subject = .panto p) ∧ ((∀ p, b.role p ≠ .collecting) → f.subject = .none)
  request   : t.record.tractionOff = true
  serial    : t.record.serial = (b.record.serial + 1) % 65536
  system    : t.record.determined = b.record.determined
  readiness : t.plan.readyA = none ∧ t.plan.readyB = none
  preheat   : t.ice.preheat = none
  path      : t.seq.path = some .identify ∧ t.seq.phase = .probe ∧ t.seq.expected = some sys
  candidate : ∀ p, b.role p = .collecting → (b.lc p).state = .contact → serves (b.head p) sys = true →
    t.seq.candidate = some p ∧ (t.lc p).state = .contact ∧ t.role p = .collecting
  entries   : t.queue = b.queue

/-- The lost-line detection holds: the confirmed class has been DEAD for 60 windows beyond its confirmation, the
breaker is CLOSED and the traction-off request is not set (R94). -/
structure LosesLine (b : Block) : Prop where
  dead    : b.line.confirmed = some .dead
  closed  : b.sw.breaker.state = .closed
  length  : b.nat .confirmCount + 60 ≤ b.line.runLength
  request : b.record.tractionOff = false

/-- What a window close leaves at `t`, where `b` has the window in its Line Monitor and `u` is `b` after the Sequencer has
taken the result: a Sequencer that `u` has in IDLE, or in ARMED or TRACTION_OFF outside WAKING, whose end may halt it,
stays as `u` has it, and the IDENTIFY path that a detection starts is in PROBE, or has gone on to CONFIRM or halted (R89,
R91 to R95, R136). -/
structure AppliesWindow (b u t : Block) : Prop where
  kept   : { t.kept with links := u.kept.links } = u.kept
  wrong  : faultCount .wrongSystem t = faultCount .wrongSystem u
  noLine : faultCount .noLine t = faultCount .noLine u
  rests  : u.seq.phase = .idle ∨ u.seq.phase ∈ [.armed, .tractionOff] ∧ b.cond.mode ≠ .waking →
    t.seq = u.seq ∧ t.record.tractionOff = u.record.tractionOff
  probes : ∀ sys, b.seq.phase ∈ [.idle, .armed, .tractionOff] → WrongLine sys b → OneCollector b →
    breakerEngaged t = false ∧ t.seq.path = some .identify ∧ t.seq.expected = some sys ∧
      t.seq.phase ∈ [.probe, .confirm, .halted]

/-- A value within two bounds, both inclusive (R86). -/
def Between (lo hi v : Int) : Prop := lo ≤ v ∧ v ≤ hi

/-- The table of R86, row by row, for the figures `w` of a measured window under the configuration `c`. -/
structure ClassifiesByTable (c : CfgRec) (w : WindowFigures) (x : LineClass) : Prop where
  row1 : (w.meanAbs : Int) < cfgGet c .deadLevel → x = .dead
  row2 : ∀ f : Nat, w.freq = some f → cfgGet c .deadLevel ≤ w.meanAbs → w.periodValid = true →
    Between (cfgGet c .freqLowAC25) (cfgGet c .freqHighAC25) f →
    (Between (cfgGet c .vrLowAC25) (cfgGet c .vrHighAC25) w.rms → x = .sys .ac25) ∧
      (¬Between (cfgGet c .vrLowAC25) (cfgGet c .vrHighAC25) w.rms → x = .unknown)
  row3 : ∀ f : Nat, w.freq = some f → cfgGet c .deadLevel ≤ w.meanAbs → w.periodValid = true →
    ¬Between (cfgGet c .freqLowAC25) (cfgGet c .freqHighAC25) f →
    Between (cfgGet c .freqLowAC15) (cfgGet c .freqHighAC15) f →
    (Between (cfgGet c .vrLowAC15) (cfgGet c .vrHighAC15) w.rms → x = .sys .ac15) ∧
      (¬Between (cfgGet c .vrLowAC15) (cfgGet c .vrHighAC15) w.rms → x = .unknown)
  row4 : ∀ f : Nat, w.freq = some f → cfgGet c .deadLevel ≤ w.meanAbs → w.periodValid = true →
    ¬Between (cfgGet c .freqLowAC25) (cfgGet c .freqHighAC25) f →
    ¬Between (cfgGet c .freqLowAC15) (cfgGet c .freqHighAC15) f → x = .unknown
  row5 : cfgGet c .deadLevel ≤ w.meanAbs → w.periodValid = false → 0 ≤ w.mean →
    (Between (cfgGet c .meanLowDC3) (cfgGet c .meanHighDC3) w.mean → x = .sys .dc3) ∧
      (¬Between (cfgGet c .meanLowDC3) (cfgGet c .meanHighDC3) w.mean →
        (Between (cfgGet c .meanLowDC15) (cfgGet c .meanHighDC15) w.mean → x = .sys .dc15) ∧
          (¬Between (cfgGet c .meanLowDC15) (cfgGet c .meanHighDC15) w.mean → x = .unknown))
  row6 : cfgGet c .deadLevel ≤ w.meanAbs → w.periodValid = false → w.mean < 0 → x = .unknown

/-- The crossing capture at a sample `v` (R83): it arms at -100 and below; an armed sample of 100 or more is a
crossing, which disarms it, starts the count anew and, where a crossing was seen before it, takes the count with this
sample as the last period (DEDUCED, log entry 33). -/
structure CapturesCrossing (v : Int) (l m : LineMon) : Prop where
  crossing : l.armed = true → 100 ≤ v → m = { l with
    armed := false, crossSeen := true, crossCount := 0
    lastPeriod := if l.crossSeen = true then some (min 65535 (l.crossCount + 1)) else l.lastPeriod }
  counts   : ¬(l.armed = true ∧ 100 ≤ v) →
    m = { l with armed := l.armed || decide (v ≤ -100), crossCount := min 65535 (l.crossCount + 1) }

/-- MASTER_READY is entered: the system taken is the determined one with the candidate as its source, readiness is
cleared where it changed, and the wait begins (R18, R139). -/
structure EntersMasterReady (sys : LineSystem) (c : Panto) (b t : Block) : Prop where
  phase      : t.seq.phase = .masterReady
  timer      : t.seq.timer = some 0
  determined : t.record.determined = some sys
  source     : t.record.source = some c
  kept       : b.record.determined = some sys → t.plan = b.plan
  cleared    : b.record.determined ≠ some sys → t.plan = { b.plan with readyA := none, readyB := none }

/-- The readiness record of each present traction master names the determined system under the present serial (R139). -/
def ReadyNow (b : Block) : Prop :=
  ∀ l m, masterOf l = some m → (b.links.get l).present = true →
    ∃ r, (if m = .a then b.plan.readyA else b.plan.readyB) = some r ∧ b.record.determined = some r.sys ∧
      r.serial = b.record.serial

/-! ## Heaters and the current-limit advisory (R158, R160, R161) -/

/-- D1, D2 or D3 at level 1, 2 or 3, and 0 at level 0. -/
def heatOf (b : Block) : Nat :=
  if b.ice.level = 0 then 0
  else if b.ice.level = 1 then b.nat .heatDuty1
  else if b.ice.level = 2 then b.nat .heatDuty2
  else b.nat .heatDuty3

/-- The pantograph holds the role and is in RAISING or CONTACT. -/
def claims (r : Role) (b : Block) (p : Panto) : Bool :=
  b.role p == r && ((b.lc p).state == .raising || (b.lc p).state == .contact)

/-- The pantograph is named for pre-heat and STOWED. -/
def preheats (b : Block) (p : Panto) : Bool := b.ice.preheat == some p && (b.lc p).state == .stowed

/-- What the pantographs of a claim are given together. -/
def given (claim : Panto → Bool) (b : Block) : Nat :=
  ((Panto.all.filter claim).map fun p => b.ice.duty.get p).sum

/-- Demands and duties as R160 and R161 give them: the collector first, then the pre-heat, then the scraper, each what
it demands or what remains of HeatBudget where that is less. -/
structure SharesHeat (b : Block) : Prop where
  collector : ∀ p, claims .collecting b p = true →
    b.ice.demand.get p = heatOf b ∧ b.ice.duty.get p = min (heatOf b) (b.nat .heatBudget)
  preheat   : ∀ p, preheats b p = true →
    b.ice.demand.get p = b.nat .preDuty ∧
      b.ice.duty.get p = min (b.nat .preDuty) (b.nat .heatBudget - given (claims .collecting b) b)
  scraper   : ∀ p, claims .scraping b p = true →
    b.ice.demand.get p = heatOf b ∧
      b.ice.duty.get p =
        min (heatOf b) (b.nat .heatBudget - given (claims .collecting b) b - given (preheats b) b)
  others    : ∀ p, claims .collecting b p = false → preheats b p = false → claims .scraping b p = false →
    b.ice.demand.get p = 0 ∧ b.ice.duty.get p = 0

/-- The heater shares of a state with at most one collector and at most one scraper: demands and duties are those of
R160 and R161, and from a warm restart to the end of its adoption 0 (R159). That the demands are 0 then is the model's
choice (log entry 37). -/
structure ShareLaw (b : Block) : Prop where
  shares : b.cond.restart = none → SharesHeat b
  waits  : b.cond.restart.isSome = true → ∀ p, b.ice.demand.get p = 0 ∧ b.ice.duty.get p = 0

/-- At most one pantograph holds SCRAPING. -/
def OneScraper (b : Block) : Prop := ∀ p x, b.role p = .scraping → b.role x = .scraping → p = x

/-- The advisory follows the level over an event: CurrentLimit as it becomes 3, absent as it falls below 3; while it
is 3 it takes a write of CurrentLimit, one of the value that stands there too, and is otherwise as it was (R158). -/
structure AdvisesLimit (b t : Block) : Prop where
  rises   : b.ice.level ≠ 3 → t.ice.level = 3 → t.record.advisory = some (t.nat .currentLimit)
  falls   : b.ice.level = 3 → t.ice.level ≠ 3 → t.record.advisory = none
  written : b.ice.level = 3 → t.ice.level = 3 → t.cfg .currentLimit ≠ b.cfg .currentLimit →
    t.record.advisory = some (t.nat .currentLimit)
  stays   : b.ice.level ≠ 3 → t.ice.level ≠ 3 → t.record.advisory = b.record.advisory
  holds   : b.ice.level = 3 → t.ice.level = 3 → t.cfg .currentLimit = b.cfg .currentLimit →
    t.record.advisory = b.record.advisory ∨ t.record.advisory = some (t.nat .currentLimit)

/-! ## The Status Digest as the table of R187 lays it out -/

/-- Fields of a byte or a byte group, each with its width in bits, the most significant first. -/
def packed : List (Nat × Nat) → Nat := List.foldl (fun n f => n * 2 ^ f.1 + f.2) 0

/-- The position of a value in a list of the manual, counting from 0. -/
def place {α : Type} [BEq α] (xs : List α) (x : α) : Nat := xs.idxOf x

/-- The position of a value that may be absent: 0 where it is, and counting from 1. -/
def placeOf {α : Type} [BEq α] (xs : List α) (x : Option α) : Nat :=
  match x with
  | some v => xs.idxOf v + 1
  | none => 0

/-- The lists of 1.5.6, of R141 and of 10.4. -/
def modeList : List Mode := [.dormant, .waking, .standby, .service, .workshop]
def systemList : List LineSystem := [.ac25, .ac15, .dc3, .dc15]
def classList : List LineClass := [.sys .ac25, .sys .ac15, .sys .dc3, .sys .dc15, .dead, .unknown]
def roleList : List Role := [.none, .collecting, .scraping, .calibrating]
def liftList : List LiftState := [.stowed, .raising, .contact, .lowering, .dropped, .searching, .outOfService]
def heldList : List Held := [.none, .behindLowering, .dwell, .air]
def twoList : List TwoState := [.opened, .closing, .closed, .opening, .failed]
def selList : List SelState := [.ac, .dc, .mid, .moving, .failed]
def phaseList : List Phase := [.idle, .armed, .tractionOff, .breakerOpen, .lowering, .coast, .probe, .confirm,
  .masterReady, .close, .halted]
def pathList : List Path := [.sectionChange, .neutral, .zone, .select, .identify, .substitute]
def reasonList : List HaltReason := [.breaker, .lower, .switch, .positionLost, .noPantograph, .raise, .mismatch, .noLine,
  .masterNotReady, .noMaster, .add, .masterLower, .emergency, .routeReversed, .restart]
def faultList : List FaultKind := [.addTrip, .switchFailed, .wrongSystem, .lateSection, .missedSection, .positionLost,
  .lowerTimeout, .raiseTimeout, .noWire, .servoDeviation, .tractionNotReduced, .noLine, .masterNotReady,
  .calibrationFailed, .airLow, .sensorFault, .configBad, .noPantograph]
def subjectList : List Subject := [.none, .panto .p1, .panto .p2, .panto .p3, .panto .p4, .switch .breaker,
  .switch .selector, .switch (.iso .p1), .switch (.iso .p2), .switch (.iso .p3), .switch (.iso .p4), .switch .earth,
  .link .a, .link .b, .link .p]

/-- A number in two bytes, the most significant first (R179). -/
def twoBytes (n : Nat) : List Nat := [n / 256, n % 256]

/-- The group of four bits of a breaker, an isolator or the earthing switch. -/
def switchGroup (w : TwoSw) : Nat := packed [(3, place twoList w.state), (1, w.disagree.toNat)]

def liftDigest (b : Block) (p : Panto) : Nat :=
  packed [(2, place roleList (b.role p)), (3, place liftList (b.lc p).state), (2, place heldList (b.lc p).held),
    (1, (b.lc p).lowerPending.toNat)]

def readyDigest (b : Block) (r : Option Ready) : Nat :=
  packed [(3, placeOf systemList (r.map Ready.sys)), (1, (r.any fun x => x.serial == b.record.serial).toNat), (4, 0)]

def calDigest (b : Block) (p : Panto) : Nat :=
  packed [(2, place [CalStatus.none, .valid, .suspect, .failed] (b.cal.get p).fields.status), (1, (stale b p).toNat),
    (1, (!(b.cal.get p).saved).toNat), (1, (b.lc p).servoDeviation.toNat), (1, (b.lc p).lowerOverdue.toNat),
    (1, (b.lc p).noWireLower.toNat), (1, (uncalibrated b p).toNat)]

/-- The channel is not GOOD. -/
def Chan.bad (c : Chan) : Nat := (c.validity != .good).toNat

/-- Some result is FAIL. -/
def fails (l : List (Option TestResult)) : Nat := (l.any fun r => r == some .fail).toNat

/-- The 47 bytes of the Status Digest, row by row (R187), for a link whose mask is `m`. -/
def statusDigest (m : Mask) (b : Block) : List Nat :=
  let e := b.queue.entries.find? fun x => x.active
  let c := b.sensors
  let r := b.cond.selfTest
  [m.toNat / 256, m.toNat % 256] ++
  [packed [(3, place modeList b.cond.mode), (1, b.cond.standbyLowering.toNat), (1, b.cond.heldWake.toNat), (3, 0)]] ++
  twoBytes b.plan.epoch ++ [packed [(2, placeOf [Master.a, .b] b.plan.lead), (1, b.plan.hold.toNat), (5, 0)]] ++
  [liftDigest b .p1, liftDigest b .p2, liftDigest b .p3, liftDigest b .p4] ++
  [readyDigest b b.plan.readyA, readyDigest b b.plan.readyB] ++
  [packed [(3, placeOf systemList b.record.determined), (3, placeOf [Panto.p1, .p2, .p3, .p4] b.record.source),
      (1, b.record.tractionOff.toNat), (1, b.record.advisory.isSome.toNat)],
    packed [(3, placeOf classList b.line.confirmed), (5, 0)]] ++
  twoBytes b.record.serial ++ twoBytes (b.record.advisory.getD 0) ++
  [place phaseList b.seq.phase,
    packed [(3, placeOf pathList b.seq.path), (3, placeOf [Panto.p1, .p2, .p3, .p4] b.seq.candidate),
      (1, b.seq.mismatch.toNat), (1, 0)],
    placeOf reasonList b.seq.haltReason] ++
  [packed [(4, switchGroup b.sw.breaker), (3, place selList b.sw.selector.state), (1, b.sw.selector.disagree.toNat)],
    packed [(4, switchGroup b.sw.iso.p1), (4, switchGroup b.sw.iso.p2)],
    packed [(4, switchGroup b.sw.iso.p3), (4, switchGroup b.sw.iso.p4)],
    packed [(4, switchGroup b.sw.earth), (4, 0)]] ++
  [calDigest b .p1, calDigest b .p2, calDigest b .p3, calDigest b .p4] ++
  [packed [(1, 0), (1, b.line.measureFaulty.toNat), (1, c.ambient.bad), (1, c.reservoir.bad),
      (1, c.height.p4.bad), (1, c.height.p3.bad), (1, c.height.p2.bad), (1, c.height.p1.bad)],
    packed [(1, c.strip.p4.bad), (1, c.strip.p3.bad), (1, c.strip.p2.bad), (1, c.strip.p1.bad),
      (1, c.actuator.p4.bad), (1, c.actuator.p3.bad), (1, c.actuator.p2.bad), (1, c.actuator.p1.bad)]] ++
  [packed [(1, e.isSome.toNat), (4, b.queue.entries.length), (1, b.queue.stale.toNat),
      (2, place [Direction.standstill, .forward, .reverse] b.queue.direction)]] ++
  twoBytes ((e.map Entry.id).getD 0) ++
  [packed [(2, b.ice.level), (2, b.ice.forced), (1, b.ice.enable.toNat), (3, 0)],
    packed [(3, placeOf [Panto.p1, .p2, .p3, .p4] b.ice.scraper),
      (3, placeOf [Panto.p1, .p2, .p3, .p4] b.ice.preheat), (2, 0)],
    b.ice.duty.p1, b.ice.duty.p2, b.ice.duty.p3, b.ice.duty.p4] ++
  twoBytes b.ice.arcCount ++
  [packed [(1, b.cond.faults.present.toNat), (2, 0), (5, placeOf faultList (b.cond.faults.first.map FirstFault.kind))],
    place subjectList ((b.cond.faults.first.map FirstFault.subject).getD .none)] ++
  [packed [(5, 0), (1, b.links.a.present.toNat), (1, b.links.b.present.toNat), (1, b.links.p.present.toNat)]] ++
  [packed [(1, r.completed.toNat), (1, fails [r.config]),
    (1, fails [r.calibration.p1, r.calibration.p2, r.calibration.p3, r.calibration.p4]),
    (1, fails [r.sensors.actuator.p1, r.sensors.actuator.p2, r.sensors.actuator.p3, r.sensors.actuator.p4,
      r.sensors.strip.p1, r.sensors.strip.p2, r.sensors.strip.p3, r.sensors.strip.p4, r.sensors.height.p1,
      r.sensors.height.p2, r.sensors.height.p3, r.sensors.height.p4, r.sensors.reservoir, r.sensors.ambient]),
    (1, fails [r.valves.p1, r.valves.p2, r.valves.p3, r.valves.p4]),
    (1, fails [r.strips.p1, r.strips.p2, r.strips.p3, r.strips.p4]),
    (1, fails [r.switches.breaker, r.switches.selector, r.switches.iso.p1, r.switches.iso.p2, r.switches.iso.p3,
      r.switches.iso.p4, r.switches.earth]),
    (1, fails [r.links.a, r.links.b, r.links.p])]] ++
  [packed [(6, 0), (1, b.cond.configGood.toNat), (1, (!b.cond.configSaved).toNat)]]

/-- A channel's value with its validity, as the reads show them (R186). -/
def Chan.shown (c : Chan) : ChanView := ⟨c.value, c.validity⟩

/-- A breaker, isolator or earthing switch as Read Switches shows it, the time remaining counted from its operation
timeout (R186). -/
def TwoSw.shown (w : TwoSw) (limit : Nat) : TwoSwView :=
  ⟨w.state, w.lastCmd, w.source, w.disagree, w.timer.map fun t => limit - t⟩

/-- A conversion within a plausible range (R23). -/
def inRange (lo hi : Int) (v : Option Int) : Bool :=
  match v with
  | some x => lo ≤ x && x ≤ hi
  | none => false

/-- How many channels a scan makes FAULTY whose fault has not been reported: each records SENSOR_FAULT (R24). -/
def newlyFaulty (r : Readings) (s : Sensors) : Nat :=
  let bad (lo hi : Int) (v : Option Int) (c : Chan) : Nat := if inRange lo hi v || c.reported then 0 else 1
  (Panto.all.map fun p => bad 0 6000 (r.actuator.get p) (s.actuator.get p) +
    bad 0 6000 ((r.strip.get p).map (max 0)) (s.strip.get p) + bad 0 3000 (r.height.get p) (s.height.get p)).sum +
    bad 0 6000 r.reservoir s.reservoir + bad (-50) 60 r.ambient s.ambient

/-- A channel after a scan: its conversion where it is within the plausible range, and otherwise FAULTY on its held
value (R23, R24). -/
def published (lo hi : Int) (v : Option Int) (c : Chan) : Chan :=
  match v with
  | some x => if lo ≤ x ∧ x ≤ hi then ⟨some x, .good, false⟩ else ⟨c.value, .faulty, true⟩
  | none => ⟨c.value, .faulty, true⟩

end Sys2Proof.Machine
end

