-- ==== Sys2Proof/Certificates/Slice0/Obligations.lean ====
section
/-!
DEFINITION. The statements for the provers. Each docstring names the rule of spec/ it
formalises. -/

open Sys2Proof Sys2Proof.Machine

/-! ## The machine and its frames -/

/-- A step runs the command at the front of the queue on the state with the queue's rest; on an empty queue it changes
nothing (the model's choice, log entry 1). -/
def Obligations.StepRunsTheFront : Prop :=
  (∀ c rest b, step ⟨c :: rest, b⟩ = exec c ⟨rest, b⟩) ∧ ∀ b, step ⟨[], b⟩ = .next ⟨[], b⟩

/-- Every command is taken whole and answered with a next state, whatever the state, and leaves the commands that wait
alone (00_scope.md 1.5.4: the part stops on nothing). -/
def Obligations.EveryCommandCompletes : Prop :=
  ∀ c s, ∃ t, exec c s = .next t ∧ t.pending = s.pending

/-- Decode and encode agree: the frame of every well-formed request is judged valid, and carries exactly that request
(R179, R180, R185). -/
def Obligations.FramesCarryTheirRequests : Prop :=
  ∀ c l bytes, c.wf = true → encodeRequest c = some (l, bytes) →
    ∃ code tag payload, judgeFrame bytes = .valid code tag payload ∧ parseRequest l code tag payload = c

/-- The last byte of a valid frame runs the request that the frame carries (R180, R181). -/
def Obligations.LastByteRunsTheRequest : Prop :=
  ∀ c l bytes last s, c.wf = true → encodeRequest c = some (l, bytes ++ [last]) →
    (s.block.links.get l).frame = some bytes →
    ∃ t, exec c s = .next t ∧ exec (.frameOpened l last) s = .next t

/-- Outside a frame 0xC3 opens one and any other byte is passed over; a byte after which more belongs to the frame is
taken into it; nothing else changes (R180). -/
def Obligations.BytesAssembleFrames : Prop :=
  ∀ l byte s,
    ((s.block.links.get l).frame = none →
      exec (.frameOpened l byte) s = 
        .next (if byte = 0xC3#8 then s.withLink l { s.block.links.get l with frame := some [] } else s)) ∧
    (∀ bytes, (s.block.links.get l).frame = some bytes → judgeFrame (bytes ++ [byte]) = .more →
      exec (.frameOpened l byte) s =
        .next (s.withLink l { s.block.links.get l with frame := some (bytes ++ [byte]) }))

/-- A frame in progress is bad at the byte that shows it: a kind byte other than 0x01, a length byte above 48, a check
byte that disagrees; and when more than 100 microseconds pass after a byte. It is discarded without reply, the count
rises, and presence and everything else stay (R180). That BAD_FRAME counts with no frame in progress, and that
FRAME_BYTE_TIMEOUT outside a frame changes nothing, is the model's choice (log entry 28). -/
def Obligations.BadFramesAreDiscarded : Prop :=
  ∀ l s,
    (∀ why, exec (.badFrame l why) s = .next (s.afterBadFrame l)) ∧
    ((s.block.links.get l).frame.isSome = true →
      exec (.frameByteTimeout l) s = .next (s.afterBadFrame l)) ∧
    ((s.block.links.get l).frame = none → exec (.frameByteTimeout l) s = .next s) ∧
    (∀ kind, (s.block.links.get l).frame = some [] → kind ≠ 0x01#8 →
      exec (.frameOpened l kind) s = .next (s.afterBadFrame l)) ∧
    (∀ code tag n, (s.block.links.get l).frame = some [0x01, code, tag] → 48 < n.toNat →
      exec (.frameOpened l n) s = .next (s.afterBadFrame l)) ∧
    (∀ code tag n payload check, (s.block.links.get l).frame = some (0x01 :: code :: tag :: n :: payload) →
      payload.length = n.toNat → check ≠ crc8 (0x01 :: code :: tag :: n :: payload) →
      exec (.frameOpened l check) s = .next (s.afterBadFrame l))

/-- A reply that ends leaves the link's queue and the next begins; after the reply to an accepted Restart the warm
restart is taken (R182). With no reply to end nothing happens: the model's choice (log entry 28). The frame of a reply
(R179): the start byte, the kind REPLY, the code and tag of its request, the length, the outcome, after REFUSED its
code, the data of a DONE or CLAMPED reply, and the check over the bytes after the first; that a reply with no evicted
marker carries its outcome alone is the model's choice (log entry 27). -/
def Obligations.RepliesLeaveInOrder : Prop :=
  (∀ l contacts s,
    ((s.block.links.get l).replies = [] → exec (.replySent l contacts) s = .next s) ∧
    ∀ r rest, (s.block.links.get l).replies = r :: rest →
      ∃ sent : State,
        sent = s.withLink l { s.block.links.get l with replies := rest } ∧
        (¬(r.code = 0x16 ∧ r.outcome = .accepted) → exec (.replySent l contacts) s = .next sent) ∧
        (r.code = 0x16 → r.outcome = .accepted →
          exec (.replySent l contacts) s = exec (.warmRestart contacts) sent)) ∧
  (∀ code tag o data bytes,
    (data = .none ∧ bytes = [] ∨ (∃ n, data = .epoch n ∧ bytes = [n / 256 % 256, n % 256]) ∨
      (∃ n, data = .evicted (some n) ∧ bytes = [n / 256 % 256, n % 256]) ∨ data = .evicted none ∧ bytes = [] ∨
      ∃ d : List Byte, data = .digest d ∧ bytes = d.map BitVec.toNat) →
    ∃ body : List Byte,
      body = (0x02 :: code :: tag :: (outcomeBytes o ++ bytes).length :: (outcomeBytes o ++ bytes)).map
        (BitVec.ofNat 8) ∧
      replyFrame ⟨code, tag, o, data⟩ = some (0xC3#8 :: body ++ [crc8 body])) ∧
  outcomeBytes .accepted = [0x00] ∧ outcomeBytes .done = [0x01] ∧ outcomeBytes .clamped = [0x02] ∧
  [RefCode.notLead, .leadHeld, .wrongMode, .wrongLink, .busy, .interlock, .airLimit, .emergencyHold, .changeoverActive,
    .queueFull, .staleMarker, .overlap, .markerLocked, .staleReady, .outOfRange, .notAvailable, .tooSoon,
    .unknownRequest].map (fun c => outcomeBytes (.refused c)) = (List.range 18).map fun k => [0x03, k + 1]

/-- Every request is answered once, on its link, with its code and tag, after the replies that wait; it makes its link
PRESENT, restarts its timer and ends its frame; the other links keep all but their masks (R181 to R183). -/
def Obligations.EveryRequestIsAnswered : Prop :=
  ∀ c q code payload s, requestOf c = some (q, code, payload) →
    ∃ t r, exec c s = .next t ∧ r.code = code ∧ r.tag = q.tag ∧ Answered s t q.link r ∧
      (t.block.links.get q.link).present = true ∧ (t.block.links.get q.link).age = some 0 ∧
      (t.block.links.get q.link).frame = none ∧
      (t.block.links.get q.link).badFrames = (s.block.links.get q.link).badFrames ∧
      ∀ l, l ≠ q.link → t.block.links.get l = { s.block.links.get l with mask := (t.block.links.get l).mask }

/-- Checks 1 to 4 of R181, in their order: an unknown code, a link the catalogue does not allow, a payload that R185
does not give, and DORMANT for anything but a read or a Wake. The first that fails refuses the request and nothing
changes but the links. -/
def Obligations.ExaminationRefuses : Prop :=
  (∀ q code s, ∃ t, exec (.unknownRequest q code) s = .next t ∧ OnlyLinks s t ∧
    Answered s t q.link (plainReply code q (.refused .unknownRequest))) ∧
  ∀ c q code payload row s, requestOf c = some (q, code, payload) → catalogue c = some row →
    ∀ why, (row.links.permits q.link = false ∧ why = .wrongLink) ∨
        (row.links.permits q.link = true ∧ q.wellFormed = false ∧ why = .outOfRange) ∨
        (row.links.permits q.link = true ∧ q.wellFormed = true ∧ s.block.cond.mode = .dormant ∧
          row.dormant = false ∧ why = .wrongMode) →
      ∃ t, exec c s = .next t ∧ OnlyLinks s t ∧ Answered s t q.link (plainReply code q (.refused why))

/-- The lead check: a request reserved to the lead holder is refused NOT_LEAD from any other traction master, and a Wake
while another master holds the lead; nothing changes but the links (R4). -/
def Obligations.OnlyTheLeadIsHeard : Prop :=
  ∀ c q code payload row s, requestOf c = some (q, code, payload) → catalogue c = some row →
    row.links = .traction → (masterOf q.link).isSome = true → q.wellFormed = true →
    (s.block.cond.mode ≠ .dormant ∨ row.dormant = true) → masterOf q.link ≠ s.block.plan.lead →
    (row.column = .lead ∨ row.column = .leadIfHeld ∧ s.block.plan.lead.isSome = true) →
    ∃ t, exec c s = .next t ∧ OnlyLinks s t ∧ Answered s t q.link (plainReply code q (.refused .notLead))

/-- 500 ms without a valid frame: a PRESENT link becomes ABSENT, a lead its master holds lapses, that master's readiness
is cleared, and the hold, the other link states and the other master's readiness stay (R3, R18). Where a valid frame
that came together with the expiry has been taken first, and has started the timer again, the link stays PRESENT and
nothing is reported (R183). That an ABSENT link stays as it is, is the model's choice (log entry 28). -/
def Obligations.PresenceIsLost : Prop :=
  ∀ l s, ∃ t, exec (.linkPresenceTimeout l) s = .next t ∧
    ((s.block.links.get l).present = true → (s.block.links.get l).age ≠ some 0 →
      (t.block.links.get l).present = false ∧
      t.block.plan.lead =
        (if (masterOf l).isSome = true ∧ masterOf l = s.block.plan.lead then none else s.block.plan.lead) ∧
      t.block.plan.readyA = (if l = .a then none else s.block.plan.readyA) ∧
      t.block.plan.readyB = (if l = .b then none else s.block.plan.readyB)) ∧
    ((s.block.links.get l).present = true → (s.block.links.get l).age = some 0 → t.block.kept = s.block.kept) ∧
    ((s.block.links.get l).present = false → t.block.kept = s.block.kept) ∧
    t.block.plan.hold = s.block.plan.hold ∧
    ∀ m, m ≠ l → (t.block.links.get m).present = (s.block.links.get m).present

/-- The law of R3 is kept by every step. -/
def Obligations.LeadIsHeldByAPresentLink : Prop :=
  ∀ s t, LeadLaw s.block → step s = .next t → LeadLaw t.block

/-- Claim Lead (R1): granted to the requester where the holder is NONE, with the epoch after the change; DONE with no
change for the holder; LEAD_HELD where the other master holds it; refused WRONG_MODE in DORMANT and WRONG_LINK on
Link P. -/
def Obligations.ClaimLeadIsDecided : Prop :=
  ∀ q s,
    (∀ m, Speaks q s.block → masterOf q.link = some m →
      ∃ t, exec (.claimLead q) s = .next t ∧
        (s.block.plan.lead = none →
          t.block = { s.block with
            plan := { s.block.plan with lead := some m, epoch := (s.block.plan.epoch + 1) % 65536 }
            links := t.block.links } ∧
          Answered s t q.link ⟨0x01, q.tag, .done, .epoch t.block.plan.epoch⟩) ∧
        (s.block.plan.lead = some m →
          OnlyLinks s t ∧ Answered s t q.link ⟨0x01, q.tag, .done, .epoch s.block.plan.epoch⟩) ∧
        (∀ other, s.block.plan.lead = some other → other ≠ m →
          OnlyLinks s t ∧ Answered s t q.link (plainReply 0x01 q (.refused .leadHeld)))) ∧
    (q.wellFormed = true → (masterOf q.link).isSome = true → s.block.cond.mode = .dormant →
      ∃ t, exec (.claimLead q) s = .next t ∧ OnlyLinks s t ∧
        Answered s t q.link (plainReply 0x01 q (.refused .wrongMode))) ∧
    (q.link = .p → ∃ t, exec (.claimLead q) s = .next t ∧ OnlyLinks s t ∧
      Answered s t q.link (plainReply 0x01 q (.refused .wrongLink)))

/-- Release Lead (R2): from the holder the lead becomes NONE, answered DONE, and nothing else changes but the epoch and
the links; from another master it is refused NOT_LEAD. While the holder is NONE every request reserved to the lead is
refused NOT_LEAD. -/
def Obligations.ReleaseLeadIsDecided : Prop :=
  (∀ q s, Speaks q s.block → ∃ t, exec (.releaseLead q) s = .next t ∧
    (masterOf q.link = s.block.plan.lead →
      t.block = { s.block with
        plan := { s.block.plan with lead := none, epoch := (s.block.plan.epoch + 1) % 65536 }
        links := t.block.links } ∧
      Answered s t q.link (plainReply 0x02 q .done)) ∧
    (masterOf q.link ≠ s.block.plan.lead →
      OnlyLinks s t ∧ Answered s t q.link (plainReply 0x02 q (.refused .notLead)))) ∧
  ∀ c q code payload row s, requestOf c = some (q, code, payload) → catalogue c = some row → row.column = .lead →
    Speaks q s.block → s.block.plan.lead = none →
    ∃ t, exec c s = .next t ∧ OnlyLinks s t ∧ Answered s t q.link (plainReply code q (.refused .notLead))

/-- Declare Ready (R17): from either master, accepted where system and serial are the Line Record's, and then that
master's record holds them and the other's stays; otherwise refused STALE_READY. -/
def Obligations.DeclareReadyIsDecided : Prop :=
  ∀ q sys serial s, Speaks q s.block → ∃ t, exec (.declareReady q sys serial) s = .next t ∧
    (s.block.record.determined = some sys → s.block.record.serial = serial →
      t.block.plan.readyA = (if q.link = .a then some ⟨sys, serial⟩ else s.block.plan.readyA) ∧
      t.block.plan.readyB = (if q.link = .b then some ⟨sys, serial⟩ else s.block.plan.readyB) ∧
      { t.block.kept with links := s.block.kept.links, readyA := s.block.kept.readyA,
                          readyB := s.block.kept.readyB } = s.block.kept ∧
      Answered s t q.link (plainReply 0x09 q .done)) ∧
    (¬(s.block.record.determined = some sys ∧ s.block.record.serial = serial) →
      OnlyLinks s t ∧ Answered s t q.link (plainReply 0x09 q (.refused .staleReady)))

/-- Emergency Lower (R15): the hold is set, the breaker is neither CLOSING nor CLOSED, no pantograph is left RAISING, in
CONTACT or SEARCHING, and a path not IDLE is HALTED with reason EMERGENCY. Between a warm restart and its adoption scan
no lift state and no role changes (R21, R44): the lowers are noted for that scan (the model's choice, log entry 26).
Release Hold (R16): the hold is clear, and a HALTED changeover stays halted; with the hold clear already, nothing
changes but the links. -/
def Obligations.EmergencyHoldIsSetAndReleased : Prop :=
  (∀ q s, Protects q s.block → ∃ t, exec (.emergencyLower q) s = .next t ∧
    t.block.plan.hold = true ∧ breakerEngaged t.block = false ∧
    (s.block.cond.restart = none → ∀ p, (t.block.lc p).state.raised = false) ∧
    (s.block.cond.restart.isSome = true → s.block.cond.standbyLowering = false → ∀ p,
      (t.block.lc p).state = (s.block.lc p).state ∧ t.block.plan.roles.get p = s.block.plan.roles.get p ∧
      (t.block.lc p).lowerNoted = true) ∧
    (s.block.seq.phase ≠ .idle → t.block.seq.phase = .halted ∧ t.block.seq.haltReason = some .emergency) ∧
    (s.block.seq.phase = .idle → t.block.seq.phase = .idle) ∧
    t.block.plan.lead = s.block.plan.lead ∧ t.block.sw.earth = s.block.sw.earth ∧
    Answered s t q.link (plainReply 0x23 q .accepted)) ∧
  ∀ q s, Protects q s.block → ∃ t, exec (.releaseHold q) s = .next t ∧
    t.block.plan.hold = false ∧ Answered s t q.link (plainReply 0x24 q .done) ∧
    (s.block.seq.phase = .halted → t.block.seq.phase = .halted) ∧
    (s.block.plan.hold = false → OnlyLinks s t)

/-! ## Pantographs -/

/-- Raise Pn on a pantograph free to be raised (R6, R29): it is given COLLECTING with the requester as origin; STOWED
with its dwell over and the reservoir sufficient it is RAISING from pressure 0; while the dwell runs the raise is held
DWELL, with too little air AIR, and in LOWERING BEHIND_LOWERING. The first of the nine conditions of R6 that fails
refuses it with its code and nothing changes; once the first five are met, a Raise of a pantograph that is up as
collector or has a raise held is DONE with no change; a collector in LOWERING has its raise held until the lowering
ends, the role keeping its origin. Raise AUTO (R7) is examined against conditions 1 to 4: with the determined system
absent it starts an IDENTIFY path; where a pantograph collects and serves the system it is DONE with no change; where
none that serves it is available it is refused NOT_AVAILABLE; otherwise it is the Raise of the preferred pantograph: the
one that serves the determined system and is available, at the preferred end before the other, the lowest number
first. -/
def Obligations.RaiseIsTaken : Prop :=
  (∀ q p s, Leads q s.block → MayRaise p s.block → (s.block.lc p).held = .none →
    ((s.block.lc p).state = .stowed ∨ (s.block.lc p).state = .lowering) →
    ∃ t, exec (.raise q p) s = .next t ∧ Answered s t q.link (plainReply 0x05 q .accepted) ∧ KeepsRest s t ∧
      t.block.plan.roles.get p = ⟨.collecting, some (originOf q.link)⟩ ∧
      ((s.block.lc p).state = .stowed → (s.block.lc p).dwellTimer = none → airSufficient s.block = true →
        (t.block.lc p).state = .raising ∧ (t.block.lc p).commanded = 0 ∧ (t.block.lc p).raiseTimer = some 0) ∧
      ((s.block.lc p).state = .stowed → (s.block.lc p).dwellTimer.isSome = true →
        (t.block.lc p).state = .stowed ∧ (t.block.lc p).held = .dwell) ∧
      ((s.block.lc p).state = .stowed → (s.block.lc p).dwellTimer = none → airSufficient s.block = false →
        (t.block.lc p).state = .stowed ∧ (t.block.lc p).held = .air ∧ (t.block.lc p).airTimer = some 0) ∧
      ((s.block.lc p).state = .lowering →
        (t.block.lc p).state = .lowering ∧ (t.block.lc p).held = .behindLowering) ∧
      (Resting s.block → NoScraper s.block → OthersStay p s t)) ∧
  (∀ q p s, Leads q s.block → ∃ t, exec (.raise q p) s = .next t ∧
    (∀ c, firstUnmet ((raiseConditions p s.block).take 5) = some c →
      OnlyLinks s t ∧ Answered s t q.link (plainReply 0x05 q (.refused c))) ∧
    (firstUnmet ((raiseConditions p s.block).take 5) = none → Collects p s.block →
      OnlyLinks s t ∧ Answered s t q.link (plainReply 0x05 q .done)) ∧
    (¬Collects p s.block → ∀ c, firstUnmet (raiseConditions p s.block) = some c →
      OnlyLinks s t ∧ Answered s t q.link (plainReply 0x05 q (.refused c))) ∧
    (¬Collects p s.block → firstUnmet (raiseConditions p s.block) = none →
      Answered s t q.link (plainReply 0x05 q .accepted) ∧ KeepsRest s t ∧
      (returning s.block p = true →
        (t.block.lc p).state = .lowering ∧ (t.block.lc p).held = .behindLowering ∧
        t.block.plan.roles.get p = s.block.plan.roles.get p))) ∧
  (∀ q s, Leads q s.block → ∃ t, exec (.raiseAuto q) s = .next t ∧
    (∀ p c, firstUnmet ((raiseConditions p s.block).take 4) = some c →
      OnlyLinks s t ∧ Answered s t q.link (plainReply 0x05 q (.refused c))) ∧
    (∀ p, firstUnmet ((raiseConditions p s.block).take 4) = none →
      (s.block.record.determined = none →
        t.block.seq.path = some .identify ∧ t.block.record.serial = (s.block.record.serial + 1) % 65536 ∧
        Answered s t q.link (plainReply 0x05 q .accepted)) ∧
      ∀ sys, s.block.record.determined = some sys →
        ((∃ x, s.block.role x = .collecting ∧ serves (s.block.head x) sys = true) →
          OnlyLinks s t ∧ Answered s t q.link (plainReply 0x05 q .done)) ∧
        ((∀ x, serves (s.block.head x) sys = true → s.block.role x ≠ .collecting ∧ available s.block x = false) →
          OnlyLinks s t ∧ Answered s t q.link (plainReply 0x05 q (.refused .notAvailable))))) ∧
  (∀ q p sys s, s.block.record.determined = some sys →
    (∀ x, s.block.role x = .collecting → serves (s.block.head x) sys = false) →
    preferredPanto s.block = some p → exec (.raiseAuto q) s = exec (.raise q p) s) ∧
  ∀ b p, preferredPanto b = some p ↔
    (determinedServed b p = true ∧ available b p = true) ∧
    ∀ x, determinedServed b x = true → available b x = true →
      (b.roofEnd x = preferredEnd b → b.roofEnd p = preferredEnd b) ∧
      (b.roofEnd x = b.roofEnd p → p.num ≤ x.num)

/-- The law of R8 is kept by every step: at most one pantograph holds COLLECTING, and the number of pantographs in
RAISING, CONTACT or SEARCHING is never above MaxUp, as the committed count never is, where the configuration lies in
its ranges and a restart waits for its adoption in WAKING alone, with no standby lowering and no path running but that
of a wrong system detected meanwhile. That too is kept by every step (R91, R136, R148, R171, R178), and so is that a
held raise goes with a role and a held search with CALIBRATING. -/
def Obligations.OnePantographCollects : Prop :=
  ∀ s t, step s = .next t →
    (OneCollector s.block → OneCollector t.block) ∧ (RestartLaw s.block → RestartLaw t.block) ∧
    (ConfigLaw s.block → RestartLaw s.block → AirLaw s.block → AirLaw t.block ∧
      (Panto.all.filter fun p => (t.block.lc p).state.raised).length ≤ t.block.nat .maxUp)

/-- A Lower taken by the Lift Controller of one pantograph, by its lift state (R14, R36), where no other block has
work under way, no scraper is asked for and no VALVES step runs on it: the others and everything that `Kept` names
stay. A Lower halts a running changeover with reason MASTER_LOWER unless every pantograph named is STOWED with no held
raise (R144); naming all four it leaves, where no scraper is asked for, none RAISING or SEARCHING, and none in CONTACT
but one whose lower waits on the breaker. Between a warm restart and its adoption scan no lift state changes (R44):
the lower waits on the breaker or is noted for that scan (the model's choice, log entry 26). -/
def Obligations.LowerIsTaken : Prop :=
  (∀ q p s, Speaks q s.block → Resting s.block → NoScraper s.block → inValves s.block p = false →
    ∃ t, exec (.lower q (some p)) s = .next t ∧ OthersStay p s t ∧
      ((s.block.lc p).state = .stowed → (s.block.lc p).held = .none →
        OnlyLinks s t ∧ Answered s t q.link (plainReply 0x06 q .done)) ∧
      (¬((s.block.lc p).state = .stowed ∧ (s.block.lc p).held = .none) →
        KeepsRest s t ∧ Answered s t q.link (plainReply 0x06 q .accepted)) ∧
      ((s.block.lc p).state = .raising ∨
          (s.block.lc p).state = .contact ∧ (s.block.role p ≠ .collecting ∨ holdsLower s.block = false) →
        (t.block.lc p).state = .lowering ∧ (t.block.lc p).lowerTimer = some 0 ∧
        (t.block.lc p).commanded = (s.block.lc p).commanded) ∧
      ((s.block.lc p).state = .contact → s.block.role p = .collecting → holdsLower s.block = true →
        (t.block.lc p).state = .contact ∧ (t.block.lc p).lowerPending = true ∧
        t.block.sw.breaker.state = .opening) ∧
      ((s.block.lc p).state = .stowed ∨ (s.block.lc p).state = .lowering → (s.block.lc p).held ≠ .none →
        (t.block.lc p).state = (s.block.lc p).state ∧ (t.block.lc p).held = .none ∧ t.block.role p = .none) ∧
      ((s.block.lc p).state = .searching →
        (t.block.lc p).state = .lowering ∧ (t.block.cal.get p).fields.lastResult = some .aborted) ∧
      ((s.block.lc p).state = .lowering ∧ (s.block.lc p).held = .none ∨
          (s.block.lc p).state = .dropped ∨ (s.block.lc p).state = .outOfService →
        t.block.lc p = s.block.lc p ∧ t.block.plan.roles = s.block.plan.roles)) ∧
  ∀ q named s, Speaks q s.block → ((namedBy named).all (restsStowed s.block)) = false →
    ∃ t, exec (.lower q named) s = .next t ∧ Answered s t q.link (plainReply 0x06 q .accepted) ∧
      (s.block.seq.phase ≠ .idle → s.block.seq.phase ≠ .halted →
        t.block.seq.phase = .halted ∧ t.block.seq.haltReason = some .masterLower) ∧
      (named = none → s.block.cond.restart = none → NoScraper s.block → ∀ p, (t.block.lc p).state.raised = true →
        (t.block.lc p).state = .contact ∧ (t.block.lc p).lowerPending = true) ∧
      (s.block.cond.restart.isSome = true → s.block.cond.standbyLowering = false →
        (∀ p, (t.block.lc p).state = (s.block.lc p).state) ∧
        ∀ p ∈ namedBy named, (t.block.lc p).lowerNoted = true ∨ (t.block.lc p).lowerPending = true)

/-- Start Touch Search, by the conditions of R11 and R65 in their order: the first not met refuses it with its code and
nothing changes. A STOWED pantograph that meets them all is given CALIBRATING; with its dwell over and
the reservoir sufficient it is SEARCHING, in RISE at step 1 at SearchStart, or Pmax where that is less (R60, R67). At a
scan that finds a step settled, what the Lift Controller decides of a rise step (R69) and of a release step (R70), and
what a result does to the entry (R71) and to the search record (R72). The hysteresis is judged against the HystMax in
force when the step was commanded, which a write since leaves alone (R66). -/
def Obligations.TouchSearchBegins : Prop :=
  (∀ q p s c, Leads q s.block → firstUnmet (searchConditions p s.block) = some c →
    ∃ t, exec (.startTouchSearch q p) s = .next t ∧ OnlyLinks s t ∧
      Answered s t q.link (plainReply 0x0D q (.refused c))) ∧
  (∀ q p s, Leads q s.block → MaySearch p s.block → (s.block.lc p).held = .none →
    ∃ t, exec (.startTouchSearch q p) s = .next t ∧ Answered s t q.link (plainReply 0x0D q .accepted) ∧
      KeepsRest s t ∧ t.block.plan.roles.get p = ⟨.calibrating, some (originOf q.link)⟩ ∧
      ((s.block.lc p).dwellTimer = none → airSufficient s.block = true →
        (t.block.lc p).state = .searching ∧
        (t.block.lc p).commanded = min (s.block.nat .searchStart) (s.block.nat .pmax) ∧
        ∃ r, (t.block.lc p).search = some r ∧ r.phase = .rise ∧ r.step = 1 ∧ r.settle = some 0) ∧
      ((s.block.lc p).dwellTimer.isSome = true →
        (t.block.lc p).state = .stowed ∧ (t.block.lc p).held = .dwell ∧ (t.block.lc p).heldSearch = true) ∧
      ((s.block.lc p).dwellTimer = none → airSufficient s.block = false →
        (t.block.lc p).state = .stowed ∧ (t.block.lc p).held = .air ∧ (t.block.lc p).heldSearch = true)) ∧
  (∀ p b r h before, SettledStep p b r h → r.phase = .rise → (b.lc p).history[29]? = some before →
    ∃ t, t = liftScan dropPanto p b ∧
      (b.cfg .hWork ≤ h → h - before < 3 → r.step = 1 →
        EndsSearch p b t { r with rise := some r.pressure } .startTooHigh
          { (b.cal.get p).fields with status := .failed } ∧
        faultCount .calibrationFailed t = oneMore .calibrationFailed b) ∧
      (b.cfg .hWork ≤ h → h - before < 3 → r.step ≠ 1 →
        CommandsStep p b t { r with phase := .release, step := 1, rise := some r.pressure, reference := some h }
          (r.pressure - b.nat .searchStep)) ∧
      (¬(b.cfg .hWork ≤ h ∧ h - before < 3) →
        (255 ≤ r.step ∨ r.clamped = true ∨ b.nat .searchMax < r.pressure + b.nat .searchStep →
          EndsSearch p b t r .noTouch { (b.cal.get p).fields with status := .failed } ∧
          faultCount .calibrationFailed t = oneMore .calibrationFailed b) ∧
        (r.step < 255 → r.clamped = false → r.pressure + b.nat .searchStep ≤ b.nat .searchMax →
          CommandsStep p b t { r with step := r.step + 1 } (r.pressure + b.nat .searchStep)))) ∧
  (∀ q v s, Leads q s.block → ∃ t, exec (.writeConfigurationItem q (some .hystMax) v) s = .next t ∧
    ∀ p, (t.block.lc p).hystLimit = (s.block.lc p).hystLimit) ∧
  ∀ p b r h rise reference, SettledStep p b r h → r.phase = .release → r.rise = some rise →
    r.reference = some reference →
    ∃ t, t = liftScan dropPanto p b ∧
      (10 < reference - h ∨ r.pressure = 0 →
        (rise - r.pressure ≤ (b.lc p).hystLimit →
          EndsSearch p b t r .ok { (b.cal.get p).fields with
            touch := (rise + r.pressure + 1) / 2, release := r.pressure, hysteresis := rise - r.pressure
            status := .valid }) ∧
        ((b.lc p).hystLimit < rise - r.pressure →
          EndsSearch p b t r .hysteresisHigh { (b.cal.get p).fields with
            touch := (rise + r.pressure + 1) / 2, release := r.pressure, hysteresis := rise - r.pressure
            status := .suspect }) ∧
        faultCount .calibrationFailed t = faultCount .calibrationFailed b) ∧
      (¬(10 < reference - h ∨ r.pressure = 0) →
        CommandsStep p b t { r with step := r.step + 1, reference := some h } (r.pressure - b.nat .searchStep))

/-- Clear Drop (R42), Set Out of Service and Return to Service (R43), by the mode and the lift state. The arrival in
OUT_OF_SERVICE clears the role, and so does that in STOWED (R13), where the Sequencer has no step of its own to take
and, at a Return to Service, no scraper is asked for. -/
def Obligations.PantographsGoOutOfServiceAndReturn : Prop :=
  ∀ q p s, Leads q s.block →
    (∃ t, exec (.clearDrop q p) s = .next t ∧
      (s.block.cond.mode = .standby ∨ s.block.cond.mode = .workshop →
        ((s.block.lc p).state = .dropped → stripWhole s.block p = true →
          (t.block.lc p).state = .stowed ∧ (t.block.lc p).quickVent = false ∧ (t.block.lc p).dwellTimer = some 0 ∧
          ((s.block.lc p).held = .none → seqStep s.block = s.block → t.block.role p = .none) ∧
          KeepsRest s t ∧ Answered s t q.link (plainReply 0x0E q .done)) ∧
        ((s.block.lc p).state = .dropped → stripWhole s.block p = false →
          OnlyLinks s t ∧ Answered s t q.link (plainReply 0x0E q (.refused .interlock))) ∧
        ((s.block.lc p).state ≠ .dropped → OnlyLinks s t ∧ Answered s t q.link (plainReply 0x0E q .done))) ∧
      (s.block.cond.mode = .service →
        OnlyLinks s t ∧ Answered s t q.link (plainReply 0x0E q (.refused .wrongMode)))) ∧
    (awakeMode s.block = true → ∃ t, exec (.setOutOfService q p) s = .next t ∧
      ((s.block.lc p).state = .stowed → (s.block.lc p).held = .none →
        (t.block.lc p).state = .outOfService ∧ (t.block.lc p).commanded = 0 ∧
        (seqStep s.block = s.block → t.block.role p = .none) ∧ KeepsRest s t ∧
        Answered s t q.link (plainReply 0x0F q .done)) ∧
      ((s.block.lc p).state = .outOfService → OnlyLinks s t ∧ Answered s t q.link (plainReply 0x0F q .done)) ∧
      ((s.block.lc p).state ≠ .outOfService →
        ¬((s.block.lc p).state = .stowed ∧ (s.block.lc p).held = .none) →
        OnlyLinks s t ∧ Answered s t q.link (plainReply 0x0F q (.refused .busy)))) ∧
    (awakeMode s.block = true → ∃ t, exec (.returnToService q p) s = .next t ∧
      ((s.block.lc p).state = .outOfService →
        (t.block.lc p).state = .stowed ∧ (t.block.lc p).dwellTimer = some 0 ∧
        ((s.block.lc p).held = .none → seqStep s.block = s.block → NoScraper s.block → t.block.role p = .none) ∧
        KeepsRest s t ∧ Answered s t q.link (plainReply 0x10 q .done)) ∧
      ((s.block.lc p).state ≠ .outOfService → OnlyLinks s t ∧ Answered s t q.link (plainReply 0x10 q .done)))

/-- The re-raise dwell and the air hold expire (R30 to R32): a raise held DWELL begins, or is held AIR where the
reservoir is not sufficient, or is discarded where the earthing switch is not OPEN; a raise held AIR is discarded with
AIR_LOW recorded. -/
def Obligations.HeldRaisesComeDue : Prop :=
  ∀ p s, Resting s.block → NoScraper s.block →
    (∃ t, exec (.dwellExpiry p) s = .next t ∧ OthersStay p s t ∧ t.block.kept = s.block.kept ∧
      (t.block.lc p).dwellTimer = none ∧
      ((s.block.lc p).dwellTimer.isSome = true → (s.block.lc p).state = .stowed → (s.block.lc p).held = .dwell →
        (airSufficient s.block = true → earthOpen s.block = true → (s.block.lc p).heldSearch = false →
          (t.block.lc p).state = .raising ∧ (t.block.lc p).held = .none) ∧
        (airSufficient s.block = true → earthOpen s.block = true → (s.block.lc p).heldSearch = true →
          (t.block.lc p).state = .searching ∧ (t.block.lc p).held = .none) ∧
        (airSufficient s.block = false → (t.block.lc p).state = .stowed ∧ (t.block.lc p).held = .air ∧
          (t.block.lc p).airTimer = some 0) ∧
        (airSufficient s.block = true → earthOpen s.block = false → (t.block.lc p).state = .stowed ∧
          (t.block.lc p).held = .none ∧ t.block.role p = .none))) ∧
    ((s.block.lc p).held = .air → ∃ t, exec (.airHoldExpiry p) s = .next t ∧ OthersStay p s t ∧
      t.block.kept = s.block.kept ∧ (t.block.lc p).state = (s.block.lc p).state ∧ (t.block.lc p).held = .none ∧
      (t.block.lc p).airTimer = none ∧ t.block.role p = .none ∧ Records .airLow s t)

/-- The timers of the Lift Controllers (R34, R35, R40, R134): RaiseTimeout in RAISING records RAISE_TIMEOUT and LOWERING
begins; LowerTimeout in LOWERING records LOWER_TIMEOUT once, vents the valve, and halts a path that waits in the phase
LOWERING, with reason LOWER; 2000 ms beyond the band in CONTACT record SERVO_DEVIATION and set its flag. A warm restart
ends the timers (R44): that nothing comes of such an expiry, nor of an AUTOMATIC_DROP, while it waits for its adoption
scan is the model's choice (log entry 10). -/
def Obligations.LiftTimersExpire : Prop :=
  (∀ p c s, c ∈ [.raiseTimeout p, .lowerTimeout p, .servoDeviation p, .automaticDrop p] →
    s.block.cond.restart.isSome = true → (s.block.seq.phase = .idle ∨ s.block.seq.phase = .halted) →
    s.block.cond.standbyLowering = false →
    ∃ t, exec c s = .next t ∧ t.block.kept = s.block.kept ∧ t.block.lift = s.block.lift ∧
      t.block.plan.roles = s.block.plan.roles ∧ t.block.cond.faults = s.block.cond.faults) ∧
  ∀ p s, s.block.cond.mode ≠ .waking → s.block.cond.standbyLowering = false → s.block.cond.restart = none →
    ((s.block.lc p).state = .raising → ∃ t, exec (.raiseTimeout p) s = .next t ∧
      t.block.kept = s.block.kept ∧ (t.block.lc p).state = .lowering ∧ (t.block.lc p).lowerTimer = some 0 ∧
      Records .raiseTimeout s t) ∧
    ((s.block.lc p).state = .lowering → (s.block.lc p).lowerOverdue = false →
      ∃ t, exec (.lowerTimeout p) s = .next t ∧ t.block.kept = s.block.kept ∧
        (t.block.lc p).state = .lowering ∧ (t.block.lc p).commanded = 0 ∧ (t.block.lc p).quickVent = true ∧
        (t.block.lc p).lowerOverdue = true ∧ Records .lowerTimeout s t ∧
        (s.block.seq.phase = .lowering →
          t.block.seq.phase = .halted ∧ t.block.seq.haltReason = some .lower)) ∧
    ((s.block.lc p).state = .lowering → (s.block.lc p).lowerOverdue = true →
      ∃ t, exec (.lowerTimeout p) s = .next t ∧ (t.block.lc p).state = .lowering ∧
        faultCount .lowerTimeout t.block = faultCount .lowerTimeout s.block) ∧
    ((s.block.lc p).state = .contact → (s.block.lc p).devTimer.isSome = true → Resting s.block → NoScraper s.block →
      ∃ t, exec (.servoDeviation p) s = .next t ∧ t.block.kept = s.block.kept ∧ OthersStay p s t ∧
        t.block.lc p = { s.block.lc p with devTimer := none, servoDeviation := true } ∧
        t.block.plan.roles = s.block.plan.roles ∧ Records .servoDeviation s t)

/-- The automatic drop in RAISING, CONTACT and SEARCHING (R41, R13): DROPPED, pressure 0, quick-vent asserted, ADD_TRIP
recorded, the role cleared, and the drop of the collector opens the breaker; with PromotionEnable off nothing that
`Kept` names changes. In IDLE with a scraper in CONTACT, PromotionEnable on and the hold clear the scraper collects, its
origin INTERNAL, and a SUBSTITUTE path starts under the next serial with both readiness records absent (R9, R18, R147);
in a running phase but LOWERING the drop of collector or candidate halts with reason ADD (R146). -/
def Obligations.StripFailureDrops : Prop :=
  ∀ p s, (s.block.lc p).state.raised = true → s.block.cond.restart = none →
    ∃ t, exec (.automaticDrop p) s = .next t ∧
      (s.block.on .promotionEnable = false → t.block.kept = s.block.kept) ∧
      (t.block.lc p).state = .dropped ∧ (t.block.lc p).commanded = 0 ∧ (t.block.lc p).quickVent = true ∧
      t.block.role p = .none ∧ Records .addTrip s t ∧
      (s.block.role p = .collecting → breakerEngaged t.block = false) ∧
      (∀ c, OneCollector s.block → s.block.seq.phase = .idle → s.block.role p = .collecting →
        s.block.on .promotionEnable = true → s.block.plan.hold = false → c ≠ p → s.block.role c = .scraping →
        (s.block.lc c).state = .contact → (s.block.lc c).held = .none → (s.block.lc c).heldSearch = false →
        (∀ x, x ≠ c → s.block.role x ≠ .scraping) →
        s.block.cond.mode ≠ .waking → s.block.cond.standbyLowering = false →
        t.block.plan.roles.get c = ⟨.collecting, some .internal⟩ ∧ t.block.seq.path = some .substitute ∧
        t.block.record.serial = (s.block.record.serial + 1) % 65536 ∧
        t.block.plan.readyA = none ∧ t.block.plan.readyB = none) ∧
      (s.block.seq.phase ≠ .idle → s.block.seq.phase ≠ .halted → s.block.seq.phase ≠ .lowering →
        s.block.role p = .collecting ∨ s.block.seq.candidate = some p →
        t.block.seq.phase = .halted ∧ t.block.seq.haltReason = some .add)

/-! ## The scan and the force law -/

/-- A completed scan publishes all fourteen channels together (R22, R23, R24): pressures and strips from 0 to 6000,
heights from 0 to 3000, the ambient temperature from -50 to 60, a strip reading below 0 taken as 0. Each that is FAULTY
with its fault not yet reported records SENSOR_FAULT once, the counters being within 255 (R177). -/
def Obligations.ScanPublishesChannels : Prop :=
  ∀ r s, ∃ t, exec (.scanComplete r) s = .next t ∧
    (∀ p, t.block.sensors.actuator.get p = published 0 6000 (r.actuator.get p) (s.block.sensors.actuator.get p) ∧
      t.block.sensors.strip.get p =
        published 0 6000 ((r.strip.get p).map (max 0)) (s.block.sensors.strip.get p) ∧
      t.block.sensors.height.get p = published 0 3000 (r.height.get p) (s.block.sensors.height.get p)) ∧
    t.block.sensors.reservoir = published 0 6000 r.reservoir s.block.sensors.reservoir ∧
    t.block.sensors.ambient = published (-50) 60 r.ambient s.block.sensors.ambient ∧
    (FaultLaw s.block → faultCount .sensorFault t.block =
      min 255 (faultCount .sensorFault s.block + newlyFaulty r s.block.sensors))

/-- A pantograph in LOWERING at a scan (R39): its pressure falls by LowerSlew and stops at 0; at the first plausible
height at or below HStow it is STOWED with pressure 0, the quick-vent released, the dwell started, and, unless a raise
is held, without a role. One that stays in CONTACT has its pressure moved by one step of Slew toward the target of this
scan's evaluation, and not at all while NO_WIRE_LOWER is set (R58). What the scan of one pantograph does besides: in
RAISING the ramp, contact and what ends the raise (R25, R33, R34, R57); the count of low
strips and the drop (R41); in CONTACT NO_WIRE (R34, R36); and what becomes of a held raise or search (R25, R31, R32).
That the loss of a sensor stands before NO_WIRE and the timeout is the model's choice (log entry 36). -/
def Obligations.ScanMovesThePressure : Prop :=
  (∀ p b, (b.lc p).state = .raising → ∃ t, t = liftScan dropPanto p b ∧ ScansRaising p b t) ∧
  (∀ p b, (b.lc p).state.raised = true → ∃ t, t = liftScan dropPanto p b ∧ CountsLowStrips p b t) ∧
  (∀ p b, (b.lc p).state = .contact →
    ∃ t, t = liftScan dropPanto p b ∧ ((t.lc p).state = .contact → Regulates p b t)) ∧
  (∀ p b h, (b.lc p).state = .contact → ReadsWhole p b h → b.cfg .hMax < h → (b.lc p).noWireLower = false →
    (b.lc p).lowerPending = false → b.cond.restart = none → ∃ t, t = liftScan dropPanto p b ∧ LosesWire p b t) ∧
  (∀ p b, (b.lc p).state = .stowed ∨ (b.lc p).state = .lowering → (b.lc p).held ≠ .none →
    (∀ n, b.cond.testStep ≠ .valves p n) → ∃ t, t = liftScan dropPanto p b ∧ ScansHeld p b t) ∧
  ∀ r p s, s.block.cond.restart = none → s.block.cond.mode ≠ .waking →
    ∃ t, exec (.scanComplete r) s = .next t ∧
      ((s.block.lc p).state = .lowering →
        (∀ h, r.height.get p = some h → 0 ≤ h → h ≤ 3000 → h ≤ s.block.cfg .hStow →
          (t.block.lc p).state = .stowed ∧ (t.block.lc p).commanded = 0 ∧ (t.block.lc p).quickVent = false ∧
          (t.block.lc p).lowerOverdue = false ∧ (t.block.lc p).dwellTimer = some 0 ∧
          ((s.block.lc p).held = .none → s.block.seq.phase = .idle → NoScraper s.block → t.block.role p = .none)) ∧
        ((∀ h, r.height.get p = some h → 0 ≤ h → h ≤ 3000 → s.block.cfg .hStow < h) →
          (t.block.lc p).state = .lowering ∧
          (t.block.lc p).commanded = (s.block.lc p).commanded - s.block.nat .lowerSlew)) ∧
      ((s.block.lc p).state = .contact → (t.block.lc p).state = .contact →
        ((s.block.lc p).noWireLower = true → (t.block.lc p).commanded = (s.block.lc p).commanded) ∧
        ((s.block.lc p).noWireLower = false → ∃ target, (t.block.lc p).targetPressure = some target ∧
          ((s.block.lc p).commanded ≤ target →
            (t.block.lc p).commanded = min target ((s.block.lc p).commanded + s.block.nat .slew)) ∧
          (target ≤ (s.block.lc p).commanded →
            (t.block.lc p).commanded = max target ((s.block.lc p).commanded - s.block.nat .slew))) ∧
        (t.block.lc p).commanded ≤ (s.block.lc p).commanded + s.block.nat .slew ∧
        (s.block.lc p).commanded ≤ (t.block.lc p).commanded + s.block.nat .slew)

/-- The aerodynamic term (R50): its formula, its bounds, the values of the table, and its place in the raw force of
every pantograph, whatever its role. The pressure increment (R54): the quotient rounded half up, taken of the clamped
target force, its range, and the two cases worked in the rule. -/
def Obligations.ForceLawArithmetic : Prop :=
  (∀ ka v, aeroTerm ka v = ka * v * v / 100000) ∧
  (∀ ka v, ka ≤ 255 → v ≤ 400 → ka * v * v ≤ 40800000 ∧ aeroTerm ka v ≤ 408) ∧
  (∀ ka, aeroTerm ka 0 = 0) ∧
  [100, 160, 200, 300, 400].map (aeroTerm 97) = [9, 24, 38, 87, 155] ∧
  [100, 160, 200, 300, 400].map (aeroTerm 60) = [6, 15, 24, 54, 96] ∧
  (∀ b p, rawForce b p =
    (forceItems b (b.head p)).base + aeroTerm (forceItems b (b.head p)).aero b.queue.speed +
      iceTerm (b.role p) b.ice.level (b.nat .kice) + scraperTerm (b.role p) (b.nat .scrapeExtra)) ∧
  (∀ f g, pressureIncrement f g = (f * g + 8) / 16) ∧
  (∀ k r, r < 16 → (k * 16 + r + 8) / 16 = if 8 ≤ r then k + 1 else k) ∧
  pressureIncrement 70 40 = 175 ∧ pressureIncrement 187 40 = 468 ∧
  (∀ f g, 20 ≤ f → f ≤ 400 → 1 ≤ g → g ≤ 255 → 1 ≤ pressureIncrement f g ∧ pressureIncrement f g ≤ 6375) ∧
  ∀ b p, rawPressure b p = touchInUse b p + pressureIncrement (targetForceOf b p) (b.nat .pressGain)

/-! ## Modes and the self-test -/

/-- Enter Mode, row by row (R170, R171): the present mode is DONE with no change; SERVICE from STANDBY with the
configuration GOOD and the self-test completed; WORKSHOP from STANDBY and back; DORMANT from STANDBY after 2000 ms with
the roof at rest and the breaker OPEN; STANDBY from SERVICE by standby lowering, which opens the breaker and halts a
running path; while it lowers, STANDBY is ACCEPTED with no change and any other target BUSY; WRONG_MODE from SERVICE to
WORKSHOP or DORMANT, from WORKSHOP to SERVICE or DORMANT, and from WAKING to any. That a target of WAKING is refused so
too, and is DONE in WAKING itself, is the model's reading (log entry 34). -/
def Obligations.EnterModeFollowsItsTable : Prop :=
  ∀ q s, Leads q s.block →
    (∀ m, s.block.cond.mode = m → (m = .service → s.block.cond.standbyLowering = false) →
      ∃ t, exec (.enterMode q m) s = .next t ∧ OnlyLinks s t ∧ Answered s t q.link (plainReply 0x03 q .done)) ∧
    (s.block.cond.mode = .service → s.block.cond.standbyLowering = true →
      ∃ t, exec (.enterMode q .standby) s = .next t ∧ OnlyLinks s t ∧
        Answered s t q.link (plainReply 0x03 q .accepted)) ∧
    (∀ target why,
      (s.block.cond.mode = .service ∧ s.block.cond.standbyLowering = true ∧ target ≠ .standby ∧ why = .busy ∨
        s.block.cond.mode = .service ∧ s.block.cond.standbyLowering = false ∧
          target ∈ [.workshop, .dormant, .waking] ∧ why = .wrongMode ∨
        s.block.cond.mode = .workshop ∧ target ∈ [.service, .dormant, .waking] ∧ why = .wrongMode ∨
        s.block.cond.mode = .standby ∧ target = .waking ∧ why = .wrongMode ∨
        s.block.cond.mode = .waking ∧ target ≠ .waking ∧ why = .wrongMode) →
      ∃ t, exec (.enterMode q target) s = .next t ∧ OnlyLinks s t ∧
        Answered s t q.link (plainReply 0x03 q (.refused why))) ∧
    (s.block.cond.mode = .standby → ∃ t, exec (.enterMode q .service) s = .next t ∧
      (s.block.cond.configGood = true → s.block.cond.selfTest.completed = true →
        t.block.cond.mode = .service ∧ t.block.cond.modeTimer = 0 ∧ KeepsRest s t ∧
        Answered s t q.link (plainReply 0x03 q .done)) ∧
      (¬(s.block.cond.configGood = true ∧ s.block.cond.selfTest.completed = true) →
        OnlyLinks s t ∧ Answered s t q.link (plainReply 0x03 q (.refused .interlock)))) ∧
    (s.block.cond.mode = .standby → ∃ t, exec (.enterMode q .workshop) s = .next t ∧
      t.block.cond.mode = .workshop ∧ t.block.cond.modeTimer = 0 ∧ KeepsRest s t ∧
      Answered s t q.link (plainReply 0x03 q .done)) ∧
    (s.block.cond.mode = .workshop → RestartLaw s.block → ∃ t, exec (.enterMode q .standby) s = .next t ∧
      t.block.cond.mode = .standby ∧ (∀ p, (t.block.lc p).state ≠ .searching) ∧ KeepsRest s t ∧
      Answered s t q.link (plainReply 0x03 q .done)) ∧
    (s.block.cond.mode = .standby → ∃ t, exec (.enterMode q .dormant) s = .next t ∧
      (s.block.cond.modeTimer < 2000 →
        OnlyLinks s t ∧ Answered s t q.link (plainReply 0x03 q (.refused .tooSoon))) ∧
      (2000 ≤ s.block.cond.modeTimer → (∀ p, (s.block.lc p).state.atRest = true) →
        s.block.sw.breaker.isOpen = true →
        t.block.cond.mode = .dormant ∧ t.block.cond.heldWake = false ∧ KeepsRest s t ∧
        Answered s t q.link (plainReply 0x03 q .done)) ∧
      (2000 ≤ s.block.cond.modeTimer →
        ¬((∀ p, (s.block.lc p).state.atRest = true) ∧ s.block.sw.breaker.isOpen = true) →
        OnlyLinks s t ∧ Answered s t q.link (plainReply 0x03 q (.refused .busy)))) ∧
    (s.block.cond.mode = .service → s.block.cond.standbyLowering = false →
      ∃ t, exec (.enterMode q .standby) s = .next t ∧ Answered s t q.link (plainReply 0x03 q .accepted) ∧
        KeepsRest s t ∧ breakerEngaged t.block = false ∧
        (s.block.seq.phase ≠ .idle → s.block.seq.phase ≠ .halted →
          t.block.seq.phase = .halted ∧ t.block.seq.haltReason = some .masterLower) ∧
        (t.block.cond.mode = .standby ∧ t.block.cond.standbyLowering = false ∧
            (∀ p, (t.block.lc p).state.atRest = true) ∨
          t.block.cond.mode = .service ∧ t.block.cond.standbyLowering = true))

/-- Wake (R172): in DORMANT from the lead holder, or from either traction master while there is none, WAKING is entered
with return mode STANDBY once the mode timer is at 1000 ms, at the request or at the expiry that a held Wake waits for;
in any other mode it is refused WRONG_MODE. -/
def Obligations.WakeEntersWaking : Prop :=
  (∀ q s, q.wellFormed = true → (masterOf q.link).isSome = true →
    (s.block.plan.lead = none ∨ masterOf q.link = s.block.plan.lead) →
    ∃ t, exec (.wake q) s = .next t ∧
      (s.block.cond.mode = .dormant → s.block.cond.heldWake = false → 1000 ≤ s.block.cond.modeTimer →
        t.block.cond.mode = .waking ∧ t.block.cond.returnMode = .standby ∧ t.block.cond.modeTimer = 0 ∧
        t.block.cond.selfTest.completed = false ∧
        { t.block.kept with links := s.block.kept.links, returnMode := s.block.kept.returnMode } = s.block.kept ∧
        Answered s t q.link (plainReply 0x04 q .accepted)) ∧
      (s.block.cond.mode = .dormant → s.block.cond.heldWake = false → s.block.cond.modeTimer < 1000 →
        t.block.cond.mode = .dormant ∧ t.block.cond.heldWake = true ∧ KeepsRest s t ∧
        Answered s t q.link (plainReply 0x04 q .accepted)) ∧
      (s.block.cond.mode = .dormant → s.block.cond.heldWake = true →
        OnlyLinks s t ∧ Answered s t q.link (plainReply 0x04 q .accepted)) ∧
      (s.block.cond.mode ≠ .dormant →
        OnlyLinks s t ∧ Answered s t q.link (plainReply 0x04 q (.refused .wrongMode)))) ∧
  ∀ s, s.block.cond.mode = .dormant → s.block.cond.heldWake = true →
    ∃ t, exec .heldWakeDue s = .next t ∧ t.block.cond.mode = .waking ∧ t.block.cond.returnMode = .standby ∧
      t.block.cond.heldWake = false ∧ t.block.cond.modeTimer = 0 ∧ t.block.cond.selfTest.completed = false

/-- The VALVES step (R174): it begins with P1, no scraper, where P1 is STOWED with its height and actuator channels
GOOD and the reservoir sufficient, at 50.0 kPa; at its check a reading of 200 or more is PASS and less is FAIL with the
pantograph OUT_OF_SERVICE and SERVO_DEVIATION recorded, the pressure at 0 in either case; a Lower within it ends it
SKIPPED. The steps of P1 to P4 go on in turn, from the start and at the event at which the STRIPS step of the one
before is judged or SKIPPED. STRIPS is judged at the scan after the VALVES step: PASS with the strip GOOD and at
AddLevel or above, otherwise FAIL with the pantograph DROPPED, the quick-vent asserted, ADD_TRIP recorded and the
low-strip count at 0 (R41). SENSORS
is judged once, at the scan that finds 1000 ms passed, channel by channel: PASS where it is GOOD, FAIL where it is
FAULTY or UNKNOWN. That a channel become FAULTY is judged on its held value, and that such a Lower is answered DONE, is
the model's choice (log entries 21 and 22). -/
def Obligations.ValvesAreTested : Prop :=
  (∀ s, s.block.cond.mode = .waking → s.block.cond.testStep = .notBegun → s.block.cond.restart = none →
    s.block.cond.modeTimer < 2000 → s.block.seq.phase = .idle → valveTestable s.block .p1 = true →
    s.block.role .p1 ≠ .scraping → ∃ t, exec .selfTestValvesStart s = .next t ∧ t.block.kept = s.block.kept ∧
      t.block.cond.testStep = .valves .p1 0 ∧ (t.block.lc .p1).commanded = 500 ∧
      (t.block.lc .p1).state = .stowed) ∧
  (∀ p n s, s.block.cond.mode = .waking → s.block.cond.testStep = .valves p n → s.block.cond.modeTimer < 2000 →
    s.block.seq.phase = .idle → (s.block.lc p).state = .stowed →
    ∃ t, exec .selfTestValvesCheck s = .next t ∧ t.block.kept = s.block.kept ∧
      t.block.cond.testStep = .strips p ∧ (t.block.lc p).commanded = 0 ∧
      (valveHolds s.block p = true →
        t.block.cond.selfTest.valves.get p = some .pass ∧ (t.block.lc p).state = .stowed) ∧
      (valveHolds s.block p = false →
        t.block.cond.selfTest.valves.get p = some .fail ∧ (t.block.lc p).state = .outOfService ∧
        t.block.role p = .none ∧ Records .servoDeviation s t)) ∧
  (∀ q p n s, Speaks q s.block → s.block.cond.mode = .waking → s.block.cond.testStep = .valves p n →
    s.block.cond.modeTimer < 2000 → s.block.seq.phase = .idle → (s.block.lc p).state = .stowed →
    s.block.cond.restart = none →
    ∃ t, exec (.lower q (some p)) s = .next t ∧ (t.block.lc p).commanded = 0 ∧ (t.block.lc p).held = .none ∧
      t.block.cond.selfTest.valves.get p = some .skipped ∧ t.block.cond.selfTest.strips.get p = some .skipped ∧
      Answered s t q.link (plainReply 0x06 q (if (s.block.lc p).held = .none then .done else .accepted))) ∧
  (∀ b, b.cond.mode = .waking → b.cond.testStep = .notBegun → b.cond.restart = none → TestsNext 0 b (valvesStart b)) ∧
  (∀ b p n, b.cond.testStep = .valves p n → ∃ t, t = skipValves p b ∧ StepsSkipped p t ∧ (t.lc p).commanded = 0 ∧
    TestsNext p.num b t) ∧
  (∀ b p, b.cond.mode = .waking → b.cond.testStep = .strips p → ∃ t, t = judgeTest b ∧ TestsNext p.num b t ∧
    t.cond.selfTest.valves.get p = b.cond.selfTest.valves.get p ∧
    (∀ v, (b.sensors.strip.get p).Reads v → b.cfg .addLevel ≤ v →
      t.cond.selfTest.strips.get p = some .pass ∧ t.lc p = b.lc p ∧ t.cond.faults = b.cond.faults) ∧
    ((∀ v, (b.sensors.strip.get p).Reads v → v < b.cfg .addLevel) →
      t.cond.selfTest.strips.get p = some .fail ∧ (t.lc p).state = .dropped ∧ (t.lc p).commanded = 0 ∧
      (t.lc p).quickVent = true ∧ (t.lc p).lowStrip = 0 ∧ (t.lc p).raiseTimer = none ∧ t.role p = .none ∧
      faultCount .addTrip t = oneMore .addTrip b)) ∧
  ∀ b, b.cond.mode = .waking → ∃ r, r = (judgeTest b).cond.selfTest.sensors ∧
    (b.cond.modeTimer < 1000 ∨ b.cond.selfTest.sensors.reservoir ≠ none → r = b.cond.selfTest.sensors) ∧
    (1000 ≤ b.cond.modeTimer → b.cond.selfTest.sensors.reservoir = none →
      r.reservoir = b.sensors.reservoir.judged ∧ r.ambient = b.sensors.ambient.judged ∧
      ∀ p, r.actuator.get p = (b.sensors.actuator.get p).judged ∧ r.strip.get p = (b.sensors.strip.get p).judged ∧
        r.height.get p = (b.sensors.height.get p).judged)

/-- WAKING ends (R174, R178), where no adoption is waited for and no VALVES step runs: once every other item has its
result LINKS is judged from presence, the other items keep their results, the completed mark is set, and the return mode
is entered; at 4000 ms each item still without result is FAIL, LINKS among them, the others keep theirs, and the
completed mark is clear. A return mode of WORKSHOP gives WORKSHOP; one of SERVICE gives SERVICE with the configuration
GOOD and the completed mark set; otherwise it is STANDBY where no pantograph is in RAISING, CONTACT or LOWERING, and
SERVICE with standby lowering begun, the breaker neither CLOSING nor CLOSED, where one is. -/
def Obligations.WakingEnds : Prop :=
  ∀ s, s.block.cond.mode = .waking → s.block.cond.restart = none → (∀ p n, s.block.cond.testStep ≠ .valves p n) →
    (judged s.block.cond.selfTest = true → ∃ t, exec .endOfWaking s = .next t ∧
      t.block.cond.selfTest = { s.block.cond.selfTest with
        links := .ofFun fun l => some (if (s.block.links.get l).present = true then .pass else .fail)
        completed := true } ∧
      (s.block.cond.returnMode = .workshop → t.block.cond.mode = .workshop) ∧
      (s.block.cond.returnMode = .service → s.block.cond.configGood = true →
        t.block.cond.mode = .service ∧ t.block.cond.standbyLowering = false) ∧
      (s.block.cond.returnMode ≠ .workshop →
        ¬(s.block.cond.returnMode = .service ∧ s.block.cond.configGood = true) → ReachesStandby s t)) ∧
    (judged s.block.cond.selfTest = false → ∃ t, exec .selfTestTimeout s = .next t ∧
      FailsTheRest s.block.cond.selfTest t.block.cond.selfTest ∧
      (s.block.cond.returnMode = .workshop → t.block.cond.mode = .workshop) ∧
      (s.block.cond.returnMode ≠ .workshop → ReachesStandby s t))

/-! ## Configuration, faults and the memory port -/

/-- The Fault Record (R177). A fault reported raises its counter, saturating at 255, sets the flag, and fills an absent
first-fault record with its kind, subject, position, speed, phase and mode, where the capture filter passes it; no step
brings a counter above 255. Clear Faults in STANDBY, SERVICE or WORKSHOP: the first-fault record is absent, every
counter 0 and the fault-present flag clear, and nothing else changes but the links. That in WAKING it is refused
WRONG_MODE is read from the modes that R177 names (the model's inference, log entry 20). -/
def Obligations.ClearFaultsEmptiesTheRecord : Prop :=
  (∀ k subject b, ReportsFault k subject b (recordFault k subject b)) ∧
  (∀ s t, FaultLaw s.block → step s = .next t → FaultLaw t.block) ∧
  ∀ q s, Leads q s.block → ∃ t, exec (.clearFaults q) s = .next t ∧
    (awakeMode s.block = true →
      t.block = { s.block with
        cond := { s.block.cond with faults := ⟨none, Vector.replicate 18 0, false⟩ }
        links := t.block.links } ∧
      Answered s t q.link (plainReply 0x13 q .done)) ∧
    (s.block.cond.mode = .waking →
      OnlyLinks s t ∧ Answered s t q.link (plainReply 0x13 q (.refused .wrongMode)))

/-- Write Configuration Item (R176, R8, R49): refused outside WORKSHOP, for an unknown name, and BUSY for a MaxUp below
the committed count and for a change of the head class or roof end of a pantograph in RAISING, CONTACT, SEARCHING or
LOWERING; otherwise the item holds the value brought into its range, a low item set to its high item where it would
exceed it, a high item to its low item where it would fall below it; every other item stays, the stored mark is UNSAVED,
and the reply is CLAMPED where the value was changed. That a value beyond the list of an item of named values is clamped so,
and is not refused OUT_OF_RANGE, and that a change is judged on the value after the clamp, is the model's choice (log entry
44). -/
def Obligations.ConfigurationItemIsWritten : Prop :=
  ∀ q v s, Leads q s.block →
    (∀ item, ∃ t, exec (.writeConfigurationItem q item v) s = .next t ∧
      (s.block.cond.mode ≠ .workshop →
        OnlyLinks s t ∧ Answered s t q.link (plainReply 0x14 q (.refused .wrongMode))) ∧
      (s.block.cond.mode = .workshop → item = none →
        OnlyLinks s t ∧ Answered s t q.link (plainReply 0x14 q (.refused .outOfRange))) ∧
      (s.block.cond.mode = .workshop → item = some .maxUp → v < (committedCount s.block : Int) →
        OnlyLinks s t ∧ Answered s t q.link (plainReply 0x14 q (.refused .busy))) ∧
      (s.block.cond.mode = .workshop → ∀ i p, item = some i → i = headItem p ∨ i = endItem p →
        (s.block.lc p).state ∈ [.raising, .contact, .searching, .lowering] → max i.lo (min i.hi v) ≠ s.block.cfg i →
        OnlyLinks s t ∧ Answered s t q.link (plainReply 0x14 q (.refused .busy)))) ∧
    ∀ i, s.block.cond.mode = .workshop → (i = .maxUp → (committedCount s.block : Int) ≤ v) →
      (∀ p, i = headItem p ∨ i = endItem p →
        (s.block.lc p).state ∈ [.stowed, .dropped, .outOfService] ∨ max i.lo (min i.hi v) = s.block.cfg i) →
      ∃ t, exec (.writeConfigurationItem q (some i) v) s = .next t ∧
        ((∀ y ∈ orderedPairs, (y.1 = i → max i.lo (min i.hi v) ≤ s.block.cfg y.2) ∧
            (y.2 = i → s.block.cfg y.1 ≤ max i.lo (min i.hi v))) →
          t.block.cfg i = max i.lo (min i.hi v)) ∧
        (∀ y ∈ orderedPairs, y.1 = i → s.block.cfg y.2 < max i.lo (min i.hi v) →
          (∀ z ∈ orderedPairs, z.2 = i → s.block.cfg z.1 ≤ s.block.cfg y.2) → t.block.cfg i = s.block.cfg y.2) ∧
        (∀ y ∈ orderedPairs, y.2 = i → max i.lo (min i.hi v) < s.block.cfg y.1 →
          t.block.cfg i = s.block.cfg y.1) ∧
        (InRange s.block.cond.cfg → i.lo ≤ t.block.cfg i ∧ t.block.cfg i ≤ i.hi) ∧
        (∀ x, x ≠ i → t.block.cfg x = s.block.cfg x) ∧
        t.block.cond.configSaved = false ∧
        { t.block.kept with links := s.block.kept.links, cfg := s.block.kept.cfg,
                            configSaved := s.block.kept.configSaved } = s.block.kept ∧
        Answered s t q.link (plainReply 0x14 q (if t.block.cfg i = v then .done else .clamped))

/-- Store Configuration (R176): ACCEPTED in WORKSHOP, the write beginning at once with the working record where the port
is at rest; BUSY while a store is offered or in flight. Its read-back: the record written is the stored one, GOOD, and
SAVED unless the record changed since; on a mismatch the mark is BAD and nothing is stored. -/
def Obligations.ConfigurationIsStored : Prop :=
  (∀ q s, Leads q s.block → ∃ t, exec (.storeConfiguration q) s = .next t ∧
    (s.block.cond.mode = .workshop → storing s.block = false →
      Answered s t q.link (plainReply 0x15 q .accepted) ∧ storing t.block = true ∧ KeepsRest s t ∧
      (s.block.mem.inFlight = none → t.block.mem.inFlight = some (.store s.block.cond.cfg))) ∧
    (s.block.cond.mode = .workshop → storing s.block = true →
      OnlyLinks s t ∧ Answered s t q.link (plainReply 0x15 q (.refused .busy))) ∧
    (s.block.cond.mode ≠ .workshop →
      OnlyLinks s t ∧ Answered s t q.link (plainReply 0x15 q (.refused .wrongMode)))) ∧
  ∀ matched c s, s.block.mem.inFlight = some (.store c) → s.block.cond.reloadPending = false →
    ∃ t, exec (.configurationStoreDone matched) s = .next t ∧
      t.block.mem.image = { s.block.mem.image with config := if matched then some c else none } ∧
      t.block.cond.configGood = matched ∧
      t.block.cond.configSaved = (matched && !s.block.mem.storeDirty) ∧
      t.block.cond.cfg = s.block.cond.cfg

/-- The read-back of a calibration entry's write (R77): on a match the entry is stored, and its mark becomes SAVED where
the working entry has not changed since; on a mismatch the stored entry is the older one or none, and the working entry
keeps its mark. -/
def Obligations.CalibrationEntryIsStored : Prop :=
  ∀ p f r s, Resting s.block → NoScraper s.block → s.block.mem.inFlight = some (.entry p f) →
    s.block.cond.reloadPending = false →
    ∃ t, exec (.calibrationEntryWriteDone r) s = .next t ∧
      t.block.mem.image.config = s.block.mem.image.config ∧
      (∀ x, x ≠ p → t.block.mem.image.entries.get x = s.block.mem.image.entries.get x ∧
        t.block.cal.get x = s.block.cal.get x) ∧
      (r = .matched → t.block.mem.image.entries.get p = some f ∧
        ((s.block.cal.get p).fields = f → s.block.mem.waiting.contains (.entry p) = false →
          t.block.cal.get p = ⟨f, true⟩)) ∧
      (r = .mismatchOldKept → t.block.mem.image.entries.get p = s.block.mem.image.entries.get p ∧
        t.block.cal.get p = s.block.cal.get p) ∧
      (r = .mismatchBad → t.block.mem.image.entries.get p = none ∧ t.block.cal.get p = s.block.cal.get p)

/-- Every step keeps every item of the working record within its range (R175, R176). -/
def Obligations.ConfigurationStaysInRange : Prop :=
  ∀ s t, ConfigLaw s.block → step s = .next t → ConfigLaw t.block

/-! ## Resets -/

/-- The state after reset is safe and has no command waiting. POWER_ON brings every state to the same block but for the
counter of free values (log entry 9); for the contacts and the memory of log entry 4 it is that of `State.reset`: lead
NONE, no role, no hold, no readiness, epoch 0 (R20); every pantograph STOWED at pressure 0 (R27); IDLE (R148); WAKING
with return mode STANDBY and the mode timer at 0 (R173); the breaker not closed, and OPENING where its contacts show it
closed (R110); and the records of the attached memory loaded, whatever they are, CONFIG_BAD being recorded once where
there is no configuration (R76, R175). That it is the first fault then, before any SWITCH_FAILED, is the model's
inference (log entry 30): R177 leaves the order open. -/
def Obligations.PowerOnStartsAfresh : Prop :=
  Safe State.reset ∧ State.reset.pending = [] ∧
  (∀ s, exec (.powerOn Contacts.allOpen MemImage.delivered) s =
    .next ⟨s.pending, { State.reset.block with freeCount := s.block.freeCount }⟩) ∧
  ∀ contacts mem s, ∃ t, exec (.powerOn contacts mem) s = .next t ∧
    t.block.plan = ⟨none, .const ⟨.none, none⟩, false, none, none, 0⟩ ∧
    t.block.lift = .const Lift.initial ∧ t.block.line = LineMon.initial ∧
    t.block.seq.phase = .idle ∧ t.block.queue.entries = [] ∧
    t.block.cond.mode = .waking ∧ t.block.cond.returnMode = .standby ∧ t.block.cond.standbyLowering = false ∧
    t.block.cond.heldWake = false ∧ t.block.cond.modeTimer = 0 ∧
    t.block.sw.breaker.state =
      (if contacts.breaker.shows .closed = true then .opening
        else if contacts.breaker.shows .opened = true then .opened else .failed) ∧
    LoadsRecords mem t.block ∧ (mem.config.isSome = true → faultCount .configBad t.block = 0) ∧
    (mem.config = none → faultCount .configBad t.block = 1 ∧
      ∃ f, t.block.cond.faults.first = some f ∧ f.kind = .configBad ∧ f.subject = .none) ∧
    ∀ l, (t.block.links.get l).present = false ∧ (t.block.links.get l).mask = 0xFFFF

/-- At power-on and at warm restart every capture unit is in WAIT_LOW with its timer at 0 and its mark clear, and the
Arc History is empty with its count at 0 (R153). -/
def Obligations.ResetsEmptyTheArcHistory : Prop :=
  ∀ contacts mem s c, c = .powerOn contacts mem ∨ c = .warmRestart contacts →
    ∃ t, exec c s = .next t ∧ (∀ p, t.block.ice.capture.get p = ⟨.waitLow, 0, false⟩) ∧
      t.block.ice.history = [] ∧ t.block.ice.arcCount = 0

/-- WARM_RESTART: the lead is NONE, and hold, readiness, epoch and roles stay (R21); every lift state stays, with held
raises, pending lowers and timers ended, and the commanded pressure kept, within the Pmax loaded (the model's choice,
log entry 36), or 0 without HoldOver (R44); a close in flight is opened (R111); entries wait again (R126); a running
path is HALTED with reason RESTART (R148); WAKING is entered (R178); every link is ABSENT with a full mask (R183,
R184). At the adoption scan, with HoldOver on, a pantograph that meets R45 is adopted into CONTACT at the actuator
pressure read, the collector before a scraper within MaxUp; every other, and without HoldOver each of them, comes down
by its height and loses its role (R45, R46); a CLOSED breaker stays so only with the hold clear and conditions 1 to 5
of R103 met, and in HALTED with reason RESTART it is opened (R112, R148); a candidate in CONTACT that is not adopted
halts the path of a wrong system detected meanwhile with reason RAISE (R137), and no other part of the adoption ends a
path. That the lower noted of a pantograph keeps it from adoption, and that with HoldOver the quick-vent is released at
the adoption scan, is the model's choice (log entries 26 and 39). The Restart
request is answered ACCEPTED and changes nothing but the links until its reply has been sent (R182). -/
def Obligations.WarmRestartKeepsTheRoof : Prop :=
  (∀ contacts s, ∃ t, exec (.warmRestart contacts) s = .next t ∧
    t.block.plan = { s.block.plan with lead := none } ∧
    (∀ p, (t.block.lc p).state = (s.block.lc p).state ∧ (t.block.lc p).held = .none ∧
      (t.block.lc p).lowerPending = false ∧ (t.block.lc p).raiseTimer = none ∧ (t.block.lc p).lowerTimer = none ∧
      (t.block.lc p).dwellTimer = none ∧ (t.block.lc p).airTimer = none ∧ (t.block.lc p).devTimer = none) ∧
    (s.block.sw.breaker.state = .closing → t.block.sw.breaker.state = .opening) ∧
    t.block.sw.breaker.state ≠ .closing ∧
    t.block.queue.entries = s.block.queue.entries.map (fun e => { e with active := false, served := false }) ∧
    t.block.queue.position = s.block.queue.position ∧ t.block.queue.stale = true ∧
    (s.block.seq.phase = .idle ∨ s.block.seq.phase = .halted →
      t.block.seq.phase = s.block.seq.phase ∧ t.block.seq.haltReason = s.block.seq.haltReason) ∧
    (s.block.seq.phase ≠ .idle → s.block.seq.phase ≠ .halted →
      t.block.seq.phase = .halted ∧ t.block.seq.haltReason = some .restart) ∧
    t.block.cond.mode = .waking ∧ t.block.cond.modeTimer = 0 ∧ t.block.cond.standbyLowering = false ∧
    (s.block.mem.inFlight = none → t.block.cond.reloadPending = false ∧
      (t.block.cfg .holdOver ≠ 1 → ∀ p, (t.block.lc p).commanded = 0 ∧ (t.block.lc p).quickVent = false) ∧
      (t.block.cfg .holdOver = 1 → ∀ p,
        (t.block.lc p).commanded = min (s.block.lc p).commanded (t.block.nat .pmax))) ∧
    ∀ l, (t.block.links.get l).present = false ∧ (t.block.links.get l).mask = 0xFFFF ∧
      (t.block.links.get l).badFrames = 0) ∧
  (∀ q s, Leads q s.block → ∃ t, exec (.restart q) s = .next t ∧ OnlyLinks s t ∧
    Answered s t q.link (plainReply 0x16 q .accepted)) ∧
  ∀ b, b.cond.restart.isSome = true → b.cond.reloadPending = false → OneCollector b →
    ∃ t, t = liftPart b ∧ t.cond.restart = none ∧
      (b.cfg .holdOver ≠ 1 → ∀ p, SettlesDown p (b.lc p).commanded b t) ∧
      (b.cfg .holdOver = 1 → ∀ p,
        (¬MayBeAdopted p b → ∀ n, b.ReadsPressure p n → SettlesDown p n b t) ∧
        (MayBeAdopted p b → b.role p = .collecting → 1 ≤ t.nat .maxUp → IsAdopted p b t) ∧
        (MayBeAdopted p b → b.role p = .scraping → (∀ x, x ≠ p → b.role x ≠ .scraping) →
          (2 ≤ t.nat .maxUp ∨ 1 ≤ t.nat .maxUp ∧ (∀ x, b.role x = .collecting → ¬MayBeAdopted x b) →
            IsAdopted p b t) ∧
          (t.nat .maxUp = 1 → (∃ x, b.role x = .collecting ∧ MayBeAdopted x b) →
            ∀ n, b.ReadsPressure p n → SettlesDown p n b t))) ∧
      CandidateAtAdoption b t ∧
      (b.sw.breaker.state = .closed →
        (b.plan.hold = false → closeConditions t = true → b.seq.phase = .idle ∨ b.seq.phase = .halted →
          ¬(b.seq.phase = .halted ∧ b.seq.haltReason = some .restart) → t.sw.breaker = b.sw.breaker) ∧
        (b.plan.hold = true ∨ closeConditions t = false ∨ b.seq.phase = .halted ∧ b.seq.haltReason = some .restart →
          t.sw.breaker.state = .opening ∧ t.sw.breaker.source = .internal))

/-! ## Route -/

/-- Motion Report (R114, R115): refused where the position goes back or a standstill has a speed; otherwise the held
values are replaced, the speed clamped to 400, the motion age 0 and MOTION_STALE clear. The removal pass takes the
entries that the table of R121 names out of the queue, and MISSED_SECTION is recorded once for each that it says so of,
the counters being within 255 (R177). Activation (R122) is judged in SERVICE with the phase IDLE: the unserved ACTIVE
entry, or else the first WAITING entry of the queue that is timed, is offered to the Sequencer late where its start has
been passed and armed where it lies within the prepare distance, and a path of its kind starts (R128, R130). That "a
collector is raised" is judged on the role COLLECTING alone, before held raises are discarded, and whether a late entry
finds a collector after that, is the model's choice (log entries 37 and 41). An accepted report runs both. MOTION_STALE is set at 1000 ms of motion age, and nothing else changes but the age and the links
(R116). -/
def Obligations.MotionIsHeld : Prop :=
  (∀ b, FaultLaw b → ∃ t, t = removalPass b ∧
    t = { b with queue := { b.queue with entries := b.queue.entries.filter fun e => !leaves b e }, cond := t.cond } ∧
    { t.cond with faults := b.cond.faults } = b.cond ∧
    faultCount .missedSection t =
      min 255 (faultCount .missedSection b + (b.queue.entries.filter (missed b)).length) ∧
    ∀ k, k ≠ .missedSection → faultCount k t = faultCount k b) ∧
  (∀ b, b.cond.mode ≠ .service ∨ b.seq.phase ≠ .idle → activation b = b) ∧
  (∀ b e reach, b.cond.mode = .service → b.seq.phase = .idle → e.kind ≠ .iceWatch →
    reach = b.queue.speed * b.nat .prepTime / 3600 + b.nat .prepMargin →
    (b.queue.entries.find? (fun x => x.active && !x.served) = some e →
      (e.start ≤ b.queue.position →
        TakesEntry e true b (activation b) ∧
        faultCount .lateSection (activation b) = faultCount .lateSection b) ∧
      (b.queue.position < e.start → e.start ≤ b.queue.position + reach → TakesEntry e false b (activation b)) ∧
      (b.queue.position + reach < e.start → activation b = b)) ∧
    (b.queue.entries.find? (fun x => x.active && !x.served) = none →
      b.queue.entries.find? (fun x => !x.active && x.kind != .iceWatch) = some e →
      (e.start ≤ b.queue.position →
        TakesEntry e true b (activation b) ∧ faultCount .lateSection (activation b) = oneMore .lateSection b ∧
        (activation b).queue.entries.map Entry.id = (activated e b).map Entry.id) ∧
      (b.queue.position < e.start → e.start ≤ b.queue.position + reach →
        TakesEntry e false b (activation b) ∧ (activation b).queue.entries = activated e b ∧
        faultCount .lateSection (activation b) = faultCount .lateSection b) ∧
      (b.queue.position + reach < e.start → activation b = b))) ∧
  (∀ q position speed direction s, Protects q s.block →
    ∃ t, exec (.motionReport q position speed direction) s = .next t ∧
      (position < s.block.queue.position ∨ direction = .standstill ∧ speed ≠ 0 →
        OnlyLinks s t ∧ Answered s t q.link (plainReply 0x20 q (.refused .outOfRange))) ∧
      (s.block.queue.position ≤ position → (direction = .standstill → speed = 0) →
        t.block.queue.position = position ∧ t.block.queue.speed = min speed 400 ∧
        t.block.queue.direction = direction ∧ t.block.queue.motionAge = 0 ∧ t.block.queue.stale = false ∧
        t.block.queue.lastDirection =
          (if direction = .standstill then s.block.queue.lastDirection else some direction) ∧
        Answered s t q.link (plainReply 0x20 q (if 400 < speed then .clamped else .done)) ∧
        (direction = .standstill ∨ s.block.queue.lastDirection = none ∨ s.block.queue.lastDirection = some direction →
          ∃ b, b = s.block.heldAt position speed direction ∧
            RunsRoute b (activation (removalPass b)) t.block))) ∧
  ∀ s, ∃ t, exec .motionStale s = .next t ∧
    t.block = { s.block with
      queue := { s.block.queue with stale := true, motionAge := max 1000 s.block.queue.motionAge }
      links := t.block.links }

/-- A direction change empties the queue (R117) and halts a running path with reason ROUTE_REVERSED (R145), a standing
halt keeping its reason (R141); a position-lost report halts in ARMED and in COAST with POSITION_LOST recorded (R141,
R145). -/
def Obligations.RouteReversalAndLostPositionHalt : Prop :=
  (∀ q position speed direction old s, Protects q s.block → s.block.queue.position ≤ position →
    s.block.queue.lastDirection = some old → direction ≠ .standstill → old ≠ .standstill → direction ≠ old →
    ∃ t, exec (.motionReport q position speed direction) s = .next t ∧ t.block.queue.entries = [] ∧
      (s.block.seq.phase ≠ .idle → s.block.seq.phase ≠ .halted →
        t.block.seq.phase = .halted ∧ t.block.seq.haltReason = some .routeReversed) ∧
      (s.block.seq.phase = .halted →
        t.block.seq.phase = .halted ∧ t.block.seq.haltReason = s.block.seq.haltReason)) ∧
  ∀ s, s.block.seq.phase = .armed ∨ s.block.seq.phase = .coast →
    ∃ t, exec .positionLost s = .next t ∧ t.block.seq.phase = .halted ∧
      t.block.seq.haltReason = some .positionLost ∧ Records .positionLost s t

/-- Announce Marker (R118 to R120): the first row of R118 not met refuses the marker with its code, and nothing
changes but the links; another joins the queue in its order as WAITING, in the place of an entry of its id, and where
the queue is full in that of the farthest WAITING entry, which the reply names, an ICE_WATCH whose start has been
passed like any other. In a queue that is in order the new entry stands after every entry that starts no later, one of
equal start too, and before the others. A timed one whose start has been passed is ACTIVE at once with LATE_SECTION
recorded. -/
def Obligations.MarkerIsAnnounced : Prop :=
  ∀ q m s, Protects q s.block → ∃ t, exec (.announceMarker q m) s = .next t ∧
    (∀ c, firstUnmet (markerConditions m s.block) = some c →
      OnlyLinks s t ∧ Answered s t q.link (plainReply 0x21 q (.refused c))) ∧
    (firstUnmet (markerConditions m s.block) = none →
      Answered s t q.link ⟨0x21, q.tag, .done, .evicted (farthestFor m s.block)⟩ ∧
      (s.block.queue.position < m.start ∨ m.kind = .iceWatch → Resting s.block → t.block.queue.entries =
        insertEntry ⟨m.id, m.kind, m.start, m.length, m.newSystem, false, false⟩
          (s.block.queue.entries.filter fun e => e.id != m.id && some e.id != farthestFor m s.block) ∧
        KeepsRest s t ∧
        (QueueLaw s.block.queue → ∃ others : List Entry,
          others = s.block.queue.entries.filter (fun e => e.id != m.id && some e.id != farthestFor m s.block) ∧
          t.block.queue.entries =
            others.filter (fun e => decide (e.start ≤ m.start)) ++
              ⟨m.id, m.kind, m.start, m.length, m.newSystem, false, false⟩ ::
                others.filter (fun e => decide (m.start < e.start)))) ∧
      (m.kind ≠ .iceWatch → m.start ≤ s.block.queue.position →
        Records .lateSection s t ∧ ∃ e ∈ t.block.queue.entries, e.id = m.id ∧ e.active = true))

/-- Withdraw Marker (R123, R143): an id the queue does not hold changes nothing; one that is WAITING or served goes; the
active entry of a path in ARMED or TRACTION_OFF goes and the path ends in IDLE with the traction-off request and the
pre-heat withdrawn; in a later phase it is refused MARKER_LOCKED. An unserved ACTIVE entry that no running path serves,
the phase being IDLE or HALTED or the path that of another cause, goes and is answered DONE. -/
def Obligations.MarkerIsWithdrawn : Prop :=
  ∀ q id s, Protects q s.block → QueueLaw s.block.queue → ∃ t, exec (.withdrawMarker q id) s = .next t ∧
    KeepsRest s t ∧
    ((∀ e ∈ s.block.queue.entries, e.id ≠ id) →
      OnlyLinks s t ∧ Answered s t q.link (plainReply 0x22 q .done)) ∧
    (∀ e ∈ s.block.queue.entries, e.id = id →
      (e.active = false ∨ e.served = true →
        (∀ x ∈ t.block.queue.entries, x.id ≠ id) ∧ Answered s t q.link (plainReply 0x22 q .done)) ∧
      (e.active = true → e.served = false → s.block.seq.activeEntry = some id →
        (s.block.seq.phase = .armed ∨ s.block.seq.phase = .tractionOff →
          (∀ x ∈ t.block.queue.entries, x.id ≠ id) ∧ t.block.seq.phase = .idle ∧ t.block.seq.path = none ∧
          t.block.record.tractionOff = false ∧ t.block.ice.preheat = none ∧
          Answered s t q.link (plainReply 0x22 q .done)) ∧
        (s.block.seq.phase = .breakerOpen ∨ s.block.seq.phase = .lowering ∨ s.block.seq.phase = .coast ∨
            s.block.seq.phase = .probe ∨ s.block.seq.phase = .confirm ∨ s.block.seq.phase = .masterReady ∨
            s.block.seq.phase = .close →
          OnlyLinks s t ∧ Answered s t q.link (plainReply 0x22 q (.refused .markerLocked)))) ∧
      (e.active = true → e.served = false →
        s.block.seq.phase = .idle ∨ s.block.seq.phase = .halted ∨ s.block.seq.activeEntry ≠ some id →
        (∀ x ∈ t.block.queue.entries, x.id ≠ id) ∧ Answered s t q.link (plainReply 0x22 q .done)))

/-- The law of R119 is kept by every step: at most 8 entries, in order, with no id twice, no two timed spans overlapping
and at most one ACTIVE. -/
def Obligations.QueueStaysInOrder : Prop :=
  ∀ s t, QueueLaw s.block.queue → step s = .next t → QueueLaw t.block.queue

/-! ## Changeover -/

/-- Select System (R128, R130) in SERVICE, in IDLE or HALTED, with the hold clear and the earthing switch OPEN: a path
of its kind starts under the next serial with both readiness records absent, at TRACTION_OFF with its request set where
the breaker is CLOSING or CLOSED; a system already collected on with the breaker CLOSED changes nothing. Of those four
conditions, in their order, the first not met refuses it with its code, and nothing changes but the links. Clear Halt
(R142) brings HALTED to IDLE with its record cleared. -/
def Obligations.SelectSystemAndClearHalt : Prop :=
  (∀ q sys s c, Leads q s.block → firstUnmet (selectConditions s.block) = some c →
    ∃ t, exec (.selectSystem q sys) s = .next t ∧ OnlyLinks s t ∧
      Answered s t q.link (plainReply 0x07 q (.refused c))) ∧
  (∀ q sys s, Leads q s.block → s.block.cond.mode = .service →
    (s.block.seq.phase = .idle ∨ s.block.seq.phase = .halted) → s.block.plan.hold = false →
    earthOpen s.block = true → ∃ t, exec (.selectSystem q sys) s = .next t ∧
      ((∃ x, sys = some x ∧ selectMet s.block x = true) →
        OnlyLinks s t ∧ Answered s t q.link (plainReply 0x07 q .done)) ∧
      ((∀ x, sys = some x → selectMet s.block x = false) →
        Answered s t q.link (plainReply 0x07 q .accepted) ∧
        t.block.seq.path = (if sys.isSome = true then some .select else some .identify) ∧
        t.block.seq.expected = sys ∧ t.block.record.serial = (s.block.record.serial + 1) % 65536 ∧
        t.block.plan.readyA = none ∧ t.block.plan.readyB = none ∧
        (breakerEngaged s.block = true → t.block.seq.phase = .tractionOff ∧ t.block.seq.timer = some 0 ∧
          t.block.record.tractionOff = true))) ∧
  ∀ q s, Leads q s.block → ∃ t, exec (.clearHalt q) s = .next t ∧
    (s.block.seq.phase = .halted →
      t.block.seq.phase = .idle ∧ t.block.seq.haltReason = none ∧ t.block.seq.path = none ∧
      t.block.seq.candidate = none ∧ t.block.seq.expected = none ∧ t.block.seq.retry = false ∧
      KeepsRest s t ∧ Answered s t q.link (plainReply 0x08 q .done)) ∧
    (s.block.seq.phase = .idle → OnlyLinks s t ∧ Answered s t q.link (plainReply 0x08 q .done)) ∧
    (s.block.seq.phase ≠ .idle → s.block.seq.phase ≠ .halted →
      OnlyLinks s t ∧ Answered s t q.link (plainReply 0x08 q (.refused .changeoverActive)))

/-- A halt is left by Clear Halt, by Select System or by power-on, or by the last byte of a valid frame that carries
such a request, and by nothing else (R141, R142). -/
def Obligations.HaltStandsUntilCleared : Prop :=
  ∀ c rest s t, s.pending = c :: rest → s.block.seq.phase = .halted → step s = .next t →
    t.block.seq.phase ≠ .halted →
    (∃ contacts mem, c = .powerOn contacts mem) ∨ (∃ q, c = .clearHalt q) ∨ (∃ q sys, c = .selectSystem q sys) ∨
      ∃ l byte bytes code tag payload, c = .frameOpened l byte ∧ (s.block.links.get l).frame = some bytes ∧
        judgeFrame (bytes ++ [byte]) = .valid code tag payload ∧ (code = 0x07 ∨ code = 0x08)

/-- The waits of the changeover expire: TractionOffWait records TRACTION_NOT_REDUCED and the breaker is opened (R132);
ConfirmWait halts with NO_LINE recorded (R137); ReadyWait halts with MASTER_NOT_READY recorded (R139). That in any
other phase nothing is recorded is the model's choice (log entry 28). The phases are left as their rules give:
TRACTION_OFF at a window that meets the traction-off check and at a report 150 m or less before the entry, or past its
start (R132); BREAKER_OPEN at OPEN, for LOWERING on a SECTION_CHANGE or ZONE, and on a SELECT or IDENTIFY where a
pantograph in RAISING or CONTACT does not serve what is expected, and for COAST otherwise, and with the breaker FAILED
the path halts and the roof is lowered (R133), also where it is FAILED at the entry (the model's choice, log entry 37);
LOWERING once the roof is down (R134), no adoption being waited for (log entry 10); the switch work asks for COLLECTING
and the candidate's isolator once the others are OPEN and the selector stands at its class, and COAST is left for
PROBE, or for CONFIRM on NEUTRAL and SUBSTITUTE, with the work done and the entry passed where the path waits for
position (R135); that the probe of another class leaves COAST for PROBE on NEUTRAL and SUBSTITUTE too is the model's
inference (log entry 35). PROBE is left at the candidate's CONTACT, or halts with RAISE where its raise is lost (R136).
CONFIRM examines the confirmed class by its table (R137) and makes one probe of another class (R138). At the entry to
MASTER_READY the system and its source are written, readiness is cleared where the system changed, and the wait begins;
with no master present the path halts, and with the wait met CLOSE is entered and the breaker closes or the path halts
(R139, R140), no lower pending on a breaker that is OPEN (R37). At CLOSED the path ends in IDLE with its entry served
and the traction-off request withdrawn; a close that fails or is interrupted halts it (R140). -/
def Obligations.WaitsExpire : Prop :=
  (∀ s,
    (∃ t, exec .tractionOffWaitExpiry s = .next t ∧ t.block.kept = s.block.kept ∧
      (s.block.seq.phase = .tractionOff → Records .tractionNotReduced s t ∧ breakerEngaged t.block = false ∧
        t.block.seq.phase ≠ .tractionOff) ∧
      (s.block.seq.phase ≠ .tractionOff →
        faultCount .tractionNotReduced t.block = faultCount .tractionNotReduced s.block)) ∧
    (∃ t, exec .confirmWaitExpiry s = .next t ∧ t.block.kept = s.block.kept ∧
      (s.block.seq.phase = .confirm → t.block.seq.phase = .halted ∧ t.block.seq.haltReason = some .noLine ∧
        Records .noLine s t ∧ breakerEngaged t.block = false) ∧
      (s.block.seq.phase ≠ .confirm → faultCount .noLine t.block = faultCount .noLine s.block)) ∧
    (∃ t, exec .readyWaitExpiry s = .next t ∧ t.block.kept = s.block.kept ∧
      (s.block.seq.phase = .masterReady → t.block.seq.phase = .halted ∧
        t.block.seq.haltReason = some .masterNotReady ∧ Records .masterNotReady s t ∧
        breakerEngaged t.block = false) ∧
      (s.block.seq.phase ≠ .masterReady →
        faultCount .masterNotReady t.block = faultCount .masterNotReady s.block))) ∧
  (∀ b r, b.seq.phase = .tractionOff → (∀ sys, ¬WrongLine sys b) → r.tractionOff = true →
    (takeWindow r b).seq.phase = .breakerOpen ∧ breakerEngaged (takeWindow r b) = false) ∧
  (∀ b, b.seq.phase = .tractionOff →
    ((∃ e ∈ b.queue.entries, some e.id = b.seq.activeEntry ∧ e.active = true ∧ e.start ≤ b.queue.position + 150) →
      (motionExits .tractionOff b).seq.phase = .breakerOpen ∧ breakerEngaged (motionExits .tractionOff b) = false) ∧
    ((∀ e ∈ b.queue.entries, some e.id = b.seq.activeEntry → e.active = true → b.queue.position + 150 < e.start) →
      motionExits .tractionOff b = b)) ∧
  (∀ b, b.seq.phase = .breakerOpen → b.cond.restart = none → ∃ t, t = seqStep b ∧
    (b.sw.breaker.isOpen = true →
      (b.seq.path = some .sectionChange ∨ b.seq.path = some .zone →
        t.seq.phase = .lowering ∧ ∀ p, (t.lc p).state ≠ .raising ∧ (t.lc p).state ≠ .contact) ∧
      (b.seq.path = some .neutral ∨ b.seq.path = some .substitute →
        t.seq.phase = .coast ∨ t.seq.phase = .halted) ∧
      (b.seq.path = some .select ∨ b.seq.path = some .identify →
        ((∃ p, (b.lc p).state ∈ [.raising, .contact] ∧ ¬Wanted p b) →
          t.seq.phase = .lowering ∧ ∀ p, (t.lc p).state ≠ .raising ∧ (t.lc p).state ≠ .contact) ∧
        ((∀ p, (b.lc p).state ∈ [.raising, .contact] → Wanted p b) →
          t.seq.phase = .coast ∨ t.seq.phase = .halted))) ∧
    (b.sw.breaker.state = .failed → t.seq.phase = .halted ∧ t.seq.haltReason = some .breaker ∧
      ∀ p, (t.lc p).state ≠ .raising ∧ (t.lc p).state ≠ .contact) ∧
    (b.sw.breaker.isOpen = false → b.sw.breaker.state ≠ .failed → t = b)) ∧
  (∀ b, b.seq.phase = .lowering →
    (b.cond.restart = none → (∀ p, (b.lc p).state ∈ [.stowed, .dropped, .outOfService]) →
      (seqStep b).seq.phase = .coast ∨ (seqStep b).seq.phase = .halted) ∧
    (b.cond.restart.isSome = true → seqStep b = b) ∧
    ((∃ p, (b.lc p).state ∈ [.raising, .contact, .searching, .lowering]) → seqStep b = b)) ∧
  (∀ b c, b.seq.phase = .coast → b.seq.candidate = some c → b.seq.work = .switches → ∃ t, t = seqStep b ∧
    ((∀ x, x ≠ c → (b.sw.iso.get x).isOpen = true) → b.sw.selector.state = (selFor (b.head c)).atRest →
      (b.role c = .none → (∀ x, b.role x ≠ .collecting) → b.plan.hold = false →
        t.plan.roles.get c = ⟨.collecting, some .internal⟩ ∧
        ((b.sw.iso.get c).isOpen = true → b.sw.breaker.isOpen = true →
          (t.sw.iso.get c).state = .closing ∧ t.seq.phase = .coast)) ∧
      (b.role c ≠ .collecting → (∃ x, b.role x = .collecting) ∨ b.plan.hold = true ∨ b.role c ≠ .none →
        t.seq.phase = .halted ∧ t.seq.haltReason = some .noPantograph)) ∧
    ((∃ x, x ≠ c ∧ (b.sw.iso.get x).isOpen = false) ∨ b.sw.selector.state ≠ (selFor (b.head c)).atRest → t = b)) ∧
  (∀ b passed, b.seq.phase = .coast → b.seq.work = .ready →
    passed = b.queue.entries.any (fun e => some e.id == b.seq.activeEntry && e.active && wellPast b e) →
    (b.seq.retry = false → b.seq.path ∈ [some .sectionChange, some .neutral, some .zone] → passed = false →
      seqStep b = b) ∧
    (b.seq.path = some .zone → b.seq.expected = none → b.seq.retry = false → passed = true →
      (seqStep b).seq.phase = .idle ∧ (seqStep b).seq.path = none ∧ (seqStep b).record.tractionOff = false) ∧
    (b.seq.retry = false → b.seq.path = some .neutral ∧ passed = true ∨ b.seq.path = some .substitute →
      (seqStep b).seq.phase = .confirm ∧ (seqStep b).seq.timer = some 0) ∧
    (b.seq.retry = true ∧ ¬(b.seq.path = some .zone ∧ b.seq.expected = none) ∨
        b.seq.path = some .sectionChange ∧ passed = true ∨
        b.seq.path = some .zone ∧ b.seq.expected ≠ none ∧ passed = true ∨
        b.seq.path = some .select ∨ b.seq.path = some .identify →
      (seqStep b).seq.phase = .probe ∨ (seqStep b).seq.phase = .halted)) ∧
  (∀ b c, b.seq.phase = .probe → b.seq.work = .raising → b.seq.candidate = some c →
    ((b.lc c).state = .contact → (seqStep b).seq.phase = .confirm ∧ (seqStep b).seq.timer = some 0) ∧
    ((b.lc c).state = .raising ∨ (b.lc c).held ≠ .none ∧ (b.lc c).state ∈ [.stowed, .lowering] → seqStep b = b) ∧
    ((b.lc c).state ∈ [.searching, .dropped, .outOfService] ∨
        (b.lc c).held = .none ∧ (b.lc c).state ∈ [.stowed, .lowering] →
      (seqStep b).seq.phase = .halted ∧ (seqStep b).seq.haltReason = some .raise)) ∧
  (∀ b r c, b.seq.phase = .confirm → b.seq.candidate = some c → ∃ t, t = takeWindow r b ∧
    (∀ sys, b.line.confirmed = some (.sys sys) →
      (b.seq.expected = some sys → EntersMasterReady sys c b t ∧ t.seq.mismatch = b.seq.mismatch) ∧
      (b.seq.expected ≠ some sys → serves (b.head c) sys = true → EntersMasterReady sys c b t ∧
        t.seq.mismatch = (if b.seq.path = some .identify ∧ b.seq.expected = none then b.seq.mismatch else true)) ∧
      (b.seq.expected ≠ some sys → serves (b.head c) sys = false → b.seq.retry = false →
        t.seq.phase = .lowering ∧ t.seq.retry = true ∧ t.seq.expected = some sys) ∧
      (b.seq.expected ≠ some sys → serves (b.head c) sys = false → b.seq.retry = true →
        t.seq.phase = .halted ∧ t.seq.haltReason = some .mismatch ∧ t.record.determined = none)) ∧
    (b.line.confirmed = some .dead ∨ b.line.confirmed = none →
      t = { b with record := { b.record with measured := r.cls } })) ∧
  (∀ b, b.seq.phase = .masterReady → ∃ t, t = seqStep b ∧
    (b.links.a.present = false → b.links.b.present = false →
      t.seq.phase = .halted ∧ t.seq.haltReason = some .noMaster ∧
      faultCount .masterNotReady t = oneMore .masterNotReady b) ∧
    (b.links.a.present = true ∨ b.links.b.present = true →
      (ReadyNow b → b.sw.breaker.isOpen = true → closeConditions b = true → b.plan.hold = false →
        t.seq.phase = .close ∧ t.sw.breaker.state = .closing) ∧
      (ReadyNow b → closeConditions b = false ∨ b.plan.hold = true → b.sw.breaker.state ≠ .closed →
        t.seq.phase = .halted ∧ t.seq.haltReason = some .breaker) ∧
      (¬ReadyNow b → t = b))) ∧
  (∀ b, b.seq.phase = .close →
    (b.sw.breaker.state = .closed → (seqStep b).seq.phase = .idle ∧ (seqStep b).seq.path = none ∧
      (seqStep b).record.tractionOff = false ∧ ∀ x ∈ (seqStep b).queue.entries,
        some x.id = b.seq.activeEntry → x.active = true → x.served = true) ∧
    (b.sw.breaker.state = .closing → seqStep b = b) ∧
    (b.sw.breaker.state ∈ [.opened, .opening, .failed] →
      (seqStep b).seq.phase = .halted ∧ (seqStep b).seq.haltReason = some .breaker)) ∧
  (∀ q sys s, Speaks q s.block → s.block.seq.phase = .masterReady → s.block.record.determined = some sys →
    (∀ l, (masterOf l).isSome = true → l ≠ q.link → (s.block.links.get l).present = false) →
    s.block.sw.breaker.isOpen = true → closeConditions s.block = true → s.block.plan.hold = false →
    s.block.cond.mode = .service → s.block.cond.standbyLowering = false → PendingLaw s.block → ScraperLaw s.block →
    ∃ t, exec (.declareReady q sys s.block.record.serial) s = .next t ∧ t.block.seq.phase = .close ∧
      t.block.sw.breaker.state = .closing ∧ Answered s t q.link (plainReply 0x09 q .done)) ∧
  ∀ x s, s.block.seq.phase = .close → s.block.sw.breaker.state = .closing → s.block.sw.breaker.lastCmd = .closed →
    x.shows .closed = true → closeConditions s.block = true → s.block.cond.mode = .service →
    s.block.cond.standbyLowering = false →
    ∃ t, exec (.settledReading (.breaker x)) s = .next t ∧ t.block.sw.breaker.state = .closed ∧
      t.block.seq.phase = .idle ∧ t.block.seq.path = none ∧ t.block.record.tractionOff = false

/-! ## Roof switchgear -/

/-- Open Breaker and the Switch Command that opens the breaker (R102), where no MASTER_READY wait is being met; Close
Breaker and the Switch Command that closes it (R99, R103, R108), in the phase IDLE with the hold clear. That an open of
a FAILED breaker leaves its last command and source is the model's choice (log entry 41). -/
def Obligations.BreakerIsOpenedAndClosed : Prop :=
  (∀ q s, Speaks q s.block → s.block.seq.phase ≠ .masterReady →
    ∃ t, exec (.openBreaker q) s = .next t ∧ OpensBreaker 0x0A q s t) ∧
  (∀ q s, Leads q s.block → s.block.seq.phase ≠ .masterReady →
    ∃ t, exec (.switchCommandBreakerOpen q) s = .next t ∧ OpensBreaker 0x11 q s t) ∧
  (∀ q s, Leads q s.block → LeadLaw s.block → s.block.seq.phase = .idle → s.block.plan.hold = false →
    (s.block.cond.mode = .service ∧ s.block.cond.standbyLowering = false ∨ s.block.cond.mode = .workshop) →
    ∃ t, exec (.closeBreaker q) s = .next t ∧ ClosesBreaker 0x0B q s t) ∧
  ∀ q s, Leads q s.block → LeadLaw s.block → s.block.seq.phase = .idle → s.block.plan.hold = false →
    s.block.cond.mode = .workshop →
    ∃ t, exec (.switchCommandBreakerClose q) s = .next t ∧ ClosesBreaker 0x11 q s t

/-- Switch Commands of the selector, an isolator and the earthing switch in WORKSHOP (R99, R105 to R108) with no path
running: a switch at rest there is DONE, one in travel BUSY, and one FAILED, or OPEN with its flag set against a close,
NOT_AVAILABLE, the breaker's close too; of any other, with the interlock met the switch travels, with it not met nothing
changes but the links; in every other mode all but an open of the breaker is refused WRONG_MODE. Clear Switch Fault (R109) in STANDBY and WORKSHOP: a FAILED
breaker, selector, isolator or earthing switch takes the one position its latest settled reading shows, the output and
the last command with it; an inconsistent reading refuses it INTERLOCK, as does a breaker's closed position, and an
isolator's while its pantograph holds SCRAPING or CALIBRATING; of a switch not FAILED it is DONE with no change; in
SERVICE it is refused WRONG_MODE, and in WAKING too, which is the model's choice (log entry 20). The commands of the
switch work (R135): at the entry to COAST the isolators other than the candidate's open and the selector moves to its
class, steps 3 and 4 following; a command refused halts the path with reason SWITCH. That the probe of another class has
switch work on NEUTRAL, and that steps 1 and 2 are asked, and halt where refused, before POSITION_LOST, is the model's
choice (log entries 35 and 36); which of the other commands of the two steps have been asked where one is refused (log entry
43) is not said here. -/
def Obligations.SwitchesMoveOnCommand : Prop :=
  (∀ b c, ReachesCoast b → HasSwitchWork b → chooseCandidate b = some c → ∃ t, t = seqStep b ∧ StartsWork c b t) ∧
  (∀ b c, b.seq.phase = .coast → b.seq.candidate = some c → b.seq.work = .switches →
    (∀ x, x ≠ c → (b.sw.iso.get x).isOpen = true) → b.sw.selector.state = (selFor (b.head c)).atRest →
    b.role c = .collecting ∨ b.role c = .none ∧ (∀ x, b.role x ≠ .collecting) ∧ b.plan.hold = false →
    (b.sw.iso.get c).state ∈ [.closing, .opening, .failed] ∨ (b.sw.iso.get c).state = .opened ∧
      ((b.sw.iso.get c).disagree = true ∨ b.sw.breaker.isOpen = false) →
    ∃ t, t = seqStep b ∧ HaltedFor .switch t) ∧
  (∀ q s, Leads q s.block → (s.block.seq.phase = .idle ∨ s.block.seq.phase = .halted) →
    s.block.cond.mode = .workshop →
    (∀ pos : SelPos, s.block.sw.selector.state ≠ .moving → s.block.sw.selector.state ≠ .failed →
      s.block.sw.selector.state ≠ pos.atRest → ∃ t, exec (.switchCommandSelector q pos) s = .next t ∧
        (s.block.sw.breaker.isOpen = true → t.block.sw.selector.state = .moving ∧
          t.block.sw.selector.lastCmd = pos ∧ t.block.sw.selector.drive = some pos ∧
          t.block.sw.selector.timer = some 0 ∧ t.block.sw.selector.source = sourceOf q.link ∧ KeepsRest s t ∧
          Answered s t q.link (plainReply 0x11 q .accepted)) ∧
        (s.block.sw.breaker.isOpen = false →
          OnlyLinks s t ∧ Answered s t q.link (plainReply 0x11 q (.refused .interlock)))) ∧
    (∀ pos : SelPos, ∃ t, exec (.switchCommandSelector q pos) s = .next t ∧
      (s.block.sw.selector.state = pos.atRest → s.block.sw.selector.disagree = false →
        OnlyLinks s t ∧ Answered s t q.link (plainReply 0x11 q .done)) ∧
      (s.block.sw.selector.state = .moving →
        OnlyLinks s t ∧ Answered s t q.link (plainReply 0x11 q (.refused .busy))) ∧
      (s.block.sw.selector.state = .failed →
        OnlyLinks s t ∧ Answered s t q.link (plainReply 0x11 q (.refused .notAvailable)))) ∧
    (∀ p pos, ∃ t, exec (.switchCommandIsolator q p pos) s = .next t ∧
      DecidedByState 0x11 q (s.block.sw.iso.get p) pos s t) ∧
    (∀ pos, ∃ t, exec (.switchCommandEarth q pos) s = .next t ∧ DecidedByState 0x11 q s.block.sw.earth pos s t) ∧
    (s.block.seq.phase = .idle → s.block.plan.hold = false → ∃ t, exec (.switchCommandBreakerClose q) s = .next t ∧
      DecidedByState 0x11 q s.block.sw.breaker .closed s t) ∧
    (∀ p pos, (if pos = .opened then (s.block.sw.iso.get p).state = .closed
        else (s.block.sw.iso.get p).isOpen = true) → ∃ t, exec (.switchCommandIsolator q p pos) s = .next t ∧
      (isolatorInterlock s.block p pos = true →
        (t.block.sw.iso.get p).Travels pos q.link ∧ KeepsRest s t ∧
        Answered s t q.link (plainReply 0x11 q .accepted)) ∧
      (isolatorInterlock s.block p pos = false →
        OnlyLinks s t ∧ Answered s t q.link (plainReply 0x11 q (.refused .interlock)))) ∧
    (∀ pos, (if pos = .opened then s.block.sw.earth.state = .closed
        else s.block.sw.earth.isOpen = true) → ∃ t, exec (.switchCommandEarth q pos) s = .next t ∧
      (earthInterlock s.block pos = true →
        t.block.sw.earth.Travels pos q.link ∧
        { t.block.kept with links := s.block.kept.links, earth := s.block.kept.earth } = s.block.kept ∧
        Answered s t q.link (plainReply 0x11 q .accepted)) ∧
      (earthInterlock s.block pos = false →
        OnlyLinks s t ∧ Answered s t q.link (plainReply 0x11 q (.refused .interlock))))) ∧
  (∀ q c s, Leads q s.block →
    (c = .switchCommandBreakerClose q ∨ (∃ pos, c = .switchCommandSelector q pos) ∨
      (∃ p pos, c = .switchCommandIsolator q p pos) ∨ ∃ pos, c = .switchCommandEarth q pos) →
    s.block.cond.mode ≠ .workshop →
    ∃ t, exec c s = .next t ∧ OnlyLinks s t ∧ Answered s t q.link (plainReply 0x11 q (.refused .wrongMode))) ∧
  (∀ q sw s, Leads q s.block → s.block.cond.mode = .service ∨ s.block.cond.mode = .waking →
    ∃ t, exec (.clearSwitchFault q sw) s = .next t ∧ OnlyLinks s t ∧
      Answered s t q.link (plainReply 0x12 q (.refused .wrongMode))) ∧
  ∀ q s, Leads q s.block → (s.block.seq.phase = .idle ∨ s.block.seq.phase = .halted) →
    s.block.cond.mode = .standby ∨ s.block.cond.mode = .workshop →
    (∃ t, exec (.clearSwitchFault q .breaker) s = .next t ∧
      (s.block.sw.breaker.state = .failed → s.block.sw.breaker.settled = ⟨true, false⟩ →
        t.block.sw.breaker.StandsAt .opened q.link ∧ KeepsRest s t ∧
        Answered s t q.link (plainReply 0x12 q .done)) ∧
      (s.block.sw.breaker.state = .failed → s.block.sw.breaker.settled ≠ ⟨true, false⟩ →
        OnlyLinks s t ∧ Answered s t q.link (plainReply 0x12 q (.refused .interlock))) ∧
      (s.block.sw.breaker.state ≠ .failed → OnlyLinks s t ∧ Answered s t q.link (plainReply 0x12 q .done))) ∧
    (∃ t, exec (.clearSwitchFault q .selector) s = .next t ∧
      (∀ pos : SelPos, s.block.sw.selector.state = .failed → s.block.sw.selector.settled.position = some pos →
        t.block.sw.selector.state = pos.atRest ∧ t.block.sw.selector.lastCmd = pos ∧
        t.block.sw.selector.source = sourceOf q.link ∧ t.block.sw.selector.drive = none ∧
        t.block.sw.selector.disagree = false ∧ KeepsRest s t ∧ Answered s t q.link (plainReply 0x12 q .done)) ∧
      (s.block.sw.selector.state = .failed → s.block.sw.selector.settled.position = none →
        OnlyLinks s t ∧ Answered s t q.link (plainReply 0x12 q (.refused .interlock))) ∧
      (s.block.sw.selector.state ≠ .failed → OnlyLinks s t ∧ Answered s t q.link (plainReply 0x12 q .done))) ∧
    (∀ p, ∃ t, exec (.clearSwitchFault q (.iso p)) s = .next t ∧
      (∀ pos : TwoPos, (s.block.sw.iso.get p).state = .failed →
        (s.block.sw.iso.get p).settled = ⟨pos == .opened, pos == .closed⟩ →
        (pos = .closed ∧ (s.block.role p = .scraping ∨ s.block.role p = .calibrating) →
          OnlyLinks s t ∧ Answered s t q.link (plainReply 0x12 q (.refused .interlock))) ∧
        (¬(pos = .closed ∧ (s.block.role p = .scraping ∨ s.block.role p = .calibrating)) →
          (t.block.sw.iso.get p).StandsAt pos q.link ∧ KeepsRest s t ∧
          Answered s t q.link (plainReply 0x12 q .done))) ∧
      ((s.block.sw.iso.get p).state = .failed → (s.block.sw.iso.get p).settled.consistent = false →
        OnlyLinks s t ∧ Answered s t q.link (plainReply 0x12 q (.refused .interlock))) ∧
      ((s.block.sw.iso.get p).state ≠ .failed → OnlyLinks s t ∧ Answered s t q.link (plainReply 0x12 q .done))) ∧
    ∃ t, exec (.clearSwitchFault q .earth) s = .next t ∧
      (∀ pos : TwoPos, s.block.sw.earth.state = .failed → s.block.sw.earth.settled = ⟨pos == .opened, pos == .closed⟩ →
        t.block.sw.earth.StandsAt pos q.link ∧
        { t.block.kept with links := s.block.kept.links, earth := s.block.kept.earth } = s.block.kept ∧
        Answered s t q.link (plainReply 0x12 q .done)) ∧
      (s.block.sw.earth.state = .failed → s.block.sw.earth.settled.consistent = false →
        OnlyLinks s t ∧ Answered s t q.link (plainReply 0x12 q (.refused .interlock))) ∧
      (s.block.sw.earth.state ≠ .failed → OnlyLinks s t ∧ Answered s t q.link (plainReply 0x12 q .done))

/-- Settled readings with no other work under way (R98, R100, R101, R37): a switch in travel that shows its commanded
position alone is at rest there; the breaker at OPEN lets pending lowers begin, no adoption being waited for; a CLOSED
breaker that shows open has tripped, with source EXTERNAL and no fault. A breaker, selector, isolator or earthing
switch in travel at its timeout is FAILED with SWITCH_FAILED recorded, a breaker's output being set to OPEN and a
selector's drive removed; where an open taken first has interrupted the close whose timeout it is (by the mark of log
entry 3), the breaker goes on opening and nothing is recorded (R102). A reading in travel that shows neither the commanded position alone nor two
positions decides nothing, and one that shows two makes the switch FAILED; a switch OPEN whose reading does not show
the open position alone keeps its state and output, its flag is set, and SWITCH_FAILED is recorded at the first such
reading after one in agreement; any other switch at rest whose reading does not show its position alone is FAILED. A
path is halted with reason SWITCH by the selector or an isolator that reports FAILED, at its timeout or by its
reading, during the switch work (R135; that of the probe of another class on NEUTRAL is the model's inference, log entry
35, and that work done counts until COAST is left is its choice, log entry 43), and in CONFIRM, MASTER_READY and CLOSE by the candidate's isolator or the
selector that leaves its position, at a reading or on a Switch Command (R137). -/
def Obligations.SettledReadingsEndMovements : Prop :=
  (∀ p c s, s.block.seq.phase = .coast ∨ s.block.seq.phase = .probe → s.block.seq.candidate = some c →
    s.block.seq.work ∈ [.switches, .isolator, .ready] → HasSwitchWork s.block →
    ((s.block.sw.iso.get p).state.travelling = true → ∃ t, exec (.switchOperationTimeout (.iso p)) s = .next t ∧
      HaltedFor .switch t.block ∧ Records .switchFailed s t) ∧
    (s.block.sw.selector.state = .moving → ∃ t, exec (.switchOperationTimeout .selector) s = .next t ∧
      HaltedFor .switch t.block ∧ Records .switchFailed s t) ∧
    (∀ x, (s.block.sw.iso.get p).state.travelling = true ∧ x = ⟨true, true⟩ ∧
        x.shows (s.block.sw.iso.get p).lastCmd = false ∨
        (s.block.sw.iso.get p).state = .closed ∧ x ≠ ⟨false, true⟩ →
      ∃ t, exec (.settledReading (.iso p x)) s = .next t ∧ HaltedFor .switch t.block ∧ Records .switchFailed s t) ∧
    ∀ x, s.block.sw.selector.state = .moving ∧ x.several = true ∨
        (∃ pos : SelPos, s.block.sw.selector.state = pos.atRest ∧ x.shows pos = false) →
      ∃ t, exec (.settledReading (.selector x)) s = .next t ∧ HaltedFor .switch t.block ∧ Records .switchFailed s t) ∧
  (∀ c s, s.block.seq.phase ∈ [.confirm, .masterReady, .close] → s.block.seq.candidate = some c →
    (∀ x, (s.block.sw.iso.get c).state = .closed → x ≠ ⟨false, true⟩ →
      ∃ t, exec (.settledReading (.iso c x)) s = .next t ∧ HaltedFor .switch t.block ∧ Records .switchFailed s t) ∧
    (∀ x, s.block.sw.selector.state = (selFor (s.block.head c)).atRest → x.shows (selFor (s.block.head c)) = false →
      ∃ t, exec (.settledReading (.selector x)) s = .next t ∧ HaltedFor .switch t.block ∧ Records .switchFailed s t) ∧
    ∀ q, Leads q s.block → s.block.cond.mode = .workshop → s.block.sw.breaker.isOpen = true →
      ((s.block.sw.iso.get c).state = .closed → ∃ t, exec (.switchCommandIsolator q c .opened) s = .next t ∧
        HaltedFor .switch t.block ∧ Answered s t q.link (plainReply 0x11 q .accepted)) ∧
      ∀ pos, s.block.sw.selector.state = (selFor (s.block.head c)).atRest → pos ≠ selFor (s.block.head c) →
        ∃ t, exec (.switchCommandSelector q pos) s = .next t ∧
          HaltedFor .switch t.block ∧ Answered s t q.link (plainReply 0x11 q .accepted)) ∧
  ∀ s, (s.block.seq.phase = .idle ∨ s.block.seq.phase = .halted) → s.block.cond.mode ≠ .waking →
    s.block.cond.standbyLowering = false →
    (∀ x, ∃ t, exec (.settledReading (.breaker x)) s = .next t ∧ t.block.kept = s.block.kept ∧
      (s.block.sw.breaker.state = .opening → s.block.sw.breaker.lastCmd = .opened → x.shows .opened = true →
        t.block.sw.breaker.state = .opened ∧ t.block.sw.breaker.timer = none ∧
        (s.block.cond.restart = none → ∀ p, (s.block.lc p).state = .contact → (s.block.lc p).lowerPending = true →
          (t.block.lc p).state = .lowering)) ∧
      (s.block.sw.breaker.state = .closing → s.block.sw.breaker.lastCmd = .closed → x.shows .closed = true →
        closeConditions s.block = true → t.block.sw.breaker.state = .closed ∧ t.block.sw.breaker.timer = none) ∧
      (s.block.sw.breaker.state = .closed → x.shows .opened = true →
        t.block.sw.breaker.state = .opened ∧ t.block.sw.breaker.source = .external ∧
        faultCount .switchFailed t.block = faultCount .switchFailed s.block)) ∧
    (∀ x, s.block.sw.selector.state = .moving → x.shows s.block.sw.selector.lastCmd = true →
      ∃ t, exec (.settledReading (.selector x)) s = .next t ∧ t.block.kept = s.block.kept ∧
        t.block.sw.selector.state = s.block.sw.selector.lastCmd.atRest ∧ t.block.sw.selector.timer = none) ∧
    (∀ p x, (s.block.sw.iso.get p).state.travelling = true → x.shows (s.block.sw.iso.get p).lastCmd = true →
      ∃ t, exec (.settledReading (.iso p x)) s = .next t ∧ t.block.kept = s.block.kept ∧
        (t.block.sw.iso.get p).state = (s.block.sw.iso.get p).lastCmd.atRest ∧
        (t.block.sw.iso.get p).timer = none) ∧
    (∀ x, s.block.sw.earth.state.travelling = true → x.shows s.block.sw.earth.lastCmd = true →
      ∃ t, exec (.settledReading (.earth x)) s = .next t ∧
        t.block.sw.earth.state = s.block.sw.earth.lastCmd.atRest ∧ t.block.sw.earth.timer = none) ∧
    (∀ p x, ∃ t, exec (.settledReading (.iso p x)) s = .next t ∧ t.block.kept = s.block.kept ∧
      JudgesReading false x (s.block.sw.iso.get p) (t.block.sw.iso.get p) s t) ∧
    (∀ x, ∃ t, exec (.settledReading (.earth x)) s = .next t ∧
      { t.block.kept with earth := s.block.kept.earth } = s.block.kept ∧
      JudgesReading false x s.block.sw.earth t.block.sw.earth s t) ∧
    (∀ x, s.block.sw.breaker.state ≠ .closing → ¬(s.block.sw.breaker.state = .closed ∧ x = ⟨false, true⟩) →
      (s.block.sw.breaker.state = .opening → s.block.sw.breaker.lastCmd = .opened) →
      ∃ t, exec (.settledReading (.breaker x)) s = .next t ∧
        JudgesReading true x s.block.sw.breaker t.block.sw.breaker s t) ∧
    (∀ x, ∃ t, exec (.settledReading (.selector x)) s = .next t ∧ t.block.kept = s.block.kept ∧
      (s.block.sw.selector.state = .moving → x.shows s.block.sw.selector.lastCmd = false → x.several = false →
        t.block.sw.selector = { s.block.sw.selector with settled := x } ∧
        faultCount .switchFailed t.block = faultCount .switchFailed s.block) ∧
      (s.block.sw.selector.state = .moving ∧ x.several = true ∨
          (∃ pos : SelPos, s.block.sw.selector.state = pos.atRest ∧ x.shows pos = false) →
        t.block.sw.selector.state = .failed ∧ t.block.sw.selector.drive = none ∧ t.block.sw.selector.timer = none ∧
        Records .switchFailed s t)) ∧
    (s.block.sw.selector.state = .moving → ∃ t, exec (.switchOperationTimeout .selector) s = .next t ∧
      t.block.kept = s.block.kept ∧ t.block.sw.selector.state = .failed ∧ t.block.sw.selector.drive = none ∧
      t.block.sw.selector.timer = none ∧ Records .switchFailed s t) ∧
    (s.block.sw.earth.state.travelling = true → ∃ t, exec (.switchOperationTimeout .earth) s = .next t ∧
      { t.block.kept with earth := s.block.kept.earth } = s.block.kept ∧ t.block.sw.earth.state = .failed ∧
      t.block.sw.earth.output = s.block.sw.earth.output ∧ t.block.sw.earth.timer = none ∧
      Records .switchFailed s t) ∧
    (s.block.sw.breaker.state.travelling = true →
      ∃ t, exec (.switchOperationTimeout .breaker) s = .next t ∧ t.block.kept = s.block.kept ∧
        (Interrupted s.block.sw.breaker → t.block.sw.breaker = s.block.sw.breaker ∧
          faultCount .switchFailed t.block = faultCount .switchFailed s.block) ∧
        (¬Interrupted s.block.sw.breaker → t.block.sw.breaker.state = .failed ∧
          t.block.sw.breaker.output = .opened ∧ Records .switchFailed s t)) ∧
    ∀ p, (s.block.sw.iso.get p).state.travelling = true →
      ∃ t, exec (.switchOperationTimeout (.iso p)) s = .next t ∧ t.block.kept = s.block.kept ∧
        (t.block.sw.iso.get p).state = .failed ∧ (t.block.sw.iso.get p).output = (s.block.sw.iso.get p).output ∧
        Records .switchFailed s t

/-- The guard of R104 and the law of R103: in every state that a step leaves, a breaker CLOSING or CLOSED has conditions
1 to 5 of R103; and a breaker enters CLOSING only with a traction master present and every present one ready for the
determined system. -/
def Obligations.BreakerIsGuarded : Prop :=
  ∀ s t, step s = .next t →
    (BreakerLaw s.block → BreakerLaw t.block) ∧
    (s.block.sw.breaker.state ≠ .closing → t.block.sw.breaker.state = .closing → readinessMet t.block = true)

/-- The laws of R12, R107 and R129 are kept by every step, each by itself: a scraper's and a calibrating pantograph's
isolator is OPEN; no pantograph is up and the breaker is not closed while the earthing switch is not OPEN; no scraper
outside IDLE. So is R37's: a lower pends in CONTACT alone, and on a breaker that is CLOSING, CLOSED or OPENING, outside
the wait for an adoption. -/
def Obligations.RoofLawsAreKept : Prop :=
  ∀ s t, step s = .next t →
    (IsolatorLaw s.block → IsolatorLaw t.block) ∧ (EarthLaw s.block → EarthLaw t.block) ∧
    (ScraperLaw s.block → ScraperLaw t.block) ∧ (PendingLaw s.block → PendingLaw t.block)

/-! ## Ice -/

/-- Set Ice Mode (R156, R157): in STANDBY, SERVICE and WORKSHOP a forced level of 0 to 3 and the scraper enable are
taken and the final level is that of its parts; above 3 it is refused OUT_OF_RANGE, in WAKING WRONG_MODE. The judgement
of the scraper: the candidate (R164) is the lowest pantograph of the collector's head class at the leading end, the
collector standing at the other; where the seven conditions of R165 hold and R10 grants it, it becomes the scraper, and
where one does not hold, or the earthing switch or the air forbids it, nothing changes; a scraper of the Ice Unit's is
lowered where a condition of R166 holds, and otherwise nothing changes. -/
def Obligations.IceModeIsSet : Prop :=
  (∀ q forced enable s, Leads q s.block → ∃ t, exec (.setIceMode q forced enable) s = .next t ∧
    (awakeMode s.block = true → forced ≤ 3 →
      t.block.ice.forced = forced ∧ t.block.ice.enable = enable ∧ LevelLaw t.block ∧
      { t.block.kept with links := s.block.kept.links, forced := s.block.kept.forced,
                          enable := s.block.kept.enable } = s.block.kept ∧
      (enable = false → Resting s.block → s.block.seq.phase = .idle → ∀ p, s.block.ice.scraper = some p →
        s.block.role p = .scraping → (∀ x, x ≠ p → s.block.role x ≠ .scraping) →
        ((s.block.lc p).state.up = true → t.block.role p = .none ∧ t.block.ice.scraper = none ∧
          (t.block.lc p).state = .lowering ∧ t.block.ice.lastLowering = some s.block.queue.position) ∧
        ((s.block.lc p).state = .stowed → (s.block.lc p).held ≠ .none →
          t.block.role p = .none ∧ t.block.ice.scraper = none ∧ (t.block.lc p).held = .none ∧
          t.block.ice.lastLowering = some s.block.queue.position)) ∧
      Answered s t q.link (plainReply 0x0C q .done)) ∧
    (awakeMode s.block = true → 3 < forced →
      OnlyLinks s t ∧ Answered s t q.link (plainReply 0x0C q (.refused .outOfRange))) ∧
    (s.block.cond.mode = .waking →
      OnlyLinks s t ∧ Answered s t q.link (plainReply 0x0C q (.refused .wrongMode)))) ∧
  (∀ b p, scraperCandidate b = some p ↔ ∃ c, collector b = some c ∧ b.roofEnd c ≠ leadingEnd b ∧
    (b.head p = b.head c ∧ b.roofEnd p = leadingEnd b) ∧
    ∀ x, b.head x = b.head c → b.roofEnd x = leadingEnd b → p.num ≤ x.num) ∧
  (∀ b p, (∀ x, b.role x ≠ .scraping) → WantsScraper p b → (b.lc p).held = .none →
    (∀ n, b.cond.testStep ≠ .valves p n) → ∃ t, t = judgeScraper b ∧
    (b.sw.earth.isOpen = true → Panto.all.countP (fun x => x == p || committed b x) ≤ b.nat .maxUp →
      BecomesScraper p b t) ∧
    (b.sw.earth.isOpen = false ∨ b.nat .maxUp < Panto.all.countP (fun x => x == p || committed b x) → t = b)) ∧
  (∀ b, (∀ x, b.role x ≠ .scraping) → (∀ p, ¬WantsScraper p b) → judgeScraper b = b) ∧
  ∀ b p, b.role p = .scraping → (∀ x, x ≠ p → b.role x ≠ .scraping) → b.ice.scraper = some p →
    b.cond.restart = none → (∀ n, b.cond.testStep ≠ .valves p n) → ∃ t, t = judgeScraper b ∧
      (LowersScraper p b → ScraperComesDown p b t) ∧ (¬LowersScraper p b → t = b)

/-- Arc pulses (R149 to R151): a low level brings a unit from WAIT_LOW to LOW; a rising edge in LOW starts a pulse
with the collecting mark as the role stands; its falling edge at ArcMin or more makes a record with position, speed,
severity and the count after it, the newest of at most 32, and below ArcMin makes none; at 65,535 microseconds the
record is made and the unit is HELD_HIGH. The ice score is the weight of the collector's counted records within
IceWindow and gives the raw level by the three thresholds (R154), taken anew at each record, a held search going with
CALIBRATING, against which the hysteresis level is judged (R155). A heater period applies the duties (R162). -/
def Obligations.ArcsAreRecorded : Prop :=
  (∀ p s, ∃ t, exec (.arcPulseStart p .rising) s = .next t ∧
    ((s.block.ice.capture.get p).state = .low →
      t.block.ice.capture = s.block.ice.capture.set p ⟨.timing, 0, s.block.role p == .collecting⟩) ∧
    ((s.block.ice.capture.get p).state ≠ .low → t.block.ice.capture = s.block.ice.capture) ∧
    { t.block.kept with capture := s.block.kept.capture } = s.block.kept) ∧
  (∀ p s, ∃ t, exec (.arcPulseStart p .low) s = .next t ∧
    ((s.block.ice.capture.get p).state = .waitLow →
      t.block.ice.capture = s.block.ice.capture.set p { s.block.ice.capture.get p with state := .low }) ∧
    ((s.block.ice.capture.get p).state ≠ .waitLow → t.block.ice.capture = s.block.ice.capture) ∧
    { t.block.kept with capture := s.block.kept.capture } = s.block.kept) ∧
  (∀ p us s, us ≤ 65535 → ∃ t, exec (.arcPulseEnd p us) s = .next t ∧
    (t.block.ice.capture.get p).state = .low ∧
    { t.block.kept with capture := s.block.kept.capture, arcCount := s.block.kept.arcCount,
                        history := s.block.kept.history } = s.block.kept ∧
    ((s.block.ice.capture.get p).state = .timing → s.block.nat .arcMin ≤ us →
      t.block.ice.arcCount = (s.block.ice.arcCount + 1) % 65536 ∧
      t.block.ice.history = (⟨t.block.ice.arcCount, p, s.block.queue.position, us, s.block.queue.speed,
        severityOf us, (s.block.ice.capture.get p).mark⟩ :: s.block.ice.history).take 32 ∧
      (SearchLaw s.block → t.block.ice.score = scoreOf t.block)) ∧
    (¬((s.block.ice.capture.get p).state = .timing ∧ s.block.nat .arcMin ≤ us) →
      t.block.ice.arcCount = s.block.ice.arcCount ∧ t.block.ice.history = s.block.ice.history)) ∧
  (∀ p s, (s.block.ice.capture.get p).state = .timing → ∃ t, exec (.arcPulseTimerExpiry p) s = .next t ∧
    (t.block.ice.capture.get p).state = .heldHigh ∧
    t.block.ice.arcCount = (s.block.ice.arcCount + 1) % 65536 ∧
    t.block.ice.history = (⟨t.block.ice.arcCount, p, s.block.queue.position, 65535, s.block.queue.speed,
      .sustained, (s.block.ice.capture.get p).mark⟩ :: s.block.ice.history).take 32 ∧
    (SearchLaw s.block → t.block.ice.score = scoreOf t.block)) ∧
  (∀ us, (us < 1000 → severityOf us = .short) ∧ (1000 ≤ us → us < 10000 → severityOf us = .long) ∧
    (10000 ≤ us → severityOf us = .sustained)) ∧
  (∀ b, ((∀ x, b.role x ≠ .collecting) → scoreOf b = 0) ∧
    ∀ c, b.role c = .collecting → (∀ x, b.role x = .collecting → x = c) →
      scoreOf b = ((b.ice.history.filter fun r =>
        r.panto == c && r.counted && decide (b.queue.position ≤ r.position + b.nat .iceWindow)).map fun r =>
          match r.severity with
          | .short => 1
          | .long => 4
          | .sustained => 16).sum) ∧
  (∀ fall b, ∃ t, t = evaluateScore fall b ∧
    t = { b with ice := { b.ice with
      score := t.ice.score, raw := t.ice.raw, hysteresis := t.ice.hysteresis, fallStart := t.ice.fallStart } } ∧
    t.ice.score = scoreOf b ∧
    (scoreOf b < b.nat .iceT1 → t.ice.raw = 0) ∧
    (b.nat .iceT1 ≤ scoreOf b → scoreOf b < b.nat .iceT2 → t.ice.raw = 1) ∧
    (b.nat .iceT1 ≤ scoreOf b → b.nat .iceT2 ≤ scoreOf b → scoreOf b < b.nat .iceT3 → t.ice.raw = 2) ∧
    (b.nat .iceT1 ≤ scoreOf b → b.nat .iceT2 ≤ scoreOf b → b.nat .iceT3 ≤ scoreOf b → t.ice.raw = 3) ∧
    JudgesLevel fall b t) ∧
  (∀ b, scoreAtMotion b = evaluateScore (b.queue.direction != .standstill) b) ∧
  ∀ s, ∃ t, exec .heaterPeriodStart s = .next t ∧
    t.block = { s.block with ice := { s.block.ice with applied := s.block.ice.duty }, links := t.block.links }

/-- The laws of R161, R157 and R88 are kept by every step, each by itself: the four duties never exceed HeatBudget
together; the final level is that of its parts, from 0 to 3 and at most 1 while the ambient temperature is above
IceTemp; a confirmed class is the class of the current run and never UNKNOWN. Demands and duties are those of R160 and
R161 after every step, the collector first, then the pre-heat, then the scraper; from a warm restart to the end of its
adoption they are 0, the demands by the model's choice (log entry 37). The advisory follows the level over every step
but the resets, those that wait for the adoption after one and the first scan (R158): CurrentLimit at the event at
which the level becomes 3 and at each write of CurrentLimit while it is 3, absent as it falls below 3, and no other
event changes it. -/
def Obligations.HeatLevelAndRunLawsAreKept : Prop :=
  (∀ s t, step s = .next t →
    (HeaterLaw s.block → HeaterLaw t.block) ∧ (LevelLaw s.block → LevelLaw t.block) ∧
    (RunLaw s.block.line → RunLaw t.block.line) ∧
    (ShareLaw s.block → OneCollector t.block → OneScraper t.block → ShareLaw t.block)) ∧
  (∀ c rest s t, s.pending = c :: rest → (∀ k m, c ≠ .powerOn k m) → (∀ k, c ≠ .warmRestart k) →
    (∀ l k, c ≠ .replySent l k) → s.block.cond.restart = none → AdoptionLaw s.block →
    s.block.sensors.ambient.validity ≠ .unknown ∨ (∀ r, c ≠ .scanComplete r) → step s = .next t →
    AdvisesLimit s.block t.block ∧
      ((∀ q v, c ≠ .writeConfigurationItem q (some .currentLimit) v) → (∀ l byte, c ≠ .frameOpened l byte) →
        s.block.ice.level = 3 → t.block.ice.level = 3 → t.block.record.advisory = s.block.record.advisory)) ∧
  ∀ q v s, Leads q s.block → s.block.cond.mode = .workshop →
    ∃ t, exec (.writeConfigurationItem q (some .currentLimit) v) s = .next t ∧
      (s.block.ice.level = 3 → t.block.ice.level = 3 →
        t.block.record.advisory = some (t.block.nat .currentLimit))

/-! ## Line measurement -/

/-- A sample slot (R80 to R90): within a window a pair enters the sums and a slot without a pair marks the window
unmeasured, with no effect beyond the Line Monitor; the 320th slot closes the window. That a WINDOW_CLOSE before the
320th slot is a slot like any other is the model's choice (log entry 7). The crossing capture takes each sample (R83);
that the period is the crossing counter with this sample counted is the model's inference (log entry 33). The class of
a measured window is that of the six rows of R86, and of an unmeasured one UNKNOWN; the run grows where the class is
that of the run and begins anew at 1 where it is not; the class is confirmed at ConfirmCount and stays so through the
run, no class is confirmed at UNKNOWN, below ConfirmCount otherwise, or where a run breaks (R88), and the result says
whether this window made the confirmation; the next window starts at 0. What the Sequencer makes of a result (R89): in
IDLE, ARMED and TRACTION_OFF the wrong-system detection starts an IDENTIFY path at PROBE (R91, R92), in TRACTION_OFF
before the traction-off check, which is the model's choice (log entry 38); in IDLE a line
DEAD for 60 windows beyond its confirmation sets the traction-off request with NO_LINE, and the confirmed determined
system withdraws it (R94, R95); in the phases of R93 but CONFIRM the measured class alone is written. The slot that closes a
window hands its result on so. -/
def Obligations.WindowsAreMeasured : Prop :=
  (∀ c slot s, c = .samplePair slot ∨ c = .windowClose slot →
    (s.block.line.pairCount + 1 < 320 → ∃ t, exec c s = .next t ∧
      t.block = { s.block with line := t.block.line, links := t.block.links } ∧
      t.block.line.pairCount = s.block.line.pairCount + 1 ∧
      (∀ v i, slot = .pair v i →
        t.block.line.voltSum = s.block.line.voltSum + v ∧
        t.block.line.absVoltSum = s.block.line.absVoltSum + v.natAbs ∧
        t.block.line.absCurSum = s.block.line.absCurSum + i.natAbs ∧
        t.block.line.unmeasured = s.block.line.unmeasured) ∧
      (slot = .unmeasured → t.block.line.unmeasured = true ∧ t.block.line.lastPeriod = none)) ∧
    (320 ≤ s.block.line.pairCount + 1 → ∃ t, exec c s = .next t ∧ ∃ r, t.block.line.result = some r ∧
      t.block.line.pairCount = 0 ∧ t.block.line.voltSum = 0 ∧ t.block.line.absVoltSum = 0 ∧
      t.block.line.absCurSum = 0 ∧ t.block.line.unmeasured = false ∧
      t.block.line.runClass = some r.cls ∧ t.block.record.measured = r.cls ∧
      r.confirmation = (s.block.line.confirmed.isNone && t.block.line.confirmed.isSome) ∧
      r.lastPeriod = t.block.line.lastPeriod ∧
      (∃ b, b = { s.block with line := t.block.line } ∧ AppliesWindow b (takeWindow r b) t.block) ∧
      (s.block.line.runClass = some r.cls →
        t.block.line.runLength = min 255 (s.block.line.runLength + 1)) ∧
      (s.block.line.runClass ≠ some r.cls → t.block.line.runLength = 1) ∧
      (r.cls ≠ .unknown → s.block.nat .confirmCount ≤ t.block.line.runLength →
        t.block.line.confirmed = some r.cls) ∧
      (r.cls ≠ .unknown → s.block.line.runClass = some r.cls → s.block.line.confirmed = some r.cls →
        t.block.line.confirmed = some r.cls) ∧
      (r.cls = .unknown → t.block.line.confirmed = none) ∧
      (t.block.line.runLength < s.block.nat .confirmCount →
        s.block.line.runClass ≠ some r.cls ∨ s.block.line.confirmed ≠ some r.cls → t.block.line.confirmed = none) ∧
      (s.block.line.runClass ≠ some r.cls → 2 ≤ s.block.nat .confirmCount → t.block.line.confirmed = none) ∧
      (slot = .unmeasured ∨ s.block.line.unmeasured = true →
        r.cls = .unknown ∧ r.mean = none ∧ r.meanAbs = none ∧ r.rms = none ∧ r.current = none ∧
        r.periodValid = false ∧ r.freq = none ∧ r.tractionOff = false ∧ t.block.line.measureFaulty = true) ∧
      ∀ v i, slot = .pair v i → s.block.line.unmeasured = false →
        r.mean = some ((s.block.line.voltSum + v).tdiv 320) ∧
        r.meanAbs = some ((s.block.line.absVoltSum + v.natAbs) / 320) ∧
        r.rms = some ((s.block.line.absVoltSum + v.natAbs) / 320 * 71 / 64) ∧
        r.current = some ((s.block.line.absCurSum + i.natAbs) / 320) ∧
        r.periodValid = (t.block.line.lastPeriod.isSome && decide (t.block.line.crossCount ≤ 639)) ∧
        r.freq = (if r.periodValid = true then t.block.line.lastPeriod.map fun n => 640000 / n else none) ∧
        t.block.line.lowCount = (if (s.block.line.absCurSum + i.natAbs) / 320 < s.block.nat .iOff then
          min 2 (s.block.line.lowCount + 1) else 0) ∧
        r.tractionOff = decide (t.block.line.lowCount = 2) ∧
        r.cls = classify s.block.cond.cfg ⟨(s.block.line.voltSum + v).tdiv 320,
          (s.block.line.absVoltSum + v.natAbs) / 320, (s.block.line.absVoltSum + v.natAbs) / 320 * 71 / 64,
          (s.block.line.absCurSum + i.natAbs) / 320, r.periodValid, r.freq⟩ ∧
        t.block.line.measureFaulty = false)) ∧
  (∀ c w, ClassifiesByTable c w (classify c w)) ∧
  (∀ v l, CapturesCrossing v l (l.capture v)) ∧
  (∀ b r sys, b.seq.phase = .idle ∨ b.seq.phase = .armed ∨ b.seq.phase = .tractionOff → WrongLine sys b →
    (∀ p, (b.lc p).state = .contact → (b.lc p).held = .none ∧ (b.lc p).heldSearch = false) → OneCollector b →
    DetectsWrongSystem sys b (takeWindow r b) ∧ (takeWindow r b).record.measured = r.cls) ∧
  (∀ b r, b.seq.phase = .idle → (∀ sys, ¬WrongLine sys b) → ∃ t, t = takeWindow r b ∧
    (LosesLine b →
      t.record = { b.record with measured := r.cls, tractionOff := true } ∧
      faultCount .noLine t = oneMore .noLine b ∧ t.sw = b.sw ∧ t.seq = b.seq) ∧
    (b.record.tractionOff = true → (∃ sys, b.record.determined = some sys ∧ b.line.confirmed = some (.sys sys)) →
      t = { b with record := { b.record with measured := r.cls, tractionOff := false } }) ∧
    (¬LosesLine b →
      ¬(b.record.tractionOff = true ∧
        ∃ sys, b.record.determined = some sys ∧ b.line.confirmed = some (.sys sys)) →
      t = { b with record := { b.record with measured := r.cls } })) ∧
  ∀ b r, b.seq.phase ∈ [.breakerOpen, .lowering, .coast, .probe, .masterReady, .close, .halted] →
    takeWindow r b = { b with record := { b.record with measured := r.cls } }

/-! ## What the masters see -/

/-- Reads (R186) on every link, in any mode: each is answered DONE with the contents named for it, from the state as it
stands; nothing changes but the links, and from a present link the masks stay. Read Status Digest (R184, R187) carries
the link's own mask as it stood, with the bit of the links' field where its own presence began with it, and the 47 bytes
of the digest, each from its fields as the table of R187 lays it out; it then empties that mask and no other. -/
def Obligations.ReadsAnswerFromTheState : Prop :=
  (∀ q s, q.wellFormed = true →
    ∃ t, exec (.readStatusDigest q) s = .next t ∧ OnlyLinks s t ∧
      Answered s t q.link ⟨0x40, q.tag, .done, .digest (digestBytes
        ((s.block.links.get q.link).mask |||
          (if (s.block.links.get q.link).present = true then 0 else 0x2000)) t.block)⟩ ∧
      (t.block.links.get q.link).mask = 0 ∧
      ∀ l, l ≠ q.link → (s.block.links.get q.link).present = true →
        (t.block.links.get l).mask = (s.block.links.get l).mask) ∧
  (∀ m b, digestBytes m b = (statusDigest m b).map (BitVec.ofNat 8) ∧ (digestBytes m b).length = 47) ∧
  (∀ q s, q.wellFormed = true → ∃ t, exec (.readLinkCounters q) s = .next t ∧ OnlyLinks s t ∧
    ∃ v, Answered s t q.link ⟨0x4B, q.tag, .done, .counters v⟩ ∧
      ∀ l, ∃ r, r = t.block.links.get l ∧ v.get l = ⟨r.present, r.age, r.badFrames, r.mask, r.mask != 0⟩) ∧
  ∀ q n item s, q.wellFormed = true →
    ∀ c code view,
      (c, code, view) ∈ ([
        (.readRoofPlan q, 0x41, some (.roofPlan {
          lead := s.block.plan.lead, roles := s.block.plan.roles, hold := s.block.plan.hold
          readyA := s.block.plan.readyA, readyB := s.block.plan.readyB, epoch := s.block.plan.epoch
          raised := Panto.all.countP fun p => (s.block.lc p).state.raised
          committed := Panto.all.countP (committed s.block) })),
        (.readPantographStatus q n, 0x42, (pantoOf n).map fun p => .panto {
          state := (s.block.lc p).state, held := (s.block.lc p).held, heldSearch := (s.block.lc p).heldSearch
          lowerPending := (s.block.lc p).lowerPending, commanded := (s.block.lc p).commanded
          targetForce := (s.block.lc p).targetForce, targetPressure := (s.block.lc p).targetPressure
          touch := touchInUse s.block p, actuator := (s.block.sensors.actuator.get p).shown
          strip := (s.block.sensors.strip.get p).shown, height := (s.block.sensors.height.get p).shown
          servoDeviation := (s.block.lc p).servoDeviation, lowerOverdue := (s.block.lc p).lowerOverdue
          noWireLower := (s.block.lc p).noWireLower, forceClamped := (s.block.lc p).forceClamped
          pressureClamped := (s.block.lc p).pressureClamped, uncalibrated := uncalibrated s.block p
          stale := stale s.block p, search := (s.block.lc p).search }),
        (.readSwitches q, 0x43, some (.switches {
          breaker := s.block.sw.breaker.shown 200
          selector := ⟨s.block.sw.selector.state, s.block.sw.selector.lastCmd, s.block.sw.selector.source,
            s.block.sw.selector.disagree, s.block.sw.selector.timer.map fun t => 1500 - t⟩
          iso := .ofFun fun p => (s.block.sw.iso.get p).shown 2000
          earth := s.block.sw.earth.shown 3000 })),
        (.readLineRecord q, 0x44, some (.line {
          record := s.block.record, result := s.block.line.result
          lastPeriod := s.block.line.result.bind WindowResult.lastPeriod, runClass := s.block.line.runClass
          runLength := s.block.line.runLength, confirmed := s.block.line.confirmed
          measureFaulty := s.block.line.measureFaulty, seq := s.block.seq })),
        (.readSectionQueue q, 0x45, some (.sections s.block.queue)),
        (.readIce q, 0x46, some (.ice {
          score := s.block.ice.score, raw := s.block.ice.raw, hysteresis := s.block.ice.hysteresis
          fallStart := s.block.ice.fallStart, forced := s.block.ice.forced, enable := s.block.ice.enable
          watch := s.block.ice.watch, cap := s.block.ice.cap, level := s.block.ice.level
          demand := s.block.ice.demand, duty := s.block.ice.duty, preheat := s.block.ice.preheat
          scraper := s.block.ice.scraper, lastLowering := s.block.ice.lastLowering
          arcCount := s.block.ice.arcCount })),
        (.readArcHistory q n, 0x47, if n ≤ 31 then
          some (.arcs s.block.ice.arcCount s.block.ice.history.length ((s.block.ice.history.drop n).take 8)) else none),
        (.readCalibration q n, 0x48, (pantoOf n).map fun p =>
          .calibration (s.block.cal.get p).fields (s.block.cal.get p).saved (stale s.block p)),
        (.readFaultRecord q, 0x49, some (.faults s.block.cond.faults)),
        (.readSelfTest q, 0x4A, some (.selfTest s.block.cond.selfTest s.block.cond.mode s.block.cond.modeTimer
          s.block.cond.returnMode)),
        (.readConfigurationItem q item, 0x4C, item.map fun i =>
          .item (s.block.cfg i) i.lo i.hi i.initial s.block.cond.configSaved)] :
          List (Instr × Nat × Option ReplyData)) →
      ∃ t, exec c s = .next t ∧ OnlyLinks s t ∧
        ((s.block.links.get q.link).present = true →
          ∀ l, (t.block.links.get l).mask = (s.block.links.get l).mask) ∧
        (∀ d, view = some d → Answered s t q.link ⟨code, q.tag, .done, d⟩) ∧
        (view = none → Answered s t q.link (plainReply code q (.refused .outOfRange)))

/-- Every change of a digest field sets its bit in all three masks, and no step but a digest read clears a bit
(R184). -/
def Obligations.ChangesRaiseAttention : Prop :=
  ∀ c rest s t, s.pending = c :: rest → (∀ q, c ≠ .readStatusDigest q) → (∀ l byte, c ≠ .frameOpened l byte) →
    step s = .next t → ∀ k l, k < 16 →
      ((digestFields s.block)[k]? ≠ (digestFields t.block)[k]? → (t.block.links.get l).mask.getLsbD k = true) ∧
      ((s.block.links.get l).mask.getLsbD k = true → (t.block.links.get l).mask.getLsbD k = true)

/-- The plan epoch advances by one, from 65535 to 0, at each step that changes lead, a role or its origin, the hold, a
lift state or the determined system, and at no other, resets and the adoption after one apart (R19). -/
def Obligations.EpochCountsChanges : Prop :=
  ∀ c rest s t, s.pending = c :: rest → s.block.cond.restart = none → (∀ k m, c ≠ .powerOn k m) →
    (∀ k, c ≠ .warmRestart k) → (∀ l k, c ≠ .replySent l k) → step s = .next t →
    t.block.plan.epoch =
      if principal s.block = principal t.block then s.block.plan.epoch else (s.block.plan.epoch + 1) % 65536

/-! ## The limits of the force law -/

/-- The laws of R61 are kept by every step where the configuration lies in its ranges: every commanded pressure lies
from 0 to Pmax, and the target force of every pantograph in CONTACT within its head class's Fmin and Fmax, which stay in
order (R49). That a pantograph shown in CONTACT before its adoption scan has no target is read from R44 and R63. -/
def Obligations.LimitsAreKept : Prop :=
  ∀ s t, ConfigLaw s.block → LimitsLaw s.block → step s = .next t → LimitsLaw t.block
end

