-- ==== Sys2Proof/Laws/Kept.lean ====
section
/-!
SUPPORT. What the blocks do to one another at one event keeps `Block.kept`: one lemma for each shared operation, so
that a claim about a kept part of the state needs no unfolding of the settling.
-/

namespace Sys2Proof.Machine

/-! ## Plain updates -/

@[simp] theorem kept_setLift (b : Block) (p : Panto) (l : Lift) : (b.setLift p l).kept = b.kept := rfl
@[simp] theorem kept_setRole (p : Panto) (r : Role) (o : Origin) (b : Block) : (setRole p r o b).kept = b.kept := rfl
@[simp] theorem kept_clearRole (p : Panto) (b : Block) : (clearRole p b).kept = b.kept := rfl
@[simp] theorem kept_setTractionOff (v : Bool) (b : Block) : (setTractionOff v b).kept = b.kept := rfl
@[simp] theorem kept_setPhase (v : Phase) (b : Block) : (setPhase v b).kept = b.kept := rfl
@[simp] theorem kept_setPreheat (v : Option Panto) (b : Block) : (setPreheat v b).kept = b.kept := rfl
@[simp] theorem kept_setWork (w : Work) (b : Block) : (setWork w b).kept = b.kept := rfl
@[simp] theorem kept_setBreaker (b : Block) (x : TwoSw) : (b.setBreaker x).kept = b.kept := rfl
@[simp] theorem kept_setSelector (b : Block) (x : SelSw) : (b.setSelector x).kept = b.kept := rfl
@[simp] theorem kept_setIso (b : Block) (p : Panto) (x : TwoSw) : (b.setIso p x).kept = b.kept := rfl
@[simp] theorem kept_setEntries (b : Block) (l : List Entry) : (b.setEntries l).kept = b.kept := rfl
@[simp] theorem kept_setValves (p : Panto) (r : TestResult) (b : Block) : (setValves p r b).kept = b.kept := rfl
@[simp] theorem kept_setStrips (p : Panto) (r : TestResult) (b : Block) : (setStrips p r b).kept = b.kept := rfl
@[simp] theorem kept_setTestStep (t : TestStep) (b : Block) : (setTestStep t b).kept = b.kept := rfl
@[simp] theorem kept_setTest (t : SelfTest) (b : Block) : (setTest t b).kept = b.kept := rfl
@[simp] theorem kept_setAdvisory (v : Option Nat) (b : Block) : (setAdvisory v b).kept = b.kept := rfl
@[simp] theorem kept_setScraper (v : Option Panto) (b : Block) : (setScraper v b).kept = b.kept := rfl
@[simp] theorem kept_endScraper (b : Block) : (endScraper b).kept = b.kept := rfl
@[simp] theorem kept_handOver (b : Block) : (handOver b).kept = b.kept := rfl
@[simp] theorem kept_takeLevel (b : Block) : (takeLevel b).kept = b.kept := rfl
@[simp] theorem kept_seq (b : Block) (q : Seq) : ({ b with seq := q } : Block).kept = b.kept := rfl
@[simp] theorem kept_recordFault (k : FaultKind) (x : Subject) (b : Block) : (recordFault k x b).kept = b.kept := rfl
@[simp] theorem kept_evaluate (p : Panto) (b : Block) : (evaluate p b).kept = b.kept := rfl
@[simp] theorem kept_holdRaise (p : Panto) (k : Held) (s : Bool) (b : Block) : (holdRaise p k s b).kept = b.kept := rfl
@[simp] theorem kept_beginRaise (p : Panto) (b : Block) : (beginRaise p b).kept = b.kept := rfl
@[simp] theorem kept_commandStep (p : Panto) (r : SearchRec) (n : Nat) (b : Block) :
    (commandStep p r n b).kept = b.kept := rfl
@[simp] theorem kept_beginSearch (p : Panto) (b : Block) : (beginSearch p b).kept = b.kept := rfl
@[simp] theorem kept_enterContact (p : Panto) (b : Block) : (enterContact p b).kept = b.kept := rfl
@[simp] theorem kept_markAll (m : Mask) (b : Block) : (markAll m b).kept = b.kept := rfl
@[simp] theorem kept_report (n : Nat) (b : Block) : (report n b).kept = b.kept := rfl
@[simp] theorem kept_noteLower (p : Panto) (b : Block) : (noteLower p b).kept = b.kept := rfl
@[simp] theorem kept_finishSeq (b : Block) : (setTractionOff false b).kept = b.kept := rfl

@[simp] theorem kept_arriveStowed (p : Panto) (b : Block) : (arriveStowed p b).kept = b.kept := by
  unfold arriveStowed
  split <;> rfl

/-! ## Memory port -/

@[simp] theorem kept_beginWrite (j : MemJob) (b : Block) : (beginWrite j b).kept = b.kept := by cases j <;> rfl

@[simp] theorem kept_offerWrite (j : MemJob) (b : Block) : (offerWrite j b).kept = b.kept := by
  unfold offerWrite
  split
  · exact kept_beginWrite j b
  · split <;> rfl

@[simp] theorem kept_changeEntry (p : Panto) (f : CalFields → CalFields) (b : Block) :
    (changeEntry p f b).kept = b.kept := by
  unfold changeEntry
  rw [kept_report, kept_offerWrite]
  rfl

/-! ## Switches, halts and lowers -/

@[simp] theorem kept_eachPanto (f : Panto → Block → Block) (h : ∀ p b, (f p b).kept = b.kept) (b : Block) :
    (eachPanto f b).kept = b.kept := by
  simp [eachPanto, h]

@[simp] theorem kept_openBreaker (x : Source) (b : Block) : (openBreaker x b).kept = b.kept := by
  unfold openBreaker
  split <;> simp

@[simp] theorem kept_serveEntry (i : Option Nat) (b : Block) : (serveEntry i b).kept = b.kept := by
  cases i <;> rfl

@[simp] theorem kept_haltFault (r : HaltReason) (b : Block) : (haltFault r b).kept = b.kept := by
  cases r <;> simp [haltFault]

/-- A halt for any reason but MISMATCH, which alone clears the determined system. -/
theorem kept_enterHalt (r : HaltReason) (h : r ≠ .mismatch) (b : Block) : (enterHalt r b).kept = b.kept := by
  simp [enterHalt, h]

theorem kept_halt (r : HaltReason) (h : r ≠ .mismatch) (b : Block) : (halt r b).kept = b.kept := by
  unfold halt
  split
  · rfl
  · split <;> rfl
  · exact kept_enterHalt r h b

@[simp] theorem kept_leaveContact (p : Panto) (l : Lift) (b : Block) : (leaveContact p l b).kept = b.kept := by
  unfold leaveContact
  dsimp only
  split
  · rw [kept_halt _ (by decide), kept_setLift]
  · simp

@[simp] theorem kept_beginLowering (p : Panto) (b : Block) : (beginLowering p b).kept = b.kept := by
  simp [beginLowering]

@[simp] theorem kept_abortEntry (p : Panto) (b : Block) : (abortEntry p b).kept = b.kept := by simp [abortEntry]

@[simp] theorem kept_enterDropped (p : Panto) (b : Block) : (enterDropped p b).kept = b.kept := by
  simp only [enterDropped]
  split <;> simp

@[simp] theorem kept_abortSearch (p : Panto) (b : Block) : (abortSearch p b).kept = b.kept := by simp [abortSearch]

@[simp] theorem kept_discardHeld (p : Panto) (b : Block) : (discardHeld p b).kept = b.kept := by
  unfold discardHeld
  dsimp only
  split <;> simp

@[simp] theorem kept_valvesFrom (l : List Panto) (b : Block) : (valvesFrom l b).kept = b.kept := by
  induction l generalizing b with
  | nil => rfl
  | cons p ps ih =>
    unfold valvesFrom
    split
    · rfl
    · rw [ih]; rfl

@[simp] theorem kept_skipValves (p : Panto) (b : Block) : (skipValves p b).kept = b.kept := by
  unfold skipValves
  split
  · split <;> simp
  · rfl

@[simp] theorem kept_pendLower (p : Panto) (b : Block) : (pendLower p b).kept = b.kept := by
  unfold pendLower
  split <;> simp

@[simp] theorem kept_actOnLower (i : Bool) (p : Panto) (b : Block) : (actOnLower i p b).kept = b.kept := by
  unfold actOnLower
  split
  · split <;> simp
  · simp
  · split <;> simp
  · split <;> simp
  · simp
  · rfl
  · rfl

@[simp] theorem kept_takeLower (i : Bool) (p : Panto) (b : Block) : (takeLower i p b).kept = b.kept := by
  unfold takeLower
  split
  · split <;> simp
  · simp

@[simp] theorem kept_releasePendingOf (p : Panto) (b : Block) : (releasePendingOf p b).kept = b.kept := by
  unfold releasePendingOf
  split <;> simp

@[simp] theorem kept_releasePending (b : Block) : (releasePending b).kept = b.kept := by simp [releasePending]

@[simp] theorem kept_lowerUp (i : Bool) (b : Block) : (lowerUp i b).kept = b.kept := by
  unfold lowerUp
  apply kept_eachPanto
  intro p b
  split <;> simp

@[simp] theorem kept_lowerAll (i : Bool) (b : Block) : (lowerAll i b).kept = b.kept := by simp [lowerAll]

@[simp] theorem kept_onceAdopted (f : Block → Block) (h : ∀ b, (f b).kept = b.kept) (b : Block) :
    (onceAdopted f b).kept = b.kept := by
  unfold onceAdopted
  split <;> simp [h]

@[simp] theorem kept_abortSearches (b : Block) : (abortSearches b).kept = b.kept := by
  unfold abortSearches
  apply kept_onceAdopted
  apply kept_eachPanto
  intro p b
  split
  · simp
  · split <;> simp

@[simp] theorem kept_discardAllHeld (b : Block) : (discardAllHeld b).kept = b.kept := by
  unfold discardAllHeld
  apply kept_eachPanto
  intro p b
  split <;> simp

@[simp] theorem kept_lowerScrapers (b : Block) : (lowerScrapers b).kept = b.kept := by
  unfold lowerScrapers
  apply kept_eachPanto
  intro p b
  split <;> simp

/-! ## Raises -/

@[simp] theorem kept_beginWork (p : Panto) (s : Bool) (b : Block) : (beginWork p s b).kept = b.kept := by
  cases s <;> simp [beginWork]

@[simp] theorem kept_heldDue (p : Panto) (b : Block) : (heldDue p b).kept = b.kept := by
  unfold heldDue
  split <;> simp

@[simp] theorem kept_takeRaise (p : Panto) (s : Bool) (b : Block) : (takeRaise p s b).kept = b.kept := by
  unfold takeRaise
  dsimp only
  split
  · split
    · rfl
    · split
      · simp
      · split
        · simp
        · split <;> simp
  · split <;> simp
  all_goals rfl

/-! ## The switch work and the phases -/

@[simp] theorem kept_closeBreaker (x : Source) (b : Block) : (closeBreaker x b).1.kept = b.kept := by
  unfold closeBreaker
  split
  · rfl
  · split <;> simp

@[simp] theorem kept_moveSelector (pos : SelPos) (x : Source) (b : Block) :
    (moveSelector pos x b).1.kept = b.kept := by
  unfold moveSelector
  split
  · rfl
  · split <;> simp

@[simp] theorem kept_moveIsolator (p : Panto) (pos : TwoPos) (x : Source) (b : Block) :
    (moveIsolator p pos x b).1.kept = b.kept := by
  unfold moveIsolator
  split
  · rfl
  · split <;> simp

theorem kept_workCommand (f : Block → Block × ReplyOutcome) (h : ∀ b, (f b).1.kept = b.kept) (b : Block) :
    (workCommand f b).kept = b.kept := by
  unfold workCommand
  dsimp only
  split
  · rw [kept_halt _ (by decide), h]
  · rw [h]

@[simp] theorem kept_startWork (c : Panto) (b : Block) : (startWork c b).kept = b.kept := by
  unfold startWork
  dsimp only
  split
  · rw [kept_eachPanto]
    · simp
    · intro p b
      split
      · rfl
      · split
        · rfl
        · exact kept_workCommand _ (fun b => kept_moveIsolator _ _ _ b) b
  · rw [kept_workCommand _ (fun b => kept_moveSelector _ _ b), kept_eachPanto]
    · simp
    · intro p b
      split
      · rfl
      · split
        · rfl
        · exact kept_workCommand _ (fun b => kept_moveIsolator _ _ _ b) b

@[simp] theorem kept_setCandidate (c : Option Panto) (b : Block) : (setCandidate c b).kept = b.kept := by
  unfold setCandidate
  dsimp only
  split <;> rfl

@[simp] theorem kept_coastWork (b : Block) : (coastWork b).kept = b.kept := by
  unfold coastWork
  split
  · simp
  · split
    · rw [kept_halt _ (by decide)]
    · dsimp only
      split <;> simp

@[simp] theorem kept_enterCoast (b : Block) : (enterCoast b).kept = b.kept := by
  unfold enterCoast
  dsimp only
  split
  · rw [kept_halt _ (by decide)]; simp
  · simp

theorem kept_grantCollecting {c : Panto} {b b1 : Block} (h : grantCollecting c b = some b1) : b1.kept = b.kept := by
  unfold grantCollecting at h
  split at h
  · cases h; rfl
  · split at h
    · cases h
    · split at h
      · cases h
      · split at h
        · cases h; rfl
        · cases h

@[simp] theorem kept_passRaise (b : Block) : (passRaise b).kept = b.kept := by
  unfold passRaise
  split
  · rw [kept_halt _ (by decide)]
  · split
    · rw [kept_halt _ (by decide)]
    · split
      · rw [kept_halt _ (by decide)]
      · split
        · rw [kept_halt _ (by decide)]
        · next h => rw [kept_takeRaise, kept_setWork, kept_grantCollecting h]

@[simp] theorem kept_enterProbe (b : Block) : (enterProbe b).kept = b.kept := by simp [enterProbe]

@[simp] theorem kept_enterConfirm (b : Block) : (enterConfirm b).kept = b.kept := rfl

@[simp] theorem kept_enterClose (b : Block) : (enterClose b).kept = b.kept := by
  unfold enterClose
  dsimp only
  split
  · rw [kept_halt _ (by decide)]; simp
  · split
    · rw [kept_halt _ (by decide)]; simp
    · simp

@[simp] theorem kept_finishPath (b : Block) : (finishPath b).kept = b.kept := by simp [finishPath]

@[simp] theorem kept_enterLowering (b : Block) : (enterLowering b).kept = b.kept := by simp [enterLowering]

@[simp] theorem kept_enterBreakerOpen (b : Block) : (enterBreakerOpen b).kept = b.kept := by
  unfold enterBreakerOpen
  dsimp only
  split <;> simp

@[simp] theorem kept_enterTractionOff (b : Block) : (enterTractionOff b).kept = b.kept := rfl

@[simp] theorem kept_advanceWork (b : Block) : (advanceWork b).kept = b.kept := by
  unfold advanceWork
  split
  · rfl
  · split
    · split
      · split
        · rw [kept_halt _ (by decide)]
        · next h => rw [kept_workCommand _ (fun b => kept_moveIsolator _ _ _ b), kept_setWork, kept_grantCollecting h]
      · rfl
    · split <;> simp
    all_goals rfl

@[simp] theorem kept_leaveCoast (b : Block) : (leaveCoast b).kept = b.kept := by
  unfold leaveCoast
  split
  · simp
  · split
    · simp
    · split <;> simp

@[simp] theorem kept_coastStep (b : Block) : (coastStep b).kept = b.kept := by
  unfold coastStep
  dsimp only
  split <;> simp

@[simp] theorem kept_breakerFailedHalt (b : Block) : (breakerFailedHalt b).kept = b.kept := by
  unfold breakerFailedHalt
  rw [kept_halt _ (by decide)]; simp

@[simp] theorem kept_probeStep (b : Block) : (probeStep b).kept = b.kept := by
  unfold probeStep
  split
  · split
    · simp
    · split <;> simp
  · split
    · split
      · rw [kept_halt _ (by decide)]
      · simp
    · rfl
  · simp
  · simp
  · simp
  · split
    · rw [kept_halt _ (by decide)]
    · split
      · simp
      · rfl
      · split
        · rw [kept_halt _ (by decide)]
        · rfl
      · split
        · rw [kept_halt _ (by decide)]
        · rfl
      all_goals rw [kept_halt _ (by decide)]
  · rfl

@[simp] theorem kept_withdrawInHalt (b : Block) : (withdrawInHalt b).kept = b.kept := by
  unfold withdrawInHalt
  split
  · exact kept_setTractionOff false b
  · rfl

@[simp] theorem kept_seqStep (b : Block) : (seqStep b).kept = b.kept := by
  unfold seqStep
  split
  · rfl
  · rfl
  · rfl
  · split
    · split <;> simp
    · split <;> simp
  · split <;> simp
  · simp
  · simp
  · rfl
  · split
    · rw [kept_halt _ (by decide)]
    · split <;> simp
  · split
    · simp
    · rfl
    · rw [kept_halt _ (by decide)]
  · simp

/-! ## Modes -/

@[simp] theorem kept_setMode (m : Mode) (b : Block) : (setMode m b).kept = b.kept := by
  unfold setMode
  rw [kept_abortSearches]
  rfl

@[simp] theorem kept_lowerRoof (i : Bool) (b : Block) : (lowerRoof i b).kept = b.kept := by
  unfold lowerRoof
  apply kept_eachPanto
  intro p b
  split <;> simp

@[simp] theorem kept_beginStandbyLowering (b : Block) : (beginStandbyLowering b).kept = b.kept := by
  unfold beginStandbyLowering
  simp only [kept_lowerRoof, kept_openBreaker]
  rw [kept_halt _ (by decide)]
  rfl

@[simp] theorem kept_standbyCheck (b : Block) : (standbyCheck b).kept = b.kept := by
  unfold standbyCheck
  split <;> simp

@[simp] theorem kept_enterStandby (b : Block) : (enterStandby b).kept = b.kept := by
  unfold enterStandby
  split <;> simp

@[simp] theorem kept_endWaking (b : Block) : (endWaking b).kept = b.kept := by
  unfold endWaking
  split
  · simp
  · split <;> simp
  all_goals simp

@[simp] theorem kept_stopValves (b : Block) : (stopValves b).kept = b.kept := by
  unfold stopValves
  split <;> simp

@[simp] theorem kept_timeoutWaking (b : Block) : (timeoutWaking b).kept = b.kept := by simp [timeoutWaking]

@[simp] theorem kept_completeWaking (b : Block) : (completeWaking b).kept = b.kept := by simp [completeWaking]

@[simp] theorem kept_wakingCheck (b : Block) : (wakingCheck b).kept = b.kept := by
  unfold wakingCheck
  split
  · split
    · split <;> simp
    · split <;> simp
  · rfl

/-! ## The settling -/

@[simp] theorem kept_guardBreaker (b : Block) : (guardBreaker b).kept = b.kept := by
  unfold guardBreaker
  split <;> simp

@[simp] theorem kept_round (b : Block) : (round b).kept = b.kept := by simp [round]

@[simp] theorem kept_rounds (n : Nat) (b : Block) : (rounds n b).kept = b.kept := by
  induction n generalizing b with
  | zero => rfl
  | succ n ih => simp [rounds, ih]

@[simp] theorem kept_judgeLevel (f : Bool) (r : Nat) (b : Block) : (judgeLevel f r b).kept = b.kept := by
  unfold judgeLevel
  dsimp only
  split
  · rfl
  · split
    · rfl
    · split
      · rfl
      · split <;> rfl

@[simp] theorem kept_evaluateScore (f : Bool) (b : Block) : (evaluateScore f b).kept = b.kept := by
  simp only [evaluateScore, kept_judgeLevel]
  rfl

@[simp] theorem kept_followEntries (s b : Block) : (followEntries s b).kept = b.kept := by
  unfold followEntries
  split <;> simp

@[simp] theorem kept_followCollector (s b : Block) : (followCollector s b).kept = b.kept := by
  unfold followCollector
  split <;> simp

@[simp] theorem kept_adviseOn (n : Nat) (b : Block) : (adviseOn n b).kept = b.kept := by
  unfold adviseOn
  split
  · split <;> simp
  · split <;> simp

@[simp] theorem kept_adviseAfterRestart (b : Block) : (adviseAfterRestart b).kept = b.kept := by
  unfold adviseAfterRestart
  split
  · split <;> simp
  · simp

@[simp] theorem kept_followLevel (s b : Block) : (followLevel s b).kept = b.kept := by
  unfold followLevel
  split <;> simp

@[simp] theorem kept_shareBudget (b : Block) : (shareBudget b).kept = b.kept := by
  unfold shareBudget
  split <;> rfl

@[simp] theorem kept_endPreheat (b : Block) : (endPreheat b).kept = b.kept := by
  unfold endPreheat
  split
  · split <;> simp
  · rfl

@[simp] theorem kept_askScraper (p : Panto) (b : Block) : (askScraper p b).kept = b.kept := by
  unfold askScraper
  split <;> simp

@[simp] theorem kept_lowerScraper (p : Panto) (b : Block) : (lowerScraper p b).kept = b.kept := by
  simp [lowerScraper]

@[simp] theorem kept_judgeScraper (b : Block) : (judgeScraper b).kept = b.kept := by
  unfold judgeScraper
  split
  · split <;> simp
  · split
    · split <;> simp
    · rfl

@[simp] theorem kept_followScraper (b : Block) : (followScraper b).kept = b.kept := by
  unfold followScraper
  split
  · rfl
  · split
    · simp
    · split <;> simp

@[simp] theorem kept_followReleased (b : Block) : (followReleased b).kept = b.kept := by
  unfold followReleased
  split
  · split <;> simp
  · rfl

@[simp] theorem kept_iceSettle (s : Block) (j : Bool) (b : Block) : (iceSettle s j b).kept = b.kept := by
  unfold iceSettle
  dsimp only
  split
  · simp
  · split <;> simp

/-- The epoch and the masks are no part of what is kept. -/
@[simp] theorem kept_close (s b : Block) : (close s b).kept = b.kept := by
  unfold close advanceEpoch
  split <;> rfl

/-- The settling of an event keeps every part of the block that no block writes in answer to another. -/
@[simp] theorem kept_settle (s : Block) (j : Bool) (b : Block) : (settle s j b).kept = b.kept := by simp [settle]

end Sys2Proof.Machine
end

