-- ==== Sys2Proof/Laws/Links.lean ====
section
/-!
SUPPORT. No block touches a link but to mark what changes: what the blocks do at one event leaves the three link records
as they are, their masks apart. One lemma for each operation that changes something else that `Kept` names, and for each
owner of a request.
-/

namespace Sys2Proof.Machine

/-! ## Operations that change a kept part beside the links -/

@[simp] theorem links_setDetermined (x : Option LineSystem) (p : Option Panto) (b : Block) :
    (setDetermined x p b).kept.links = b.kept.links := by
  unfold setDetermined
  dsimp only
  split <;> rfl

@[simp] theorem links_halt (r : HaltReason) (b : Block) : (halt r b).kept.links = b.kept.links := by
  unfold halt
  split
  · rfl
  · split <;> rfl
  · unfold enterHalt
    dsimp only
    rw [kept_openBreaker, kept_setPreheat, kept_seq, kept_serveEntry]
    split
    · rw [links_setDetermined, kept_haltFault]
    · rw [kept_haltFault]

/-! ## Paths and entries -/

@[simp] theorem links_startPath (k : Path) (e : Option Nat) (l : Bool) (x : Option LineSystem) (h : Option Head)
    (ph : Phase) (b : Block) : (startPath k e l x h ph b).kept.links = b.kept.links := by
  unfold startPath
  dsimp only
  rw [kept_report, kept_lowerScrapers, kept_discardAllHeld, kept_abortSearches]
  rfl

@[simp] theorem links_startSelected (k : Path) (x : Option LineSystem) (h : Option Head) (b : Block) :
    (startSelected k x h b).kept.links = b.kept.links := by
  unfold startSelected
  split <;> simp

@[simp] theorem links_offerEntry (e : Entry) (l : Bool) (b : Block) : (offerEntry e l b).kept.links = b.kept.links := by
  unfold offerEntry
  dsimp only
  split
  · split
    · simp
    · split <;> simp
  · rfl
  · generalize (if e.kind = SectionKind.neutral then neutralPath b else .zone) = k
    split
    · split <;> simp
    · split <;> simp

@[simp] theorem links_recordMissed (l : List Entry) (b : Block) : (recordMissed l b).kept.links = b.kept.links := by
  induction l generalizing b with
  | nil => rfl
  | cons x xs ih => simp [recordMissed, ih]

@[simp] theorem links_removalPass (b : Block) : (removalPass b).kept.links = b.kept.links := by simp [removalPass]

@[simp] theorem links_takeLate (e : Entry) (b : Block) : (takeLate e b).kept.links = b.kept.links := by
  unfold takeLate activate dropServed
  simp

@[simp] theorem links_takeArmed (e : Entry) (b : Block) : (takeArmed e b).kept.links = b.kept.links := by
  unfold takeArmed activate dropServed
  simp

@[simp] theorem links_activation (b : Block) : (activation b).kept.links = b.kept.links := by
  unfold activation
  split
  · split
    · split
      · simp
      · split <;> simp
    · split
      · rfl
      · split
        · simp
        · split <;> simp
  · rfl

@[simp] theorem links_leaveArmed (b : Block) : (leaveArmed b).kept.links = b.kept.links := by
  unfold leaveArmed
  split <;> simp

@[simp] theorem links_motionExits (f : Phase) (b : Block) : (motionExits f b).kept.links = b.kept.links := by
  unfold motionExits
  split
  · rfl
  · split
    · simp
    · split <;> simp

@[simp] theorem links_speedAbort (b : Block) : (speedAbort b).kept.links = b.kept.links := by
  unfold speedAbort
  split <;> simp

@[simp] theorem links_holdMotion (p v : Nat) (d : Direction) (b : Block) : (holdMotion p v d b).kept.links = b.kept.links := rfl

@[simp] theorem links_reverseRoute (b : Block) : (reverseRoute b).kept.links = b.kept.links := by simp [reverseRoute]

@[simp] theorem links_acceptMotion (p v : Nat) (d : Direction) (b : Block) :
    (acceptMotion p v d b).kept.links = b.kept.links := by
  unfold acceptMotion
  dsimp only
  split <;> simp

@[simp] theorem links_insertMarker (m : Marker) (b : Block) : (insertMarker m b).kept.links = b.kept.links := by
  unfold insertMarker
  dsimp only
  split <;> simp

@[simp] theorem links_withdraw (n : Nat) (b : Block) : (withdraw n b).1.kept.links = b.kept.links := by
  unfold withdraw
  split
  · rfl
  · split
    · rfl
    · split <;> rfl

@[simp] theorem links_passLowers (l : List Panto) (b : Block) : (passLowers l b).kept.links = b.kept.links := by
  induction l generalizing b with
  | nil => rfl
  | cons p ps ih => simp [passLowers, ih]

@[simp] theorem links_emergencyLower (b : Block) : (emergencyLower b).kept.links = b.kept.links := by
  unfold emergencyLower
  rw [kept_lowerRoof, links_halt, kept_openBreaker]
  rfl

/-! ## Writes -/

@[simp] theorem links_writeItem (i : Item) (v : Int) (b : Block) : (writeItem i v b).kept.links = b.kept.links := rfl

@[simp] theorem links_clampCommanded (b : Block) : (clampCommanded b).kept.links = b.kept.links := rfl

@[simp] theorem links_evaluateUp (b : Block) : (evaluateUp b).kept.links = b.kept.links := by
  have h : (evaluateUp b).kept = b.kept := by
    unfold evaluateUp
    apply kept_eachPanto
    intro p b
    split <;> simp
  rw [h]

@[simp] theorem links_retakeRaw (b : Block) : (retakeRaw b).kept.links = b.kept.links := by simp [retakeRaw]

@[simp] theorem links_afterWrite (i : Item) (b : Block) : (afterWrite i b).kept.links = b.kept.links := by
  have h1 : (if i = .pmax then clampCommanded b else b).kept.links = b.kept.links := by split <;> simp
  have h2 (x : Block) : (if forceLawItem i then evaluateUp x else x).kept.links = x.kept.links := by split <;> simp
  unfold afterWrite
  dsimp only
  generalize (if i = .pmax then clampCommanded b else b) = x at h1 ⊢
  have h3 := h2 x
  generalize (if forceLawItem i then evaluateUp x else x) = y at h3 ⊢
  rw [← h1, ← h3]
  split
  · simp
  · simp
  · simp
  · simp
  · split <;> simp
  · rfl

/-! ## Owners -/

@[simp] theorem links_claimLead (l : Link) (b : Block) : (claimLead l b).block.kept.links = b.kept.links := by
  unfold claimLead
  split
  · rfl
  · split <;> rfl
  · rfl

@[simp] theorem links_releaseLead (l : Link) (b : Block) : (releaseLead l b).block.kept.links = b.kept.links := by
  unfold releaseLead
  split <;> rfl

@[simp] theorem links_enterMode (m : Mode) (b : Block) : (enterMode m b).block.kept.links = b.kept.links := by
  unfold enterMode
  split
  · cases m <;> simp only [fromStandby]
    · split
      · rfl
      · split <;> simp [effect, refuse]
    · rfl
    · rfl
    · split <;> simp [effect, refuse]
    · simp [effect]
  · cases m <;> simp only [fromService] <;> split <;> simp [effect, ownEffect, refuse, unchanged]
  · cases m <;> simp [fromWorkshop, effect, refuse, unchanged]
  · split <;> rfl
  · rfl

@[simp] theorem links_wake (b : Block) : (wake b).block.kept.links = b.kept.links := by
  unfold wake
  split
  · rfl
  · split
    · rfl
    · split <;> rfl

@[simp] theorem links_raiseNamed (l : Link) (p : Panto) (b : Block) : (raiseNamed l p b).block.kept.links = b.kept.links := by
  unfold raiseNamed
  repeat' split
  all_goals simp [effect, refuse, unchanged]

@[simp] theorem links_raisePanto (l : Link) (p : Panto) (b : Block) : (raisePanto l p b).block.kept.links = b.kept.links := by
  unfold raisePanto
  split
  · rfl
  · simp

@[simp] theorem links_raiseAutoOf (l : Link) (b : Block) : (raiseAutoOf l b).block.kept.links = b.kept.links := by
  unfold raiseAutoOf
  split
  · rfl
  · split
    · simp [effect, startIdentify]
    · split
      · rfl
      · split
        · simp
        · rfl

@[simp] theorem links_lowerNamed (n : Option Panto) (b : Block) : (lowerNamed n b).block.kept.links = b.kept.links := by
  unfold lowerNamed
  split
  · split <;> simp [effect, unchanged]
  · simp [effect]

@[simp] theorem links_selectSystem (x : Option LineSystem) (b : Block) : (selectSystem x b).block.kept.links = b.kept.links := by
  unfold selectSystem
  split
  · rfl
  · split
    · simp [effect, startIdentify]
    · split <;> simp [effect, unchanged, startSelect]

@[simp] theorem links_clearHaltOf (b : Block) : (clearHaltOf b).block.kept.links = b.kept.links := by
  unfold clearHaltOf
  split <;> rfl

@[simp] theorem links_declareReady (l : Link) (x : LineSystem) (n : Nat) (b : Block) :
    (declareReady l x n b).block.kept.links = b.kept.links := by
  unfold declareReady setReady
  split
  · split
    · simp only [effect]
      split <;> rfl
    · rfl
  · rfl

@[simp] theorem links_openOf (l : Link) (b : Block) : (openOf l b).block.kept.links = b.kept.links := by simp [openOf, effect]

@[simp] theorem links_commandBreakerOpen (l : Link) (b : Block) : (commandBreakerOpen l b).block.kept.links = b.kept.links := by
  simp [commandBreakerOpen, effect]

theorem links_answerUnless (early : Option ReplyOutcome) (r : Block → Block × ReplyOutcome) (b : Block)
    (h : (r b).1.kept.links = b.kept.links) : (answerUnless early r b).block.kept.links = b.kept.links := by
  cases early with
  | none => simpa [answerUnless, answerOf] using h
  | some o => rfl

@[simp] theorem links_closeFromPhase (l : Link) (b : Block) : (closeFromPhase l b).block.kept.links = b.kept.links := by
  unfold closeFromPhase
  split
  · rfl
  · split
    · rfl
    · exact links_answerUnless _ _ _ (by simp)

@[simp] theorem links_closeOf (l : Link) (b : Block) : (closeOf l b).block.kept.links = b.kept.links := by
  unfold closeOf
  split
  · simp
  · rfl

theorem links_inWorkshop (f : Block → Answer) (h : ∀ b, (f b).block.kept.links = b.kept.links) (b : Block) :
    (inWorkshop f b).block.kept.links = b.kept.links := by
  unfold inWorkshop
  split
  · exact h b
  · rfl

@[simp] theorem links_moveEarth (pos : TwoPos) (x : Source) (b : Block) : (moveEarth pos x b).1.kept.links = b.kept.links := by
  unfold moveEarth
  split
  · rfl
  · split <;> rfl

@[simp] theorem links_clearSwitchFaultOf (w : SwId) (x : Source) (b : Block) :
    (clearSwitchFaultOf w x b).1.kept.links = b.kept.links := by
  cases w <;> simp only [clearSwitchFaultOf] <;> split <;> (try rfl) <;> split <;> (try rfl)
  all_goals (split <;> rfl)

@[simp] theorem links_clearSwitchFault (l : Link) (w : SwId) (b : Block) :
    (clearSwitchFault l w b).block.kept.links = b.kept.links := by
  unfold clearSwitchFault
  split
  · exact links_answerUnless _ _ _ (by simp)
  · rfl

@[simp] theorem links_setIceMode (n : Nat) (e : Bool) (b : Block) : (setIceMode n e b).block.kept.links = b.kept.links := by
  unfold setIceMode
  split
  · rfl
  · rfl
  · split <;> rfl

@[simp] theorem links_startTouchSearch (l : Link) (p : Panto) (b : Block) :
    (startTouchSearch l p b).block.kept.links = b.kept.links := by
  unfold startTouchSearch
  split <;> simp [effect, refuse]

@[simp] theorem links_clearDropOf (p : Panto) (b : Block) : (clearDropOf p b).block.kept.links = b.kept.links := by
  unfold clearDropOf
  repeat' split
  all_goals first | rfl | simp [effect]

@[simp] theorem links_outOfServiceOf (p : Panto) (b : Block) : (outOfServiceOf p b).block.kept.links = b.kept.links := by
  unfold outOfServiceOf
  repeat' split
  all_goals rfl

@[simp] theorem links_returnOf (p : Panto) (b : Block) : (returnOf p b).block.kept.links = b.kept.links := by
  unfold returnOf
  repeat' split
  all_goals first | rfl | simp [effect]

@[simp] theorem links_clearFaultsOf (b : Block) : (clearFaultsOf b).block.kept.links = b.kept.links := by
  unfold clearFaultsOf
  split <;> rfl

@[simp] theorem links_writeConfigurationItem (i : Option Item) (v : Int) (b : Block) :
    (writeConfigurationItem i v b).block.kept.links = b.kept.links := by
  unfold writeConfigurationItem
  split
  · rfl
  · split
    · rfl
    · split
      · rfl
      · simp [effect]

@[simp] theorem links_storeConfiguration (b : Block) : (storeConfiguration b).block.kept.links = b.kept.links := by
  unfold storeConfiguration
  repeat' split
  all_goals simp [ownEffect, refuse]

@[simp] theorem links_motionReport (p v : Nat) (d : Direction) (b : Block) :
    (motionReport p v d b).block.kept.links = b.kept.links := by
  unfold motionReport
  split
  · rfl
  · simp [scoreAtMotion]

@[simp] theorem links_announceMarker (m : Marker) (b : Block) : (announceMarker m b).block.kept.links = b.kept.links := by
  unfold announceMarker
  split
  · rfl
  · simp

@[simp] theorem links_releaseHold (b : Block) : (releaseHold b).block.kept.links = b.kept.links := by
  unfold releaseHold
  split <;> rfl

end Sys2Proof.Machine
end

