-- ==== Sys2Proof/Laws/State.lean ====
section
/-!
SUPPORT. Reading after writing: the values of pantographs and links, and the fields of the block after each named
update.
-/

namespace Sys2Proof

/-! ## One value for each pantograph or link -/

@[simp] theorem PerP.get_set_self {α : Type} (v : PerP α) (p : Panto) (x : α) : (v.set p x).get p = x := by
  cases p <;> rfl

theorem PerP.get_set_ne {α : Type} (v : PerP α) {p r : Panto} (x : α) (h : r ≠ p) : (v.set p x).get r = v.get r := by
  cases p <;> cases r <;> first | rfl | exact absurd rfl h

theorem PerP.get_set {α : Type} (v : PerP α) (p r : Panto) (x : α) :
    (v.set p x).get r = if r = p then x else v.get r := by
  split
  · next h => subst h; simp
  · next h => exact PerP.get_set_ne v x h

@[simp] theorem PerP.get_ofFun {α : Type} (f : Panto → α) (p : Panto) : (PerP.ofFun f).get p = f p := by
  cases p <;> rfl

@[simp] theorem PerP.get_const {α : Type} (x : α) (p : Panto) : (PerP.const x).get p = x := by cases p <;> rfl

@[simp] theorem PerP.ofFun_get {α : Type} (v : PerP α) : PerP.ofFun v.get = v := rfl

theorem PerP.ext_get {α : Type} {v w : PerP α} (h : ∀ p, v.get p = w.get p) : v = w := by
  cases v; cases w
  simp only [PerP.mk.injEq]
  exact ⟨h .p1, h .p2, h .p3, h .p4⟩

@[simp] theorem PerL.get_set_self {α : Type} (v : PerL α) (l : Link) (x : α) : (v.set l x).get l = x := by
  cases l <;> rfl

theorem PerL.get_set_ne {α : Type} (v : PerL α) {l m : Link} (x : α) (h : m ≠ l) : (v.set l x).get m = v.get m := by
  cases l <;> cases m <;> first | rfl | exact absurd rfl h

@[simp] theorem PerL.get_const {α : Type} (x : α) (l : Link) : (PerL.const x).get l = x := by cases l <;> rfl

theorem Panto.mem_all (p : Panto) : p ∈ Panto.all := by cases p <;> decide

theorem Panto.all_all {f : Panto → Bool} : Panto.all.all f = true ↔ ∀ p, f p = true := by
  rw [List.all_eq_true]
  exact ⟨fun h p => h p p.mem_all, fun h p _ => h p⟩

theorem Panto.all_any {f : Panto → Bool} : Panto.all.any f = true ↔ ∃ p, f p = true := by
  rw [List.any_eq_true]
  exact ⟨fun ⟨p, _, h⟩ => ⟨p, h⟩, fun ⟨p, h⟩ => ⟨p, p.mem_all, h⟩⟩

namespace Machine

/-! ## One pantograph's record -/

@[simp] theorem lc_setLift_self (b : Block) (p : Panto) (l : Lift) : (b.setLift p l).lc p = l := by
  simp [Block.lc, Block.setLift]

theorem lc_setLift_ne (b : Block) {p r : Panto} (l : Lift) (h : r ≠ p) : (b.setLift p l).lc r = b.lc r :=
  PerP.get_set_ne _ _ h

theorem lc_setLift (b : Block) (p r : Panto) (l : Lift) : (b.setLift p l).lc r = if r = p then l else b.lc r :=
  PerP.get_set _ _ _ _

@[simp] theorem setLift_plan (b : Block) (p : Panto) (l : Lift) : (b.setLift p l).plan = b.plan := rfl
@[simp] theorem setLift_sensors (b : Block) (p : Panto) (l : Lift) : (b.setLift p l).sensors = b.sensors := rfl
@[simp] theorem setLift_cal (b : Block) (p : Panto) (l : Lift) : (b.setLift p l).cal = b.cal := rfl
@[simp] theorem setLift_sw (b : Block) (p : Panto) (l : Lift) : (b.setLift p l).sw = b.sw := rfl
@[simp] theorem setLift_queue (b : Block) (p : Panto) (l : Lift) : (b.setLift p l).queue = b.queue := rfl
@[simp] theorem setLift_record (b : Block) (p : Panto) (l : Lift) : (b.setLift p l).record = b.record := rfl
@[simp] theorem setLift_seq (b : Block) (p : Panto) (l : Lift) : (b.setLift p l).seq = b.seq := rfl
@[simp] theorem setLift_ice (b : Block) (p : Panto) (l : Lift) : (b.setLift p l).ice = b.ice := rfl
@[simp] theorem setLift_cond (b : Block) (p : Panto) (l : Lift) : (b.setLift p l).cond = b.cond := rfl
@[simp] theorem setLift_mem (b : Block) (p : Panto) (l : Lift) : (b.setLift p l).mem = b.mem := rfl
@[simp] theorem setLift_role (b : Block) (p r : Panto) (l : Lift) : (b.setLift p l).role r = b.role r := rfl
@[simp] theorem setLift_cfg (b : Block) (p : Panto) (l : Lift) (i : Item) : (b.setLift p l).cfg i = b.cfg i := rfl
@[simp] theorem setLift_nat (b : Block) (p : Panto) (l : Lift) (i : Item) : (b.setLift p l).nat i = b.nat i := rfl

/-! ## Roles -/

@[simp] theorem role_setRole_self (p : Panto) (r : Role) (o : Origin) (b : Block) : (setRole p r o b).role p = r := by
  simp [Block.role, setRole]

theorem role_setRole_ne {p x : Panto} (r : Role) (o : Origin) (b : Block) (h : x ≠ p) :
    (setRole p r o b).role x = b.role x := by
  simp [Block.role, setRole, PerP.get_set_ne _ _ h]

@[simp] theorem role_clearRole_self (p : Panto) (b : Block) : (clearRole p b).role p = .none := by
  simp [Block.role, clearRole]

theorem role_clearRole_ne {p x : Panto} (b : Block) (h : x ≠ p) : (clearRole p b).role x = b.role x := by
  simp [Block.role, clearRole, PerP.get_set_ne _ _ h]

@[simp] theorem clearRole_lc (p r : Panto) (b : Block) : (clearRole p b).lc r = b.lc r := rfl
@[simp] theorem setRole_lc (p x : Panto) (r : Role) (o : Origin) (b : Block) : (setRole p r o b).lc x = b.lc x := rfl
@[simp] theorem clearRole_sw (p : Panto) (b : Block) : (clearRole p b).sw = b.sw := rfl
@[simp] theorem setRole_sw (p : Panto) (r : Role) (o : Origin) (b : Block) : (setRole p r o b).sw = b.sw := rfl
@[simp] theorem clearRole_seq (p : Panto) (b : Block) : (clearRole p b).seq = b.seq := rfl
@[simp] theorem setRole_seq (p : Panto) (r : Role) (o : Origin) (b : Block) : (setRole p r o b).seq = b.seq := rfl

/-! ## Faults -/

@[simp] theorem recordFault_lc (k : FaultKind) (x : Subject) (b : Block) (p : Panto) :
    (recordFault k x b).lc p = b.lc p := rfl
@[simp] theorem recordFault_plan (k : FaultKind) (x : Subject) (b : Block) : (recordFault k x b).plan = b.plan := rfl
@[simp] theorem recordFault_role (k : FaultKind) (x : Subject) (b : Block) (p : Panto) :
    (recordFault k x b).role p = b.role p := rfl
@[simp] theorem recordFault_sw (k : FaultKind) (x : Subject) (b : Block) : (recordFault k x b).sw = b.sw := rfl
@[simp] theorem recordFault_seq (k : FaultKind) (x : Subject) (b : Block) : (recordFault k x b).seq = b.seq := rfl
@[simp] theorem recordFault_queue (k : FaultKind) (x : Subject) (b : Block) : (recordFault k x b).queue = b.queue := rfl
@[simp] theorem recordFault_record (k : FaultKind) (x : Subject) (b : Block) :
    (recordFault k x b).record = b.record := rfl
@[simp] theorem recordFault_ice (k : FaultKind) (x : Subject) (b : Block) : (recordFault k x b).ice = b.ice := rfl
@[simp] theorem recordFault_mem (k : FaultKind) (x : Subject) (b : Block) : (recordFault k x b).mem = b.mem := rfl
@[simp] theorem recordFault_links (k : FaultKind) (x : Subject) (b : Block) : (recordFault k x b).links = b.links := rfl
@[simp] theorem recordFault_mode (k : FaultKind) (x : Subject) (b : Block) :
    (recordFault k x b).cond.mode = b.cond.mode := rfl
@[simp] theorem recordFault_present (k : FaultKind) (x : Subject) (b : Block) :
    (recordFault k x b).cond.faults.present = true := rfl

/-! ## Switches -/

@[simp] theorem setBreaker_breaker (b : Block) (x : TwoSw) : (b.setBreaker x).sw.breaker = x := rfl
@[simp] theorem setBreaker_earth (b : Block) (x : TwoSw) : (b.setBreaker x).sw.earth = b.sw.earth := rfl
@[simp] theorem setBreaker_iso (b : Block) (x : TwoSw) : (b.setBreaker x).sw.iso = b.sw.iso := rfl
@[simp] theorem setBreaker_selector (b : Block) (x : TwoSw) : (b.setBreaker x).sw.selector = b.sw.selector := rfl
@[simp] theorem setBreaker_lc (b : Block) (x : TwoSw) (p : Panto) : (b.setBreaker x).lc p = b.lc p := rfl
@[simp] theorem setBreaker_role (b : Block) (x : TwoSw) (p : Panto) : (b.setBreaker x).role p = b.role p := rfl
@[simp] theorem setBreaker_seq (b : Block) (x : TwoSw) : (b.setBreaker x).seq = b.seq := rfl
@[simp] theorem setEarth_earth (b : Block) (x : TwoSw) : (b.setEarth x).sw.earth = x := rfl
@[simp] theorem setEarth_lc (b : Block) (x : TwoSw) (p : Panto) : (b.setEarth x).lc p = b.lc p := rfl
@[simp] theorem setSelector_selector (b : Block) (x : SelSw) : (b.setSelector x).sw.selector = x := rfl
@[simp] theorem setSelector_lc (b : Block) (x : SelSw) (p : Panto) : (b.setSelector x).lc p = b.lc p := rfl
@[simp] theorem setIso_iso (b : Block) (p : Panto) (x : TwoSw) : (b.setIso p x).sw.iso = b.sw.iso.set p x := rfl
@[simp] theorem setIso_lc (b : Block) (p r : Panto) (x : TwoSw) : (b.setIso p x).lc r = b.lc r := rfl

/-! ## Links -/

@[simp] theorem setLink_get (l : Link) (r : LinkRec) (b : Block) : (setLink l r b).links.get l = r := by
  simp [setLink]

theorem setLink_get_ne {l m : Link} (r : LinkRec) (b : Block) (h : m ≠ l) :
    (setLink l r b).links.get m = b.links.get m := by
  simp [setLink, PerL.get_set_ne _ _ h]

@[simp] theorem setLink_plan (l : Link) (r : LinkRec) (b : Block) : (setLink l r b).plan = b.plan := rfl
@[simp] theorem setLink_cond (l : Link) (r : LinkRec) (b : Block) : (setLink l r b).cond = b.cond := rfl
@[simp] theorem setLink_lc (l : Link) (r : LinkRec) (b : Block) (p : Panto) : (setLink l r b).lc p = b.lc p := rfl
@[simp] theorem refresh_plan (l : Link) (b : Block) : (refresh l b).plan = b.plan := rfl
@[simp] theorem refresh_cond (l : Link) (b : Block) : (refresh l b).cond = b.cond := rfl
@[simp] theorem refresh_seq (l : Link) (b : Block) : (refresh l b).seq = b.seq := rfl
@[simp] theorem refresh_sw (l : Link) (b : Block) : (refresh l b).sw = b.sw := rfl
@[simp] theorem refresh_queue (l : Link) (b : Block) : (refresh l b).queue = b.queue := rfl
@[simp] theorem refresh_lc (l : Link) (b : Block) (p : Panto) : (refresh l b).lc p = b.lc p := rfl
@[simp] theorem refresh_role (l : Link) (b : Block) (p : Panto) : (refresh l b).role p = b.role p := rfl
@[simp] theorem pushReply_plan (l : Link) (r : Reply) (b : Block) : (pushReply l r b).plan = b.plan := rfl
@[simp] theorem pushReply_cond (l : Link) (r : Reply) (b : Block) : (pushReply l r b).cond = b.cond := rfl
@[simp] theorem pushReply_seq (l : Link) (r : Reply) (b : Block) : (pushReply l r b).seq = b.seq := rfl
@[simp] theorem pushReply_sw (l : Link) (r : Reply) (b : Block) : (pushReply l r b).sw = b.sw := rfl
@[simp] theorem pushReply_queue (l : Link) (r : Reply) (b : Block) : (pushReply l r b).queue = b.queue := rfl
@[simp] theorem pushReply_lc (l : Link) (r : Reply) (b : Block) (p : Panto) : (pushReply l r b).lc p = b.lc p := rfl
@[simp] theorem pushReply_role (l : Link) (r : Reply) (b : Block) (p : Panto) :
    (pushReply l r b).role p = b.role p := rfl

/-! ## Reports for the change masks: the masks alone -/

@[simp] theorem markAll_mask (m : Mask) (b : Block) (l : Link) :
    ((markAll m b).links.get l).mask = (b.links.get l).mask ||| m := by cases l <;> rfl

@[simp] theorem markAll_present (m : Mask) (b : Block) (l : Link) :
    ((markAll m b).links.get l).present = (b.links.get l).present := by cases l <;> rfl

@[simp] theorem markAll_plan (m : Mask) (b : Block) : (markAll m b).plan = b.plan := rfl
@[simp] theorem markAll_sensors (m : Mask) (b : Block) : (markAll m b).sensors = b.sensors := rfl
@[simp] theorem markAll_lift (m : Mask) (b : Block) : (markAll m b).lift = b.lift := rfl
@[simp] theorem markAll_cal (m : Mask) (b : Block) : (markAll m b).cal = b.cal := rfl
@[simp] theorem markAll_line (m : Mask) (b : Block) : (markAll m b).line = b.line := rfl
@[simp] theorem markAll_sw (m : Mask) (b : Block) : (markAll m b).sw = b.sw := rfl
@[simp] theorem markAll_queue (m : Mask) (b : Block) : (markAll m b).queue = b.queue := rfl
@[simp] theorem markAll_record (m : Mask) (b : Block) : (markAll m b).record = b.record := rfl
@[simp] theorem markAll_seq (m : Mask) (b : Block) : (markAll m b).seq = b.seq := rfl
@[simp] theorem markAll_ice (m : Mask) (b : Block) : (markAll m b).ice = b.ice := rfl
@[simp] theorem markAll_cond (m : Mask) (b : Block) : (markAll m b).cond = b.cond := rfl
@[simp] theorem markAll_mem (m : Mask) (b : Block) : (markAll m b).mem = b.mem := rfl
@[simp] theorem markAll_lc (m : Mask) (b : Block) (p : Panto) : (markAll m b).lc p = b.lc p := rfl
@[simp] theorem markAll_role (m : Mask) (b : Block) (p : Panto) : (markAll m b).role p = b.role p := rfl

theorem report_eq (k : Nat) (b : Block) : report k b = markAll (BitVec.twoPow 16 k) b := rfl

/-! ## A lower noted for the adoption scan -/

@[simp] theorem noteLower_state (p r : Panto) (b : Block) : ((noteLower p b).lc r).state = (b.lc r).state := by
  cases p <;> cases r <;> rfl

@[simp] theorem noteLower_noted (p : Panto) (b : Block) : ((noteLower p b).lc p).lowerNoted = true := by
  simp [noteLower]

@[simp] theorem noteLower_role (p r : Panto) (b : Block) : (noteLower p b).role r = b.role r := rfl
@[simp] theorem noteLower_seq (p : Panto) (b : Block) : (noteLower p b).seq = b.seq := rfl
@[simp] theorem noteLower_cond (p : Panto) (b : Block) : (noteLower p b).cond = b.cond := rfl

/-! ## The close of an event: the epoch and the masks alone -/

theorem close_parts (s b : Block) :
    (close s b).lift = b.lift ∧ (close s b).cal = b.cal ∧ (close s b).sw = b.sw ∧ (close s b).queue = b.queue ∧
      (close s b).record = b.record ∧ (close s b).seq = b.seq ∧ (close s b).ice = b.ice ∧
      (close s b).cond = b.cond ∧ (close s b).mem = b.mem ∧ (close s b).plan.roles = b.plan.roles := by
  unfold close advanceEpoch
  split <;> exact ⟨rfl, rfl, rfl, rfl, rfl, rfl, rfl, rfl, rfl, rfl⟩

@[simp] theorem close_lift (s b : Block) : (close s b).lift = b.lift := (close_parts s b).1
@[simp] theorem close_cal (s b : Block) : (close s b).cal = b.cal := (close_parts s b).2.1
@[simp] theorem close_sw (s b : Block) : (close s b).sw = b.sw := (close_parts s b).2.2.1
@[simp] theorem close_queue (s b : Block) : (close s b).queue = b.queue := (close_parts s b).2.2.2.1
@[simp] theorem close_record (s b : Block) : (close s b).record = b.record := (close_parts s b).2.2.2.2.1
@[simp] theorem close_seq (s b : Block) : (close s b).seq = b.seq := (close_parts s b).2.2.2.2.2.1
@[simp] theorem close_ice (s b : Block) : (close s b).ice = b.ice := (close_parts s b).2.2.2.2.2.2.1
@[simp] theorem close_cond (s b : Block) : (close s b).cond = b.cond := (close_parts s b).2.2.2.2.2.2.2.1
@[simp] theorem close_mem (s b : Block) : (close s b).mem = b.mem := (close_parts s b).2.2.2.2.2.2.2.2.1
@[simp] theorem close_roles (s b : Block) : (close s b).plan.roles = b.plan.roles := (close_parts s b).2.2.2.2.2.2.2.2.2
@[simp] theorem close_lc (s b : Block) (p : Panto) : (close s b).lc p = b.lc p := by simp [Block.lc]
@[simp] theorem close_role (s b : Block) (p : Panto) : (close s b).role p = b.role p := by simp [Block.role]
@[simp] theorem close_cfg (s b : Block) (i : Item) : (close s b).cfg i = b.cfg i := by simp [Block.cfg]
@[simp] theorem close_nat (s b : Block) (i : Item) : (close s b).nat i = b.nat i := by simp [Block.nat]

/-- What a kept block tells of its links. -/
theorem links_of_kept {s b : Block} (h : b.kept = s.kept) (l : Link) :
    (b.links.get l).unmarked = (s.links.get l).unmarked := by
  have h := congrArg Kept.links h
  cases l
  · exact congrArg PerL.a h
  · exact congrArg PerL.b h
  · exact congrArg PerL.p h

end Machine
end Sys2Proof
end

