-- ==== Sys2Proof/Laws/Requests.lean ====
section
/-!
SUPPORT. What a request, a read and an event answer, said once: the examination, the reply, and the parts they leave
alone.
-/

namespace Sys2Proof.Machine

/-! ## The close of an event that changes nothing in the digest -/

theorem fieldDiff_self (n : Nat) (l : List (List Nat)) : fieldDiff n l l = 0 := by
  induction l generalizing n with
  | nil => rfl
  | cons x xs ih => simp [fieldDiff, ih]

/-! ## Examination (R4, R181) -/

/-- The lead holder's request passes. -/
theorem examine_leader {q : Req} {b : Block} (h : Leads q b) : examine q .leader (refresh q.link b) = none := by
  obtain ⟨⟨hw, hm, hl⟩, hd⟩ := h
  have ht : Link.traction q.link = true := by
    revert hl
    cases q.link <;> simp [masterOf, Link.traction]
  have hn : b.plan.lead.isSome = true := by rw [← hd]; exact hl
  simp [examine, Gate.leader, Allowed.permits, ht, hw, hm, leadCheck, holdsLead, hd, hn]

/-- A traction master's request that is open to either passes. -/
theorem examine_masters {q : Req} {b : Block} (h : Speaks q b) : examine q .masters (refresh q.link b) = none := by
  obtain ⟨hw, hm, hl⟩ := h
  have ht : Link.traction q.link = true := by
    revert hl
    cases q.link <;> simp [masterOf, Link.traction]
  simp [examine, Gate.masters, Allowed.permits, ht, hw, hm, leadCheck]

/-- The Protection Master's request passes. -/
theorem examine_protection {q : Req} {b : Block} (h : Protects q b) :
    examine q .protection (refresh q.link b) = none := by
  obtain ⟨hw, hm, hl⟩ := h
  simp [examine, Gate.protection, Allowed.permits, hl, Link.traction, hw, hm, leadCheck]

/-- A well-formed read passes, whatever the link and the mode. -/
theorem examine_read {q : Req} (h : q.wellFormed = true) (b : Block) : examine q .read b = none := by
  simp [examine, Gate.read, Allowed.permits, h, leadCheck]

/-! ## Replies -/

/-- The replies of each link after the presence of one is refreshed and a reply pushed. -/
theorem replies_pushReply (l m : Link) (r : Reply) (b : Block) :
    ((pushReply l r b).links.get m).replies = (b.links.get m).replies ++ if m = l then [r] else [] := by
  by_cases h : m = l
  · subst h; simp [pushReply]
  · simp [pushReply, setLink_get_ne _ _ h, h]

/-- The replies that wait are no mask. -/
theorem replies_of_links {x b : Block} (h : x.kept.links = b.kept.links) (l : Link) :
    (x.links.get l).replies = (b.links.get l).replies := by
  have h1 := congrArg (fun v : PerL LinkRec => (v.get l).replies) h
  cases l <;> exact h1

theorem replies_of_kept {s b : Block} (h : b.kept = s.kept) (l : Link) :
    (b.links.get l).replies = (s.links.get l).replies :=
  replies_of_links (congrArg Kept.links h) l

/-- The end of an event keeps what `Block.kept` holds. -/
@[simp] theorem kept_finish (s : Block) (r : Reach) (b : Block) : (finish s r b).kept = b.kept := by
  cases r <;> simp [finish]

/-- The replies of an owner that leaves the links alone: one more on the request's link. -/
theorem request_replies (q : Req) (code : Nat) (g : Gate) (owner : Block → Answer) (s : State)
    (h : (answer q g owner s.block).block.kept.links = (refresh q.link s.block).kept.links) (l : Link) :
    ((finish s.block (answer q g owner s.block).reach
        (pushReply q.link ⟨code, q.tag, (answer q g owner s.block).outcome, (answer q g owner s.block).data⟩
          (answer q g owner s.block).block)).links.get l).replies =
      (s.block.links.get l).replies ++
        if l = q.link then [⟨code, q.tag, (answer q g owner s.block).outcome, (answer q g owner s.block).data⟩]
        else [] := by
  rw [replies_of_kept (kept_finish _ _ _), replies_pushReply, replies_of_links h]
  congr 1
  by_cases hl : l = q.link
  · subst hl; simp [refresh]
  · simp [refresh, setLink_get_ne _ _ hl]

/-! ## Events that change the links alone -/

/-- An event that leaves the digest and the reported matters as they are closes without a change. -/
theorem close_of_digest {s b : Block} (h1 : principal s = principal b) (h0 : s.cond.restart = b.cond.restart)
    (h2 : digestFields s = digestFields b) (h3 : reports s b = 0) : close s b = b := by
  have hr : reference s b = principal b := by
    unfold reference
    rw [← h0, ← h1]
    cases s.cond.restart <;> rfl
  have hc : changed s b = 0 := by
    simp [changed, h2, fieldDiff_self, h3]
  simp only [close, advanceEpoch, hr, if_true, markChanges, markAll, hc, LinkRec.mark]
  simp

/-- A change of one link that leaves its presence as it is. -/
theorem close_setLink {b : Block} {l : Link} {r : LinkRec} (h : r.present = (b.links.get l).present) :
    close b (setLink l r b) = setLink l r b := by
  refine close_of_digest (s := b) (b := setLink l r b) rfl rfl ?_ ?_
  · cases l <;> simp only [digestFields, setLink, PerL.set, PerL.get] at h ⊢ <;> rw [h] <;> rfl
  · simp [reports, setLink, reportBit]

/-- An event that changes nothing. -/
theorem close_self (b : Block) : close b b = b :=
  close_of_digest rfl rfl rfl (by simp [reports, reportBit])

/-- An event that changes the links alone closes with the links alone changed. -/
theorem onlyLinks_close {s : State} {x : Block} (hx : x = { s.block with links := x.links }) :
    OnlyLinks s ⟨s.pending, close s.block x⟩ := by
  have hr : reference s.block x = principal x := by
    rw [hx]; unfold reference; simp only []
    cases s.block.cond.restart <;> rfl
  unfold OnlyLinks
  simp only [close, advanceEpoch, hr, if_true, markChanges, markAll]
  rw [hx]

/-- A request whose owner changes nothing: the links alone change, and the reply is pushed. -/
theorem own_request {q : Req} {code : Nat} {g : Gate} {o : ReplyOutcome} {d : ReplyData} {owner : Block → Answer}
    {s : State} (h : answer q g owner s.block = ⟨refresh q.link s.block, o, d, .own⟩) :
    ∃ t, request q code g owner s = .next t ∧ OnlyLinks s t ∧ Answered s t q.link ⟨code, q.tag, o, d⟩ := by
  refine ⟨_, rfl, ?_, ?_⟩
  · simp only [h, finish]
    apply onlyLinks_close
    rfl
  · have := request_replies q code g owner s (by rw [h]) q.link
    simp only [h] at this
    simpa [Answered, h] using this

/-- A request that an examination refuses. -/
theorem refused_request {q : Req} {code : Nat} {g : Gate} {c : RefCode} {owner : Block → Answer} {s : State}
    (h : examine q g (refresh q.link s.block) = some c) :
    ∃ t, request q code g owner s = .next t ∧ OnlyLinks s t ∧
      Answered s t q.link (plainReply code q (.refused c)) :=
  own_request (by simp [answer, h, refuse])

/-- A read that an examination refuses. -/
theorem refused_read {q : Req} {code : Nat} {c : RefCode} {view : View} {s : State}
    (h : ∀ b, b.cond.mode = s.block.cond.mode → examine q .read b = some c) :
    ∃ t, Machine.read q code view s = .next t ∧ OnlyLinks s t ∧
      Answered s t q.link (plainReply code q (.refused c)) := by
  refine ⟨_, rfl, ?_, ?_⟩
  · have h1 := onlyLinks_close (s := s) (x := refresh q.link s.block) rfl
    unfold OnlyLinks at h1 ⊢
    simp only at h1 ⊢
    rw [h1]; rfl
  · have h1 : readReply q code view (close s.block (refresh q.link s.block)) = plainReply code q (.refused c) := by
      simp [readReply, h (close s.block (refresh q.link s.block)) (by rw [close_cond]; rfl), refusedRead, plainReply]
    simp only [Answered, h1, replies_pushReply]
    rw [replies_of_kept (kept_close _ _)]
    simp [refresh]

/-- A digest read that an examination refuses. -/
theorem refused_digest {q : Req} {c : RefCode} {s : State}
    (h : ∀ b, b.cond.mode = s.block.cond.mode → examine q .read b = some c) :
    ∃ t, execReadStatusDigest q s = .next t ∧ OnlyLinks s t ∧
      Answered s t q.link (plainReply 0x40 q (.refused c)) := by
  obtain ⟨t, h1, h2, h3⟩ := refused_read (code := 0x40) (view := fun _ => .error c) h
  refine ⟨t, ?_, h2, h3⟩
  rw [← h1]
  unfold execReadStatusDigest Machine.read
  have hm : (close s.block (refresh q.link s.block)).cond.mode = s.block.cond.mode := by
    rw [close_cond]
    rfl
  simp only [h _ hm, readReply]


end Sys2Proof.Machine
end

