-- ==== Sys2Proof/Tests/Slice0.lean ====
section
/-!
SUPPORT. Tests of single steps against the worked cases of spec/, the smoke test of `Instr.wf`, and for each statement
with hypotheses a witness: concrete states and operands that meet them together, clause by clause.
-/


namespace Sys2Proof.Tests

set_option Elab.async false

open Sys2Proof Sys2Proof.Machine

/-! ## Small states -/

def reqA : Req := ⟨.a, 42, true⟩
def reqB : Req := ⟨.b, 7, true⟩
def reqP : Req := ⟨.p, 9, true⟩

def good (v : Int) : Chan := ⟨some v, .good, false⟩

def goodSensors : Sensors :=
  ⟨.const (good 0), .const (good 4000), .const (good 40), good 5800, good (-6)⟩

def presentLink : LinkRec := ⟨true, some 490, 0, 0, none, []⟩

/-- In SERVICE on AC25 with the roof down, the lead with Traction Master A, every link PRESENT, nothing under way. -/
def awake : Block :=
  { Block.initial with
    plan := { Block.initial.plan with lead := some .a, epoch := 65535 }
    sensors := goodSensors
    links := .const presentLink
    record := { LineRecord.initial with determined := some .ac25 }
    cond := { Block.initial.cond with
      mode := .service
      modeTimer := 2000
      selfTest := { SelfTest.cleared with completed := true } } }

def st (b : Block) : State := ⟨[], b⟩

def inMode (m : Mode) (b : Block) : Block := { b with cond := { b.cond with mode := m } }

def inPhase (ph : Phase) (b : Block) : Block := { b with seq := { b.seq with phase := ph } }

def ledBy (m : Option Master) (b : Block) : Block := { b with plan := { b.plan with lead := m } }

def lifted (p : Panto) (f : Lift → Lift) (b : Block) : Block := b.setLift p (f (b.lc p))

def stands (p : Panto) (x : LiftState) (b : Block) : Block := lifted p (fun l => { l with state := x }) b

def onLink (l : Link) (f : LinkRec → LinkRec) (b : Block) : Block :=
  { b with links := b.links.set l (f (b.links.get l)) }

def placed (position : Nat) (entries : List Entry) (b : Block) : Block :=
  { b with queue := { b.queue with entries := entries, position := position, speed := 300, direction := .forward,
                                   lastDirection := some .forward } }

def breakerAt (x : TwoState) (b : Block) : Block :=
  { b with sw := { b.sw with breaker := { b.sw.breaker with state := x, settled := ⟨x == .opened, x == .closed⟩ } } }

/-- P1 collects AC25 in CONTACT through its isolator, both traction masters ready. -/
def collecting : Block :=
  let b := setRole .p1 .collecting .a (lifted .p1 (fun l => { l with state := .contact, commanded := 2850 }) awake)
  { b with
    plan := { b.plan with readyA := some ⟨.ac25, 0⟩, readyB := some ⟨.ac25, 0⟩ }
    sw := { b.sw with
      iso := b.sw.iso.set .p1 { TwoSw.initial with state := .closed, lastCmd := .closed, settled := ⟨false, true⟩ }
      selector := { b.sw.selector with state := .ac, lastCmd := .ac, settled := ⟨true, false, false⟩ } } }

/-- The same with the breaker CLOSED. -/
def running : Block :=
  let b := breakerAt .closed collecting
  { b with sw := { b.sw with breaker := { b.sw.breaker with lastCmd := .closed, output := .closed } } }

/-- The state a step answers. -/
def after (c : Instr) (b : Block) : Block :=
  match exec c (st b) with
  | .next t => t.block
  | .fault _ => b
  | .refused _ => b

/-- The last reply on a link after a step. -/
def answer (c : Instr) (l : Link) (b : Block) : Option Reply := ((after c b).links.get l).replies.getLast?

/-! ## The smoke test of `Instr.wf`: terms that it refuses -/

theorem test_wf_refuses_tag : Instr.wf (.claimLead ⟨.a, 256, true⟩) = false := by decide
theorem test_wf_refuses_serial : Instr.wf (.declareReady reqA .ac25 65536) = false := by decide
theorem test_wf_refuses_forced_level : Instr.wf (.setIceMode reqA 256 true) = false := by decide
theorem test_wf_refuses_value : Instr.wf (.writeConfigurationItem reqA none 2147483648) = false := by decide
theorem test_wf_refuses_position : Instr.wf (.motionReport reqP 4294967296 0 .forward) = false := by decide
theorem test_wf_refuses_speed : Instr.wf (.motionReport reqP 0 65536 .forward) = false := by decide
theorem test_wf_refuses_marker_id : Instr.wf (.announceMarker reqP ⟨65536, .neutral, 0, 1, none⟩) = false := by
  decide
theorem test_wf_refuses_marker_start :
    Instr.wf (.announceMarker reqP ⟨0, .neutral, 4294967296, 1, none⟩) = false := by decide
theorem test_wf_refuses_marker_length : Instr.wf (.announceMarker reqP ⟨0, .neutral, 0, 65536, none⟩) = false := by
  decide
theorem test_wf_refuses_withdrawn_id : Instr.wf (.withdrawMarker reqP 65536) = false := by decide
theorem test_wf_refuses_pantograph : Instr.wf (.readPantographStatus reqA 256) = false := by decide
theorem test_wf_refuses_offset : Instr.wf (.readArcHistory reqA 256) = false := by decide
theorem test_wf_refuses_entry : Instr.wf (.readCalibration reqA 256) = false := by decide
theorem test_wf_refuses_code : Instr.wf (.unknownRequest reqA 256) = false := by decide
theorem test_wf_refuses_sample : Instr.wf (.samplePair (.pair 32768 0)) = false := by decide
theorem test_wf_refuses_current : Instr.wf (.windowClose (.pair 0 (-32769))) = false := by decide
theorem test_wf_refuses_pulse : Instr.wf (.arcPulseEnd .p1 65536) = false := by decide
theorem test_wf_accepts : Instr.wf (.writeConfigurationItem ⟨.a, 255, true⟩ none (-2147483648)) = true := by decide

/-! ## Frames (R179, R185) -/

/-- R179: a Claim Lead with tag 42; the check byte is 0x51. -/
theorem test_check_of_claim_lead : crc8 [0x01, 0x01, 0x2A, 0x00] = 0x51 := by decide +kernel

theorem test_claim_lead_frame : judgeFrame [0x01, 0x01, 0x2A, 0x00, 0x51] = .valid 0x01 42 [] := by decide +kernel

/-- R185: position, speed, direction, the most significant byte first. -/
theorem test_motion_report_payload :
    parseRequest .p 0x20 9 [0x00, 0x01, 0x86, 0xA0, 0x01, 0x2C, 1] = .motionReport reqP 100000 300 .forward := by
  decide +kernel

theorem test_switch_command_payload :
    parseRequest .a 0x11 42 [4, 1] = .switchCommandIsolator reqA .p3 .closed := by decide +kernel

theorem test_write_item_payload :
    parseRequest .a 0x14 42 [0xFF, 0xFF, 0xFF, 0xFE, 77, 97, 120, 85, 112] =
      .writeConfigurationItem reqA (some .maxUp) (-2) := by decide +kernel

/-- R185: a mode byte above 4 fails check 3 of R181. -/
theorem test_bad_mode_payload : parseRequest .a 0x03 42 [5] = .enterMode ⟨.a, 42, false⟩ .standby := by decide +kernel

/-! ## Worked cases -/

/-- Log entry 4: the state after reset is that of POWER_ON with its contacts and its memory image. -/
theorem test_powerOn_is_reset : after (.powerOn Contacts.allOpen MemImage.delivered) awake = State.reset.block := by
  decide +kernel

/-- 3.9.1: P2 collecting at 300 km/h on an ice level of 2, touch pressure 2412. -/
def cruise : Block :=
  let b := setRole .p2 .collecting .a awake
  { b with
    cal := b.cal.set .p2 ⟨⟨2412, 2400, 12, .valid, some .ok, some 0⟩, true⟩
    queue := { b.queue with speed := 300 }
    ice := { b.ice with level := 2 } }

theorem test_force_at_cruise : targetForceOf cruise .p2 = 187 ∧ rawPressure cruise .p2 = 2880 := by decide +kernel

/-- 3.9.2: the same at 200 km/h. -/
theorem test_force_as_the_train_slows :
    rawPressure { cruise with queue := { cruise.queue with speed := 200 } } .p2 = 2757 := by decide +kernel

/-- 3.9.1: the commanded pressure moves by Slew at a scan, 2850 to 2860. -/
theorem test_slew :
    ((after (.scanComplete ⟨.const (some 2000), .const (some 4000), .const (some 1500), some 5800, some (-6)⟩)
      { lifted .p2 (fun l => { l with state := .contact, commanded := 2850 }) cruise with
        ice := { cruise.ice with level := 2, hysteresis := 2 } }).lc .p2).commanded = 2860 := by decide +kernel

/-! ## Single steps -/

/-- 11.6: A's Claim Lead is granted, the epoch goes from 0 to 1, and bit 1 is set in the masks. -/
theorem test_claim_lead :
    let b := after (.claimLead reqA) { awake with plan := { awake.plan with lead := none, epoch := 0 } }
    b.plan.lead = some .a ∧ b.plan.epoch = 1 ∧ (b.links.get .a).mask = 0x0002 ∧ (b.links.get .p).mask = 0x0002 := by
  decide +kernel

/-- 11.6: A's Enter Mode SERVICE sets bit 0. -/
theorem test_enter_service :
    let b := after (.enterMode reqA .service) (inMode .standby awake)
    b.cond.mode = .service ∧ b.cond.modeTimer = 0 ∧ (b.links.get .b).mask = 0x0001 := by decide +kernel

/-- 11.6: Link A falls silent: the lead lapses with the epoch, 65535 to 0; bits 1 and 13 are set. -/
theorem test_presence_lost :
    let b := after (.linkPresenceTimeout .a) awake
    b.plan.lead = none ∧ b.plan.epoch = 0 ∧ (b.links.get .b).mask = 0x2002 := by decide +kernel

/-- R2: only the holder releases the lead. -/
theorem test_release_lead_of_another :
    answer (.releaseLead reqB) .b awake = some (plainReply 0x02 reqB (.refused .notLead)) := by decide +kernel

theorem test_wake :
    (after (.wake reqB) (ledBy none (inMode .dormant awake))).cond.mode = .waking := by decide +kernel

theorem test_raise :
    let b := after (.raise reqA .p2) awake
    (b.lc .p2).state = .raising ∧ b.plan.roles.get .p2 = ⟨.collecting, some .a⟩ ∧ (b.lc .p1).state = .stowed := by
  decide +kernel

/-- R6 condition 7: P3 is a DC_HEAD. -/
theorem test_raise_of_the_wrong_head :
    answer (.raise reqA .p3) .a awake = some (plainReply 0x05 reqA (.refused .interlock)) := by decide +kernel

/-- R7: at STANDSTILL END_1 leads, so the trailing AC_HEAD is P2. -/
theorem test_raise_auto : (after (.raiseAuto reqA) awake).role .p2 = .collecting := by decide +kernel

/-- R36: the collector's lower waits for the breaker. -/
theorem test_lower_of_the_collector :
    let b := after (.lower reqB (some .p1)) running
    (b.lc .p1).state = .contact ∧ (b.lc .p1).lowerPending = true ∧ b.sw.breaker.state = .opening := by decide +kernel

/-- R37: at the OPEN report LOWERING begins. -/
theorem test_lower_begins_at_the_open_report :
    let b := after (.settledReading (.breaker ⟨true, false⟩)) (after (.lower reqB (some .p1)) running)
    (b.lc .p1).state = .lowering ∧ b.sw.breaker.state = .opened := by decide +kernel

theorem test_emergency_lower :
    let b := after (.emergencyLower reqP) running
    b.plan.hold = true ∧ (b.lc .p1).state = .lowering ∧ b.sw.breaker.state = .opening := by decide +kernel

theorem test_release_hold :
    (after (.releaseHold reqP) (after (.emergencyLower reqP) awake)).plan.hold = false := by decide +kernel

theorem test_declare_ready_of_an_old_serial :
    answer (.declareReady reqA .ac25 1) .a awake = some (plainReply 0x09 reqA (.refused .staleReady)) := by
  decide +kernel

theorem test_close_breaker :
    (after (.closeBreaker reqA) collecting).sw.breaker.Travels .closed .a :=
  ⟨by decide +kernel, by decide +kernel, by decide +kernel, by decide +kernel, by decide +kernel, by decide +kernel⟩

/-- R103: without B's readiness nothing moves. -/
theorem test_close_breaker_not_ready :
    answer (.closeBreaker reqA) .a { collecting with plan := { collecting.plan with readyB := none } } =
      some (plainReply 0x0B reqA (.refused .interlock)) := by decide +kernel

theorem test_open_breaker : (after (.openBreaker reqB) running).sw.breaker.Travels .opened .b :=
  ⟨by decide +kernel, by decide +kernel, by decide +kernel, by decide +kernel, by decide +kernel, by decide +kernel⟩

theorem test_set_ice_mode :
    let b := after (.setIceMode reqA 3 true) awake
    b.ice.level = 3 ∧ b.ice.enable = true := by decide +kernel

/-- R67: step 1 at SearchStart. -/
theorem test_touch_search :
    let b := after (.startTouchSearch reqA .p2) awake
    (b.lc .p2).state = .searching ∧ (b.lc .p2).commanded = 1800 ∧ b.role .p2 = .calibrating := by decide +kernel

theorem test_clear_drop :
    let b := after (.clearDrop reqA .p1) (inMode .standby (stands .p1 .dropped awake))
    (b.lc .p1).state = .stowed ∧ (b.lc .p1).dwellTimer = some 0 := by decide +kernel

theorem test_set_out_of_service :
    ((after (.setOutOfService reqA .p4) awake).lc .p4).state = .outOfService := by decide +kernel

/-- R13: on arriving in STOWED the role is cleared. -/
theorem test_return_to_service :
    (after (.returnToService reqA .p4) (setRole .p4 .collecting .a (stands .p4 .outOfService awake))).role .p4 = .none := by
  decide +kernel

theorem test_isolator_command :
    ((after (.switchCommandIsolator reqA .p1 .opened) (inMode .workshop collecting)).sw.iso.get .p1).state =
      .opening := by decide +kernel

theorem test_earth_command_needs_a_dead_line :
    answer (.switchCommandEarth reqA .closed) .a (inMode .workshop awake) =
      some (plainReply 0x11 reqA (.refused .interlock)) := by decide +kernel

theorem test_selector_command :
    let b := after (.switchCommandSelector reqA .dc) (inMode .workshop awake)
    b.sw.selector.state = .moving ∧ b.sw.selector.drive = some .dc := by decide +kernel

/-- R176: a MaxUp above its range is brought to 3, and the reply is CLAMPED. -/
theorem test_write_item :
    let b := inMode .workshop awake
    (after (.writeConfigurationItem reqA (some .maxUp) 9) b).cfg .maxUp = 3 ∧
      answer (.writeConfigurationItem reqA (some .maxUp) 9) .a b = some (plainReply 0x14 reqA .clamped) := by
  decide +kernel

/-- R182: a restart is taken when the reply to its request has been sent. -/
theorem test_restart :
    let b := after (.restart reqA) awake
    b.cond.mode = .service ∧ (after (.replySent .a Contacts.allOpen) b).cond.mode = .waking := by decide +kernel

/-- The queue of 7.9 with its NEUTRAL and SYSTEM_CHANGE sections. -/
def route : List Entry :=
  [⟨301, .iceWatch, 120402000, 12000, none, false, false⟩, ⟨302, .neutral, 120405500, 400, none, false, false⟩,
    ⟨303, .systemChange, 120431000, 600, some .dc3, false, false⟩]

/-- 7.9: 302 is armed at the report 766 m before it, and not before. -/
theorem test_section_is_armed :
    let b := after (.motionReport reqP 120400000 300 .forward) (placed 120390000 route awake)
    let b1 := after (.motionReport reqP 120404734 300 .forward) b
    b.seq.phase = .idle ∧ b1.seq.phase = .armed ∧ b1.seq.activeEntry = some 302 ∧ b1.ice.watch = true := by
  decide +kernel

/-- The queue of 7.10. -/
def fullRoute : List Entry :=
  [⟨410, .iceWatch, 200001000, 300, none, false, false⟩, ⟨411, .neutral, 200003000, 300, none, false, false⟩,
    ⟨412, .neutral, 200009000, 300, none, false, false⟩, ⟨413, .lowerZone, 200015000, 300, none, false, false⟩,
    ⟨414, .neutral, 200020000, 300, none, false, false⟩,
    ⟨415, .systemChange, 200026000, 300, some .dc3, false, false⟩,
    ⟨416, .neutral, 200031000, 300, none, false, false⟩, ⟨417, .neutral, 200040000, 300, none, false, false⟩]

/-- 7.10: 418 is inserted at place 8 and 417 is evicted. -/
theorem test_full_queue_evicts :
    let b := placed 200000000 fullRoute awake
    answer (.announceMarker reqP ⟨418, .neutral, 200036000, 300, none⟩) .p b =
        some ⟨0x21, 9, .done, .evicted (some 417)⟩ ∧
      (after (.announceMarker reqP ⟨418, .neutral, 200036000, 300, none⟩) b).queue.entries.map Entry.id =
        [410, 411, 412, 413, 414, 415, 416, 418] := by decide +kernel

/-- 7.10: 419 at 200,045,000 finds none that would stand after it. -/
theorem test_full_queue_refuses :
    answer (.announceMarker reqP ⟨419, .neutral, 200045000, 300, none⟩) .p (placed 200000000 fullRoute awake) =
      some (plainReply 0x21 reqP (.refused .queueFull)) := by decide +kernel

/-- 7.11: a section passed while halted is removed with MISSED_SECTION. -/
theorem test_missed_section :
    let b := inPhase .halted (placed 309999000 [⟨520, .neutral, 310000000, 200, none, false, false⟩] awake)
    let b1 := after (.motionReport reqP 310000100 300 .forward) b
    let b2 := after (.motionReport reqP 310000260 300 .forward) b1
    b1.queue.entries.length = 1 ∧ b2.queue.entries = [] ∧ faultCount .missedSection b2 = 1 := by decide +kernel

/-- A window of 319 pairs of one voltage before its last pair. -/
def window (v : Int) (period : Option Nat) (b : Block) : Block :=
  { b with line := { b.line with
      pairCount := 319, voltSum := v * 319, absVoltSum := v.natAbs * 319, lastPeriod := period } }

/-- 5.5, cases 3 to 6. -/
theorem test_classes_without_crossings :
    [300, 180, -300, 49].map (fun v =>
        (after (.samplePair (.pair v 0)) (window v none awake)).line.result.map WindowResult.cls) =
      [some (.sys .dc3), some (.sys .dc15), some .unknown, some .dead] := by decide +kernel

/-- 5.5, case 1: period 128 and A = 2251 give 5000 and 2497, AC25. -/
theorem test_class_of_ac25 :
    let b := window 0 (some 128) awake
    ((after (.windowClose (.pair 0 0)) { b with line := { b.line with absVoltSum := 2251 * 320 } }).line.result.map
      fun r => (r.freq, r.rms, r.cls)) = some (some 5000, some 2497, .sys .ac25) := by decide +kernel

/-- R88: the fourth window of a class confirms it. -/
theorem test_class_is_confirmed :
    let b := window 300 none awake
    (after (.windowClose (.pair 300 5))
      { b with line := { b.line with runClass := some (.sys .dc3), runLength := 3 } }).line.confirmed =
      some (.sys .dc3) := by decide +kernel

theorem test_traction_off_wait :
    let b := after .tractionOffWaitExpiry (inPhase .tractionOff running)
    faultCount .tractionNotReduced b = 1 ∧ b.sw.breaker.state = .opening ∧ b.seq.phase = .breakerOpen := by
  decide +kernel

theorem test_confirm_wait :
    (after .confirmWaitExpiry (inPhase .confirm awake)).seq.haltReason = some .noLine := by decide +kernel

theorem test_switch_timeout :
    let b := after (.switchOperationTimeout .breaker) (after (.closeBreaker reqA) collecting)
    b.sw.breaker.state = .failed ∧ b.sw.breaker.output = .opened ∧ faultCount .switchFailed b = 1 := by decide +kernel

theorem test_trip :
    let b := after (.settledReading (.breaker ⟨true, false⟩)) running
    b.sw.breaker.state = .opened ∧ b.sw.breaker.source = .external := by decide +kernel

theorem test_raise_timeout :
    let b := after (.raiseTimeout .p1) (after (.raise reqA .p1) awake)
    (b.lc .p1).state = .lowering ∧ faultCount .raiseTimeout b = 1 := by decide +kernel

theorem test_automatic_drop :
    let b := after (.automaticDrop .p1) running
    (b.lc .p1).state = .dropped ∧ (b.lc .p1).quickVent = true ∧ b.role .p1 = .none ∧ faultCount .addTrip b = 1 ∧
      b.sw.breaker.state = .opening := by decide +kernel

/-- R151: the boundaries of the severities. -/
theorem test_severities : [999, 1000, 9999, 10000].map severityOf = [.short, .long, .long, .sustained] := by decide

/-- R150: a pulse of ArcMin is recorded with the mark of its rising edge. -/
theorem test_arc :
    let b := { collecting with ice := { collecting.ice with capture := .const ⟨.low, 0, false⟩ } }
    (after (.arcPulseEnd .p1 100) (after (.arcPulseStart .p1 .rising) b)).ice.history =
      [⟨1, .p1, 0, 100, 0, .short, true⟩] := by decide +kernel

/-- The Arc History of 9.9. -/
def arcs : List ArcRecord :=
  [⟨88, .p2, 150199870, 420, 300, .short, true⟩, ⟨87, .p1, 150199700, 2200, 300, .long, false⟩,
    ⟨86, .p2, 150199455, 12800, 300, .sustained, true⟩, ⟨85, .p2, 150199020, 3400, 300, .long, true⟩,
    ⟨84, .p2, 150198610, 180, 300, .short, true⟩, ⟨83, .p2, 150198300, 1000, 300, .long, true⟩,
    ⟨82, .p2, 150198000, 650, 300, .short, true⟩, ⟨81, .p2, 150197950, 9999, 300, .long, true⟩]

def iced : Block :=
  let b := placed 150199992 [] (lifted .p2 (fun l => { l with state := .contact }) (setRole .p2 .collecting .a awake))
  { b with ice := { b.ice with history := arcs, hysteresis := 2, level := 2, nearest := none } }

/-- 9.9: the score is 27 at 150,200,000 and 1 at 150,201,458, where the fall is measured from. -/
theorem test_ice_score :
    let b := after (.motionReport reqP 150200000 300 .forward) iced
    let b1 := after (.motionReport reqP 150201458 300 .forward) b
    b.ice.score = 27 ∧ b.ice.raw = 2 ∧ b.ice.level = 2 ∧ b1.ice.score = 1 ∧ b1.ice.level = 2 ∧
      b1.ice.fallStart = some 150201458 := by decide +kernel

/-- 9.9: IceDrop further the hysteresis level falls by one. -/
theorem test_ice_fall :
    let b := { iced with ice := { iced.ice with history := [], fallStart := some 150201458 } }
    (after (.motionReport reqP 150202458 300 .forward) b).ice.level = 1 := by decide +kernel

theorem test_heater_period :
    (after .heaterPeriodStart { awake with ice := { awake.ice with duty := ⟨4, 0, 0, 8⟩ } }).ice.applied =
      ⟨4, 0, 0, 8⟩ := by decide +kernel

/-- R180: a check byte that disagrees. -/
theorem test_bad_check :
    let b := after (.frameOpened .a 0x52) (onLink .a (fun r => { r with frame := some [0x01, 0x01, 0x2A, 0x00] }) awake)
    (b.links.get .a).badFrames = 1 ∧ (b.links.get .a).frame = none := by decide +kernel

/-- R181: the last byte of the frame of a Claim Lead runs it. -/
theorem test_last_byte :
    answer (.frameOpened .b 0x51) .b
        (ledBy none (onLink .b (fun r => { r with frame := some [0x01, 0x01, 0x2A, 0x00] }) awake)) =
      some ⟨0x01, 42, .done, .epoch 0⟩ := by decide +kernel

/-- R187: the 47 bytes for the part in SERVICE with P1 collecting AC25, the breaker CLOSED and both masters ready. -/
theorem test_digest :
    digestBytes 0xFFFF running =
      [0xFF, 0xFF, 0x60, 0xFF, 0xFF, 0x40, 0x50, 0, 0, 0, 0x30, 0x30, 0x20, 0, 0, 0, 0, 0, 0, 0, 0,
        0x40, 0x40, 0x00, 0x00, 0x01, 0x01, 0x01, 0x01, 0, 0, 0x04, 0, 0, 0, 0, 0, 0, 0, 0, 0, 0, 0, 0, 0x07, 0x80,
        0x02] := by decide +kernel

/-! ## Witnesses of the hypotheses -/

theorem forEach {q : Panto → Prop} (h1 : q .p1) (h2 : q .p2) (h3 : q .p3) (h4 : q .p4) : ∀ p, q p
  | .p1 => h1
  | .p2 => h2
  | .p3 => h3
  | .p4 => h4

theorem everyP {q : Panto → Prop} (h : q .p1 ∧ q .p2 ∧ q .p3 ∧ q .p4) : ∀ p, q p :=
  forEach h.1 h.2.1 h.2.2.1 h.2.2.2

theorem leadsA {b : Block} (h : b.cond.mode ≠ .dormant ∧ b.plan.lead = some .a) : Leads reqA b :=
  ⟨⟨rfl, h.1, rfl⟩, h.2.symm⟩

theorem speaksB {b : Block} (h : b.cond.mode ≠ .dormant) : Speaks reqB b := ⟨rfl, h, rfl⟩

theorem protectsP {b : Block} (h : b.cond.mode ≠ .dormant) : Protects reqP b := ⟨rfl, h, rfl⟩

theorem restingOf {b : Block}
    (h : (b.seq.phase = .idle ∨ b.seq.phase = .halted) ∧ b.cond.mode ≠ .waking ∧ b.cond.restart = none ∧
      b.cond.standbyLowering = false ∧ b.cond.testStep = .notBegun ∧
      (b.lc .p1).lowerPending = false ∧ (b.lc .p2).lowerPending = false ∧ (b.lc .p3).lowerPending = false ∧
      (b.lc .p4).lowerPending = false) : Resting b :=
  ⟨h.1, h.2.1, h.2.2.1, h.2.2.2.1, (fun p n e => by rw [h.2.2.2.2.1] at e; cases e), everyP h.2.2.2.2.2⟩

theorem noLowerPends {b : Block} (h : ∀ p, (b.lc p).lowerPending = false) : PendingLaw b :=
  fun _ p e => absurd ((h p).symm.trans e) (by decide)

theorem noFaultsOf {b : Block} (h : b.cond.faults.counters = Vector.replicate 18 0) : FaultLaw b := by
  intro k
  simp [h]

theorem notRestarting {b : Block} (h : b.cond.restart = none) : RestartLaw b := by
  intro e
  rw [h] at e
  cases e

theorem defaults_in_range : InRange cfgDefaults := by
  intro i; cases i <;> decide +kernel

theorem noScraperOf {b : Block}
    (h : b.ice.enable = false ∧ b.ice.scraper = none ∧ b.role .p1 ≠ .scraping ∧ b.role .p2 ≠ .scraping ∧
      b.role .p3 ≠ .scraping ∧ b.role .p4 ≠ .scraping) : NoScraper b :=
  ⟨h.1, h.2.1, forEach h.2.2.1 h.2.2.2.1 h.2.2.2.2.1 h.2.2.2.2.2⟩

/-- A link whose frame in progress has the bytes given. -/
def framed (bytes : List Byte) (b : Block) : Block := onLink .a (fun r => { r with frame := some bytes }) b

theorem witness_frames : Instr.wf (.claimLead reqA) = true ∧
    encodeRequest (.claimLead reqA) = some (.a, [0x01, 0x01, 0x2A, 0x00] ++ [0x51]) ∧
    ((st (framed [0x01, 0x01, 0x2A, 0x00] awake)).block.links.get .a).frame = some [0x01, 0x01, 0x2A, 0x00] := by
  decide +kernel

theorem witness_frames_longest_name :
    Instr.wf (.writeConfigurationItem reqA (some .preferredPosition) (-1)) = true ∧
      (encodeRequest (.writeConfigurationItem reqA (some .preferredPosition) (-1))).isSome = true := by decide +kernel

theorem witness_bytes :
    (awake.links.get .a).frame = none ∧ ((framed [] awake).links.get .a).frame = some [] ∧
      judgeFrame ([] ++ [0x01]) = .more ∧ judgeFrame ([0x01, 0x14, 0x2A] ++ [48]) = .more := by decide +kernel

theorem witness_bad_frames :
    ((framed [] awake).links.get .a).frame.isSome = true ∧ (awake.links.get .a).frame = none ∧
      ((framed [] awake).links.get .a).frame = some [] ∧ (0x02 : Byte) ≠ 0x01#8 ∧
      ((framed [0x01, 0x01, 0x2A] awake).links.get .a).frame = some [0x01, 0x01, 0x2A] ∧ 48 < (49 : Byte).toNat ∧
      ((framed [0x01, 0x01, 0x2A, 0x00] awake).links.get .a).frame = some (0x01 :: 0x01 :: 0x2A :: 0x00 :: []) ∧
      ([] : List Byte).length = (0x00 : Byte).toNat ∧ (0x52 : Byte) ≠ crc8 (0x01 :: 0x01 :: 0x2A :: 0x00 :: []) := by
  decide +kernel

def replying (r : Reply) : Block := onLink .a (fun x => { x with replies := [r] }) awake

theorem witness_replies :
    (awake.links.get .a).replies = [] ∧
      ((replying (plainReply 0x02 reqA .done)).links.get .a).replies = [plainReply 0x02 reqA .done] ∧
      (plainReply 0x02 reqA .done).code ≠ 0x16 ∧
      ((replying (plainReply 0x16 reqA .accepted)).links.get .a).replies = [plainReply 0x16 reqA .accepted] ∧
      (plainReply 0x16 reqA .accepted).code = 0x16 ∧ (plainReply 0x16 reqA .accepted).outcome = .accepted := by
  decide +kernel

/-- R182: the reply to the Claim Lead of 11.6, DONE with the epoch 1. -/
theorem test_reply_frame :
    replyFrame ⟨0x01, 42, .done, .epoch 1⟩ =
      some ([0xC3, 0x02, 0x01, 0x2A, 0x03, 0x01, 0x00, 0x01] ++ [crc8 [0x02, 0x01, 0x2A, 0x03, 0x01, 0x00, 0x01]]) := by
  decide +kernel

theorem witness_reply_frames :
    [ReplyData.none, .epoch 258, .evicted (some 258), .evicted none, .digest [0x01#8, 0x02#8]].map
        (fun d => (replyFrame ⟨0x21, 9, .done, d⟩).map List.length) =
      [some 7, some 9, some 9, some 7, some 9] := by decide +kernel

theorem witness_answered : requestOf (.unknownRequest reqA 0x17) = some (reqA, 0x17, []) := by decide +kernel

theorem witness_examination :
    requestOf (.motionReport reqA 0 0 .forward) = some (reqA, 0x20, [0, 0, 0, 0, 0, 0, 1]) ∧
      catalogue (.motionReport reqA 0 0 .forward) = some ⟨.protection, .anyMaster, false⟩ ∧
      Allowed.protection.permits .a = false ∧
      requestOf (.raise ⟨.a, 1, false⟩ .p1) = some (⟨.a, 1, false⟩, 0x05, [1]) ∧
      catalogue (.raise ⟨.a, 1, false⟩ .p1) = some ⟨.traction, .lead, false⟩ ∧ Allowed.traction.permits .a = true ∧
      requestOf (.raise reqA .p1) = some (reqA, 0x05, [1]) ∧ catalogue (.raise reqA .p1) = some ⟨.traction, .lead, false⟩ ∧
      (inMode .dormant awake).cond.mode = .dormant := by decide +kernel

theorem witness_only_the_lead :
    requestOf (.raise reqB .p1) = some (reqB, 0x05, [1]) ∧ catalogue (.raise reqB .p1) = some ⟨.traction, .lead, false⟩ ∧
      (masterOf .b).isSome = true ∧ awake.cond.mode ≠ .dormant ∧ masterOf .b ≠ awake.plan.lead ∧
      requestOf (.wake reqB) = some (reqB, 0x04, []) ∧ catalogue (.wake reqB) = some ⟨.traction, .leadIfHeld, true⟩ ∧
      awake.plan.lead.isSome = true := by decide +kernel

def silentA : Block := onLink .a (fun r => { r with present := false, age := none }) awake

theorem witness_presence :
    (awake.links.get .a).present = true ∧ (awake.links.get .a).age ≠ some 0 ∧
      (let b := onLink .a (fun r => { r with age := some 0 }) awake
       (b.links.get .a).present = true ∧ (b.links.get .a).age = some 0) ∧
      (silentA.links.get .a).present = false := by decide +kernel

theorem witness_lead_law :
    LeadLaw (st awake).block ∧ ∃ t, step ⟨[.linkPresenceTimeout .a], awake⟩ = .next t :=
  ⟨by intro l; cases l <;> decide +kernel, _, rfl⟩

theorem witness_claim_lead :
    (Speaks reqB (ledBy none awake) ∧ masterOf .b = some .b ∧ (ledBy none awake).plan.lead = none) ∧
      (Speaks reqB (ledBy (some .b) awake) ∧ (ledBy (some .b) awake).plan.lead = some .b) ∧
      (Speaks reqB awake ∧ awake.plan.lead = some .a ∧ Master.a ≠ .b) ∧
      (inMode .dormant awake).cond.mode = .dormant ∧ reqP.link = .p :=
  ⟨⟨speaksB (by decide), rfl, rfl⟩, ⟨speaksB (by decide), rfl⟩, ⟨speaksB (by decide), rfl, by decide⟩, rfl, rfl⟩

theorem witness_release_lead :
    (Speaks reqB (ledBy (some .b) awake) ∧ masterOf .b = (ledBy (some .b) awake).plan.lead) ∧
      (Speaks reqB awake ∧ masterOf .b ≠ awake.plan.lead) ∧
      requestOf (.clearHalt reqB) = some (reqB, 0x08, []) ∧
      catalogue (.clearHalt reqB) = some ⟨.traction, .lead, false⟩ ∧ Speaks reqB (ledBy none awake) ∧
      (ledBy none awake).plan.lead = none :=
  ⟨⟨speaksB (by decide), rfl⟩, ⟨speaksB (by decide), by decide⟩, rfl, rfl, speaksB (by decide), rfl⟩

theorem witness_declare_ready :
    Speaks reqB awake ∧ awake.record.determined = some .ac25 ∧ awake.record.serial = 0 ∧
      ¬(awake.record.determined = some .ac25 ∧ awake.record.serial = 1) := by
  exact ⟨speaksB (by decide), rfl, rfl, by decide +kernel⟩

theorem witness_hold :
    (Protects reqP (inPhase .close running) ∧ (inPhase .close running).seq.phase ≠ .idle) ∧
      (Protects reqP running ∧ running.seq.phase = .idle) ∧
      (Protects reqP (inPhase .halted awake) ∧ (inPhase .halted awake).seq.phase = .halted) ∧ awake.plan.hold = false :=
  ⟨⟨protectsP (by decide), by decide⟩, ⟨protectsP (by decide), rfl⟩, ⟨protectsP (by decide), rfl⟩, rfl⟩

/-- The part between a warm restart in running and its adoption scan. -/
def restarted : Block := after (.warmRestart Contacts.allOpen) running

theorem witness_restart_window :
    (Protects reqP restarted ∧ Speaks reqB restarted ∧ restarted.cond.restart.isSome = true ∧
        restarted.cond.standbyLowering = false ∧ restarted.seq.phase = .idle ∧
        ((namedBy none).all (restsStowed restarted)) = false) ∧
      awake.cond.restart = none :=
  ⟨⟨protectsP (by decide +kernel), speaksB (by decide +kernel), by decide +kernel⟩, rfl⟩

theorem mayRaise {b : Block}
    (h : b.cond.mode = .service ∧ b.cond.standbyLowering = false ∧ b.plan.hold = false ∧ b.seq.phase = .idle ∧
      earthOpen b = true ∧ available b .p2 = true ∧ b.role .p2 = .none ∧ b.record.determined = some .ac25 ∧
      serves (b.head .p2) .ac25 = true ∧ b.role .p1 ≠ .collecting ∧ b.role .p2 ≠ .collecting ∧
      b.role .p3 ≠ .collecting ∧ b.role .p4 ≠ .collecting ∧ airAllows b .p2 = true) : MayRaise .p2 b := by
  obtain ⟨h1, h2, h3, h4, h5, h6, h7, h8, h9, h10, h11, h12, h13, h14⟩ := h
  exact ⟨h1, h2, h3, h4, h5, h6, h7, ⟨_, h8, h9⟩, forEach h10 h11 h12 h13, h14⟩

def lowAir : Block := { awake with sensors := { awake.sensors with reservoir := good 4499 } }

def dwelling : Block := lifted .p2 (fun l => { l with dwellTimer := some 0 }) awake

theorem witness_raise :
    (Leads reqA awake ∧ MayRaise .p2 awake ∧ Resting awake ∧ NoScraper awake) ∧
      ((awake.lc .p2).held = .none ∧ (awake.lc .p2).state = .stowed ∧ (awake.lc .p2).dwellTimer = none ∧
        airSufficient awake = true) ∧
      (Leads reqA dwelling ∧ MayRaise .p2 dwelling ∧ (dwelling.lc .p2).dwellTimer.isSome = true) ∧
      (Leads reqA lowAir ∧ MayRaise .p2 lowAir ∧ airSufficient lowAir = false) ∧
      (Leads reqA (stands .p2 .lowering awake) ∧ MayRaise .p2 (stands .p2 .lowering awake) ∧
        ((stands .p2 .lowering awake).lc .p2).state = .lowering) :=
  ⟨⟨leadsA (by decide), mayRaise (by decide +kernel), restingOf (by decide +kernel), noScraperOf (by decide +kernel)⟩,
    by decide +kernel, ⟨leadsA (by decide), mayRaise (by decide +kernel), by decide +kernel⟩,
    ⟨leadsA (by decide), mayRaise (by decide +kernel), by decide +kernel⟩,
    ⟨leadsA (by decide), mayRaise (by decide +kernel), by decide +kernel⟩⟩

def undetermined : Block := { awake with record := LineRecord.initial }

def heldRaise (h : Held) : Block :=
  setRole .p1 .collecting .a
    (lifted .p1 (fun l => { l with held := h, dwellTimer := if h = .dwell then some 990 else none }) awake)

def held (b : Block) : Block := { b with plan := { b.plan with hold := true } }

/-- Three pantographs stand raised, as many as MaxUp allows. -/
def crowded : Block := stands .p3 .contact (stands .p4 .contact
  { awake with cond := { awake.cond with cfg := cfgSet cfgDefaults .maxUp 2 } })

/-- P1 collects and comes down. -/
def comingDown : Block := setRole .p1 .collecting .a (stands .p1 .lowering awake)

/-- For each of the nine conditions of R6 a state in which it is the first not met. -/
theorem witness_raise_refused :
    ([(inMode .standby awake, Panto.p2), (held awake, .p2), (inPhase .armed awake, .p2),
        ({ awake with sw := { awake.sw with earth := { awake.sw.earth with state := .closed } } }, .p2),
        (stands .p2 .dropped awake, .p2), (setRole .p2 .scraping .internal awake, .p2), (awake, .p3), (running, .p2),
        (crowded, .p2)].map fun x => (firstUnmet (raiseConditions x.2 x.1), decide (x.1.plan.lead = some .a))) =
      [(some .wrongMode, true), (some .emergencyHold, true), (some .changeoverActive, true), (some .interlock, true),
        (some .notAvailable, true), (some .busy, true), (some .interlock, true), (some .interlock, true),
        (some .airLimit, true)] ∧
      firstUnmet ((raiseConditions .p2 (stands .p2 .dropped awake)).take 5) = some .notAvailable := by decide +kernel

theorem witness_raise_repeated :
    (Leads reqA running ∧ firstUnmet ((raiseConditions .p1 running).take 5) = none ∧ Collects .p1 running) ∧
      (Leads reqA (heldRaise .dwell) ∧ Collects .p1 (heldRaise .dwell)) ∧
      (Leads reqA comingDown ∧ ¬Collects .p1 comingDown ∧ firstUnmet (raiseConditions .p1 comingDown) = none ∧
        returning comingDown .p1 = true) ∧
      (Leads reqA awake ∧ ¬Collects .p3 awake ∧ firstUnmet (raiseConditions .p3 awake) = some .interlock) ∧
      (Leads reqA awake ∧ ¬Collects .p2 awake ∧ firstUnmet (raiseConditions .p2 awake) = none ∧
        returning awake .p2 = false) := by
  refine ⟨⟨leadsA (by decide), ?_, ?_⟩, ⟨leadsA (by decide), ?_⟩, ⟨leadsA (by decide), ?_, ?_⟩,
    ⟨leadsA (by decide), ?_, ?_⟩, leadsA (by decide), ?_, ?_⟩ <;>
    first | (unfold Collects; decide +kernel) | decide +kernel

theorem witness_raise_auto :
    (Leads reqA (held awake) ∧ firstUnmet ((raiseConditions .p1 (held awake)).take 4) = some .emergencyHold) ∧
      (Leads reqA undetermined ∧ firstUnmet ((raiseConditions .p1 undetermined).take 4) = none ∧
        undetermined.record.determined = none) ∧
      (Leads reqA running ∧ firstUnmet ((raiseConditions .p1 running).take 4) = none ∧
        running.record.determined = some .ac25 ∧ running.role .p1 = .collecting ∧
        serves (running.head .p1) .ac25 = true) ∧
      (let b := stands .p1 .dropped (stands .p2 .dropped awake)
       Leads reqA b ∧ firstUnmet ((raiseConditions .p1 b).take 4) = none ∧ b.record.determined = some .ac25 ∧
         ∀ x, serves (b.head x) .ac25 = true → b.role x ≠ .collecting ∧ available b x = false) ∧
      (awake.record.determined = some .ac25 ∧ (∀ x, awake.role x = .collecting → serves (awake.head x) .ac25 = false) ∧
        preferredPanto awake = some .p2) := by
  refine ⟨⟨leadsA (by decide), ?_⟩, ⟨leadsA (by decide), ?_⟩, ⟨leadsA (by decide), ?_⟩,
    ⟨leadsA (by decide), ?_, ?_, everyP ?_⟩, ?_, everyP ?_, ?_⟩ <;> decide +kernel

theorem witness_one_collector :
    OneCollector (st running).block ∧ ∃ t, step ⟨[.clearFaults reqA], running⟩ = .next t :=
  ⟨by intro p x; cases p <;> cases x <;> decide +kernel, _, rfl⟩

theorem noHeldSearch {b : Block}
    (h : (b.lc .p1).heldSearch = false ∧ (b.lc .p2).heldSearch = false ∧ (b.lc .p3).heldSearch = false ∧
      (b.lc .p4).heldSearch = false) : SearchLaw b :=
  fun p e => absurd (everyP (q := fun p => (b.lc p).heldSearch = false) h p) (by rw [e]; decide)

theorem airLawOf {b : Block}
    (h : committedCount b ≤ b.nat .maxUp ∧
      ((b.lc .p1).held = .none ∧ (b.lc .p2).held = .none ∧ (b.lc .p3).held = .none ∧ (b.lc .p4).held = .none) ∧
      ((b.lc .p1).heldSearch = false ∧ (b.lc .p2).heldSearch = false ∧ (b.lc .p3).heldSearch = false ∧
        (b.lc .p4).heldSearch = false) ∧
      b.cond.reloadPending = false ∧ b.cond.newMaxUp = none) : AirLaw b :=
  ⟨h.1, fun p e => absurd ((everyP (q := fun p => (b.lc p).held = .none) h.2.1) p) e, noHeldSearch h.2.2.1,
    fun _ => h.2.2.2⟩

theorem witness_air_law :
    (∀ b ∈ [awake, running, crowded], (ConfigLaw b ∧ RestartLaw b ∧ AirLaw b) ∧
        ∃ t, step ⟨[.raise reqA .p2], b⟩ = .next t) ∧
      ((ConfigLaw restarted ∧ RestartLaw restarted ∧ AirLaw restarted) ∧ restarted.cond.restart.isSome = true ∧
        ∃ t, step ⟨[.raise reqA .p2], restarted⟩ = .next t) := by
  have inRange : ∀ b : Block, b.cond.cfg = cfgDefaults → b.cond.newMaxUp = none ∨ b.cond.newMaxUp = some 2 →
      ConfigLaw b := by
    intro b h1 h2
    refine ⟨fun i => h1 ▸ defaults_in_range i, fun v e => ?_⟩
    obtain h2 | h2 := h2 <;> rw [h2] at e <;> cases e
    decide
  have waits : restarted.cond.mode = .waking ∧ restarted.cond.standbyLowering = false ∧ restarted.seq.phase = .idle ∧
      restarted.cond.restart ≠ none ∧ committedCount restarted ≤ restarted.nat .maxUp ∧
      (restarted.lc .p1).held = .none ∧ (restarted.lc .p2).held = .none ∧ (restarted.lc .p3).held = .none ∧
      (restarted.lc .p4).held = .none := by decide +kernel
  have noSearch : SearchLaw restarted := noHeldSearch (by decide +kernel)
  obtain ⟨h1, h2, h3, h4, h5, h6⟩ := waits
  refine ⟨?_, ⟨inRange restarted (by decide +kernel) (.inr (by decide +kernel)), fun _ => ⟨h1, h2, .inl (by rw [h3]; decide)⟩, h5,
    fun p e => absurd (everyP (q := fun p => (restarted.lc p).held = .none) h6 p) e, noSearch, fun h => absurd h h4⟩,
    by decide +kernel, _, rfl⟩
  simp only [List.forall_mem_cons, List.not_mem_nil, false_implies, implies_true, and_true]
  refine ⟨⟨⟨inRange _ rfl (.inl rfl), notRestarting rfl, airLawOf (by decide +kernel)⟩, _, rfl⟩,
    ⟨⟨inRange _ rfl (.inl rfl), notRestarting rfl, airLawOf (by decide +kernel)⟩, _, rfl⟩,
    ⟨inRange _ rfl (.inl rfl), notRestarting rfl, airLawOf (by decide +kernel)⟩, _, rfl⟩

theorem witness_lower :
    (Speaks reqB awake ∧ Resting awake ∧ NoScraper awake ∧ inValves awake .p1 = false ∧
        (awake.lc .p1).state = .stowed ∧ (awake.lc .p1).held = .none) ∧
      (∀ x ∈ [LiftState.raising, .contact, .searching, .lowering, .dropped, .outOfService],
        Speaks reqB (stands .p1 x awake) ∧ Resting (stands .p1 x awake) ∧ NoScraper (stands .p1 x awake) ∧
        inValves (stands .p1 x awake) .p1 = false ∧ ((stands .p1 x awake).lc .p1).state = x ∧
        (stands .p1 x awake).role .p1 ≠ .collecting) ∧
      (Speaks reqB running ∧ Resting running ∧ NoScraper running ∧ inValves running .p1 = false ∧
        (running.lc .p1).state = .contact ∧ running.role .p1 = .collecting ∧ holdsLower running = true) ∧
      (holdsLower collecting = false ∧ (collecting.lc .p1).state = .contact) := by
  refine ⟨⟨speaksB (by decide), restingOf (by decide +kernel), noScraperOf (by decide +kernel), by decide +kernel⟩, ?_,
    ⟨speaksB (by decide), restingOf (by decide +kernel), noScraperOf (by decide +kernel), by decide +kernel⟩,
    by decide +kernel⟩
  intro x _
  exact ⟨speaksB (by cases x <;> decide), restingOf (by cases x <;> decide +kernel),
    noScraperOf (by cases x <;> decide +kernel), by cases x <;> decide +kernel⟩

theorem witness_lower_of_a_held_raise :
    Speaks reqB (heldRaise .dwell) ∧ Resting (heldRaise .dwell) ∧ NoScraper (heldRaise .dwell) ∧
      inValves (heldRaise .dwell) .p1 = false ∧ ((heldRaise .dwell).lc .p1).state = .stowed ∧
      ((heldRaise .dwell).lc .p1).held ≠ .none :=
  ⟨speaksB (by decide), restingOf (by decide +kernel), noScraperOf (by decide +kernel), by decide +kernel⟩

theorem witness_lower_in_a_changeover :
    Speaks reqB (inPhase .coast running) ∧
      ((namedBy (some .p1)).all (restsStowed (inPhase .coast running))) = false ∧
      ((namedBy none).all (restsStowed (inPhase .coast running))) = false ∧
      (inPhase .coast running).seq.phase ≠ .idle ∧ (inPhase .coast running).seq.phase ≠ .halted ∧
      (running.cond.restart = none ∧ NoScraper running ∧
        ((after (.lower reqB none) running).lc .p1).state.raised = true) :=
  ⟨speaksB (by decide), by decide +kernel, by decide +kernel, by decide +kernel, by decide +kernel, rfl,
    noScraperOf (by decide +kernel), by decide +kernel⟩

theorem maySearch {b : Block}
    (h : b.plan.hold = false ∧ earthOpen b = true ∧ available b .p2 = true ∧ b.cond.mode = .workshop ∧
      b.queue.speed ≤ 30 ∧ (b.lc .p2).state = .stowed ∧ b.role .p2 = .none ∧ isoOpen b .p2 = true ∧
      b.seq.phase = .idle ∧ airAllows b .p2 = true) : MaySearch .p2 b := by
  obtain ⟨h1, h2, h3, h4, h5, h6, h7, h8, h9, h10⟩ := h
  exact ⟨h1, h2, h3, .inl h4, h5, h6, h7, h8, h9, h10⟩

theorem witness_touch_search :
    (Leads reqA (inMode .workshop awake) ∧ MaySearch .p2 (inMode .workshop awake) ∧
        airSufficient awake = true ∧ (awake.lc .p2).held = .none ∧ (awake.lc .p2).dwellTimer = none) ∧
      (Leads reqA (inMode .workshop dwelling) ∧ MaySearch .p2 (inMode .workshop dwelling) ∧
        (dwelling.lc .p2).held = .none ∧ (dwelling.lc .p2).dwellTimer.isSome = true) ∧
      (Leads reqA (inMode .workshop lowAir) ∧ MaySearch .p2 (inMode .workshop lowAir) ∧
        (lowAir.lc .p2).held = .none ∧ (lowAir.lc .p2).dwellTimer = none ∧ airSufficient lowAir = false) :=
  ⟨⟨leadsA (by decide), maySearch (by decide +kernel), by decide +kernel⟩,
    ⟨leadsA (by decide), maySearch (by decide +kernel), by decide +kernel⟩,
    ⟨leadsA (by decide), maySearch (by decide +kernel), by decide +kernel⟩⟩

def earthed (b : Block) : Block :=
  { b with sw := { b.sw with earth := { b.sw.earth with state := .closed, lastCmd := .closed } } }

/-- For each condition of R11 and R65 a state in which it is the first not met. -/
theorem witness_search_refused :
    ([held awake, earthed awake, stands .p2 .dropped awake, inMode .standby awake,
        { awake with queue := { awake.queue with speed := 31 } }, stands .p2 .contact awake,
        setRole .p2 .scraping .internal awake,
        { awake with sw := { awake.sw with iso := awake.sw.iso.set .p2 { TwoSw.initial with state := .closed } } },
        inPhase .armed awake, crowded].map fun b =>
          (firstUnmet (searchConditions .p2 b), decide (b.plan.lead = some .a))) =
      [(some .emergencyHold, true), (some .interlock, true), (some .notAvailable, true), (some .wrongMode, true),
        (some .interlock, true), (some .busy, true), (some .busy, true), (some .interlock, true),
        (some .changeoverActive, true), (some .airLimit, true)] := by decide +kernel

/-- P2 searches at a settled step: the contact stands at `h`, 300 ms before at `before`; the step was commanded with
HystMax at 300. -/
def searching (r : SearchRec) (h before : Int) : Block :=
  let b := lifted .p2 (fun l => { l with
    state := .searching, commanded := r.pressure, search := some r, history := List.replicate 30 before
    hystLimit := 300 }) awake
  { b with sensors := { b.sensors with height := b.sensors.height.set .p2 (good h) } }

def rising (step pressure : Nat) (clamped : Bool) : SearchRec :=
  ⟨.rise, step, pressure, clamped, some 400, none, none⟩

def releasing (pressure : Nat) : SearchRec := ⟨.release, 3, pressure, false, some 400, some 1500, some 2412⟩

theorem settledStepOf {r : SearchRec} {h before : Int} (hr : r.settle = some 400)
    (hm : h ≤ awake.cfg .hMax) : SettledStep .p2 (searching r h before) r h :=
  ⟨rfl, rfl, ⟨400, hr, Nat.le_refl _⟩, ⟨rfl, rfl⟩, hm, (fun e => by cases e), 4000, ⟨(fun e => by cases e), rfl⟩,
    show awake.cfg .addLevel ≤ 4000 by decide +kernel⟩

/-- Touch is found where the height, at HWork or above, rose by less than 3 in 300 ms; SearchMax is 4000. -/
theorem witness_rise_steps :
    (∀ h before, (h, before) ∈ [((1500 : Int), (1498 : Int)), (1500, 1497), (300, 300)] →
      SettledStep .p2 (searching (rising 1 1800 false) h before) (rising 1 1800 false) h) ∧
      ((searching (rising 1 1800 false) 1500 1498).lc .p2).history[29]? = some 1498 ∧
      (awake.cfg .hWork ≤ 1500 ∧ (1500 : Int) - 1498 < 3 ∧ (rising 1 1800 false).step = 1) ∧
      (rising 2 1820 false).step ≠ 1 ∧ ¬(awake.cfg .hWork ≤ 1500 ∧ (1500 : Int) - 1497 < 3) ∧
      (255 ≤ (rising 255 1800 false).step ∧ (rising 9 1800 true).clamped = true ∧
        awake.nat .searchMax < awake.nat .searchMax + awake.nat .searchStep) ∧
      ((rising 254 1800 false).step < 255 ∧ (rising 254 1800 false).clamped = false ∧
        (rising 254 1800 false).pressure + awake.nat .searchStep ≤ awake.nat .searchMax) := by
  refine ⟨fun h before hb => ?_, by decide +kernel⟩
  simp only [List.mem_cons, Prod.mk.injEq, List.not_mem_nil, or_false] at hb
  obtain ⟨rfl, rfl⟩ | ⟨rfl, rfl⟩ | ⟨rfl, rfl⟩ := hb <;>
    exact settledStepOf rfl (by decide +kernel)

/-- The contact has dropped by more than 10 from its reference 1500; HystMax was 300 as the step was commanded. -/
theorem witness_release_steps :
    (∀ pressure h, (pressure, h) ∈ [((2400 : Nat), (1489 : Int)), (0, 1500), (2400, 1490)] →
      SettledStep .p2 (searching (releasing pressure) h 0) (releasing pressure) h) ∧
      ((releasing 2400).phase = .release ∧ (releasing 2400).rise = some 2412 ∧ (releasing 2400).reference = some 1500) ∧
      (10 < (1500 : Int) - 1489 ∧ 2412 - 2400 ≤ ((searching (releasing 2400) 1489 0).lc .p2).hystLimit) ∧
      ((releasing 0).pressure = 0 ∧ ((searching (releasing 0) 1500 0).lc .p2).hystLimit < 2412 - 0) ∧
      ¬(10 < (1500 : Int) - 1490 ∨ (releasing 2400).pressure = 0) := by
  refine ⟨fun pressure h hb => ?_, by decide +kernel⟩
  simp only [List.mem_cons, Prod.mk.injEq, List.not_mem_nil, or_false] at hb
  obtain ⟨rfl, rfl⟩ | ⟨rfl, rfl⟩ | ⟨rfl, rfl⟩ := hb <;>
    exact settledStepOf rfl (by decide +kernel)

/-- R66: a HystMax of 10 written in WORKSHOP after the step of 2400 was commanded leaves its hysteresis of 12 VALID, and is
that of a step commanded after it. -/
theorem test_hyst_max_counts_from_the_next_step :
    let b := fun h => after (.writeConfigurationItem reqA (some .hystMax) 10)
      (inMode .workshop (searching (releasing 2400) h 0))
    (Leads reqA (inMode .workshop (searching (releasing 2400) 1489 0)) ∧ (b 1489).nat .hystMax = 10) ∧
      ((liftScan dropPanto .p2 (b 1489)).cal.get .p2).fields.status = .valid ∧
      ((liftScan dropPanto .p2 (b 1490)).lc .p2).hystLimit = 10 :=
  ⟨⟨leadsA (by decide +kernel), by decide +kernel⟩, by decide +kernel⟩

def dropped (strip : Int) : Block :=
  let b := inMode .standby (stands .p1 .dropped awake)
  { b with sensors := { b.sensors with strip := b.sensors.strip.set .p1 (good strip) } }

/-- AddLevel is 1500: at it the strip is whole, below it not. -/
theorem witness_service_state :
    (Leads reqA (dropped 1500) ∧ (dropped 1500).cond.mode = .standby ∧ ((dropped 1500).lc .p1).state = .dropped ∧
        stripWhole (dropped 1500) .p1 = true) ∧
      (Leads reqA (dropped 1499) ∧ stripWhole (dropped 1499) .p1 = false) ∧
      (Leads reqA awake ∧ awake.cond.mode = .service ∧ awakeMode awake = true ∧ (awake.lc .p1).state = .stowed ∧
        (awake.lc .p1).held = .none ∧ (awake.lc .p1).state ≠ .outOfService) ∧
      (Leads reqA (stands .p1 .outOfService awake) ∧ awakeMode (stands .p1 .outOfService awake) = true ∧
        ((stands .p1 .outOfService awake).lc .p1).state = .outOfService ∧
        ((stands .p1 .outOfService awake).lc .p1).held = .none ∧
        seqStep (stands .p1 .outOfService awake) = stands .p1 .outOfService awake) ∧
      (((dropped 1500).lc .p1).held = .none ∧ seqStep (dropped 1500) = dropped 1500 ∧ seqStep awake = awake) ∧
      (Leads reqA running ∧ (running.lc .p1).state ≠ .outOfService ∧
        ¬((running.lc .p1).state = .stowed ∧ (running.lc .p1).held = .none)) := by
  refine ⟨⟨leadsA (by decide), ?_⟩, ⟨leadsA (by decide), ?_⟩, ⟨leadsA (by decide), ?_⟩, ⟨leadsA (by decide), ?_⟩,
    ?_, ⟨leadsA (by decide), ?_⟩⟩ <;> decide +kernel

theorem witness_return_without_a_scraper : NoScraper (stands .p1 .outOfService awake) :=
  noScraperOf (by decide +kernel)

def heldSearch : Block :=
  setRole .p1 .calibrating .a (lifted .p1 (fun l => { l with heldSearch := true }) (heldRaise .dwell))

theorem witness_held_raises :
    (Resting (heldRaise .dwell) ∧ NoScraper (heldRaise .dwell) ∧ ((heldRaise .dwell).lc .p1).dwellTimer.isSome = true ∧
        ((heldRaise .dwell).lc .p1).state = .stowed ∧ ((heldRaise .dwell).lc .p1).held = .dwell ∧
        airSufficient (heldRaise .dwell) = true ∧ earthOpen (heldRaise .dwell) = true ∧
        ((heldRaise .dwell).lc .p1).heldSearch = false) ∧
      (Resting heldSearch ∧ NoScraper heldSearch ∧ (heldSearch.lc .p1).heldSearch = true ∧
        airSufficient heldSearch = true ∧ earthOpen heldSearch = true) ∧
      (let b := { heldRaise .dwell with sensors := lowAir.sensors }
       Resting b ∧ NoScraper b ∧ airSufficient b = false) ∧
      (Resting (earthed (heldRaise .dwell)) ∧ NoScraper (earthed (heldRaise .dwell)) ∧
        airSufficient (earthed (heldRaise .dwell)) = true ∧ earthOpen (earthed (heldRaise .dwell)) = false) ∧
      (Resting (heldRaise .air) ∧ NoScraper (heldRaise .air) ∧ ((heldRaise .air).lc .p1).held = .air) := by
  refine ⟨⟨restingOf ?_, noScraperOf ?_, ?_⟩, ⟨restingOf ?_, noScraperOf ?_, ?_⟩, ⟨restingOf ?_, noScraperOf ?_, ?_⟩,
    ⟨restingOf ?_, noScraperOf ?_, ?_⟩, ⟨restingOf ?_, noScraperOf ?_, ?_⟩⟩ <;> decide +kernel

theorem witness_lift_timers :
    (awake.cond.mode ≠ .waking ∧ awake.cond.standbyLowering = false ∧ awake.cond.restart = none) ∧
      (restarted.cond.restart.isSome = true ∧ restarted.seq.phase = .idle ∧
        restarted.cond.standbyLowering = false) ∧
      ((stands .p1 .raising awake).lc .p1).state = .raising ∧
      ((stands .p1 .lowering awake).lc .p1).state = .lowering ∧
      ((stands .p1 .lowering awake).lc .p1).lowerOverdue = false ∧
      (inPhase .lowering (stands .p1 .lowering awake)).seq.phase = .lowering ∧
      ((after (.lowerTimeout .p1) (stands .p1 .lowering awake)).lc .p1).lowerOverdue = true ∧
      ((after (.lowerTimeout .p1) (stands .p1 .lowering awake)).lc .p1).state = .lowering := by decide +kernel

def deviating : Block := lifted .p1 (fun l => { l with devTimer := some 1990 }) collecting

theorem witness_servo_deviation :
    (deviating.lc .p1).state = .contact ∧ (deviating.lc .p1).devTimer.isSome = true ∧ Resting deviating ∧
      NoScraper deviating :=
  ⟨by decide +kernel, by decide +kernel, restingOf (by decide +kernel), noScraperOf (by decide +kernel)⟩

/-- P2 collects behind P1, which scrapes. -/
def scraped : Block :=
  setRole .p1 .scraping .internal (stands .p1 .contact (setRole .p2 .collecting .a (stands .p2 .contact awake)))

theorem witness_strip_failure :
    (running.lc .p1).state.raised = true ∧ running.cond.restart = none ∧ running.role .p1 = .collecting ∧
      { running with cond := { running.cond with cfg := cfgSet cfgDefaults .promotionEnable 0 } }.on
        .promotionEnable = false ∧
      (inPhase .coast running).seq.phase ≠ .idle ∧ (inPhase .coast running).seq.phase ≠ .halted ∧
      (inPhase .coast running).seq.phase ≠ .lowering := by decide +kernel

theorem witness_substitute :
    (scraped.lc .p2).state.raised = true ∧ scraped.cond.restart = none ∧ OneCollector scraped ∧ scraped.seq.phase = .idle ∧
      scraped.role .p2 = .collecting ∧ scraped.on .promotionEnable = true ∧ scraped.plan.hold = false ∧
      scraped.role .p1 = .scraping ∧ (scraped.lc .p1).state = .contact ∧ (scraped.lc .p1).held = .none ∧
      (scraped.lc .p1).heldSearch = false ∧ (∀ x, x ≠ Panto.p1 → scraped.role x ≠ .scraping) ∧
      scraped.cond.mode ≠ .waking ∧ scraped.cond.standbyLowering = false := by
  refine ⟨by decide +kernel, rfl, ?_, by decide +kernel, by decide +kernel, by decide +kernel, by decide +kernel,
    by decide +kernel, by decide +kernel, by decide +kernel, by decide +kernel, ?_, by decide +kernel,
    by decide +kernel⟩
  · intro p x; cases p <;> cases x <;> decide +kernel
  · intro x; cases x <;> decide +kernel

/-- A scan whose heights are as given, all else plausible. -/
def scan (h : Int) : Readings := ⟨.const (some 2000), .const (some 4000), .const (some h), some 5800, some (-6)⟩

/-- HStow is 80: at it a pantograph is down, above it not. -/
theorem witness_scan :
    awake.cond.restart = none ∧ awake.cond.mode ≠ .waking ∧
      ((stands .p1 .lowering awake).lc .p1).state = .lowering ∧ (scan 80).height.get .p1 = some 80 ∧
      (80 : Int) ≤ awake.cfg .hStow ∧ (scan 81).height.get .p1 = some 81 ∧ awake.cfg .hStow < 81 ∧
      (collecting.lc .p1).state = .contact ∧ ((after (.scanComplete (scan 1500)) collecting).lc .p1).state = .contact ∧
      ((stands .p1 .lowering awake).lc .p1).held = .none ∧ (stands .p1 .lowering awake).seq.phase = .idle := by
  decide +kernel

theorem witness_sensor_faults :
    FaultLaw awake ∧ newlyFaulty ⟨.const none, .const (some 4000), .const (some 40), some 5800, some (-6)⟩ goodSensors = 4 :=
  ⟨noFaultsOf rfl, by decide +kernel⟩

/-- P1's height and strip as given, its height 300 ms before `before`. -/
def reading (h before strip : Int) (b : Block) : Block :=
  let b1 := lifted .p1 (fun l => { l with history := List.replicate 30 before }) b
  { b1 with sensors := { b1.sensors with
      height := b1.sensors.height.set .p1 (good h), strip := b1.sensors.strip.set .p1 (good strip) } }

/-- P1 stays in CONTACT at a scan with its pressure below, at and above the target, and with NO_WIRE_LOWER set. -/
theorem witness_regulation :
    ∀ f ∈ [true, false], ∀ n ∈ [(0 : Nat), 6000],
      let b := reading 1500 1500 4000 (lifted .p1 (fun l => { l with commanded := n, noWireLower := f }) collecting)
      (b.lc .p1).state = .contact ∧ (b.lc .p1).noWireLower = f ∧ ((liftScan dropPanto .p1 b).lc .p1).state = .contact ∧
        (n = 0 → (b.lc .p1).commanded ≤ targetPressureOf b .p1) ∧
        (n = 6000 → targetPressureOf b .p1 ≤ (b.lc .p1).commanded) ∧
        b.cond.restart = none ∧ b.cond.mode ≠ .waking ∧
        ((after (.scanComplete (scan 1500)) b).lc .p1).state = .contact := by decide +kernel

def faultyHeight (b : Block) : Block :=
  { b with sensors := { b.sensors with height := b.sensors.height.set .p1 ⟨some 1500, .faulty, true⟩ } }

theorem readsWholeOf {b : Block} {h : Int}
    (k : b.sensors.height.get .p1 = good h ∧ (b.sensors.actuator.get .p1).validity ≠ .faulty ∧
      b.sensors.strip.get .p1 = good 1500 ∧ b.cfg .addLevel = 1500) : ReadsWhole .p1 b h where
  height := by rw [k.1]; exact ⟨rfl, rfl⟩
  actuator := k.2.1
  strip := ⟨1500, by rw [k.2.2.1]; exact ⟨(fun e => by cases e), rfl⟩, by rw [k.2.2.2]⟩

def raisingAt (h before : Int) (timer : Nat) : Block :=
  reading h before 1500 (lifted .p1 (fun l => { l with state := .raising, raiseTimer := some timer }) awake)

/-- HWork is 500, HMax 2800 and RaiseTimeout 8000: contact is found at a rise of 4 in 300 ms and not at one of 5. -/
theorem witness_scan_in_raising :
    (∀ h before n, (h, before, n) ∈ [((1500 : Int), (1496 : Int), (7999 : Nat)), (1500, 1495, 7999), (1500, 1496, 8000),
        (2800, 2800, 0), (2801, 2801, 0)] →
      ReadsWhole .p1 (raisingAt h before n) h ∧ ((raisingAt h before n).lc .p1).state = .raising ∧
        ((raisingAt h before n).lc .p1).raiseTimer = some n) ∧
      FindsContact .p1 (raisingAt 1500 1496 7999) 1500 ∧ ¬FindsContact .p1 (raisingAt 1500 1495 7999) 1500 ∧
      (awake.nat .raiseTimeout = 8000 ∧ awake.cfg .hMax = 2800) ∧
      ((faultyHeight (raisingAt 1500 1496 0)).sensors.height.get .p1).validity = .faulty := by
  refine ⟨fun h before n hb => ?_, ⟨by decide +kernel, 1496, by decide +kernel, by decide⟩, ?_, by decide +kernel⟩
  · simp only [List.mem_cons, Prod.mk.injEq, List.not_mem_nil, or_false] at hb
    obtain ⟨rfl, rfl, rfl⟩ | ⟨rfl, rfl, rfl⟩ | ⟨rfl, rfl, rfl⟩ | ⟨rfl, rfl, rfl⟩ | ⟨rfl, rfl, rfl⟩ := hb <;>
      exact ⟨readsWholeOf (by decide +kernel), by decide +kernel⟩
  · rintro ⟨_, before, h, k⟩
    have e : before = 1495 := by
      have : ((raisingAt 1500 1495 7999).lc .p1).history[29]? = some 1495 := by decide +kernel
      rw [this] at h
      exact (Option.some.inj h).symm
    subst e
    exact absurd k (by decide)

/-- AddLevel is 1500. -/
theorem witness_low_strips :
    (∀ n ∈ [(0 : Nat), 1],
      let b := reading 1500 1500 1499 (lifted .p1 (fun l => { l with lowStrip := n }) running)
      (b.lc .p1).state.raised = true ∧ (b.sensors.strip.get .p1).Shows 1499 ∧ (1499 : Int) < b.cfg .addLevel ∧
        (b.lc .p1).lowStrip = n ∧ b.role .p1 = .collecting) ∧
      (let b := reading 1500 1500 1500 running
       (b.lc .p1).state.raised = true ∧ (b.sensors.strip.get .p1).Shows 1500 ∧ b.cfg .addLevel ≤ 1500) := by
  unfold Chan.Shows
  decide +kernel

theorem witness_lost_wire :
    (∀ x ∈ [TwoState.closed, .opened, .failed],
      let b := reading 2801 2801 1500 (breakerAt x collecting)
      (b.lc .p1).state = .contact ∧ ReadsWhole .p1 b 2801 ∧ b.cfg .hMax < 2801 ∧ (b.lc .p1).noWireLower = false ∧
        (b.lc .p1).lowerPending = false ∧ b.cond.restart = none ∧ b.role .p1 = .collecting ∧
        b.sw.breaker.state = x) := by
  intro x hx
  simp only [List.mem_cons, List.not_mem_nil, or_false] at hx
  obtain rfl | rfl | rfl := hx <;>
    exact ⟨by decide +kernel, readsWholeOf (by decide +kernel), by decide +kernel⟩

/-- A raise and a search held AIR with the reservoir at RaiseAir, with the earthing switch not OPEN, with a sensor lost; and
one held DWELL. -/
theorem witness_held_at_a_scan :
    (∀ f ∈ [true, false],
      let b := lifted .p1 (fun l => { l with heldSearch := f }) (heldRaise .air)
      (b.lc .p1).state = .stowed ∧ (b.lc .p1).held = .air ∧ (b.lc .p1).heldSearch = f ∧
        (b.sensors.height.get .p1).validity ≠ .faulty ∧ (b.sensors.actuator.get .p1).validity ≠ .faulty ∧
        airSufficient b = true ∧ b.sw.earth.isOpen = true ∧ (earthed b).sw.earth.isOpen = false) ∧
      ((faultyHeight (heldRaise .air)).sensors.height.get .p1).validity = .faulty ∧
      (let b := stands .p1 .lowering (heldRaise .behindLowering)
       (b.lc .p1).state = .lowering ∧ (b.lc .p1).held ≠ .none) ∧
      ((heldRaise .dwell).lc .p1).held ≠ .air ∧
      (∀ n, (heldRaise .air).cond.testStep ≠ .valves .p1 n) :=
  ⟨by decide +kernel, by decide +kernel, by decide +kernel, by decide +kernel, fun n e => by cases e⟩

/-- R32: a raise held behind a lowering is discarded at the scan that loses the height. -/
theorem test_lost_sensor_discards_in_lowering :
    let b := after (.scanComplete ⟨.const (some 0), .const (some 4000), ⟨none, some 40, some 40, some 40⟩, some 5800, some (-6)⟩)
      (stands .p1 .lowering (heldRaise .behindLowering))
    (b.lc .p1).state = .lowering ∧ (b.lc .p1).held = .none ∧ b.role .p1 = .none := by decide +kernel

theorem witness_force_law :
    (255 : Nat) ≤ 255 ∧ (400 : Nat) ≤ 400 ∧ (15 : Nat) < 16 ∧ (20 : Nat) ≤ 20 ∧ (1 : Nat) ≤ 1 := by decide

def rested (n : Nat) : Block :=
  let b := inMode .standby awake
  { b with cond := { b.cond with modeTimer := n } }

theorem witness_enter_mode :
    (Leads reqA (rested 1999) ∧ (rested 1999).cond.mode = .standby ∧ (rested 1999).cond.modeTimer < 2000 ∧
        (rested 1999).cond.configGood = true ∧ (rested 1999).cond.selfTest.completed = true) ∧
      (let b := rested 2000
       2000 ≤ b.cond.modeTimer ∧ (∀ p, (b.lc p).state.atRest = true) ∧ b.sw.breaker.isOpen = true) ∧
      (let b := stands .p1 .lowering (rested 2000)
       Leads reqA b ∧ ¬((∀ p, (b.lc p).state.atRest = true) ∧ b.sw.breaker.isOpen = true)) ∧
      (let b := { rested 0 with cond := { (rested 0).cond with configGood := false } }
       Leads reqA b ∧ ¬(b.cond.configGood = true ∧ b.cond.selfTest.completed = true)) ∧
      (let b := inMode .workshop (stands .p2 .searching awake)
       Leads reqA b ∧ b.cond.mode = .workshop ∧ RestartLaw b ∧ (b.lc .p2).state = .searching) ∧
      (Leads reqA (inPhase .probe running) ∧ (inPhase .probe running).cond.mode = .service ∧
        running.cond.standbyLowering = false ∧ (inPhase .probe running).seq.phase ≠ .idle ∧
        (inPhase .probe running).seq.phase ≠ .halted) := by
  refine ⟨⟨leadsA (by decide), by decide +kernel⟩, ⟨by decide +kernel, ?_, by decide +kernel⟩,
    ⟨leadsA (by decide), fun h => absurd (h.1 .p1) (by decide +kernel)⟩, ⟨leadsA (by decide), by decide +kernel⟩,
    ⟨leadsA (by decide), by decide +kernel, notRestarting rfl, by decide +kernel⟩,
    ⟨leadsA (by decide), by decide +kernel⟩⟩
  intro p; cases p <;> decide +kernel

def loweringToStandby : Block := { running with cond := { running.cond with standbyLowering := true } }

theorem witness_enter_mode_refused :
    (∀ m ∈ [Mode.waking, .standby, .service, .workshop],
        Leads reqA (inMode m awake) ∧ (inMode m awake).cond.mode = m ∧ (inMode m awake).cond.standbyLowering = false) ∧
      (Leads reqA loweringToStandby ∧ loweringToStandby.cond.mode = .service ∧
        loweringToStandby.cond.standbyLowering = true) ∧
      (Mode.workshop ≠ .standby ∧ Mode.dormant ∈ [Mode.workshop, .dormant, .waking] ∧
        Mode.service ∈ [Mode.service, .dormant, .waking] ∧ Mode.standby ≠ .waking) :=
  ⟨fun m _ => ⟨leadsA (by cases m <;> first | decide | contradiction), by cases m <;> rfl, by cases m <;> rfl⟩,
    ⟨leadsA (by decide), by decide +kernel⟩, by decide⟩

def asleep (n : Nat) (held : Bool) : Block :=
  let b := inMode .dormant awake
  { b with cond := { b.cond with modeTimer := n, heldWake := held } }

theorem witness_wake :
    reqA.wellFormed = true ∧ (masterOf reqA.link).isSome = true ∧ masterOf reqA.link = (asleep 1000 false).plan.lead ∧
      (ledBy none (asleep 1000 false)).plan.lead = none ∧ (asleep 1000 false).cond.mode = .dormant ∧
      (asleep 1000 false).cond.heldWake = false ∧ 1000 ≤ (asleep 1000 false).cond.modeTimer ∧
      (asleep 999 false).cond.modeTimer < 1000 ∧ (asleep 999 true).cond.heldWake = true ∧
      awake.cond.mode ≠ .dormant := by decide +kernel

def waking (x : TestStep) : Block :=
  let b := inMode .waking awake
  { b with cond := { b.cond with modeTimer := 1000, testStep := x, selfTest := SelfTest.cleared } }

def pressed (v : Int) : Block :=
  { waking (.valves .p1 300) with
    sensors := { goodSensors with actuator := goodSensors.actuator.set .p1 (good v) } }

/-- 200 holds, 199 does not. -/
theorem witness_valves :
    ((waking .notBegun).cond.mode = .waking ∧ (waking .notBegun).cond.testStep = .notBegun ∧
        (waking .notBegun).cond.restart = none ∧ (waking .notBegun).cond.modeTimer < 2000 ∧
        (waking .notBegun).seq.phase = .idle ∧ valveTestable (waking .notBegun) .p1 = true ∧
        (waking .notBegun).role .p1 ≠ .scraping) ∧
      ((pressed 200).cond.testStep = .valves .p1 300 ∧ ((pressed 200).lc .p1).state = .stowed ∧
        (pressed 200).cond.mode = .waking ∧ (pressed 200).cond.modeTimer < 2000 ∧
        (pressed 200).seq.phase = .idle ∧ valveHolds (pressed 200) .p1 = true ∧
        valveHolds (pressed 199) .p1 = false) := by decide +kernel

theorem witness_lower_in_valves :
    (Speaks reqB (pressed 200) ∧ (pressed 200).cond.testStep = .valves .p1 300 ∧ (pressed 200).cond.mode = .waking ∧
        (pressed 200).cond.modeTimer < 2000 ∧ (pressed 200).seq.phase = .idle ∧
        ((pressed 200).lc .p1).state = .stowed ∧ (pressed 200).cond.restart = none ∧
        ((pressed 200).lc .p1).held = .none) ∧
      (let b := setRole .p1 .collecting .internal (lifted .p1 (fun l => { l with held := .air }) (pressed 200))
       Speaks reqB b ∧ b.cond.testStep = .valves .p1 300 ∧ b.cond.mode = .waking ∧ b.cond.modeTimer < 2000 ∧
         b.seq.phase = .idle ∧ (b.lc .p1).state = .stowed ∧ b.cond.restart = none ∧ (b.lc .p1).held ≠ .none) :=
  ⟨⟨speaksB (by decide), by decide +kernel⟩, speaksB (by decide), by decide +kernel⟩

def tested : SelfTest :=
  ⟨some .pass, .const (some .pass),
    ⟨.const (some .pass), .const (some .pass), .const (some .pass), some .pass, some .pass⟩, .const (some .skipped),
    .const (some .pass), ⟨some .pass, some .pass, .const (some .pass), some .fail⟩, .const none, false⟩

def ending (t : SelfTest) (m : Mode) : Block :=
  { waking .finished with cond := { (waking .finished).cond with selfTest := t, returnMode := m } }

theorem witness_waking_ends :
    (ending tested .standby).cond.mode = .waking ∧ judged (ending tested .standby).cond.selfTest = true ∧
      (ending tested .workshop).cond.returnMode = .workshop ∧ (ending tested .service).cond.returnMode = .service ∧
      (ending tested .service).cond.configGood = true ∧ (ending tested .standby).cond.returnMode = .standby ∧
      (ending tested .standby).cond.restart = none ∧ (ending tested .standby).cond.testStep = .finished ∧
      (Panto.all.all fun p => decide (((ending tested .standby).lc p).state ∉ [.raising, .contact, .lowering])) = true ∧
      ((stands .p1 .contact (ending tested .standby)).lc .p1).state ∈ [.raising, .contact, .lowering] ∧
      ((ending tested .service).cond.configGood = true ∧
        { (ending tested .service).cond with configGood := false }.configGood = false) ∧
      judged (ending SelfTest.cleared .standby).cond.selfTest = false ∧
      (ending SelfTest.cleared .standby).cond.returnMode ≠ .workshop := by decide +kernel

theorem witness_no_valves : ∀ p n, (ending tested .standby).cond.testStep ≠ .valves p n := fun _ _ h => by cases h

/-- A P2 and P3 to go on with, P2 ready or not. -/
theorem witness_tests_go_on :
    (ValveReady .p1 (waking .notBegun) ∧ ValveReady .p2 (waking (.strips .p1)) ∧
        ¬ValveReady .p2 (stands .p2 .outOfService (waking (.strips .p1))) ∧
        ValveReady .p3 (stands .p2 .outOfService (waking (.strips .p1)))) ∧
      (let b := { waking (.strips .p1) with
         sensors := { goodSensors with height := .const ⟨some 40, .faulty, true⟩ } }
       ∀ p, ¬ValveReady p b) := by
  have ready : ∀ p b, (b.lc p).state = .stowed → b.sensors = goodSensors → b.cfg .raiseAir ≤ 5800 → ValveReady p b := by
    intro p b h1 h2 h3
    refine ⟨h1, by rw [h2]; cases p <;> rfl, by rw [h2]; cases p <;> rfl, 5800, ?_, h3⟩
    rw [h2]
    exact ⟨by decide, rfl⟩
  exact ⟨⟨ready _ _ rfl rfl (by decide +kernel), ready _ _ rfl rfl (by decide +kernel),
    fun h => absurd h.state (by decide +kernel), ready _ _ rfl rfl (by decide +kernel)⟩,
    fun p h => absurd h.height (by cases p <;> decide)⟩

/-- AddLevel is 1500: at it the strip passes, below it and unread it fails. -/
theorem witness_strips_and_sensors :
    (let b := waking (.strips .p1)
     b.cond.mode = .waking ∧ b.cond.testStep = .strips .p1 ∧ (b.sensors.strip.get .p1).Reads 4000 ∧
       b.cfg .addLevel ≤ 4000 ∧ b.cond.modeTimer = 1000 ∧ b.cond.selfTest.sensors.reservoir = none) ∧
      (∀ v, (good 1499).Reads v → v < (waking (.strips .p1)).cfg .addLevel) ∧
      (∀ v, (⟨some 4000, .faulty, true⟩ : Chan).Reads v → v < (waking (.strips .p1)).cfg .addLevel) ∧
      (pressed 200).cond.testStep = .valves .p1 300 ∧
      (waking .notBegun).cond.modeTimer ≤ 1000 ∧ tested.sensors.reservoir ≠ none := by
  refine ⟨⟨rfl, rfl, ⟨rfl, rfl⟩, by decide +kernel, rfl, rfl⟩, ?_, ?_, rfl, by decide, by decide⟩
  · rintro v ⟨_, h⟩
    cases h
    decide +kernel
  · rintro v ⟨h, _⟩
    cases h

/-- R41, R174: P1 began to rise after its VALVES check, and its strip reads low for the first time at the STRIPS scan. -/
theorem test_drop_in_the_self_test_ends_the_count :
    let b := lifted .p1 (fun l => { l with state := .raising, lowStrip := 1, raiseTimer := some 20 })
      { waking (.strips .p1) with sensors := { goodSensors with strip := .const (good 1499) } }
    ((judgeTest b).lc .p1).state = .dropped ∧ ((judgeTest b).lc .p1).lowStrip = 0 ∧
      ((judgeTest b).lc .p1).raiseTimer = none := by decide +kernel

/-- An empty and a filled record, under each capture filter, of a severe kind and one that is not; a counter at 255. -/
theorem witness_fault_record :
    (awake.cond.faults.first = none ∧ awake.cfg .captureFilter ≠ 1) ∧
      (let b := { awake with cond := { awake.cond with cfg := cfgSet cfgDefaults .captureFilter 1 } }
       b.cfg .captureFilter = 1 ∧ b.cond.faults.first = none ∧ FaultKind.addTrip ∈ severeKinds ∧
         FaultKind.airLow ∉ severeKinds) ∧
      (recordFault .airLow .none awake).cond.faults.first ≠ none ∧
      FaultLaw awake ∧
      (let b := { awake with cond := { awake.cond with faults := ⟨none, Vector.replicate 18 255, true⟩ } }
       FaultLaw b ∧ ∃ t, step ⟨[.switchOperationTimeout .breaker], breakerAt .closing b⟩ = .next t) :=
  ⟨by decide +kernel, by decide +kernel, by decide +kernel, noFaultsOf rfl,
    fun k => by simp, _, rfl⟩

theorem witness_clear_faults :
    (Leads reqA awake ∧ awakeMode awake = true) ∧
      (Leads reqA (inMode .waking awake) ∧ (inMode .waking awake).cond.mode = .waking) :=
  ⟨⟨leadsA (by decide), rfl⟩, ⟨leadsA (by decide), rfl⟩⟩

theorem witness_configuration_item :
    (Leads reqA awake ∧ awake.cond.mode ≠ .workshop) ∧
      (Leads reqA (inMode .workshop awake) ∧ (inMode .workshop awake).cond.mode = .workshop ∧
        (∀ p, Item.slew ≠ headItem p ∧ Item.slew ≠ endItem p) ∧ Item.slew ≠ .maxUp ∧ InRange (inMode .workshop awake).cond.cfg ∧
        Item.slew.lo ≤ 20 ∧ 20 ≤ Item.slew.hi ∧ (∀ y ∈ orderedPairs, y.1 ≠ .slew ∧ y.2 ≠ .slew)) ∧
      (Leads reqA (inMode .workshop collecting) ∧ (0 : Int) < (committedCount (inMode .workshop collecting) : Int)) :=
  ⟨⟨leadsA (by decide), by decide⟩,
    ⟨leadsA (by decide), rfl, everyP (by decide), by decide, defaults_in_range, by decide +kernel⟩,
    ⟨leadsA (by decide), by decide +kernel⟩⟩

/-- A head class is changed of P1: in CONTACT it is BUSY, STOWED it is taken. -/
theorem witness_head_class :
    (let b := inMode .workshop collecting
     (b.lc .p1).state ∈ [.raising, .contact, .searching, .lowering] ∧
       max (headItem .p1).lo (min (headItem .p1).hi 1) ≠ b.cfg (headItem .p1)) ∧
      (∀ p, headItem .p1 = headItem p ∨ headItem .p1 = endItem p →
        ((inMode .workshop awake).lc p).state ∈ [.stowed, .dropped, .outOfService] ∨
          max (headItem .p1).lo (min (headItem .p1).hi 1) = (inMode .workshop awake).cfg (headItem .p1)) ∧
      (Item.maxUp = .maxUp → (committedCount (inMode .workshop awake) : Int) ≤ 1) :=
  ⟨by decide +kernel, everyP (by decide +kernel), fun _ => by decide +kernel⟩

/-- A low item above its high one, a high item below its low one, and a value between. -/
theorem witness_ordered_items :
    (let b := inMode .workshop awake
     ((.iceT1, .iceT2) : Item × Item) ∈ orderedPairs ∧
       b.cfg .iceT2 < max Item.iceT1.lo (min Item.iceT1.hi (b.cfg .iceT2 + 1)) ∧
       (∀ z ∈ orderedPairs, z.2 = .iceT1 → b.cfg z.1 ≤ b.cfg .iceT2) ∧
       max Item.iceT2.lo (min Item.iceT2.hi (b.cfg .iceT1 - 1)) < b.cfg .iceT1 ∧
       ∀ y ∈ orderedPairs, (y.1 = .iceT1 → max Item.iceT1.lo (min Item.iceT1.hi (b.cfg .iceT2)) ≤ b.cfg y.2) ∧
         (y.2 = .iceT1 → b.cfg y.1 ≤ max Item.iceT1.lo (min Item.iceT1.hi (b.cfg .iceT2)))) := by decide +kernel

def offering (x : Flight) (b : Block) : Block := { b with mem := { b.mem with inFlight := some x } }

theorem witness_store :
    (Leads reqA (inMode .workshop awake) ∧ (inMode .workshop awake).cond.mode = .workshop ∧
        storing (inMode .workshop awake) = false ∧ (inMode .workshop awake).mem.inFlight = none) ∧
      (Leads reqA (inMode .workshop (offering (.store cfgDefaults) awake)) ∧
        storing (inMode .workshop (offering (.store cfgDefaults) awake)) = true) ∧
      (Leads reqA awake ∧ awake.cond.mode ≠ .workshop) ∧
      (offering (.store cfgDefaults) awake).mem.inFlight = some (.store cfgDefaults) ∧
      (offering (.store cfgDefaults) awake).cond.reloadPending = false :=
  ⟨⟨leadsA (by decide), by decide +kernel⟩, ⟨leadsA (by decide), by decide +kernel⟩, ⟨leadsA (by decide), by decide⟩,
    rfl, rfl⟩

theorem witness_entry_write :
    Resting (offering (.entry .p1 CalFields.blank) awake) ∧ NoScraper (offering (.entry .p1 CalFields.blank) awake) ∧
      (offering (.entry .p1 CalFields.blank) awake).mem.inFlight = some (.entry .p1 CalFields.blank) ∧
      awake.cond.reloadPending = false ∧ (awake.cal.get .p1).fields = CalFields.blank ∧
      awake.mem.waiting.contains (.entry .p1) = false :=
  ⟨restingOf (by decide +kernel), noScraperOf (by decide +kernel), by decide +kernel⟩

/-- A stored record and entry, and none. -/
theorem witness_loads :
    MemImage.delivered.config = some cfgDefaults ∧ (∀ y ∈ orderedPairs, y.1 ≠ Item.slew) ∧
      ((.iceT1, .iceT2) : Item × Item) ∈ orderedPairs ∧
      MemImage.delivered.entries.get .p1 = some CalFields.blank ∧
      (⟨none, .const none⟩ : MemImage).config = none ∧ (⟨none, .const none⟩ : MemImage).entries.get .p1 = none := by
  decide +kernel

theorem witness_config_law :
    ConfigLaw (st awake).block ∧ ∃ t, step ⟨[.writeConfigurationItem reqA (some .slew) 999], awake⟩ = .next t :=
  ⟨⟨defaults_in_range, by intro v h; cases h⟩, _, rfl⟩

theorem witness_warm_restart :
    (breakerAt .closing collecting).sw.breaker.state = .closing ∧ awake.seq.phase = .idle ∧
      (inPhase .halted awake).seq.phase = .halted ∧ (inPhase .coast awake).seq.phase ≠ .idle ∧
      (inPhase .coast awake).seq.phase ≠ .halted ∧ Leads reqA awake :=
  ⟨by decide +kernel, rfl, rfl, by decide, by decide, leadsA (by decide)⟩

/-- Before its adoption scan with HoldOver as given: P1 collects, P2 scrapes, both at their target and MaxUp is `n`. -/
def adopting (holdOver : Int) (n : Int) : Block :=
  let b := setRole .p2 .scraping .internal (stands .p2 .contact running)
  let b1 := { b with
    sensors := { b.sensors with height := .const (good 1500) }
    cond := { b.cond with
      restart := some ⟨some .a, b.plan.roles, liftStates b, .service, false⟩
      cfg := cfgSet (cfgSet cfgDefaults .holdOver holdOver) .maxUp n } }
  { b1 with sensors := { b1.sensors with actuator := .ofFun fun p => good (targetPressureOf b1 p : Int) } }

theorem mayBeAdopted (p : Panto) (n : Int) (hp : p = .p1 ∨ p = .p2) (hn : n ∈ [(1 : Int), 2]) :
    MayBeAdopted p (adopting 1 n) := by
  simp only [List.mem_cons, List.not_mem_nil, or_false] at hn
  obtain rfl | rfl := hp <;> obtain rfl | rfl := hn <;>
    exact ⟨by decide +kernel, by decide +kernel, ⟨1500, ⟨by decide +kernel, by decide +kernel⟩, by decide +kernel⟩,
      ⟨_, ⟨by decide +kernel, rfl⟩, by decide +kernel⟩, ⟨4000, ⟨by decide +kernel, by decide +kernel⟩, by decide +kernel⟩,
      by decide +kernel⟩

def noted : Block := lifted .p1 (fun l => { l with lowerNoted := true }) (adopting 1 2)

theorem witness_adoption :
    ((adopting 1 2).cond.restart.isSome = true ∧ (adopting 1 2).cond.reloadPending = false ∧
        OneCollector (adopting 1 2) ∧ (adopting 1 2).cfg .holdOver = 1 ∧ (adopting 0 2).cfg .holdOver ≠ 1) ∧
      (¬MayBeAdopted .p1 noted ∧ (∃ n, noted.ReadsPressure .p1 n) ∧ noted.cfg .holdOver = 1) ∧
      (MayBeAdopted .p1 (adopting 1 2) ∧ (adopting 1 2).role .p1 = .collecting ∧
        1 ≤ (liftPart (adopting 1 2)).nat .maxUp) ∧
      (MayBeAdopted .p2 (adopting 1 2) ∧ (adopting 1 2).role .p2 = .scraping ∧
        (∀ x, x ≠ .p2 → (adopting 1 2).role x ≠ .scraping) ∧ 2 ≤ (liftPart (adopting 1 2)).nat .maxUp) ∧
      (MayBeAdopted .p2 (adopting 1 1) ∧ (liftPart (adopting 1 1)).nat .maxUp = 1 ∧
        ∃ x, (adopting 1 1).role x = .collecting ∧ MayBeAdopted x (adopting 1 1)) :=
  ⟨⟨by decide +kernel, by decide +kernel, by intro p x; cases p <;> cases x <;> decide +kernel, by decide +kernel⟩,
    ⟨fun h => absurd h.lowered (by decide +kernel), ⟨_, _, ⟨by decide +kernel, rfl⟩, rfl⟩, by decide +kernel⟩,
    ⟨mayBeAdopted .p1 2 (.inl rfl) (by decide), by decide +kernel⟩,
    ⟨mayBeAdopted .p2 2 (.inr rfl) (by decide), by decide +kernel, everyP (by decide +kernel), by decide +kernel⟩,
    ⟨mayBeAdopted .p2 1 (.inr rfl) (by decide), by decide +kernel, .p1, by decide +kernel,
      mayBeAdopted .p1 1 (.inl rfl) (by decide)⟩⟩

/-- A wrong system's path in CONFIRM whose candidate P1 is not adopted, and one that waits for the breaker. -/
theorem witness_adoption_of_the_candidate :
    (let b := { inPhase .confirm noted with seq := { (inPhase .confirm noted).seq with candidate := some .p1 } }
     b.cond.restart.isSome = true ∧ b.cond.reloadPending = false ∧ b.seq.candidate = some .p1 ∧
       b.seq.phase ∈ [.confirm, .masterReady, .close] ∧ (b.lc .p1).state = .contact ∧
       ((liftPart b).lc .p1).state ≠ .contact) ∧
      (inPhase .probe (adopting 1 2)).seq.phase ∉ [.confirm, .masterReady, .close] := by decide +kernel

def measuring (c : Option LineClass) (b : Block) : Block := { b with line := { b.line with confirmed := c } }

def anyResult : WindowResult := ⟨none, none, none, none, false, none, none, .unknown, false, true⟩

/-- R91: the detection is made while an adoption waits; its path stands in PROBE for the breaker, as `RestartLaw` allows. -/
theorem witness_restart_with_a_path :
    let b := takeWindow anyResult (measuring (some (.sys .dc3)) (adopting 1 2))
    b.cond.restart.isSome = true ∧ b.seq.phase = .probe ∧ b.seq.work = .awaitOpen ∧ b.sw.breaker.state = .opening ∧
      RestartLaw { b with cond := { b.cond with mode := .waking } } :=
  ⟨by decide +kernel, by decide +kernel, by decide +kernel, by decide +kernel,
    fun _ => ⟨rfl, by decide +kernel, .inr ⟨by decide +kernel, .inl (by decide +kernel)⟩⟩⟩

/-- A scraper whose collector is not adopted is adopted with MaxUp 1. -/
theorem witness_adoption_of_the_scraper_alone :
    let b := lifted .p1 (fun l => { l with lowerNoted := true }) (adopting 1 1)
    1 ≤ (liftPart b).nat .maxUp ∧ ∀ x, b.role x = .collecting → ¬MayBeAdopted x b :=
  ⟨by decide +kernel, fun x e h => by
    cases x
    · exact absurd h.lowered (by decide +kernel)
    all_goals exact absurd e (by decide +kernel)⟩

theorem witness_adoption_of_the_breaker :
    (let b := { adopting 1 2 with sw := running.sw }
     b.sw.breaker.state = .closed ∧ b.plan.hold = false ∧ closeConditions (liftPart b) = true ∧ b.seq.phase = .idle ∧
       ¬(b.seq.phase = .halted ∧ b.seq.haltReason = some .restart)) ∧
      ((adopting 1 2).sw.breaker.state = .closed ∧ (held (adopting 1 2)).plan.hold = true) ∧
      (let b := inPhase .halted (adopting 1 2)
       { b with seq := { b.seq with haltReason := some .restart } }.seq.haltReason = some .restart) := by decide +kernel

theorem witness_motion :
    Protects reqP (placed 100 [] awake) ∧ (99 : Nat) < (placed 100 [] awake).queue.position ∧
      (placed 100 [] awake).queue.position ≤ 100 ∧ (Direction.standstill = .standstill ∧ (1 : Nat) ≠ 0) ∧
      (400 : Nat) < 401 :=
  ⟨protectsP (by decide), by decide +kernel⟩

/-- Reports of 100 that turn no direction round, with nothing offered, with 7 armed and with 7 late. -/
theorem witness_route :
    (Direction.standstill = .standstill ∧ awake.queue.lastDirection = none ∧
        (placed 100 [] awake).queue.lastDirection = some .forward) ∧
      ([(9000 : Nat), 600, 100].map fun x =>
        let b := (placed 90 [⟨7, .neutral, x, 200, none, false, false⟩] collecting).heldAt 100 300 .forward
        (b.seq.phase, (activation (removalPass b)).seq.phase)) =
        [(.idle, .idle), (.idle, .armed), (.idle, .breakerOpen)] := by decide +kernel

theorem witness_removal : FaultLaw (placed 100 [] awake) := noFaultsOf rfl

/-- 300 km/h, PrepTime and PrepMargin put the prepare distance past 500 m: a section at 600 is armed, one at 9000 waits,
and one at 100 is late. -/
theorem witness_activation :
    (∀ x ∈ [(600 : Nat), 9000, 100], ∀ a ∈ [true, false],
      let e : Entry := ⟨7, .neutral, x, 200, none, a, false⟩
      let b := placed 100 [e] awake
      b.cond.mode = .service ∧ b.seq.phase = .idle ∧ e.kind ≠ .iceWatch ∧
        (a = true → b.queue.entries.find? (fun x => x.active && !x.served) = some e) ∧
        (a = false → b.queue.entries.find? (fun x => x.active && !x.served) = none ∧
          b.queue.entries.find? (fun x => !x.active && x.kind != .iceWatch) = some e)) ∧
      (let reach := (placed 100 [] awake).queue.speed * awake.nat .prepTime / 3600 + awake.nat .prepMargin
       (100 : Nat) < 600 ∧ 600 ≤ 100 + reach ∧ 100 + reach < 9000 ∧ (100 : Nat) ≤ 100) ∧
      (inMode .workshop awake).cond.mode ≠ .service ∧ (inPhase .armed awake).seq.phase ≠ .idle := by decide +kernel

theorem witness_late_entry :
    (let b := placed 100 [⟨7, .neutral, 100, 200, none, false, false⟩] collecting
     b.role .p1 = .collecting ∧ SectionKind.neutral ≠ .systemChange) ∧
      (let b := placed 100 [⟨7, .neutral, 100, 200, none, false, false⟩] awake
       b.role .p1 ≠ .collecting ∧ b.role .p2 ≠ .collecting ∧ b.role .p3 ≠ .collecting ∧ b.role .p4 ≠ .collecting) ∧
      (⟨7, .systemChange, 100, 200, some .dc3, false, false⟩ : Entry).kind = .systemChange := by decide +kernel

theorem witness_reversal :
    (let b := inPhase .armed (placed 100 [] awake)
     Protects reqP b ∧ b.queue.position ≤ 100 ∧ b.queue.lastDirection = some .forward ∧
       Direction.reverse ≠ .standstill ∧ Direction.forward ≠ .standstill ∧ Direction.reverse ≠ .forward ∧
       b.seq.phase ≠ .idle ∧ b.seq.phase ≠ .halted) ∧
      (inPhase .halted (placed 100 [] awake)).seq.phase = .halted ∧ (inPhase .armed awake).seq.phase = .armed ∧
      (inPhase .coast awake).seq.phase = .coast :=
  ⟨⟨protectsP (by decide), by decide +kernel⟩, rfl, rfl, rfl⟩

def activeRoute (ph : Phase) (served : Bool) : Block :=
  let b := inPhase ph (placed 100 [⟨7, .neutral, 500, 200, none, true, served⟩] awake)
  { b with seq := { b.seq with activeEntry := some 7, path := some .neutral } }

/-- A marker one metre ahead is WAITING; one at the position is late; the queue of 7.10 is full. -/
theorem witness_announce :
    (Protects reqP (placed 100 [] awake) ∧ Resting (placed 100 [] awake)) ∧
      ([(101, SectionKind.neutral), (100, .neutral), (50, .iceWatch)].map fun x =>
          firstUnmet (markerConditions ⟨1, x.2, x.1, 100, none⟩ (placed 100 [] awake))) = [none, none, none] ∧
      ((placed 100 [] awake).queue.position < 101 ∧ 100 ≤ (placed 100 [] awake).queue.position) ∧
      (firstUnmet (markerConditions ⟨418, .neutral, 200036000, 300, none⟩ (placed 200000000 fullRoute awake)) = none ∧
        farthestFor ⟨418, .neutral, 200036000, 300, none⟩ (placed 200000000 fullRoute awake) = some 417) :=
  ⟨⟨protectsP (by decide), restingOf (by decide +kernel)⟩, by decide +kernel⟩

/-- For each row of R118 a marker that it refuses. -/
theorem witness_announce_refused :
    [((⟨1, .neutral, 101, 0, none⟩ : Marker), placed 100 [] awake),
        (⟨7, .neutral, 600, 100, none⟩, activeRoute .armed false),
        (⟨1, .neutral, 0, 100, none⟩, placed 100 [] awake),
        (⟨1, .neutral, 100, 100, none⟩, inMode .workshop (placed 100 [] awake)),
        (⟨1, .neutral, 600, 100, none⟩, activeRoute .armed false),
        (⟨1, .neutral, 100, 100, none⟩, inPhase .coast (placed 100 [] awake)),
        (⟨419, .neutral, 200045000, 300, none⟩, placed 200000000 fullRoute awake)].map
          (fun x => firstUnmet (markerConditions x.1 x.2)) =
      [some .outOfRange, some .markerLocked, some .staleMarker, some .staleMarker, some .overlap, some .overlap,
        some .queueFull] := by decide +kernel

theorem queueLawOf {q : Queue}
    (h : q.entries.length ≤ 8 ∧ (q.entries.Pairwise fun x y => x.start ≤ y.start) ∧
      (q.entries.Pairwise fun x y => x.id ≠ y.id) ∧
      (q.entries.Pairwise fun x y =>
        x.kind ≠ .iceWatch → y.kind ≠ .iceWatch → overlap x.start x.stop y.start y.stop = false) ∧
      q.entries.Pairwise fun x y => ¬(x.active = true ∧ y.active = true)) : QueueLaw q :=
  ⟨h.1, h.2.1, h.2.2.1, h.2.2.2.1, h.2.2.2.2⟩

/-- An ICE_WATCH that starts with the section 302 stands after it. -/
def watchAt302 : Marker := ⟨9, .iceWatch, 120405500, 400, none⟩

theorem witness_announce_in_order :
    (let b := placed 120390000 route awake
     Protects reqP b ∧ Resting b ∧ QueueLaw b.queue ∧ firstUnmet (markerConditions watchAt302 b) = none ∧
       watchAt302.kind = .iceWatch) ∧
      (let b := placed 200000000 fullRoute awake
       Protects reqP b ∧ Resting b ∧ QueueLaw b.queue ∧
         firstUnmet (markerConditions ⟨418, .neutral, 200036000, 300, none⟩ b) = none ∧
         b.queue.position < 200036000) := by
  refine ⟨⟨protectsP (by decide), restingOf ?_, queueLawOf ?_, ?_⟩, protectsP (by decide), restingOf ?_, queueLawOf ?_,
    ?_⟩ <;> decide +kernel

/-- R119: after every entry of equal start. -/
theorem test_equal_starts :
    (after (.announceMarker reqP watchAt302) (placed 120390000 route awake)).queue.entries.map Entry.id =
      [301, 302, 9, 303] := by decide +kernel

theorem witness_withdraw :
    (Protects reqP (placed 200000000 fullRoute awake) ∧ QueueLaw (placed 200000000 fullRoute awake).queue ∧
        (∀ e ∈ (placed 200000000 fullRoute awake).queue.entries, e.id ≠ 9) ∧
        ⟨413, .lowerZone, 200015000, 300, none, false, false⟩ ∈ (placed 200000000 fullRoute awake).queue.entries) ∧
      (∀ ph ∈ [Phase.armed, .tractionOff, .breakerOpen, .lowering, .coast, .probe, .confirm, .masterReady, .close],
        Protects reqP (activeRoute ph false) ∧ QueueLaw (activeRoute ph false).queue ∧
        (∃ e ∈ (activeRoute ph false).queue.entries, e.id = 7 ∧ e.active = true ∧ e.served = false) ∧
        (activeRoute ph false).seq.activeEntry = some 7 ∧ (activeRoute ph false).seq.phase = ph) ∧
      (∃ e ∈ (activeRoute .idle true).queue.entries, e.id = 7 ∧ e.served = true) := by
  refine ⟨⟨protectsP (by decide), queueLawOf (by decide +kernel), by decide +kernel, by decide +kernel⟩, ?_,
    by decide +kernel⟩
  intro ph _
  exact ⟨protectsP (by cases ph <;> decide), queueLawOf (by cases ph <;> decide +kernel),
    by cases ph <;> decide +kernel, by cases ph <;> decide +kernel, by cases ph <;> decide +kernel⟩

/-- 7 ACTIVE and not served with no path that serves it: in IDLE, in HALTED, and in a path of another cause. -/
theorem witness_withdraw_unserved :
    ∀ b ∈ [activeRoute .idle false, activeRoute .halted false,
        { activeRoute .coast false with seq := { (activeRoute .coast false).seq with activeEntry := none } }],
      Protects reqP b ∧ QueueLaw b.queue ∧ (∃ e ∈ b.queue.entries, e.id = 7 ∧ e.active = true ∧ e.served = false) ∧
        (b.seq.phase = .idle ∨ b.seq.phase = .halted ∨ b.seq.activeEntry ≠ some 7) := by
  intro b hb
  simp only [List.mem_cons, List.not_mem_nil, or_false] at hb
  obtain rfl | rfl | rfl := hb <;>
    exact ⟨protectsP (by decide), queueLawOf (by decide +kernel), by decide +kernel, by decide +kernel⟩

theorem witness_queue_law :
    QueueLaw (st (placed 200000000 fullRoute awake)).block.queue ∧
      ∃ t, step ⟨[.withdrawMarker reqP 413], placed 200000000 fullRoute awake⟩ = .next t :=
  ⟨queueLawOf (by decide +kernel), _, rfl⟩

theorem witness_select :
    (Leads reqA running ∧ running.cond.mode = .service ∧ running.cond.standbyLowering = false ∧
        running.seq.phase = .idle ∧ running.plan.hold = false ∧ earthOpen running = true ∧
        selectMet running .ac25 = true ∧ selectMet running .dc3 = false ∧ breakerEngaged running = true) ∧
      (Leads reqA (inPhase .halted awake) ∧ (inPhase .halted awake).seq.phase = .halted) ∧
      (Leads reqA (inPhase .coast awake) ∧ (inPhase .coast awake).seq.phase ≠ .idle ∧
        (inPhase .coast awake).seq.phase ≠ .halted) :=
  ⟨⟨leadsA (by decide), by decide +kernel⟩, ⟨leadsA (by decide), rfl⟩, ⟨leadsA (by decide), by decide +kernel⟩⟩

/-- R130: each condition not met alone, and all of them together, where the mode comes first. -/
theorem witness_select_refused :
    ([inMode .standby running, inPhase .coast running, held running, earthed running,
        inMode .standby (inPhase .coast (held (earthed running)))].map fun b =>
      (firstUnmet (selectConditions b), decide (b.plan.lead = some .a ∧ b.cond.mode ≠ .dormant))) =
      [(some .wrongMode, true), (some .changeoverActive, true), (some .emergencyHold, true), (some .interlock, true),
        (some .wrongMode, true)] := by decide +kernel

/-- R141, R148: a halt of the restart alone waits for the adoption with its traction-off request. -/
theorem test_halt_withdraws_the_request :
    ∀ r ∈ [HaltReason.add, .restart],
      (seqStep { inPhase .halted restarted with
        seq := { (inPhase .halted restarted).seq with haltReason := some r }
        record := { restarted.record with tractionOff := true } }).record.tractionOff = (r == .restart) := by
  decide +kernel

theorem witness_halt_left :
    (inPhase .halted awake).seq.phase = .halted ∧
      ∃ t, step ⟨[.clearHalt reqA], inPhase .halted awake⟩ = .next t ∧ t.block.seq.phase ≠ .halted :=
  ⟨rfl, _, rfl, by decide +kernel⟩

/-- The last byte of a frame that carries a Clear Halt. -/
theorem witness_halt_left_by_a_byte :
    let bytes : List Byte := [0x01, 0x08, 0x2A, 0x00]
    let byte := crc8 bytes
    let b := framed bytes (inPhase .halted awake)
    (b.links.get .a).frame = some bytes ∧ judgeFrame (bytes ++ [byte]) = .valid 0x08 42 [] ∧
      (after (.frameOpened .a byte) b).seq.phase = .idle := by
  decide +kernel

theorem witness_waits :
    (inPhase .tractionOff awake).seq.phase = .tractionOff ∧ (inPhase .confirm awake).seq.phase = .confirm ∧
      (inPhase .masterReady awake).seq.phase = .masterReady ∧ awake.seq.phase ≠ .tractionOff ∧
      awake.seq.phase ≠ .confirm := by decide +kernel

def onPath (k : Path) (w : Work) (ph : Phase) (c : Panto) (b : Block) : Block :=
  { b with seq := { b.seq with phase := ph, path := some k, work := w, candidate := some c } }

/-- R132: a window that meets the check, and an entry 150 m ahead or 151 m. -/
theorem witness_traction_off :
    ((inPhase .tractionOff running).seq.phase = .tractionOff ∧ anyResult.tractionOff = true ∧
        (∀ sys, ¬WrongLine sys (inPhase .tractionOff running))) ∧
      (let e : Entry := ⟨7, .neutral, 250, 200, none, true, false⟩
       let b := { placed 100 [e] running with seq := { (inPhase .tractionOff running).seq with activeEntry := some 7 } }
       e ∈ b.queue.entries ∧ some e.id = b.seq.activeEntry ∧ e.active = true ∧ e.start ≤ b.queue.position + 150 ∧
         b.queue.position + 150 < 251) :=
  ⟨⟨rfl, rfl, fun sys h => by cases h.confirmed⟩, by decide +kernel⟩

/-- R133, R134. -/
theorem witness_breaker_open_and_lowering :
    (∀ k ∈ [Path.sectionChange, .zone, .neutral, .substitute],
      let b := onPath k .none .breakerOpen .p1 collecting
      b.seq.phase = .breakerOpen ∧ b.cond.restart = none ∧ b.sw.breaker.isOpen = true ∧ b.seq.path = some k) ∧
      (breakerAt .failed collecting).sw.breaker.state = .failed ∧ (breakerAt .opening collecting).sw.breaker.isOpen = false ∧
      (breakerAt .opening collecting).sw.breaker.state ≠ .failed ∧ (inPhase .lowering awake).seq.phase = .lowering ∧
      (Panto.all.all fun p => decide ((awake.lc p).state ∈ [.stowed, .dropped, .outOfService])) = true ∧
      (collecting.lc .p1).state ∈ [.raising, .contact, .searching, .lowering] := by decide +kernel

/-- R133: P1 is up; a SELECT of AC15 it serves, one of DC3 it does not; an IDENTIFY by head class. -/
theorem witness_selected_paths :
    (∀ x ∈ [((some .ac15 : Option LineSystem), (none : Option Head), true), (some .dc3, none, false),
        (none, some .ac, true), (none, some .dc, false)],
      let b := onPath .select .none .breakerOpen .p1 collecting
      let c := { b with seq := { b.seq with expected := x.1, expectedHead := x.2.1 } }
      c.seq.phase = .breakerOpen ∧ c.cond.restart = none ∧ c.sw.breaker.isOpen = true ∧
        (c.lc .p1).state ∈ [.raising, .contact] ∧ (Wanted .p1 c ↔ x.2.2 = true) ∧
        ∀ p, p ≠ .p1 → (c.lc p).state ∉ [.raising, .contact]) ∧
      ((inPhase .lowering restarted).seq.phase = .lowering ∧
        (inPhase .lowering restarted).cond.restart.isSome = true) := by
  refine ⟨fun x hx => ?_, by decide +kernel⟩
  have others : ∀ p, p ≠ .p1 → ((collecting.lc p).state ∉ [.raising, .contact]) := everyP (by decide +kernel)
  simp only [List.mem_cons, List.not_mem_nil, or_false] at hx
  obtain rfl | rfl | rfl | rfl := hx
  · exact ⟨rfl, rfl, by decide +kernel, by decide +kernel,
      ⟨fun _ => rfl, fun _ => ⟨fun sys (e : some LineSystem.ac15 = some sys) => by cases e; decide +kernel,
        fun e => by cases e⟩⟩, others⟩
  · exact ⟨rfl, rfl, by decide +kernel, by decide +kernel,
      ⟨fun h => absurd (h.1 .dc3 rfl) (by decide +kernel), fun e => by cases e⟩, others⟩
  · exact ⟨rfl, rfl, by decide +kernel, by decide +kernel,
      ⟨fun _ => rfl, fun _ => ⟨(fun sys e => by cases e), fun _ => by decide +kernel⟩⟩, others⟩
  · exact ⟨rfl, rfl, by decide +kernel, by decide +kernel,
      ⟨fun h => absurd (h.2 rfl) (by decide +kernel), fun e => by cases e⟩, others⟩

/-- R135: P1 is the candidate; its class is the selector's. -/
theorem witness_switch_work :
    (let b := onPath .neutral .switches .coast .p1
       { awake with sw := { awake.sw with selector := collecting.sw.selector } }
     b.seq.phase = .coast ∧ b.seq.candidate = some .p1 ∧ b.seq.work = .switches ∧
       (∀ x, x ≠ .p1 → (b.sw.iso.get x).isOpen = true) ∧ b.sw.selector.state = (selFor (b.head .p1)).atRest ∧
       b.role .p1 = .none ∧ (∀ x, b.role x ≠ .collecting) ∧ b.plan.hold = false ∧ (b.sw.iso.get .p1).isOpen = true ∧
       b.sw.breaker.isOpen = true) ∧
      (let b := onPath .neutral .switches .coast .p2 collecting
       b.role .p2 ≠ .collecting ∧ b.role .p1 = .collecting ∧ (b.sw.iso.get .p1).isOpen = false) :=
  ⟨⟨rfl, rfl, rfl, everyP (by decide +kernel), by decide +kernel, by decide +kernel, everyP (by decide +kernel),
    by decide +kernel⟩, by decide +kernel⟩

/-- R135: the passed mark as the entry stands; Clearance is 150. -/
theorem witness_coast_is_left :
    (∀ k ∈ [Path.sectionChange, .neutral, .zone, .select, .identify, .substitute],
      let b := onPath k .ready .coast .p1 awake
      b.seq.phase = .coast ∧ b.seq.work = .ready ∧ b.seq.path = some k ∧ b.seq.retry = false ∧ b.seq.expected = none) ∧
      (let e : Entry := ⟨7, .neutral, 100, 200, none, true, false⟩
       let b := fun n => { onPath .zone .ready .coast .p1 (placed n [e] awake) with
         seq := { (onPath .zone .ready .coast .p1 awake).seq with activeEntry := some 7 } }
       (fun b : Block => b.queue.entries.any fun e => some e.id == b.seq.activeEntry && e.active && wellPast b e)
           (b (300 + awake.nat .clearance)) = true ∧
         (fun b : Block => b.queue.entries.any fun e => some e.id == b.seq.activeEntry && e.active && wellPast b e)
           (b (299 + awake.nat .clearance)) = false) := by decide +kernel

/-- R136 to R138. -/
theorem witness_probe_and_confirm :
    (onPath .select .raising .probe .p1 collecting).seq.phase = .probe ∧
      (onPath .select .raising .probe .p1 collecting).seq.work = .raising ∧
      (onPath .select .raising .probe .p1 collecting).seq.candidate = some .p1 ∧
      (collecting.lc .p1).state = .contact ∧ ((stands .p1 .raising collecting).lc .p1).state = .raising ∧
      ((heldRaise .dwell).lc .p1).held ≠ .none ∧ ((heldRaise .dwell).lc .p1).state ∈ [.stowed, .lowering] ∧
      ((stands .p1 .dropped collecting).lc .p1).state ∈ [.searching, .dropped, .outOfService] ∧
      (awake.lc .p1).held = .none ∧ (awake.lc .p1).state ∈ [.stowed, .lowering] ∧
      (let b := measuring (some (.sys .ac15)) (onPath .select .none .confirm .p1 collecting)
       b.seq.phase = .confirm ∧ b.seq.candidate = some .p1 ∧ b.line.confirmed = some (.sys .ac15) ∧
         { b.seq with expected := some .ac15 }.expected = some .ac15 ∧ b.seq.expected ≠ some .ac15 ∧
         serves (b.head .p1) .ac15 = true ∧ serves (b.head .p1) .dc3 = false ∧ b.seq.retry = false ∧
         (measuring (some .dead) b).line.confirmed = some .dead) := by decide +kernel

/-- R139, R140: both masters ready, none present, and one not ready. -/
theorem witness_master_ready_and_close :
    (let b := inPhase .masterReady collecting
     b.seq.phase = .masterReady ∧ b.links.a.present = true ∧ ReadyNow b ∧ b.sw.breaker.isOpen = true ∧
       closeConditions b = true ∧ b.plan.hold = false ∧ b.cond.mode = .service ∧ b.cond.standbyLowering = false ∧
       b.record.determined = some .ac25) ∧
      (PendingLaw (inPhase .masterReady collecting) ∧ ScraperLaw (inPhase .masterReady collecting)) ∧
      (let b := { inPhase .masterReady collecting with links := .const { presentLink with present := false } }
       b.links.a.present = false ∧ b.links.b.present = false) ∧
      (ReadyNow (held (inPhase .masterReady collecting)) ∧ (held collecting).sw.breaker.state ≠ .closed) ∧
      ¬ReadyNow (inPhase .masterReady awake) ∧
      (let b := onLink .a (fun r => { r with present := false }) (inPhase .masterReady collecting)
       Speaks reqB b ∧ ∀ l, (masterOf l).isSome = true → l ≠ .b → (b.links.get l).present = false) ∧
      (inPhase .close running).seq.phase = .close ∧ (inPhase .close running).sw.breaker.state = .closed ∧
      (breakerAt .closing collecting).sw.breaker.state = .closing ∧
      (breakerAt .opened collecting).sw.breaker.state ∈ [.opened, .opening, .failed] ∧
      (let b := inPhase .close (after (.closeBreaker reqA) collecting)
       b.sw.breaker.state = .closing ∧ b.sw.breaker.lastCmd = .closed ∧
         (⟨false, true⟩ : TwoPattern).shows .closed = true ∧ closeConditions b = true) := by
  have ready : ∀ b : Block, b.plan.readyA = some ⟨.ac25, 0⟩ → b.plan.readyB = some ⟨.ac25, 0⟩ →
      b.record.determined = some .ac25 → b.record.serial = 0 → ReadyNow b := by
    intro b ha hb hd hs l m hl _
    refine ⟨⟨.ac25, 0⟩, ?_, hd, hs.symm⟩
    cases l <;> cases hl <;> assumption
  refine ⟨⟨rfl, rfl, ready _ rfl rfl rfl rfl, by decide +kernel⟩,
    ⟨noLowerPends fun p => by cases p <;> decide +kernel, fun _ p => by cases p <;> decide +kernel⟩,
    by decide +kernel, ⟨ready _ rfl rfl rfl rfl, by decide +kernel⟩, ?_, ⟨speaksB (by decide), ?_⟩, by decide +kernel⟩
  · intro h
    obtain ⟨r, hr, _⟩ := h .a .a rfl rfl
    cases hr
  · intro l h1 h2
    cases l
    · rfl
    · exact absurd rfl h2
    · cases h1

theorem leadLawOf {b : Block} (h : b.plan.lead = some .a ∧ b.links.a.present = true) : LeadLaw b := by
  intro l _ h2
  rw [h.1] at h2
  cases l
  · exact h.2
  · cases h2
  · cases h2

theorem witness_breaker :
    (∀ x ∈ [TwoState.opened, .closed, .closing, .opening, .failed],
        Speaks reqB (breakerAt x collecting) ∧ Leads reqA (breakerAt x collecting) ∧
        LeadLaw (breakerAt x collecting) ∧ (breakerAt x collecting).seq.phase = .idle ∧
        (breakerAt x collecting).plan.hold = false ∧ (breakerAt x collecting).cond.mode = .service ∧
        (breakerAt x collecting).cond.standbyLowering = false ∧ (breakerAt x collecting).sw.breaker.state = x) ∧
      (collecting.sw.breaker.isOpen = true ∧ closeConditions collecting = true ∧ readinessMet collecting = true) ∧
      (awake.sw.breaker.isOpen = true ∧ (closeConditions awake && readinessMet awake) = false) ∧
      (Leads reqA (inMode .workshop collecting) ∧ (inMode .workshop collecting).cond.mode = .workshop) := by
  refine ⟨?_, by decide +kernel, by decide +kernel, ⟨leadsA (by decide), rfl⟩⟩
  intro x _
  exact ⟨speaksB (by cases x <;> decide), leadsA (by cases x <;> decide), leadLawOf (by cases x <;> decide +kernel),
    by cases x <;> decide +kernel⟩

/-- A line found DEAD over 40 windows, which the earthing switch needs. -/
def dead (n : Nat) : Block :=
  let b := inMode .workshop awake
  { b with line := { b.line with runClass := some .dead, runLength := n } }

theorem witness_switch_commands :
    (let b := inMode .workshop collecting
     Leads reqA b ∧ b.seq.phase = .idle ∧ b.cond.mode = .workshop ∧ b.sw.selector.state ≠ .moving ∧
       b.sw.selector.state ≠ .failed ∧ b.sw.selector.state ≠ SelPos.dc.atRest ∧ b.sw.breaker.isOpen = true ∧
       (b.sw.iso.get .p1).state = .closed ∧ isolatorInterlock b .p1 .opened = true ∧
       (b.sw.iso.get .p2).isOpen = true ∧ isolatorInterlock b .p2 .closed = false) ∧
      (Leads reqA (inMode .workshop running) ∧ running.sw.breaker.isOpen = false ∧
        isolatorInterlock (inMode .workshop running) .p1 .opened = false) ∧
      (Leads reqA (dead 40) ∧ (dead 40).sw.earth.isOpen = true ∧ earthInterlock (dead 40) .closed = true ∧
        earthInterlock (dead 39) .closed = false) ∧
      (Leads reqA (earthed (dead 40)) ∧ (earthed (dead 40)).sw.earth.state = .closed ∧
        earthInterlock (earthed (dead 40)) .opened = true) := by
  refine ⟨⟨leadsA (by decide), ?_⟩, ⟨leadsA (by decide), ?_⟩, ⟨leadsA (by decide), ?_⟩, ⟨leadsA (by decide), ?_⟩⟩ <;>
    decide +kernel

/-- A two-position switch in each state, its flag set or not. -/
def twoIn (x : TwoState) (flag : Bool) : TwoSw := { TwoSw.initial with state := x, disagree := flag }

/-- R99: with P1's isolator, the earthing switch, the breaker and the selector in the states that decide by themselves. -/
theorem witness_decided_by_state :
    (∀ w ∈ [twoIn .opened false, twoIn .opened true, twoIn .closed false, twoIn .closing false, twoIn .opening false,
        twoIn .failed false],
      let b := inMode .workshop ((awake.setIso .p1 w).setEarth w)
      Leads reqA b ∧ b.cond.mode = .workshop ∧ b.sw.iso.get .p1 = w ∧ b.sw.earth = w ∧
        Leads reqA (b.setBreaker w) ∧ (b.setBreaker w).seq.phase = .idle ∧ (b.setBreaker w).plan.hold = false ∧
        (b.setBreaker w).sw.breaker = w) ∧
      ((twoIn .opened true).state = TwoPos.opened.atRest ∧ (twoIn .closed false).state = TwoPos.closed.atRest ∧
        (twoIn .opened true).disagree = true) ∧
      (∀ x ∈ [SelState.mid, .moving, .failed],
        let b := inMode .workshop (awake.setSelector { awake.sw.selector with state := x })
        Leads reqA b ∧ b.sw.selector.state = x ∧ b.sw.selector.disagree = false) := by
  have inWorkshop : Mode.workshop ≠ .dormant := by decide
  exact ⟨fun w _ => ⟨leadsA ⟨inWorkshop, rfl⟩, rfl, rfl, rfl, leadsA ⟨inWorkshop, rfl⟩, rfl, rfl, rfl⟩,
    by decide +kernel, fun x _ => ⟨leadsA ⟨inWorkshop, rfl⟩, rfl, rfl⟩⟩

/-- A SELECT of AC25 with the roof down, ready to enter COAST; its candidate is P2. -/
def reachingCoast (ph : Phase) (k : Path) (f : Switches → Switches) : Block :=
  let b := onPath k .none ph .p2 awake
  { b with seq := { b.seq with expected := some .ac25 }, sw := f b.sw }

def selectorIn (x : SelState) (w : Switches) : Switches := { w with selector := { w.selector with state := x } }

def isolatorIn (p : Panto) (x : TwoState) (w : Switches) : Switches :=
  { w with iso := w.iso.set p { TwoSw.initial with state := x } }

theorem reachesCoastOf {b : Block}
    (h : b.seq.phase = .lowering ∧ b.cond.restart = none ∧ (b.lc .p1).state = .stowed ∧ (b.lc .p2).state = .stowed ∧
      (b.lc .p3).state = .stowed ∧ (b.lc .p4).state = .stowed) : ReachesCoast b := by
  refine .inl ⟨h.1, h.2.1, fun p => ?_⟩
  rw [everyP (q := fun p => (b.lc p).state = .stowed) h.2.2 p]
  decide

/-- R135: the commands of steps 1 and 2 are taken, and for each switch that refuses there is one that is. -/
theorem witness_switch_work_starts :
    (∀ f ∈ [id, selectorIn .failed, selectorIn .moving, isolatorIn .p1 .failed, isolatorIn .p1 .closing],
      ReachesCoast (reachingCoast .lowering .select f) ∧ HasSwitchWork (reachingCoast .lowering .select f) ∧
        chooseCandidate (reachingCoast .lowering .select f) = some .p2) ∧
      ¬RefusesWork .p2 (reachingCoast .lowering .select id) ∧
      ¬RefusesWork .p2 (reachingCoast .lowering .select (isolatorIn .p1 .closed)) ∧
      RefusesWork .p2 (reachingCoast .lowering .select (selectorIn .failed)) ∧
      RefusesWork .p2 (reachingCoast .lowering .select (isolatorIn .p1 .failed)) := by
  have refuses : ∀ f : Switches → Switches,
      (∀ x, x ≠ .p2 → (((reachingCoast .lowering .select f).sw.iso.get x).state = .opened ∨
        ((reachingCoast .lowering .select f).sw.iso.get x).state = .closed)) →
      ((reachingCoast .lowering .select f).sw.selector.state ∉ [.moving, .failed]) →
      (reachingCoast .lowering .select f).sw.breaker.isOpen = true →
      ¬RefusesWork .p2 (reachingCoast .lowering .select f) := by
    rintro f hi hs hb (⟨x, hx, h | h⟩ | h | h)
    · obtain e | e := hi x hx <;> rw [e] at h <;> exact absurd h (by decide)
    · rw [hb] at h
      exact absurd h.2 (by decide)
    · exact hs h
    · rw [hb] at h
      exact absurd h.2 (by decide)
  refine ⟨fun f hf => ?_, refuses _ (everyP ?_) ?_ ?_, refuses _ (everyP ?_) ?_ ?_, .inr (.inl ?_),
    .inl ⟨.p1, by decide, .inl ?_⟩⟩
  · simp only [List.mem_cons, List.not_mem_nil, or_false] at hf
    obtain rfl | rfl | rfl | rfl | rfl := hf <;>
      exact ⟨reachesCoastOf (by decide +kernel), by unfold HasSwitchWork; decide +kernel, by decide +kernel⟩
  all_goals decide +kernel

/-- R135, step 4: the others stand OPEN and the selector at the candidate's class; its own isolator has FAILED, differs, or is
OPEN with the breaker not OPEN. -/
theorem witness_step_4_refused :
    ∀ w ∈ [{ TwoSw.initial with state := .failed }, { TwoSw.initial with state := .opened, disagree := true },
        { TwoSw.initial with state := .closing }],
      let b := onPath .select .switches .coast .p1
        { awake with sw := { awake.sw with selector := collecting.sw.selector, iso := awake.sw.iso.set .p1 w } }
      b.seq.phase = .coast ∧ b.seq.candidate = some .p1 ∧ b.seq.work = .switches ∧
        ((b.sw.iso.get .p2).isOpen = true ∧ (b.sw.iso.get .p3).isOpen = true ∧ (b.sw.iso.get .p4).isOpen = true) ∧
        b.sw.selector.state = (selFor (b.head .p1)).atRest ∧
        (b.role .p1 = .none ∧ (Panto.all.all fun x => b.role x != .collecting) = true ∧ b.plan.hold = false) ∧
        b.sw.iso.get .p1 = w := by
  decide +kernel

/-- R135: switch work under way in COAST and in PROBE, with an isolator and the selector as given. -/
def working (ph : Phase) (w : Work) (f : Switches → Switches) : Block :=
  let b := onPath .select w ph .p2 awake
  { b with sw := f b.sw }

theorem witness_switch_work_fails :
    ∀ ph ∈ [Phase.coast, .probe], ∀ w ∈ [Work.switches, .isolator, .ready],
      (let b := working ph w (isolatorIn .p1 .opening)
       (b.seq.phase = .coast ∨ b.seq.phase = .probe) ∧ b.seq.candidate = some .p2 ∧
         b.seq.work ∈ [.switches, .isolator, .ready] ∧ HasSwitchWork b ∧ (b.sw.iso.get .p1).state.travelling = true ∧
         (⟨true, true⟩ : TwoPattern).shows (b.sw.iso.get .p1).lastCmd = false) ∧
      (let b := working ph w (selectorIn .moving)
       HasSwitchWork b ∧ b.sw.selector.state = .moving ∧ (⟨true, false, true⟩ : SelPattern).several = true) ∧
      (let b := working ph w (isolatorIn .p1 .closed)
       HasSwitchWork b ∧ (b.sw.iso.get .p1).state = .closed ∧ (⟨true, false⟩ : TwoPattern) ≠ ⟨false, true⟩) ∧
      (let b := working ph w (selectorIn .ac)
       HasSwitchWork b ∧ b.sw.selector.state = SelPos.ac.atRest ∧
         (⟨false, false, false⟩ : SelPattern).shows .ac = false) := by
  unfold HasSwitchWork
  decide +kernel

/-- R137: in CONFIRM, MASTER_READY and CLOSE with P1 the candidate, at a reading and, in WORKSHOP, on a Switch Command. -/
theorem witness_candidate_leaves_its_position :
    ∀ ph ∈ [Phase.confirm, .masterReady, .close],
      let b := inMode .workshop (onPath .select .none ph .p1 collecting)
      b.seq.phase ∈ [.confirm, .masterReady, .close] ∧ b.seq.candidate = some .p1 ∧
        (b.sw.iso.get .p1).state = .closed ∧ (⟨true, false⟩ : TwoPattern) ≠ ⟨false, true⟩ ∧
        b.sw.selector.state = (selFor (b.head .p1)).atRest ∧
        (⟨false, false, false⟩ : SelPattern).shows (selFor (b.head .p1)) = false ∧ SelPos.dc ≠ selFor (b.head .p1) ∧
        Leads reqA b ∧ b.cond.mode = .workshop ∧ b.sw.breaker.isOpen = true := by
  intro ph h
  simp only [List.mem_cons, List.not_mem_nil, or_false] at h
  obtain rfl | rfl | rfl := h <;>
    exact ⟨by decide, rfl, by decide +kernel, by decide, by decide +kernel, by decide +kernel, by decide +kernel,
      leadsA (by decide +kernel), rfl, by decide +kernel⟩

def failedBreaker (settled : TwoPattern) : Block :=
  let b := inMode .workshop (breakerAt .failed awake)
  { b with sw := { b.sw with breaker := { b.sw.breaker with settled := settled } } }

def failedSelector (settled : SelPattern) : Block :=
  let b := inMode .workshop awake
  { b with sw := { b.sw with selector := { b.sw.selector with state := .failed, settled := settled } } }

theorem witness_clear_switch_fault :
    (Leads reqA (failedBreaker ⟨true, false⟩) ∧ (failedBreaker ⟨true, false⟩).sw.breaker.state = .failed ∧
        (failedBreaker ⟨true, false⟩).sw.breaker.settled.shows .opened = true ∧
        (failedBreaker ⟨true, true⟩).sw.breaker.settled.shows .opened = false ∧
        (inMode .workshop awake).sw.breaker.state ≠ .failed) ∧
      (Leads reqA (failedSelector ⟨false, false, true⟩) ∧
        (failedSelector ⟨false, false, true⟩).sw.selector.state = .failed ∧
        (failedSelector ⟨false, false, true⟩).sw.selector.settled.position = some .dc ∧
        (failedSelector ⟨true, false, true⟩).sw.selector.settled.position = none) := by
  refine ⟨⟨leadsA (by decide), ?_⟩, ⟨leadsA (by decide), ?_⟩⟩ <;> decide +kernel

def failedIso (r : Role) (settled : TwoPattern) : Block :=
  let b := inMode .standby (setRole .p1 r .internal awake)
  { b with sw := { b.sw with iso := b.sw.iso.set .p1 { TwoSw.initial with state := .failed, settled := settled } } }

def failedEarth (settled : TwoPattern) : Block :=
  let b := inMode .standby awake
  { b with sw := { b.sw with earth := { b.sw.earth with state := .failed, settled := settled } } }

theorem witness_clear_isolator_and_earth :
    (∀ x ∈ [(⟨true, false⟩ : TwoPattern), ⟨false, true⟩, ⟨false, false⟩, ⟨true, true⟩], ∀ r ∈ [Role.none, .scraping, .calibrating],
        Leads reqA (failedIso r x) ∧ (failedIso r x).seq.phase = .idle ∧ (failedIso r x).cond.mode = .standby ∧
        ((failedIso r x).sw.iso.get .p1).state = .failed ∧ ((failedIso r x).sw.iso.get .p1).settled = x ∧
        (failedIso r x).role .p1 = r ∧ (failedEarth x).sw.earth.state = .failed ∧
        (failedEarth x).sw.earth.settled = x) ∧
      (⟨true, false⟩ : TwoPattern) = ⟨TwoPos.opened == .opened, TwoPos.opened == .closed⟩ ∧
      (⟨false, true⟩ : TwoPattern) = ⟨TwoPos.closed == .opened, TwoPos.closed == .closed⟩ ∧
      (⟨false, false⟩ : TwoPattern).consistent = false ∧ (⟨true, true⟩ : TwoPattern).consistent = false ∧
      (Leads reqA awake ∧ awake.cond.mode = .service) ∧ Leads reqA (inMode .waking awake) :=
  ⟨fun x _ r hr => ⟨leadsA ⟨by cases r <;> exact fun e => Mode.noConfusion e, by cases r <;> rfl⟩, by cases r <;> rfl, by cases r <;> rfl, by cases r <;> rfl,
      by cases r <;> rfl, by cases r <;> rfl, rfl, rfl⟩,
    by decide, by decide, by decide, by decide, ⟨leadsA (by decide), rfl⟩, leadsA (by decide)⟩

def opening : Block :=
  lifted .p1 (fun l => { l with lowerPending := true }) (after (.openBreaker reqB) running)

theorem witness_settled :
    (opening.seq.phase = .idle ∧ opening.cond.mode ≠ .waking ∧ opening.cond.restart = none ∧ opening.cond.standbyLowering = false ∧
        opening.sw.breaker.state = .opening ∧ opening.sw.breaker.lastCmd = .opened ∧
        (⟨true, false⟩ : TwoPattern).shows .opened = true ∧ (opening.lc .p1).state = .contact ∧
        (opening.lc .p1).lowerPending = true ∧ opening.sw.breaker.state.travelling = true) ∧
      (let b := after (.closeBreaker reqA) collecting
       b.seq.phase = .idle ∧ b.sw.breaker.state = .closing ∧ b.sw.breaker.lastCmd = .closed ∧
         (⟨false, true⟩ : TwoPattern).shows .closed = true ∧ closeConditions b = true) ∧
      (running.sw.breaker.state = .closed ∧ running.seq.phase = .idle) := by decide +kernel

/-- R102: an open taken in CLOSING interrupts the close, and the expiry that came with it decides nothing; one taken in
CLOSED does not. -/
theorem witness_interrupted_close :
    let b := after (.openBreaker reqB) (after (.closeBreaker reqA) collecting)
    Interrupted b.sw.breaker ∧ b.sw.breaker.state.travelling = true ∧ b.seq.phase = .idle ∧
      b.cond.mode ≠ .waking ∧ b.cond.standbyLowering = false ∧ ¬Interrupted opening.sw.breaker := by
  unfold Interrupted
  decide +kernel

/-- R102: after the open no expiry of the close follows. -/
theorem test_timeout_of_an_interrupted_close :
    let b := after (.switchOperationTimeout .breaker) (after (.openBreaker reqB) (after (.closeBreaker reqA) collecting))
    b.sw.breaker.state = .opening ∧ faultCount .switchFailed b = 0 := by decide +kernel

theorem witness_settled_of_the_others :
    (let b := after (.switchCommandSelector reqA .dc) (inMode .workshop awake)
     b.seq.phase = .idle ∧ b.cond.mode ≠ .waking ∧ b.cond.standbyLowering = false ∧ b.sw.selector.state = .moving ∧
       (⟨false, false, true⟩ : SelPattern).shows b.sw.selector.lastCmd = true) ∧
      (let b := after (.switchCommandIsolator reqA .p1 .opened) (inMode .workshop collecting)
       (b.sw.iso.get .p1).state.travelling = true ∧ (⟨true, false⟩ : TwoPattern).shows (b.sw.iso.get .p1).lastCmd = true) ∧
      (let b := after (.switchCommandEarth reqA .closed) (dead 40)
       b.sw.earth.state.travelling = true ∧ (⟨false, true⟩ : TwoPattern).shows b.sw.earth.lastCmd = true) := by
  decide +kernel

/-- A switch of which a reading decides: in travel, at rest and FAILED, with readings that agree, differ and show two
positions. -/
theorem witness_readings :
    (∀ x ∈ [TwoState.opened, .closing, .closed, .opening, .failed], ∀ r ∈ [(⟨true, false⟩ : TwoPattern), ⟨true, true⟩],
      let b := { awake with sw := { awake.sw with
        iso := awake.sw.iso.set .p1 { TwoSw.initial with state := x, settled := r }
        earth := { awake.sw.earth with state := x, settled := r } } }
      b.seq.phase = .idle ∧ b.cond.mode ≠ .waking ∧ b.cond.standbyLowering = false ∧
        (b.sw.iso.get .p1).state = x ∧ (b.sw.iso.get .p1).settled = r ∧ (b.sw.iso.get .p1).lastCmd = .opened ∧
        b.sw.earth.state = x ∧ b.sw.earth.lastCmd = .opened) ∧
      (⟨true, false⟩ : TwoPattern).shows .opened = true ∧ (⟨false, false⟩ : TwoPattern).shows .opened = false ∧
      (⟨false, false⟩ : TwoPattern) ≠ ⟨true, true⟩ ∧
      (opening.sw.breaker.state ≠ .closing ∧ opening.sw.breaker.state = .opening ∧
        opening.sw.breaker.lastCmd = .opened) ∧
      (running.sw.breaker.state = .closed ∧ (⟨true, true⟩ : TwoPattern) ≠ ⟨false, true⟩ ∧
        (⟨true, true⟩ : TwoPattern) ≠ ⟨true, false⟩) ∧
      (let b := after (.switchCommandSelector reqA .dc) (inMode .workshop awake)
       b.sw.selector.state = .moving ∧ (⟨false, false, false⟩ : SelPattern).shows b.sw.selector.lastCmd = false ∧
         (⟨false, false, false⟩ : SelPattern).several = false ∧ (⟨true, false, true⟩ : SelPattern).several = true) ∧
      (collecting.sw.selector.state = SelPos.ac.atRest ∧ (⟨false, false, false⟩ : SelPattern).shows .ac = false) := by
  decide +kernel

theorem witness_breaker_guard :
    BreakerLaw (st running).block ∧ (∃ t, step ⟨[.closeBreaker reqA], collecting⟩ = .next t ∧
      collecting.sw.breaker.state ≠ .closing ∧ t.block.sw.breaker.state = .closing) :=
  ⟨fun _ => ⟨by decide +kernel, .p1, by decide +kernel, by intro x; cases x <;> decide +kernel, by decide +kernel,
      by decide +kernel, by decide +kernel, .ac25, by decide +kernel, by decide +kernel⟩,
    _, rfl, by decide +kernel, by decide +kernel⟩

theorem witness_roof_laws :
    (IsolatorLaw (st scraped).block ∧ ScraperLaw (st scraped).block ∧ ∃ t, step ⟨[.clearFaults reqA], scraped⟩ = .next t) ∧
      (EarthLaw (st (earthed (dead 40))).block ∧ ∃ t, step ⟨[.clearFaults reqA], earthed (dead 40)⟩ = .next t) ∧
      ((opening.lc .p1).lowerPending = true ∧ PendingLaw (st opening).block ∧
        ∃ t, step ⟨[.clearFaults reqA], opening⟩ = .next t) :=
  ⟨⟨by intro p; cases p <;> decide +kernel, by intro h; exact absurd rfl h, _, rfl⟩,
    ⟨fun _ => ⟨by intro p; cases p <;> decide +kernel, by decide +kernel⟩, _, rfl⟩,
    by decide +kernel, fun _ p => by cases p <;> decide +kernel, _, rfl⟩

/-- P2 collects in CONTACT at END_2 on an ice level of 2, END_1 leading, so that P1 is the scraper candidate; MaxUp is
`n`. -/
def icy (n : Int) : Block :=
  let b := setRole .p2 .collecting .a (stands .p2 .contact awake)
  { b with
    ice := { b.ice with level := 2, enable := true }
    cal := .const ⟨{ CalFields.blank with status := .valid }, true⟩
    cond := { b.cond with cfg := cfgSet cfgDefaults .maxUp n } }

theorem wantsScraperOf {b : Block}
    (h : 2 ≤ b.ice.level ∧ b.ice.enable = true ∧ b.cond.mode = .service ∧ b.seq.phase = .idle ∧ b.plan.hold = false ∧
      collector b = some .p2 ∧ (b.lc .p2).state = .contact ∧ scraperCandidate b = some .p1 ∧
      (b.lc .p1).state = .stowed ∧ b.role .p1 = .none ∧ (b.cal.get .p1).fields.status = .valid ∧
      ((b.sensors.height.get .p1).validity = .good ∧ (b.sensors.actuator.get .p1).validity = .good ∧
        (b.sensors.strip.get .p1).validity = .good) ∧ (b.sw.iso.get .p1).isOpen = true ∧
      (b.sensors.reservoir = good 5800 ∧ b.cfg .twoUpAir ≤ 5800) ∧ b.ice.nearest = none ∧
      b.ice.lastLowering = none) : WantsScraper .p1 b where
  level := h.1
  enable := h.2.1
  mode := h.2.2.1
  phase := h.2.2.2.1
  hold := h.2.2.2.2.1
  collector := ⟨.p2, h.2.2.2.2.2.1, h.2.2.2.2.2.2.1⟩
  candidate := h.2.2.2.2.2.2.2.1
  stowed := h.2.2.2.2.2.2.2.2.1
  free := h.2.2.2.2.2.2.2.2.2.1
  entry := h.2.2.2.2.2.2.2.2.2.2.1
  channels := h.2.2.2.2.2.2.2.2.2.2.2.1
  isolator := h.2.2.2.2.2.2.2.2.2.2.2.2.1
  air := ⟨5800, by rw [h.2.2.2.2.2.2.2.2.2.2.2.2.2.1.1]; exact ⟨(fun e => by cases e), rfl⟩,
    h.2.2.2.2.2.2.2.2.2.2.2.2.2.1.2⟩
  ahead := fun d e => by rw [h.2.2.2.2.2.2.2.2.2.2.2.2.2.2.1] at e; cases e
  rested := fun d e => by rw [h.2.2.2.2.2.2.2.2.2.2.2.2.2.2.2] at e; cases e

/-- With MaxUp at 2 the request is granted, with 1 it is not, nor with the earthing switch not OPEN. -/
theorem witness_scraper_wanted :
    (∀ n ∈ [(1 : Int), 2], WantsScraper .p1 (icy n) ∧ (∀ x, (icy n).role x ≠ .scraping) ∧
        ((icy n).lc .p1).held = .none ∧ (∀ k, (icy n).cond.testStep ≠ .valves .p1 k) ∧
        (icy n).sw.earth.isOpen = true) ∧
      Panto.all.countP (fun x => x == .p1 || committed (icy 2) x) ≤ (icy 2).nat .maxUp ∧
      (icy 1).nat .maxUp < Panto.all.countP (fun x => x == .p1 || committed (icy 1) x) ∧
      ((icy 2).lc .p1).dwellTimer = none ∧ airSufficient (icy 2) = true ∧
      (lifted .p1 (fun l => { l with dwellTimer := some 0 }) (icy 2)).role .p1 = .none := by
  refine ⟨fun n hn => ?_, by decide +kernel⟩
  simp only [List.mem_cons, List.not_mem_nil, or_false] at hn
  obtain rfl | rfl := hn <;>
    exact ⟨wantsScraperOf (by decide +kernel), everyP (by decide +kernel), by decide +kernel, (fun k e => by cases e),
      by decide +kernel⟩

/-- With the scraper enable off no pantograph is wanted. -/
theorem witness_scraper_not_wanted :
    (∀ x, awake.role x ≠ .scraping) ∧ ∀ p, ¬WantsScraper p awake :=
  ⟨everyP (by decide +kernel), fun p h => absurd h.enable (by decide +kernel)⟩

/-- The same roof with P1 up as the scraper: at level 2 it stays, at level 1 it is lowered. -/
def scraping2 (level : Nat) : Block :=
  let b := setRole .p1 .scraping .internal (stands .p1 .contact (icy 2))
  { b with ice := { b.ice with level := level, scraper := some .p1 } }

theorem witness_scraper_lowered :
    (∀ n ∈ [(1 : Nat), 2], (scraping2 n).role .p1 = .scraping ∧ (∀ x, x ≠ .p1 → (scraping2 n).role x ≠ .scraping) ∧
        (scraping2 n).ice.scraper = some .p1 ∧ (scraping2 n).cond.restart = none ∧
        (∀ k, (scraping2 n).cond.testStep ≠ .valves .p1 k) ∧ ((scraping2 n).lc .p1).state.up = true) ∧
      LowersScraper .p1 (scraping2 1) ∧ ¬LowersScraper .p1 (scraping2 2) := by
  refine ⟨fun n hn => ?_, .inl (by decide +kernel), ?_⟩
  · simp only [List.mem_cons, List.not_mem_nil, or_false] at hn
    obtain rfl | rfl := hn <;>
      exact ⟨by decide +kernel, everyP (by decide +kernel), rfl, rfl, (fun k e => by cases e), by decide +kernel⟩
  · rintro (h | h | ⟨d, h, _⟩ | h | h | h | h | h | h | h | h)
    · exact absurd h (by decide +kernel)
    · cases h
    · cases h
    · exact absurd (h 5800 ⟨(fun e => by cases e), rfl⟩) (by decide +kernel)
    · exact absurd (h .p2 (by decide +kernel)) (by decide +kernel)
    all_goals exact absurd h (by decide +kernel)

/-- Set Ice Mode with the enable off lowers a scraper that is up, and one whose raise is held. -/
theorem witness_ice_mode_lowers :
    (Leads reqA (scraping2 2) ∧ Resting (scraping2 2) ∧ (scraping2 2).seq.phase = .idle ∧
        awakeMode (scraping2 2) = true) ∧
      (let b := lifted .p1 (fun l => { l with state := .stowed, held := .dwell }) (scraping2 2)
       Leads reqA b ∧ Resting b ∧ b.ice.scraper = some .p1 ∧ b.role .p1 = .scraping ∧
         (b.lc .p1).state = .stowed ∧ (b.lc .p1).held ≠ .none) :=
  ⟨⟨leadsA (by decide +kernel), restingOf (by decide +kernel), by decide +kernel⟩,
    leadsA (by decide +kernel), restingOf (by decide +kernel), by decide +kernel⟩

theorem witness_ice_mode :
    (Leads reqA awake ∧ awakeMode awake = true ∧ (3 : Nat) ≤ 3 ∧ (3 : Nat) < 4) ∧
      (Leads reqA (inMode .waking awake) ∧ (inMode .waking awake).cond.mode = .waking) ∧
      ({ scraped with ice := { scraped.ice with scraper := some .p1 } }).ice.scraper = some .p1 :=
  ⟨⟨leadsA (by decide), by decide +kernel⟩, ⟨leadsA (by decide), rfl⟩, rfl⟩

def capturing (x : CaptureState) : Block :=
  { collecting with ice := { collecting.ice with capture := .const ⟨x, 0, true⟩ } }

theorem witness_arcs :
    ((capturing .low).ice.capture.get .p1).state = .low ∧ ((capturing .heldHigh).ice.capture.get .p1).state ≠ .low ∧
      ((capturing .timing).ice.capture.get .p1).state = .timing ∧ (capturing .timing).nat .arcMin ≤ 100 ∧
      (65535 : Nat) ≤ 65535 ∧ ¬(((capturing .timing).ice.capture.get .p1).state = .timing ∧
        (capturing .timing).nat .arcMin ≤ 99) := by decide +kernel

/-- A search is held for P1, and a pulse is timed. -/
theorem witness_held_search :
    SearchLaw (capturing .timing) ∧ SearchLaw heldSearch ∧ (heldSearch.lc .p1).heldSearch = true := by
  refine ⟨noHeldSearch (by decide +kernel), fun p e => ?_, by decide +kernel⟩
  cases p
  · decide +kernel
  all_goals exact absurd e (by decide +kernel)

theorem witness_low_edge :
    ((capturing .waitLow).ice.capture.get .p1).state = .waitLow ∧
      ((capturing .timing).ice.capture.get .p1).state ≠ .waitLow := by decide +kernel

/-- R154, R155: P2 alone collects; the scores of 9.9 against the thresholds 4, 16 and 48; raw levels above, at and below
the hysteresis level. -/
theorem witness_ice_score :
    (iced.role .p2 = .collecting ∧ ∀ x, iced.role x = .collecting → x = .p2) ∧ (∀ x, awake.role x ≠ .collecting) ∧
      (scoreOf awake < awake.nat .iceT1 ∧ iced.nat .iceT1 ≤ scoreOf iced ∧ iced.nat .iceT2 ≤ scoreOf iced ∧
        scoreOf iced < iced.nat .iceT3) ∧
      (let t := evaluateScore true { iced with ice := { iced.ice with hysteresis := 1 } }
       (1 : Nat) < t.ice.raw) ∧
      (evaluateScore true iced).ice.raw = iced.ice.hysteresis ∧
      (let b := { iced with ice := { iced.ice with history := [], fallStart := some 150198992 } }
       let t := evaluateScore true b
       t.ice.raw < b.ice.hysteresis ∧ b.ice.fallStart = some 150198992 ∧
         150198992 + b.nat .iceDrop ≤ b.queue.position ∧ b.queue.position < 150198993 + b.nat .iceDrop) :=
  ⟨⟨by decide +kernel, everyP (by decide +kernel)⟩, everyP (by decide +kernel), by decide +kernel⟩

/-- P2 collects, P1 scrapes and P3 is named for pre-heat, on level 2. -/
def heated3 : Block :=
  let b := scraping2 2
  shareBudget { b with ice := { b.ice with preheat := some .p3 } }

theorem witness_shares :
    (ShareLaw heated3 ∧ OneCollector heated3 ∧ OneScraper heated3 ∧ ∃ t, step ⟨[.clearFaults reqA], heated3⟩ = .next t) ∧
      (claims .collecting heated3 .p2 = true ∧ preheats heated3 .p3 = true ∧ claims .scraping heated3 .p1 = true ∧
        claims .collecting heated3 .p4 = false ∧ preheats heated3 .p4 = false ∧ claims .scraping heated3 .p4 = false) ∧
      restarted.cond.restart.isSome = true :=
  ⟨⟨⟨fun _ => ⟨everyP (by decide +kernel), everyP (by decide +kernel), everyP (by decide +kernel), by
        intro p h1 h2 h3
        cases p
        · exact absurd h3 (by decide +kernel)
        · exact absurd h1 (by decide +kernel)
        · exact absurd h2 (by decide +kernel)
        · decide +kernel⟩, fun h => absurd h (by decide +kernel)⟩,
      (by intro p x; cases p <;> cases x <;> decide +kernel),
      (by intro p x; cases p <;> cases x <;> decide +kernel), _, rfl⟩,
    by decide +kernel, by decide +kernel⟩

def atLevel3 : Block := after (.setIceMode reqA 3 false) awake

/-- The level rises to 3, falls from it, and CurrentLimit is written while it is 3. -/
theorem witness_advisory :
    (awake.ice.level ≠ 3 ∧ atLevel3.ice.level = 3 ∧ (after (.setIceMode reqA 0 false) atLevel3).ice.level ≠ 3) ∧
      (let b := inMode .workshop atLevel3
       let t := after (.writeConfigurationItem reqA (some .currentLimit) 100) b
       b.ice.level = 3 ∧ t.ice.level = 3 ∧ t.cfg .currentLimit ≠ b.cfg .currentLimit) ∧
      (awake.cond.restart = none ∧ AdoptionLaw awake ∧ awake.sensors.ambient.validity ≠ .unknown) ∧
      ∃ t, step ⟨[.setIceMode reqA 3 false], awake⟩ = .next t :=
  ⟨by decide +kernel, by decide +kernel, ⟨rfl, fun _ => ⟨rfl, rfl⟩, by decide +kernel⟩, _, rfl⟩

/-- At level 3 an event that is no write, and a write of the value that stands. -/
theorem witness_advisory_stays :
    (AdoptionLaw atLevel3 ∧ atLevel3.ice.level = 3 ∧
        ∃ t, step ⟨[.clearFaults reqA], atLevel3⟩ = .next t ∧ t.block.ice.level = 3) ∧
      (let b := inMode .workshop atLevel3
       Leads reqA b ∧ b.cond.mode = .workshop ∧ b.ice.level = 3 ∧
         (after (.writeConfigurationItem reqA (some .currentLimit) (b.cfg .currentLimit)) b).ice.level = 3) :=
  ⟨⟨fun _ => ⟨by decide +kernel, by decide +kernel⟩, by decide +kernel, _, rfl, by decide +kernel⟩,
    leadsA (by decide +kernel), by decide +kernel⟩

theorem witness_ice_laws :
    HeaterLaw (st awake).block ∧ LevelLaw (st awake).block ∧ RunLaw (st awake).block.line ∧
      ∃ t, step ⟨[.setIceMode reqA 3 true], awake⟩ = .next t :=
  ⟨by unfold HeaterLaw; decide +kernel,
    ⟨by decide +kernel, by decide +kernel, fun v _ h1 h2 => by cases h1; exact absurd h2 (by decide +kernel)⟩,
    (by intro c h; cases h), _, rfl⟩

/-- The 319th slot stays in its window; the 320th closes it; ConfirmCount is 4. -/
theorem witness_windows :
    ({ awake with line := { awake.line with pairCount := 318 } }).line.pairCount + 1 < 320 ∧
      (let b := window 300 none awake
       let c := { b with line := { b.line with runClass := some (.sys .dc3), runLength := 3 } }
       let d := after (.samplePair (.pair 300 5)) c
       320 ≤ c.line.pairCount + 1 ∧ c.line.unmeasured = false ∧ c.line.runClass = d.line.runClass ∧
         c.nat .confirmCount ≤ d.line.runLength ∧ b.line.runClass ≠ (after (.samplePair (.pair 300 5)) b).line.runClass) ∧
      (let b := window 49 none awake
       (b.line.absVoltSum + 49) / 320 < b.nat .deadLevel) := by decide +kernel

/-- R88: a window of DC3 in the run of a confirmed DC3, in one of DC3 not confirmed, and after a run of DEAD. -/
theorem witness_runs :
    (let b := fun c n k => { window 300 none awake with
       line := { (window 300 none awake).line with runClass := some c, runLength := n, confirmed := k } }
     let t := fun c n k => (after (.samplePair (.pair 300 5)) (b c n k)).line
     ((b (.sys .dc3) 9 (some (.sys .dc3))).line.runClass = (t (.sys .dc3) 9 (some (.sys .dc3))).runClass ∧
         (b (.sys .dc3) 9 (some (.sys .dc3))).line.confirmed = some (.sys .dc3)) ∧
       ((t (.sys .dc3) 2 none).runLength < awake.nat .confirmCount ∧
         (b (.sys .dc3) 2 none).line.confirmed ≠ some (.sys .dc3)) ∧
       (b .dead 9 (some .dead)).line.runClass ≠ (t .dead 9 (some .dead)).runClass ∧ 2 ≤ awake.nat .confirmCount) ∧
      ((after (.windowClose .unmeasured) (window 300 none awake)).line.result.map WindowResult.cls = some .unknown) := by
  decide +kernel

/-- The other figures of 5.4: an unmeasured slot, and figures for each row of R86. -/
theorem witness_classes :
    ([(⟨0, 49, 0, 0, false, none⟩ : WindowFigures), ⟨0, 2251, 2497, 0, true, some 5000⟩,
        ⟨0, 2251, 3500, 0, true, some 5000⟩, ⟨0, 1352, 1499, 0, true, some 1667⟩, ⟨0, 2251, 2497, 0, true, some 4000⟩,
        ⟨300, 300, 300, 0, false, none⟩, ⟨180, 180, 180, 0, false, none⟩, ⟨4000, 4000, 4000, 0, false, none⟩,
        ⟨-300, 300, 300, 0, false, none⟩].map (classify cfgDefaults)) =
      [.dead, .sys .ac25, .unknown, .sys .ac15, .unknown, .sys .dc3, .sys .dc15, .unknown, .unknown] := by decide +kernel

theorem witness_crossing :
    (let l := { awake.line with armed := true, crossSeen := true, crossCount := 127 }
     l.armed = true ∧ (100 : Int) ≤ 100) ∧ ¬(awake.line.armed = true ∧ (100 : Int) ≤ 99) := by decide +kernel

/-- R91: P1 collects through its closed isolator on AC25, and AC15 is confirmed. -/
theorem witness_wrong_system :
    (∀ ph ∈ [Phase.idle, .armed, .tractionOff],
        let b := measuring (some (.sys .ac15)) (inPhase ph running)
        b.seq.phase = ph ∧ WrongLine .ac15 b ∧ OneCollector b ∧
        ∀ p, (b.lc p).state = .contact → (b.lc p).held = .none ∧ (b.lc p).heldSearch = false) ∧
      (running.role .p1 = .collecting ∧ (running.lc .p1).state = .contact ∧
        serves (running.head .p1) .ac15 = true) ∧ running.cond.faults.first = none ∧
      breakerEngaged running = true :=
  ⟨fun ph _ => ⟨rfl, ⟨rfl, ⟨.ac25, by cases ph <;> rfl, by decide⟩, .inl (by cases ph <;> decide +kernel)⟩,
      by intro p x; cases p <;> cases x <;> cases ph <;> decide +kernel,
      everyP (by cases ph <;> decide +kernel)⟩,
    by decide +kernel⟩

/-- R91: the slot that closes a fourth window of DC3 finds P1 collecting AC25, in each of the three phases; and one that
closes a window of no class leaves the phase. -/
theorem witness_closing_slot :
    (∀ ph ∈ [Phase.idle, .armed, .tractionOff],
      let s := inPhase ph { window 300 none running with
        line := { (window 300 none running).line with runClass := some (.sys .dc3), runLength := 3 } }
      let b := { s with line := (after (.windowClose (.pair 300 5)) s).line }
      320 ≤ s.line.pairCount + 1 ∧ b.seq.phase = ph ∧ WrongLine .dc3 b ∧ OneCollector b ∧ b.cond.mode ≠ .waking) ∧
      (let s := window 300 none running
       let b := { s with line := (after (.windowClose .unmeasured) s).line }
       (takeWindow anyResult b).seq.phase = .idle) :=
  ⟨fun ph _ => ⟨by cases ph <;> decide +kernel, rfl,
      ⟨by cases ph <;> decide +kernel, ⟨.ac25, by cases ph <;> rfl, by decide⟩, .inl (by cases ph <;> decide +kernel)⟩,
      by intro p x; cases p <;> cases x <;> cases ph <;> decide +kernel, by cases ph <;> decide +kernel⟩,
    by decide +kernel⟩

/-- R94, R95: DEAD for ConfirmCount and 60 windows, and not; the determined system confirmed with the request set. -/
theorem witness_lost_line :
    (∀ sys, ¬WrongLine sys (measuring (some .dead) running)) ∧
      (let b := measuring (some .dead) running
       let c := { b with line := { b.line with runLength := b.nat .confirmCount + 60 } }
       LosesLine c ∧ ¬LosesLine b ∧ b.record.tractionOff = false) ∧
      (let b := measuring (some (.sys .ac25)) running
       let c := { b with record := { b.record with tractionOff := true } }
       c.record.tractionOff = true ∧ (∃ sys, c.record.determined = some sys ∧ c.line.confirmed = some (.sys sys)) ∧
         ∀ sys, ¬WrongLine sys c) ∧
      (inPhase .probe running).seq.phase ∈ [.breakerOpen, .lowering, .coast, .probe, .masterReady, .close, .halted] :=
  ⟨fun sys h => absurd h.confirmed (by cases sys <;> decide +kernel),
    ⟨⟨rfl, by decide +kernel, by decide +kernel, by decide +kernel⟩, fun h => absurd h.length (by decide +kernel),
      by decide +kernel⟩,
    ⟨rfl, ⟨.ac25, by decide +kernel, rfl⟩, fun sys h => by
      obtain ⟨hc, ⟨d, hd, hne⟩, _⟩ := h
      cases hc
      cases hd
      exact hne rfl⟩,
    by decide⟩

theorem witness_reads :
    reqP.wellFormed = true ∧ (awake.links.get .p).present = true ∧ pantoOf 4 = some .p4 ∧ pantoOf 5 = none ∧
      (31 : Nat) ≤ 31 ∧ ¬(32 : Nat) ≤ 31 := by decide +kernel

theorem limitsLawOf {b : Block}
    (h : ((b.lc .p1).commanded ≤ b.nat .pmax ∧ (b.lc .p2).commanded ≤ b.nat .pmax ∧
        (b.lc .p3).commanded ≤ b.nat .pmax ∧ (b.lc .p4).commanded ≤ b.nat .pmax) ∧
      ((b.lc .p1).targetForce = some 60 ∧ (b.lc .p2).state ≠ .contact ∧ (b.lc .p3).state ≠ .contact ∧
        (b.lc .p4).state ≠ .contact) ∧
      ((forceItems b (b.head .p1)).least ≤ 60 ∧ 60 ≤ (forceItems b (b.head .p1)).most) ∧
      ((forceItems b .ac).least ≤ (forceItems b .ac).most ∧ (forceItems b .dc).least ≤ (forceItems b .dc).most) ∧
      b.cond.reloadPending = false ∧ b.cond.newMaxUp = none) : LimitsLaw b where
  pressure := everyP h.1
  force := fun _ p e => by
    cases p
    · exact ⟨60, h.2.1.1, h.2.2.1⟩
    · exact absurd e h.2.1.2.1
    · exact absurd e h.2.1.2.2.1
    · exact absurd e h.2.1.2.2.2
  ordered := fun x => by cases x; exacts [h.2.2.2.1.1, h.2.2.2.1.2]
  adoption := fun _ => h.2.2.2.2

theorem witness_limits :
    let b := lifted .p1 (fun l => { l with targetForce := some 60 }) running
    ConfigLaw b ∧ LimitsLaw b ∧ ∃ t, step ⟨[.scanComplete (scan 1500)], b⟩ = .next t :=
  ⟨⟨defaults_in_range, by intro v h; cases h⟩, limitsLawOf (by decide +kernel), _, rfl⟩

theorem witness_attention :
    (∃ t, step ⟨[.setOutOfService reqA .p4], awake⟩ = .next t ∧
        (digestFields awake)[2]? ≠ (digestFields t.block)[2]?) ∧
      ((onLink .b (fun r => { r with mask := 0x8000 }) awake).links.get .b).mask.getLsbD 15 = true ∧ (15 : Nat) < 16 :=
  ⟨⟨_, rfl, by decide +kernel⟩, by decide +kernel, by decide⟩

theorem witness_epoch :
    awake.cond.restart = none ∧
      (∃ t, step ⟨[.setOutOfService reqA .p4], awake⟩ = .next t ∧ principal awake ≠ principal t.block) ∧
      ∃ t, step ⟨[.clearFaults reqA], awake⟩ = .next t ∧ principal awake = principal t.block :=
  ⟨rfl, ⟨_, rfl, by decide +kernel⟩, _, rfl, by decide +kernel⟩

end Sys2Proof.Tests
end

section
/-!
The lead at the Roof Plan: Claim Lead (R1), Release Lead (R2) and the requests reserved to the lead holder (R4).
-/

namespace Sys2Proof.Machine

/-! ## The examination of a traction master's request (R4, R181) -/

theorem traction_of_master {l : Link} (h : (masterOf l).isSome = true) : Link.traction l = true := by
  cases l
  case a | b => rfl
  case p => cases h

theorem speaker_master {q : Req} {b : Block} (h : Speaks q b) : ∃ m, masterOf q.link = some m :=
  Option.isSome_iff_exists.mp h.master

/-- A request that either master may make is refused on Link P by check 2 of R181. -/
theorem examine_masters_on_p {q : Req} (h : q.link = .p) (b : Block) : examine q .masters b = some .wrongLink := by
  simp [examine, Gate.masters, Allowed.permits, h, Link.traction]

/-- A request that either master may make is refused in DORMANT by check 4 of R181. -/
theorem examine_masters_dormant {q : Req} {b : Block} (hw : q.wellFormed = true)
    (hm : (masterOf q.link).isSome = true) (hd : b.cond.mode = .dormant) : examine q .masters b = some .wrongMode := by
  simp [examine, Gate.masters, Allowed.permits, traction_of_master hm, hw, hd]

/-- What either master may ask is its owner's to decide. -/
theorem answer_masters {q : Req} {owner : Block → Answer} {b : Block} (h : Speaks q b) :
    answer q .masters owner b = owner (refresh q.link b) := by
  simp only [answer, examine_masters h]

theorem holdsLead_iff {b : Block} {l : Link} {m : Master} (h : masterOf l = some m) :
    holdsLead b l = true ↔ b.plan.lead = some m := by
  rw [eq_comm (a := b.plan.lead)]
  simp [holdsLead, h]

/-- A request reserved to the lead is refused by the lead check of R4 while its master does not hold the lead. -/
theorem examine_leader_not_holder {q : Req} {b : Block} (h : Speaks q b) (hn : masterOf q.link ≠ b.plan.lead) :
    examine q .leader (refresh q.link b) = some .notLead := by
  simp [examine, Gate.leader, Allowed.permits, traction_of_master h.master, h.wellFormed, h.awake, leadCheck, holdsLead,
    hn]

/-! ## A change of the lead -/

/-- A change of the lead alone, the links aside, advances the epoch once (R19). -/
theorem close_of_newLead {s x : Block} {m : Option Master} (hne : s.plan.lead ≠ m)
    (hx : x = { s with plan := { s.plan with lead := m }, links := x.links }) :
    close s x = { s with
      plan := { s.plan with lead := m, epoch := wrapSucc s.plan.epoch }
      links := (close s x).links } := by
  have hstart : reference s x = principal s := by
    rw [hx]
    unfold reference
    dsimp only
    cases s.cond.restart <;> rfl
  have hlead : principal s ≠ principal x := fun h => by
    rw [hx] at h
    exact hne (congrArg Principal.lead h)
  simp only [close, advanceEpoch, hstart, if_neg hlead, markChanges, markAll]
  rw [hx]

/-- A request whose owner changes the lead, and nothing else: the lead is the new one, the epoch has advanced, and the
reply is pushed. -/
theorem request_of_newLead {q : Req} {code : Nat} {g : Gate} {owner : Block → Answer} {s : State} {m : Option Master}
    {o : ReplyOutcome} {d : ReplyData} (hne : s.block.plan.lead ≠ m)
    (h : answer q g owner s.block = ⟨setLead m (refresh q.link s.block), o, d, .own⟩) :
    ∃ t, request q code g owner s = .next t ∧
      t.block = { s.block with
        plan := { s.block.plan with lead := m, epoch := wrapSucc s.block.plan.epoch }
        links := t.block.links } ∧
      Answered s t q.link ⟨code, q.tag, o, d⟩ := by
  refine ⟨_, rfl, ?_, ?_⟩
  · simp only [h, finish]
    exact close_of_newLead hne rfl
  · have hreply := request_replies q code g owner s (by rw [h]; rfl) q.link
    simp only [h] at hreply
    simpa [Answered, h] using hreply

/-! ## Claim Lead (R1) -/

theorem claimLead_of_free {l : Link} {b : Block} {m : Master} (hm : masterOf l = some m) (hl : b.plan.lead = none) :
    claimLead l b = claimed m b := by
  simp only [claimLead, hm, hl]

theorem claimLead_of_holder {l : Link} {b : Block} {m : Master} (hm : masterOf l = some m)
    (hl : b.plan.lead = some m) : claimLead l b = ⟨b, .done, .epoch b.plan.epoch, .own⟩ := by
  simp only [claimLead, hm, hl, if_true]

theorem claimLead_of_other {l : Link} {b : Block} {m holder : Master} (hm : masterOf l = some m)
    (hl : b.plan.lead = some holder) (hne : holder ≠ m) : claimLead l b = refuse .leadHeld b := by
  simp only [claimLead, hm, hl, if_neg hne]

theorem execClaimLead_of_free {q : Req} {s : State} {m : Master} (hs : Speaks q s.block) (hm : masterOf q.link = some m)
    (hl : s.block.plan.lead = none) :
    ∃ t, execClaimLead q s = .next t ∧
      t.block = { s.block with
        plan := { s.block.plan with lead := some m, epoch := wrapSucc s.block.plan.epoch }
        links := t.block.links } ∧
      Answered s t q.link ⟨0x01, q.tag, .done, .epoch (wrapSucc s.block.plan.epoch)⟩ :=
  request_of_newLead (by simp [hl]) ((answer_masters hs).trans (claimLead_of_free hm hl))

theorem execClaimLead_of_holder {q : Req} {s : State} {m : Master} (hs : Speaks q s.block)
    (hm : masterOf q.link = some m) (hl : s.block.plan.lead = some m) :
    ∃ t, execClaimLead q s = .next t ∧ OnlyLinks s t ∧
      Answered s t q.link ⟨0x01, q.tag, .done, .epoch s.block.plan.epoch⟩ :=
  own_request ((answer_masters hs).trans (claimLead_of_holder hm hl))

theorem execClaimLead_of_other {q : Req} {s : State} {m holder : Master} (hs : Speaks q s.block)
    (hm : masterOf q.link = some m) (hl : s.block.plan.lead = some holder) (hne : holder ≠ m) :
    ∃ t, execClaimLead q s = .next t ∧ OnlyLinks s t ∧
      Answered s t q.link (plainReply 0x01 q (.refused .leadHeld)) :=
  own_request ((answer_masters hs).trans (claimLead_of_other hm hl hne))

/-! ## Release Lead (R2) -/

theorem releaseLead_of_holder {l : Link} {b : Block} (h : holdsLead b l = true) :
    releaseLead l b = ownEffect .done (setLead none b) := if_pos h

theorem releaseLead_of_other {l : Link} {b : Block} (h : ¬holdsLead b l = true) :
    releaseLead l b = refuse .notLead b := if_neg h

theorem execReleaseLead_of_holder {q : Req} {s : State} {m : Master} (hs : Speaks q s.block)
    (hm : masterOf q.link = some m) (hl : s.block.plan.lead = some m) :
    ∃ t, execReleaseLead q s = .next t ∧
      t.block = { s.block with
        plan := { s.block.plan with lead := none, epoch := wrapSucc s.block.plan.epoch }
        links := t.block.links } ∧
      Answered s t q.link (plainReply 0x02 q .done) :=
  request_of_newLead (by simp [hl]) ((answer_masters hs).trans (releaseLead_of_holder ((holdsLead_iff hm).mpr hl)))

theorem execReleaseLead_of_other {q : Req} {s : State} {m : Master} (hs : Speaks q s.block)
    (hm : masterOf q.link = some m) (hl : s.block.plan.lead ≠ some m) :
    ∃ t, execReleaseLead q s = .next t ∧ OnlyLinks s t ∧
      Answered s t q.link (plainReply 0x02 q (.refused .notLead)) :=
  own_request ((answer_masters hs).trans (releaseLead_of_other (mt (holdsLead_iff hm).mp hl)))

/-! ## Requests reserved to the lead holder (R4) -/

/-- A request of the catalogue's column LEAD runs behind the gate of the lead holder. -/
theorem exec_of_lead_column {c : Instr} {q : Req} {code : Nat} {payload : List Nat} {row : CatalogueRow}
    (hr : requestOf c = some (q, code, payload)) (hc : catalogue c = some row) (hl : row.column = .lead) (s : State) :
    ∃ owner, exec c s = request q code .leader owner s := by
  cases c
  case enterMode | raise | raiseAuto | selectSystem | clearHalt | closeBreaker | setIceMode | startTouchSearch
      | clearDrop | setOutOfService | returnToService | switchCommandBreakerOpen | switchCommandBreakerClose
      | switchCommandSelector | switchCommandIsolator | switchCommandEarth | clearSwitchFault | clearFaults
      | writeConfigurationItem | storeConfiguration | restart =>
    cases hr
    exact ⟨_, rfl⟩
  all_goals cases hc <;> cases hl

/-- From a master that does not hold the lead, a request reserved to it is refused (R4). -/
theorem reserved_refused {c : Instr} {q : Req} {code : Nat} {payload : List Nat} {row : CatalogueRow} {s : State}
    (hr : requestOf c = some (q, code, payload)) (hc : catalogue c = some row) (hl : row.column = .lead)
    (hs : Speaks q s.block) (hn : masterOf q.link ≠ s.block.plan.lead) :
    ∃ t, exec c s = .next t ∧ OnlyLinks s t ∧ Answered s t q.link (plainReply code q (.refused .notLead)) := by
  obtain ⟨owner, hexec⟩ := exec_of_lead_column hr hc hl s
  rw [hexec]
  exact refused_request (examine_leader_not_holder hs hn)

/-! ## The statements -/

/-- Settles O13, by what the holder is when the claim comes. -/
theorem claimLeadIsDecided : Obligations.ClaimLeadIsDecided := by
  unfold Obligations.ClaimLeadIsDecided
  refine fun q s => ⟨fun m hs hm => ?_, fun hw hm hd => ?_, fun hp => ?_⟩
  · cases hl : s.block.plan.lead with
    | none =>
      obtain ⟨t, hexec, hblock, hreply⟩ := execClaimLead_of_free hs hm hl
      have hepoch : t.block.plan.epoch = wrapSucc s.block.plan.epoch := by rw [hblock]
      exact ⟨t, hexec, fun _ => ⟨hblock, by rwa [hepoch]⟩, nofun, nofun⟩
    | some holder =>
      by_cases hh : holder = m
      · subst hh
        obtain ⟨t, hexec, hsame⟩ := execClaimLead_of_holder hs hm hl
        exact ⟨t, hexec, nofun, fun _ => hsame, fun _ ho hne => absurd (Option.some.inj ho).symm hne⟩
      · obtain ⟨t, hexec, hrefused⟩ := execClaimLead_of_other hs hm hl hh
        exact ⟨t, hexec, nofun, fun ho => absurd (Option.some.inj ho) hh, fun _ _ _ => hrefused⟩
  · exact refused_request (examine_masters_dormant hw hm hd)
  · exact refused_request (examine_masters_on_p hp _)

/-- Settles O14: Release Lead by whether the requester holds the lead, and the reserved requests by the lead check. -/
theorem releaseLeadIsDecided : Obligations.ReleaseLeadIsDecided := by
  unfold Obligations.ReleaseLeadIsDecided
  refine ⟨fun q s hs => ?_, fun c q code payload row s hr hc hl hs hfree => ?_⟩
  · obtain ⟨m, hm⟩ := speaker_master hs
    rw [hm]
    by_cases hl : s.block.plan.lead = some m
    · obtain ⟨t, hexec, hfreed⟩ := execReleaseLead_of_holder hs hm hl
      exact ⟨t, hexec, fun _ => hfreed, fun hne => absurd hl.symm hne⟩
    · obtain ⟨t, hexec, hrefused⟩ := execReleaseLead_of_other hs hm hl
      exact ⟨t, hexec, fun he => absurd he.symm hl, fun _ => hrefused⟩
  · have hn : masterOf q.link ≠ s.block.plan.lead := by
      obtain ⟨m, hm⟩ := speaker_master hs
      simp [hm, hfree]
    exact reserved_refused hr hc hl hs hn

end Sys2Proof.Machine
end

section
/-!
The arithmetic of the force law: the aerodynamic term (R50) and the pressure increment (R54).
-/

namespace Sys2Proof.Machine

/-! ## The aerodynamic term (R50) -/

theorem aeroProduct_le {ka ka' v v' : Nat} (hk : ka ≤ ka') (hv : v ≤ v') : ka * v * v ≤ ka' * v' * v' :=
  Nat.mul_le_mul (Nat.mul_le_mul hk hv) hv

theorem aeroTerm_le {ka ka' v v' : Nat} (hk : ka ≤ ka') (hv : v ≤ v') : aeroTerm ka v ≤ aeroTerm ka' v' :=
  Nat.div_le_div_right (aeroProduct_le hk hv)

/-- At standstill the term is 0 for every head class. -/
@[simp] theorem aeroTerm_standstill (ka : Nat) : aeroTerm ka 0 = 0 := by simp [aeroTerm]

/-- The raw force of R53 with its aerodynamic term: the role enters the ice and the scraper term alone. -/
theorem rawForce_eq (b : Block) (p : Panto) :
    rawForce b p =
      (forceItems b (b.head p)).base + aeroTerm (forceItems b (b.head p)).aero b.queue.speed +
        iceTerm (b.role p) b.ice.level (b.nat .kice) + scraperTerm (b.role p) (b.nat .scrapeExtra) :=
  rfl

/-! ## The pressure increment (R54) -/

theorem pressureIncrement_le {f f' g g' : Nat} (hf : f ≤ f') (hg : g ≤ g') :
    pressureIncrement f g ≤ pressureIncrement f' g' :=
  Nat.div_le_div_right (Nat.add_le_add_right (Nat.mul_le_mul hf hg) 8)

/-- The addition of 8 rounds half up: a remainder of 8 to 15 carries, one of 0 to 7 is discarded. -/
theorem sixteenths_round_half_up (k : Nat) {r : Nat} (hr : r < 16) :
    (k * 16 + r + 8) / 16 = if 8 ≤ r then k + 1 else k := by
  split
  case isTrue hcarry => omega
  case isFalse hdrop => omega

/-- The increment by the quotient and the remainder of the product of target force and gain. -/
theorem pressureIncrement_of_product {f g k r : Nat} (hprod : f * g = k * 16 + r) (hr : r < 16) :
    pressureIncrement f g = if 8 ≤ r then k + 1 else k := by
  rw [pressureIncrement, hprod, sixteenths_round_half_up k hr]

/-! ## The statement -/

/-- Settles O27. Both ranges are the values at the ends of the operands' ranges, the terms being monotone, and the two
worked increments are the rounding at remainder 0 and at remainder 8. -/
theorem forceLawArithmetic : Obligations.ForceLawArithmetic := by
  unfold Obligations.ForceLawArithmetic
  have formula : ∀ ka v, aeroTerm ka v = ka * v * v / 100000 := fun _ _ => rfl
  have bounds : ∀ ka v, ka ≤ 255 → v ≤ 400 → ka * v * v ≤ 40800000 ∧ aeroTerm ka v ≤ 408 :=
    fun _ _ hk hv => ⟨aeroProduct_le hk hv, aeroTerm_le hk hv⟩
  have exact_multiple : pressureIncrement 70 40 = 175 :=
    pressureIncrement_of_product (k := 175) (r := 0) rfl (by decide)
  have half_carried : pressureIncrement 187 40 = 468 :=
    pressureIncrement_of_product (k := 467) (r := 8) rfl (by decide)
  have range : ∀ f g, 20 ≤ f → f ≤ 400 → 1 ≤ g → g ≤ 255 →
      1 ≤ pressureIncrement f g ∧ pressureIncrement f g ≤ 6375 :=
    fun _ _ hf hf' hg hg' => ⟨pressureIncrement_le hf hg, pressureIncrement_le hf' hg'⟩
  exact ⟨formula, bounds, aeroTerm_standstill, rfl, rfl, rawForce_eq, fun _ _ => rfl,
    fun k _ => sixteenths_round_half_up k, exact_multiple, half_carried, range, fun _ _ => rfl⟩

end Sys2Proof.Machine
end

section
/-!
The Ice Unit at a reset (R153): power-on starts it from its initial record, warm restart from what `Ice.atRestart`
keeps of it, and no other part of either reset writes to it.
-/

namespace Sys2Proof.Machine

/-! ## What the parts of a reset leave of the Ice Unit -/

@[simp] theorem ice_eachPanto (f : Panto → Block → Block) (h : ∀ p b, (f p b).ice = b.ice) (b : Block) :
    (eachPanto f b).ice = b.ice := by
  simp [eachPanto, h]

@[simp] theorem ice_failureIf (failed : Bool) (sw : SwId) (b : Block) : (failureIf failed sw b).ice = b.ice := by
  cases failed <;> rfl

@[simp] theorem ice_switchesAtPowerOn (c : Contacts) (b : Block) : (switchesAtPowerOn c b).ice = b.ice := by
  simp [switchesAtPowerOn]

@[simp] theorem ice_switchesAtRestart (c : Contacts) (b : Block) : (switchesAtRestart c b).ice = b.ice := by
  simp [switchesAtRestart]

@[simp] theorem ice_openBreaker (x : Source) (b : Block) : (openBreaker x b).ice = b.ice := by
  unfold openBreaker
  split <;> rfl

@[simp] theorem ice_guardBreaker (b : Block) : (guardBreaker b).ice = b.ice := by
  unfold guardBreaker
  split
  case isTrue unfit => exact ice_openBreaker _ b
  case isFalse fit => rfl

@[simp] theorem ice_loadConfig (b : Block) : (loadConfig b).ice = b.ice := by
  unfold loadConfig
  split <;> rfl

@[simp] theorem ice_loadEntries (b : Block) : (loadEntries b).ice = b.ice := rfl

@[simp] theorem ice_clampCommanded (b : Block) : (clampCommanded b).ice = b.ice :=
  ice_eachPanto _ (fun _ _ => rfl) b

@[simp] theorem ice_ventAll (b : Block) : (ventAll b).ice = b.ice := rfl

@[simp] theorem ice_reload (b : Block) : (reload b).ice = b.ice := by
  simp only [reload, apply_ite Block.ice, ice_clampCommanded, ice_ventAll, ite_self, ice_loadEntries, ice_loadConfig]

@[simp] theorem ice_reloadIfIdle (b : Block) : (reloadIfIdle b).ice = b.ice := by
  unfold reloadIfIdle
  split
  case isTrue idle => exact ice_reload b
  case isFalse waits => rfl

@[simp] theorem ice_restartBlocks (c : Contacts) (b : Block) : (restartBlocks c b).ice = b.ice.atRestart := by
  simp [restartBlocks, setTest]

/-! ## The Ice Unit after a reset -/

theorem powerOn_ice (c : Contacts) (m : MemImage) : (powerOn c m).ice = Ice.initial := by
  simp [powerOn, enterWaking, Block.initial]

theorem warmRestart_ice (c : Contacts) (b : Block) : (warmRestart c b).ice = b.ice.atRestart := by
  simp [warmRestart]

/-- Every capture unit waits for a low level, and no arc is recorded (R153). -/
structure Ice.NoArcs (i : Ice) : Prop where
  capture : ∀ p, i.capture.get p = ⟨.waitLow, 0, false⟩
  history : i.history = []
  arcCount : i.arcCount = 0

theorem Ice.noArcs_initial : Ice.initial.NoArcs := ⟨PerP.get_const Capture.initial, rfl, rfl⟩

theorem Ice.noArcs_atRestart (i : Ice) : i.atRestart.NoArcs := ⟨Ice.noArcs_initial.capture, rfl, rfl⟩

theorem execPowerOn_noArcs (c : Contacts) (m : MemImage) (s : State) :
    ∃ t, execPowerOn c m s = .next t ∧ t.block.ice.NoArcs :=
  ⟨_, rfl, (powerOn_ice c m).symm ▸ Ice.noArcs_initial⟩

theorem execWarmRestart_noArcs (c : Contacts) (s : State) :
    ∃ t, execWarmRestart c s = .next t ∧ t.block.ice.NoArcs :=
  ⟨_, rfl, (warmRestart_ice c s.block).symm ▸ Ice.noArcs_atRestart s.block.ice⟩

/-! ## The statement -/

/-- Settles O38, by the two resets: the record either gives the Ice Unit holds no arc. -/
theorem resetsEmptyTheArcHistory : Obligations.ResetsEmptyTheArcHistory := by
  unfold Obligations.ResetsEmptyTheArcHistory
  rintro contacts mem s c (rfl | rfl)
  case inl =>
    obtain ⟨t, hexec, harcs⟩ := execPowerOn_noArcs contacts mem s
    exact ⟨t, hexec, harcs.capture, harcs.history, harcs.arcCount⟩
  case inr =>
    obtain ⟨t, hexec, harcs⟩ := execWarmRestart_noArcs contacts s
    exact ⟨t, hexec, harcs.capture, harcs.history, harcs.arcCount⟩

end Sys2Proof.Machine
end

section
/-!
The courses a command can take: a request decided by its owner, a read, an event that the blocks answer, an event that
concerns its own block alone; and what follows of it for the commands that wait.
-/

namespace Sys2Proof.Machine

/-! ## The owner of each request -/

/-- What the owner of a request decides. -/
def ownerOf : Instr → Option (Block → Answer)
  | .claimLead q => some (claimLead q.link)
  | .releaseLead q => some (releaseLead q.link)
  | .enterMode _ m => some (enterMode m)
  | .wake _ => some wake
  | .raise q p => some (raisePanto q.link p)
  | .raiseAuto q => some (raiseAutoOf q.link)
  | .lower _ n => some (lowerNamed n)
  | .selectSystem _ x => some (selectSystem x)
  | .clearHalt _ => some clearHaltOf
  | .declareReady q x n => some (declareReady q.link x n)
  | .openBreaker q => some (openOf q.link)
  | .closeBreaker q => some (closeOf q.link)
  | .setIceMode _ n e => some (setIceMode n e)
  | .startTouchSearch q p => some (startTouchSearch q.link p)
  | .clearDrop _ p => some (clearDropOf p)
  | .setOutOfService _ p => some (outOfServiceOf p)
  | .returnToService _ p => some (returnOf p)
  | .switchCommandBreakerOpen q => some (commandBreakerOpen q.link)
  | .switchCommandBreakerClose q => some (inWorkshop (closeFromPhase q.link))
  | .switchCommandSelector q pos => some (inWorkshop fun b =>
      answerUnless (b.sw.selector.examine pos) (watched (moveSelector pos (sourceOf q.link))) b)
  | .switchCommandIsolator q p pos => some (inWorkshop fun b =>
      answerUnless ((b.sw.iso.get p).examine pos) (watched (moveIsolator p pos (sourceOf q.link))) b)
  | .switchCommandEarth q pos => some (inWorkshop fun b =>
      answerUnless (b.sw.earth.examine pos) (moveEarth pos (sourceOf q.link)) b)
  | .clearSwitchFault q w => some (clearSwitchFault q.link w)
  | .clearFaults _ => some clearFaultsOf
  | .writeConfigurationItem _ i v => some (writeConfigurationItem i v)
  | .storeConfiguration _ => some storeConfiguration
  | .restart _ => some (ownEffect .accepted)
  | .motionReport _ x v d => some (motionReport x v d)
  | .announceMarker _ m => some (announceMarker m)
  | .withdrawMarker _ n => some fun b => answerUnless (if holdsId b n then none else some .done) (withdraw n) b
  | .emergencyLower _ => some fun b => effect .accepted (emergencyLower b)
  | .releaseHold _ => some releaseHold
  | _ => none

/-- The contents of a read other than the digest's. -/
def viewOf : Instr → Option View
  | .readRoofPlan _ => some fun b => .ok (.roofPlan (roofPlanView b))
  | .readPantographStatus _ n => some (pantoRead n fun p b => .panto (pantoView p b))
  | .readSwitches _ => some fun b => .ok (.switches (switchesView b))
  | .readLineRecord _ => some fun b => .ok (.line (lineView b))
  | .readSectionQueue _ => some fun b => .ok (.sections b.queue)
  | .readIce _ => some fun b => .ok (.ice (iceView b))
  | .readArcHistory _ n => some (arcsView n)
  | .readCalibration _ n => some (pantoRead n calibrationView)
  | .readFaultRecord _ => some fun b => .ok (.faults b.cond.faults)
  | .readSelfTest _ => some fun b => .ok (.selfTest b.cond.selfTest b.cond.mode b.cond.modeTimer b.cond.returnMode)
  | .readLinkCounters _ => some fun b => .ok (.counters (countersView b))
  | .readConfigurationItem _ i => some (itemView i)
  | _ => none

/-- The gate of a row of the catalogue. -/
def CatalogueRow.gate (r : CatalogueRow) : Gate := ⟨r.links, r.dormant, r.column⟩

/-- How a request of the catalogue is taken. -/
inductive Taken (c : Instr) (q : Req) (code : Nat) (row : CatalogueRow) : Prop where
  | owned (owner : Block → Answer) (own : ownerOf c = some owner)
      (runs : ∀ s, exec c s = request q code row.gate owner s)
  | view (v : View) (reads : viewOf c = some v) (gate : row.gate = .read) (runs : ∀ s, exec c s = Machine.read q code v s)
  | digest (gate : row.gate = .read) (which : c = .readStatusDigest q) (number : code = 0x40)

theorem taken_of_catalogue {c : Instr} {q : Req} {code : Nat} {payload : List Nat} {row : CatalogueRow}
    (hr : requestOf c = some (q, code, payload)) (hc : catalogue c = some row) : Taken c q code row := by
  cases c
  case readStatusDigest =>
    cases hr; cases hc
    exact .digest rfl rfl rfl
  case readRoofPlan | readPantographStatus | readSwitches | readLineRecord | readSectionQueue | readIce | readArcHistory
      | readCalibration | readFaultRecord | readSelfTest | readLinkCounters | readConfigurationItem =>
    cases hr; cases hc
    exact .view _ rfl rfl fun _ => rfl
  case claimLead | releaseLead | enterMode | wake | raise | raiseAuto | lower | selectSystem | clearHalt | declareReady
      | openBreaker | closeBreaker | setIceMode | startTouchSearch | clearDrop | setOutOfService | returnToService
      | switchCommandBreakerOpen | switchCommandBreakerClose | switchCommandSelector | switchCommandIsolator
      | switchCommandEarth | clearSwitchFault | clearFaults | writeConfigurationItem | storeConfiguration | restart
      | motionReport | announceMarker | withdrawMarker | emergencyLower | releaseHold =>
    cases hr; cases hc
    exact .owned _ rfl fun _ => rfl
  all_goals cases hc

/-- A request outside the catalogue has no known code. -/
theorem unknown_of_no_row {c : Instr} {q : Req} {code : Nat} {payload : List Nat}
    (hr : requestOf c = some (q, code, payload)) (hc : catalogue c = none) : c = .unknownRequest q code := by
  cases c
  case unknownRequest q' code' =>
    by_cases hk : catalogued code' = true
    · simp [requestOf, hk] at hr
    · simp only [requestOf, if_neg hk] at hr
      cases hr
      rfl
  all_goals cases hr <;> cases hc

/-- No owner writes to the links but for their masks. -/
theorem links_of_owner {c : Instr} {owner : Block → Answer} (h : ownerOf c = some owner) (b : Block) :
    (owner b).block.kept.links = b.kept.links := by
  cases c
  case switchCommandBreakerClose | switchCommandSelector | switchCommandIsolator | switchCommandEarth =>
    cases h
    refine links_inWorkshop _ (fun x => ?_) b
    simp [links_answerUnless, watched, haltIfLeft, apply_ite Block.kept, apply_ite Kept.links]
  case withdrawMarker =>
    cases h
    exact links_answerUnless _ _ _ (by simp)
  all_goals cases h <;> simp [effect, ownEffect]

/-! ## Events -/

/-- What an event does, and whether the scraper is judged in any case. -/
def eventOf (b : Block) : Instr → Option (Bool × (Block → Block))
  | .heldWakeDue => some (false, heldWakeDue)
  | .linkPresenceTimeout l => some (false, presenceTimeout l)
  | .scanComplete r => some (true, scan r)
  | .selfTestValvesStart => some (false, valvesStart)
  | .selfTestValvesCheck => some (false, valvesCheck)
  | .endOfWaking => some (false, endOfWaking)
  | .selfTestTimeout => some (false, selfTestTimeout)
  | .dwellExpiry p => some (false, onceAdopted (dwellExpiry p))
  | .airHoldExpiry p => some (false, onceAdopted (airHoldExpiry p))
  | .raiseTimeout p => some (false, onceAdopted (raiseTimeoutOf p))
  | .lowerTimeout p => some (false, onceAdopted (lowerTimeout p))
  | .servoDeviation p => some (false, onceAdopted (servoDeviationOf p))
  | .automaticDrop p => some (false, onceAdopted (dropIfRaised p))
  | .samplePair slot => if lastSlot b then some (false, fun x => closeWindow (takeSlot slot x)) else none
  | .windowClose slot => if lastSlot b then some (false, fun x => closeWindow (takeSlot slot x)) else none
  | .tractionOffWaitExpiry => some (false, tractionOffExpiry)
  | .confirmWaitExpiry => some (false, confirmExpiry)
  | .readyWaitExpiry => some (false, readyExpiry)
  | .settledReading r => some (false, settledReading r)
  | .switchOperationTimeout w => some (false, switchTimeoutOf w)
  | .positionLost => some (false, positionLost)
  | .arcPulseEnd p us => some (false, arcEnd p us)
  | .arcPulseTimerExpiry p => some (false, arcExpiry p)
  | .calibrationEntryWriteDone r => some (false, entryWriteDone r)
  | .configurationStoreDone ok => some (false, storeDone ok)
  | _ => none

/-- What an event does whose effect concerns its own block and the masters' view alone. -/
def quietOf (b : Block) : Instr → Option (Block → Block)
  | .badFrame l _ => some (dropFrame l)
  | .frameByteTimeout l => some (byteTimeout l)
  | .samplePair slot => if lastSlot b then none else some (takeSlot slot)
  | .windowClose slot => if lastSlot b then none else some (takeSlot slot)
  | .motionStale => some motionStale
  | .arcPulseStart p edge => some (arcStart p edge)
  | .heaterPeriodStart => some heaterStart
  | _ => none

theorem exec_of_eventOf {c : Instr} {s : State} {judge : Bool} {f : Block → Block}
    (h : eventOf s.block c = some (judge, f)) : exec c s = event s judge f := by
  cases c
  case samplePair slot | windowClose slot =>
    have hlast : lastSlot s.block = true := by
      cases hl : lastSlot s.block
      case true => rfl
      case false => simp [eventOf, hl] at h
    simp only [eventOf, hlast, if_true] at h
    cases h
    exact if_pos hlast
  all_goals cases h
  all_goals rfl

theorem exec_of_quietOf {c : Instr} {s : State} {f : Block → Block} (h : quietOf s.block c = some f) :
    exec c s = quietEvent s f := by
  cases c
  case samplePair slot | windowClose slot =>
    have hlast : ¬lastSlot s.block = true := by
      cases hl : lastSlot s.block
      case true => simp [quietOf, hl] at h
      case false => simp
    simp only [quietOf, if_neg hlast] at h
    cases h
    exact if_neg hlast
  all_goals cases h
  all_goals rfl

/-- The courses a command can take. -/
inductive Course (c : Instr) (s : State) : Prop where
  | request (q : Req) (code : Nat) (payload : List Nat) (row : CatalogueRow)
      (is : requestOf c = some (q, code, payload)) (stands : catalogue c = some row)
  | unknown (q : Req) (code : Nat) (is : c = .unknownRequest q code)
  | event (judge : Bool) (f : Block → Block) (is : eventOf s.block c = some (judge, f))
  | quiet (f : Block → Block) (is : quietOf s.block c = some f)
  | replySent (l : Link) (contacts : Contacts) (is : c = .replySent l contacts)
  | byte (l : Link) (byte : Byte) (is : c = .frameOpened l byte)
  | powerOn (contacts : Contacts) (mem : MemImage) (is : c = .powerOn contacts mem)
  | warmRestart (contacts : Contacts) (is : c = .warmRestart contacts)

theorem course (c : Instr) (s : State) : Course c s := by
  cases c
  case unknownRequest q code => exact .unknown q code rfl
  case replySent l contacts => exact .replySent l contacts rfl
  case frameOpened l byte => exact .byte l byte rfl
  case powerOn contacts mem => exact .powerOn contacts mem rfl
  case warmRestart contacts => exact .warmRestart contacts rfl
  case samplePair slot | windowClose slot =>
    by_cases hl : lastSlot s.block = true
    · exact .event _ _ (if_pos hl)
    · exact .quiet _ (if_neg hl)
  case badFrame | frameByteTimeout | motionStale | arcPulseStart | heaterPeriodStart => exact .quiet _ rfl
  case heldWakeDue | linkPresenceTimeout | scanComplete | selfTestValvesStart | selfTestValvesCheck | endOfWaking
      | selfTestTimeout | dwellExpiry | airHoldExpiry | raiseTimeout | lowerTimeout | servoDeviation | automaticDrop
      | tractionOffWaitExpiry | confirmWaitExpiry | readyWaitExpiry | settledReading | switchOperationTimeout
      | positionLost | arcPulseEnd | arcPulseTimerExpiry | calibrationEntryWriteDone | configurationStoreDone =>
    exact .event _ _ rfl
  all_goals exact .request _ _ _ _ rfl rfl

end Sys2Proof.Machine
end

section
/-!
The machine and its frames: a step, the frames of requests and replies, and what the examination refuses.
-/

namespace Sys2Proof.Machine

/-! ## The end of a command (00_scope.md 1.5.4) -/

/-- A command answers a next state and leaves the commands that wait. -/
def Completes (r : Result) (s : State) : Prop := ∃ t, r = .next t ∧ t.pending = s.pending

theorem completes_toNext (s : State) (b : Block) : Completes (toNext s b) s := ⟨_, rfl, rfl⟩

theorem completes_digest (q : Req) (s : State) : Completes (execReadStatusDigest q s) s := by
  unfold execReadStatusDigest
  dsimp only
  split
  case h_1 c refused => exact completes_toNext _ _
  case h_2 passed => exact completes_toNext _ _

theorem completes_reply (l : Link) (contacts : Contacts) (s : State) : Completes (execReplySent l contacts s) s := by
  unfold execReplySent
  split
  case h_1 none => exact completes_toNext _ _
  case h_2 r rest some => exact completes_toNext _ _

/-- Every command but a frame's byte completes. -/
theorem completes_of_not_byte {c : Instr} (s : State) (hb : ∀ l byte, c ≠ .frameOpened l byte) :
    Completes (exec c s) s := by
  cases course c s with
  | request q code payload row is stands =>
    cases taken_of_catalogue is stands with
    | owned owner own runs => exact runs s ▸ completes_toNext _ _
    | view v reads gate runs => exact runs s ▸ completes_toNext _ _
    | digest gate which number => exact which ▸ completes_digest q s
  | unknown q code is => exact is ▸ completes_toNext _ _
  | event judge f is => exact exec_of_eventOf is ▸ completes_toNext _ _
  | quiet f is => exact exec_of_quietOf is ▸ completes_toNext _ _
  | replySent l contacts is => exact is ▸ completes_reply l contacts s
  | byte l byte is => exact absurd is (hb l byte)
  | powerOn contacts mem is => exact is ▸ completes_toNext _ _
  | warmRestart contacts is => exact is ▸ completes_toNext _ _

/-! ## The request of a frame -/

/-- Only requests come from a frame: what else a byte string might spell has no effect. -/
theorem runRequest_cases (i : Instr) (s : State) :
    (runRequest i s = exec i s ∧ ∀ l byte, i ≠ .frameOpened l byte) ∨
      (requestOf i = none ∧ runRequest i s = toNext s s.block) := by
  cases i
  case powerOn | warmRestart | heldWakeDue | badFrame | frameByteTimeout | replySent | linkPresenceTimeout | scanComplete
      | selfTestValvesStart | selfTestValvesCheck | endOfWaking | selfTestTimeout | dwellExpiry | airHoldExpiry
      | raiseTimeout | lowerTimeout | servoDeviation | automaticDrop | samplePair | windowClose | tractionOffWaitExpiry
      | confirmWaitExpiry | readyWaitExpiry | settledReading | switchOperationTimeout | motionStale | positionLost
      | arcPulseStart | arcPulseEnd | arcPulseTimerExpiry | heaterPeriodStart | calibrationEntryWriteDone
      | configurationStoreDone | frameOpened => exact .inr ⟨rfl, rfl⟩
  all_goals exact .inl ⟨rfl, nofun⟩

theorem completes_runRequest (i : Instr) (s : State) : Completes (runRequest i s) s := by
  obtain ⟨hrun, hb⟩ | ⟨-, hrun⟩ := runRequest_cases i s
  · exact hrun ▸ completes_of_not_byte s hb
  · exact hrun ▸ completes_toNext _ _

theorem completes_takeFrame (l : Link) (bs : List Byte) (s : State) : Completes (takeFrame l bs s) s := by
  unfold takeFrame
  split
  case h_1 more => exact completes_toNext _ _
  case h_2 why bad => exact completes_toNext _ _
  case h_3 code tag payload valid => exact completes_runRequest _ s

theorem completes_byte (l : Link) (byte : Byte) (s : State) : Completes (execFrameOpened l byte s) s := by
  unfold execFrameOpened
  split
  case h_1 outside => exact completes_toNext _ _
  case h_2 bs inside => exact completes_takeFrame l _ s

/-! ## The frame of a request (R179, R180, R185) -/

theorem judgeTail_more {kind code tag len : Byte} {tail : List Byte} (h : tail.length ≤ len.toNat) :
    judgeTail kind code tag len tail = .more := if_pos h

/-- The byte after the payload is the check. -/
theorem judgeTail_check (kind code tag len : Byte) {payload : List Byte} (h : payload.length = len.toNat) (check : Byte) :
    judgeTail kind code tag len (payload ++ [check]) =
      if check = crc8 (kind :: code :: tag :: len :: payload) then
        .valid code.toNat tag.toNat (payload.map BitVec.toNat)
      else .bad .check := by
  have htake : (payload ++ [check]).take len.toNat = payload := by simp [← h]
  have hlast : (payload ++ [check])[len.toNat]? = some check := by simp [← h]
  have hlong : ¬(payload ++ [check]).length ≤ len.toNat := by simp [h]
  simp only [judgeTail, if_neg hlong, htake, hlast, Option.some.injEq]
  rfl

theorem judgeFrame_tail (code tag len : Byte) (tail : List Byte) :
    judgeFrame (0x01#8 :: code :: tag :: len :: tail) =
      if 48 < len.toNat then .bad .length else judgeTail 0x01#8 code tag len tail := by
  simp [judgeFrame]

theorem toNat_ofNat_of_byte {n : Nat} (h : n < 256) : (BitVec.ofNat 8 n).toNat = n := by
  simp [Nat.mod_eq_of_lt h]

/-- The fields that a frame can carry. -/
structure FrameFits (code tag : Nat) (payload : List Nat) : Prop where
  code   : code < 256
  tag    : tag < 256
  bytes  : ∀ n ∈ payload, n < 256
  length : payload.length ≤ 48

/-- A frame of fields that fit is judged valid, and carries them. -/
theorem judgeFrame_frameBytes {code tag : Nat} {payload : List Nat} (h : FrameFits code tag payload) :
    judgeFrame (frameBytes code tag payload) = .valid code tag payload := by
  have hlen : (BitVec.ofNat 8 payload.length).toNat = payload.length := toNat_ofNat_of_byte (by have := h.length; omega)
  have hback : (payload.map (BitVec.ofNat 8)).map BitVec.toNat = payload := by
    rw [List.map_map]
    exact (List.map_congr_left fun n hn => toNat_ofNat_of_byte (h.bytes n hn)).trans (List.map_id _)
  have hframe : frameBytes code tag payload =
      0x01#8 :: .ofNat 8 code :: .ofNat 8 tag :: .ofNat 8 payload.length ::
        (payload.map (BitVec.ofNat 8) ++ [crc8 (frameBody code tag payload)]) := by
    simp [frameBytes, frameBody]
  rw [hframe, judgeFrame_tail, if_neg (by rw [hlen]; have := h.length; omega),
    judgeTail_check _ _ _ _ (by simp [hlen]), if_pos (by simp [frameBody]), hback, toNat_ofNat_of_byte h.code,
    toNat_ofNat_of_byte h.tag]

/-! ### Numbers in bytes -/

theorem length_beBytes (n v : Nat) : (beBytes n v).length = n := by
  induction n with
  | zero => rfl
  | succ n ih => simp [beBytes, ih]

theorem beBytes_lt (n v : Nat) : ∀ x ∈ beBytes n v, x < 256 := by
  induction n with
  | zero => simp [beBytes]
  | succ n ih =>
    intro x hx
    obtain rfl | hx := List.mem_cons.mp hx
    · exact Nat.mod_lt _ (by decide)
    · exact ih x hx

theorem beNat_beBytes_two {v : Nat} (h : v < 65536) : beNat [v / 256 ^ 1 % 256, v / 256 ^ 0 % 256] = v := by
  simp only [beNat, List.foldl]
  omega

theorem beNat_beBytes_four {v : Nat} (h : v < 4294967296) :
    beNat [v / 256 ^ 3 % 256, v / 256 ^ 2 % 256, v / 256 ^ 1 % 256, v / 256 ^ 0 % 256] = v := by
  simp only [beNat, List.foldl]
  omega

theorem beInt_beInt32 {v : Int} (h : fitsValue v = true) : beInt (beInt32 v) = v := by
  have hrange : -2147483648 ≤ v ∧ v ≤ 2147483647 := by simpa [fitsValue] using h
  have hnat : beNat (beInt32 v) = (v % 2 ^ 32).toNat := beNat_beBytes_four (by omega)
  rw [beInt, hnat]
  split <;> omega

/-! ### Items by name -/

theorem item_mem_all (i : Item) : i ∈ Item.all := by
  cases i <;> decide

theorem itemNamed_ascii (i : Item) : itemNamed i.ascii = some i :=
  (by decide +kernel : ∀ i ∈ Item.all, itemNamed i.ascii = some i) i (item_mem_all i)

theorem ascii_fits (i : Item) : 1 ≤ i.ascii.length ∧ i.ascii.length ≤ 24 ∧ ∀ n ∈ i.ascii, n < 256 :=
  (by decide +kernel : ∀ i ∈ Item.all, 1 ≤ i.ascii.length ∧ i.ascii.length ≤ 24 ∧ ∀ n ∈ i.ascii, n < 256) i (item_mem_all i)

theorem itemNamed_itemBytes (i : Option Item) : itemNamed (itemBytes i) = i := by
  cases i with
  | none => decide +kernel
  | some i => exact itemNamed_ascii i

theorem itemBytes_fits (i : Option Item) :
    1 ≤ (itemBytes i).length ∧ (itemBytes i).length ≤ 24 ∧ ∀ n ∈ itemBytes i, n < 256 := by
  cases i with
  | none => decide
  | some i => exact ascii_fits i

/-! ### Decode and encode -/

theorem switchCommand_isolator (q : Req) (p : Panto) (pos : TwoPos) :
    switchCommand q (p.num + 1) (twoByte pos) = some (.switchCommandIsolator q p pos) := by
  cases p <;> cases pos <;> rfl

theorem fielded_of_some {α : Type} {l : Link} {tag : Nat} {v : Option α} {x : α} (h : v = some x)
    (good : Req → α → Instr) (bad : Req → Instr) : fielded l tag v good bad = good ⟨l, tag, true⟩ x := by
  rw [h]
  rfl

theorem pick_modes (m : Mode) : pick modes (modeByte m) = some m := by cases m <;> rfl

theorem pick_systems (x : Option LineSystem) : pick systems (systemByte x) = some x := by
  cases x with
  | none => rfl
  | some s => cases s <;> rfl

theorem pick_pantos (p : Option Panto) : pick pantos (pantoByte p) = some p := by
  cases p with
  | none => rfl
  | some p => cases p <;> rfl

theorem pick_num (p : Panto) : pick pantos p.num = some (some p) := by cases p <;> rfl

theorem pick_switches (w : SwId) : pick switches (switchByte w) = some w := by
  cases w with
  | iso p => cases p <;> rfl
  | _ => rfl

theorem present_systems (s : LineSystem) : present systems (systemByte (some s)) = some s := by cases s <;> rfl

theorem present_pantos (p : Panto) : present pantos p.num = some p := by cases p <;> rfl

theorem pick_directions (d : Direction) : pick directions (directionByte d) = some d := by cases d <;> rfl

theorem pick_kinds (k : SectionKind) : pick kinds (kindByte k) = some k := by cases k <;> rfl

theorem pick_offOn (e : Bool) : pick offOn (boolByte e) = some e := by cases e <;> rfl

theorem markerFields_markerBytes {m : Marker} (h : m.wf = true) : markerFields (markerBytes m) = some m := by
  obtain ⟨⟨hid, hstart⟩, hlen⟩ : (m.id < 65536 ∧ m.start < 4294967296) ∧ m.length < 65536 := by
    simpa [Marker.wf, fitsBytes] using h
  have hbytes : markerBytes m = [m.id / 256 ^ 1 % 256, m.id / 256 ^ 0 % 256, kindByte m.kind,
      m.start / 256 ^ 3 % 256, m.start / 256 ^ 2 % 256, m.start / 256 ^ 1 % 256, m.start / 256 ^ 0 % 256,
      m.length / 256 ^ 1 % 256, m.length / 256 ^ 0 % 256, systemByte m.newSystem] := rfl
  simp only [hbytes, markerFields, pick_kinds, pick_systems, beNat_beBytes_two hid, beNat_beBytes_four hstart,
    beNat_beBytes_two hlen]

theorem writeFields_append {bs name : List Nat} (h : bs.length = 4) :
    writeFields (bs ++ name) = if 1 ≤ name.length ∧ name.length ≤ 24 then some (beInt bs, name) else none := by
  match bs, h with
  | [_, _, _, _], _ => rfl

theorem writeFields_itemBytes {v : Int} (h : fitsValue v = true) (i : Option Item) :
    writeFields (beInt32 v ++ itemBytes i) = some (v, itemBytes i) := by
  have hi := itemBytes_fits i
  rw [writeFields_append (bs := beInt32 v) (length_beBytes 4 _), if_pos ⟨hi.1, hi.2.1⟩, beInt_beInt32 h]

theorem motionFields_bytes {p v : Nat} (hp : p < 4294967296) (hv : v < 65536) (d : Direction) :
    motionFields (beBytes 4 p ++ beBytes 2 v ++ [directionByte d]) = some (p, v, d) := by
  have hbytes : beBytes 4 p ++ beBytes 2 v ++ [directionByte d] =
    [p / 256 ^ 3 % 256, p / 256 ^ 2 % 256, p / 256 ^ 1 % 256, p / 256 ^ 0 % 256, v / 256 ^ 1 % 256, v / 256 ^ 0 % 256,
      directionByte d] := rfl
  simp only [hbytes, motionFields, pick_directions, beNat_beBytes_two hv, beNat_beBytes_four hp, Option.map_some]

theorem readyFields_bytes {n : Nat} (hn : n < 65536) (x : LineSystem) :
    readyFields (systemByte (some x) :: beBytes 2 n) = some (x, n) := by
  have hbytes : beBytes 2 n = [n / 256 ^ 1 % 256, n / 256 ^ 0 % 256] := rfl
  simp only [hbytes, readyFields, present_systems, beNat_beBytes_two hn, Option.map_some]

theorem nameField_itemBytes (i : Option Item) : (nameField (itemBytes i)).map itemNamed = some i := by
  have hi := itemBytes_fits i
  rw [nameField, if_pos ⟨hi.1, hi.2.1⟩, Option.map_some, itemNamed_itemBytes]

/-- No code of the catalogue stands for an unknown request. -/
theorem parseRequest_of_uncatalogued {code : Nat} (h : catalogued code = false) (l : Link) (tag : Nat) (payload : List Nat) :
    parseRequest l code tag payload = .unknownRequest ⟨l, tag, true⟩ code := by
  unfold parseRequest
  split
  case h_41 => rfl
  all_goals cases h

/-- The request that a frame's fields spell is the one they were taken from. -/
theorem parseRequest_of_requestOf {c : Instr} {q : Req} {code : Nat} {payload : List Nat} (hwf : c.wf = true)
    (hgood : q.wellFormed = true) (hr : requestOf c = some (q, code, payload)) :
    parseRequest q.link code q.tag payload = c := by
  obtain ⟨l, tag, good⟩ := q
  cases hgood
  cases c
  case unknownRequest q' code' =>
    by_cases hk : catalogued code' = true
    · simp [requestOf, hk] at hr
    · simp only [requestOf, if_neg hk] at hr
      cases hr
      exact parseRequest_of_uncatalogued (by simpa using hk) _ _ _
  case enterMode q' m => cases hr; simp [parseRequest, fielded, oneByte, pick_modes]
  case raise q' p => cases hr; simp [parseRequest, raiseRequest, fielded, oneByte, pick_num]
  case lower q' p => cases hr; simp [parseRequest, fielded, oneByte, pick_pantos]
  case selectSystem q' x => cases hr; simp [parseRequest, fielded, oneByte, pick_systems]
  case declareReady q' x n =>
    cases hr
    have hn : n < 65536 := by simp [Instr.wf, fitsBytes] at hwf; exact hwf.2
    simp [parseRequest, fielded, readyFields_bytes hn x]
  case setIceMode q' n e => cases hr; simp [parseRequest, fielded, iceFields, pick_offOn]
  case startTouchSearch q' p | clearDrop q' p | setOutOfService q' p | returnToService q' p =>
    cases hr
    simp [parseRequest, fielded, oneByte, present_pantos]
  case switchCommandSelector q' pos => cases hr; cases pos <;> rfl
  case switchCommandIsolator q' p pos =>
    cases hr
    simp [parseRequest, switchRequest, switchCommand_isolator]
  case switchCommandEarth q' pos => cases hr; cases pos <;> rfl
  case clearSwitchFault q' w => cases hr; simp [parseRequest, fielded, oneByte, pick_switches]
  case writeConfigurationItem q' i v =>
    cases hr
    have hv : fitsValue v = true := by simp [Instr.wf] at hwf; exact hwf.2
    simp [parseRequest, fielded, writeFields_itemBytes hv i, itemNamed_itemBytes]
  case motionReport q' p v d =>
    cases hr
    obtain ⟨⟨-, hp⟩, hv⟩ : (Req.wf ⟨l, tag, true⟩ = true ∧ p < 4294967296) ∧ v < 65536 := by
      simpa [Instr.wf, fitsBytes] using hwf
    have hf := motionFields_bytes hp hv d
    simp only [List.append_assoc] at hf
    simp [parseRequest, fielded, hf]
  case announceMarker q' m =>
    cases hr
    have hm : m.wf = true := by simp [Instr.wf] at hwf; exact hwf.2
    simp [parseRequest, fielded, markerFields_markerBytes hm]
  case withdrawMarker q' n =>
    cases hr
    have hn : n < 65536 := by simp [Instr.wf, fitsBytes] at hwf; exact hwf.2
    have hb : beNat (beBytes 2 n) = n := beNat_beBytes_two hn
    simp [parseRequest, fielded, length_beBytes, hb]
  case readConfigurationItem q' i =>
    cases hr
    have hi := nameField_itemBytes i
    simp only [parseRequest, hi, fielded]
  all_goals cases hr
  all_goals rfl

/-! ### Fields fit their bytes -/

theorem modeByte_lt (m : Mode) : modeByte m < 256 := by cases m <;> decide

theorem systemByte_lt (x : Option LineSystem) : systemByte x < 256 := by
  cases x with
  | none => decide
  | some s => cases s <;> decide

theorem num_lt (p : Panto) : p.num < 255 := by cases p <;> decide

theorem pantoByte_lt (p : Option Panto) : pantoByte p < 256 := by
  cases p with
  | none => decide
  | some p => exact Nat.lt_succ_of_lt (num_lt p)

theorem switchByte_lt (w : SwId) : switchByte w < 256 := by
  cases w with
  | iso p => exact Nat.succ_lt_succ (num_lt p)
  | _ => decide

theorem twoByte_lt (p : TwoPos) : twoByte p < 256 := by cases p <;> decide

theorem selByte_lt (p : SelPos) : selByte p < 256 := by cases p <;> decide

theorem directionByte_lt (d : Direction) : directionByte d < 256 := by cases d <;> decide

theorem kindByte_lt (k : SectionKind) : kindByte k < 256 := by cases k <;> decide

theorem boolByte_lt (e : Bool) : boolByte e < 256 := by cases e <;> decide

/-- Each number of a well-formed request's payload is that of a byte. -/
theorem payload_bytes {c : Instr} {q : Req} {code : Nat} {payload : List Nat} (hwf : c.wf = true)
    (hr : requestOf c = some (q, code, payload)) : ∀ n ∈ payload, n < 256 := by
  have big (n v : Nat) : ∀ x ∈ beBytes n v, x < 256 := beBytes_lt n v
  have item (i : Option Item) : ∀ n ∈ itemBytes i, n < 256 := (itemBytes_fits i).2.2
  cases c
  case unknownRequest q' code' =>
    by_cases hk : catalogued code' = true
    · simp [requestOf, hk] at hr
    · simp only [requestOf, if_neg hk] at hr
      cases hr
      simp
  case announceMarker q' m =>
    cases hr
    simp only [markerBytes, List.forall_mem_append, List.forall_mem_singleton]
    exact ⟨⟨⟨⟨big 2 _, kindByte_lt _⟩, big 4 _⟩, big 2 _⟩, systemByte_lt _⟩
  case motionReport q' p v d =>
    cases hr
    simp only [List.forall_mem_append, List.forall_mem_singleton]
    exact ⟨⟨big 4 _, big 2 _⟩, directionByte_lt d⟩
  case writeConfigurationItem q' i v =>
    cases hr
    simp only [List.forall_mem_append]
    exact ⟨big 4 _, item i⟩
  case declareReady q' x n => cases hr; exact List.forall_mem_cons.mpr ⟨systemByte_lt _, big 2 n⟩
  case withdrawMarker q' n => cases hr; exact big 2 n
  case readConfigurationItem q' i => cases hr; exact item i
  case setIceMode q' n e =>
    cases hr
    have hn : n < 256 := by simp [Instr.wf, fitsBytes] at hwf; exact hwf.2
    simp [hn, boolByte_lt]
  case readPantographStatus q' n | readArcHistory q' n | readCalibration q' n =>
    cases hr
    have hn : n < 256 := by simp [Instr.wf, fitsBytes] at hwf; exact hwf.2
    simp [hn]
  case raise q' p | startTouchSearch q' p | clearDrop q' p | setOutOfService q' p | returnToService q' p =>
    cases hr
    simpa using Nat.lt_succ_of_lt (num_lt p)
  case switchCommandIsolator q' p pos =>
    cases hr
    simpa using ⟨Nat.succ_lt_succ (num_lt p), twoByte_lt pos⟩
  all_goals cases hr
  all_goals simp [modeByte_lt, pantoByte_lt, systemByte_lt, switchByte_lt, selByte_lt, twoByte_lt]

/-- A request's payload is no longer than a value and an item's name. -/
theorem payload_length {c : Instr} {q : Req} {code : Nat} {payload : List Nat}
    (hr : requestOf c = some (q, code, payload)) : payload.length ≤ 28 := by
  have item (i : Option Item) : (itemBytes i).length ≤ 24 := (itemBytes_fits i).2.1
  cases c
  case unknownRequest q' code' =>
    by_cases hk : catalogued code' = true
    · simp [requestOf, hk] at hr
    · simp only [requestOf, if_neg hk] at hr
      cases hr
      simp
  case writeConfigurationItem q' i v =>
    cases hr
    rw [List.length_append, beInt32, length_beBytes]
    exact Nat.add_le_add_left (item i) 4
  case readConfigurationItem q' i => cases hr; exact (item i).trans (by decide)
  all_goals cases hr
  all_goals simp [markerBytes, length_beBytes]

/-- The code and the tag of a well-formed request are those of a byte. -/
theorem code_tag_lt {c : Instr} {q : Req} {code : Nat} {payload : List Nat} (hwf : c.wf = true)
    (hr : requestOf c = some (q, code, payload)) : code < 256 ∧ q.tag < 256 := by
  cases c
  case unknownRequest q' code' =>
    by_cases hk : catalogued code' = true
    · simp [requestOf, hk] at hr
    · simp only [requestOf, if_neg hk] at hr
      cases hr
      simpa [Instr.wf, Req.wf, fitsBytes, and_comm] using hwf
  all_goals cases hr
  all_goals simp [Instr.wf, Req.wf, fitsBytes] at hwf
  all_goals simp [hwf]

/-- The fields of a well-formed request fit its frame. -/
theorem frameFits_of_requestOf {c : Instr} {q : Req} {code : Nat} {payload : List Nat} (hwf : c.wf = true)
    (hr : requestOf c = some (q, code, payload)) : FrameFits code q.tag payload where
  code := (code_tag_lt hwf hr).1
  tag := (code_tag_lt hwf hr).2
  bytes := payload_bytes hwf hr
  length := (payload_length hr).trans (by decide)

theorem encodeRequest_eq {c : Instr} {l : Link} {bytes : List Byte} (h : encodeRequest c = some (l, bytes)) :
    ∃ q code payload, requestOf c = some (q, code, payload) ∧ q.wellFormed = true ∧ q.link = l ∧
      frameBytes code q.tag payload = bytes := by
  unfold encodeRequest at h
  split at h
  case h_1 q code payload hr =>
    split at h
    case isTrue good =>
      cases h
      exact ⟨q, code, payload, hr, good, rfl, rfl⟩
    case isFalse bad => cases h
  case h_2 none => cases h

/-- The frame of a well-formed request is judged valid, and its fields spell that request. -/
theorem judgeFrame_encodeRequest {c : Instr} {l : Link} {bytes : List Byte} (hwf : c.wf = true)
    (h : encodeRequest c = some (l, bytes)) :
    ∃ code tag payload, judgeFrame bytes = .valid code tag payload ∧ parseRequest l code tag payload = c := by
  obtain ⟨q, code, payload, hr, hgood, rfl, rfl⟩ := encodeRequest_eq h
  exact ⟨code, q.tag, payload, judgeFrame_frameBytes (frameFits_of_requestOf hwf hr),
    parseRequest_of_requestOf hwf hgood hr⟩

/-- A byte at which the frame is judged valid runs the request that the frame's fields spell. -/
theorem execFrameOpened_of_valid {l : Link} {byte : Byte} {bs : List Byte} {s : State} {code tag : Nat}
    {payload : List Nat} (hf : (s.block.links.get l).frame = some bs)
    (hv : judgeFrame (bs ++ [byte]) = .valid code tag payload) :
    exec (.frameOpened l byte) s = runRequest (parseRequest l code tag payload) s := by
  simp only [exec, execFrameOpened, hf, takeFrame, hv]

/-! ## The statements about requests and their frames -/

/-- Settles O1, by the definition of a step. -/
theorem stepRunsTheFront : Obligations.StepRunsTheFront := by
  unfold Obligations.StepRunsTheFront
  exact ⟨fun _ _ _ => rfl, fun _ => rfl⟩

/-- Settles O2, by the courses a command can take; the frame's last byte takes that of its request. -/
theorem everyCommandCompletes : Obligations.EveryCommandCompletes := by
  unfold Obligations.EveryCommandCompletes
  intro c s
  by_cases hb : ∃ l byte, c = .frameOpened l byte
  · obtain ⟨l, byte, rfl⟩ := hb
    exact completes_byte l byte s
  · exact completes_of_not_byte s fun l byte h => hb ⟨l, byte, h⟩

/-- Settles O3: the fields of the frame fit their bytes, and each payload spells its request. -/
theorem framesCarryTheirRequests : Obligations.FramesCarryTheirRequests := by
  unfold Obligations.FramesCarryTheirRequests
  intro c l bytes hwf h
  exact judgeFrame_encodeRequest hwf h

/-- Settles O4, from the round trip of O3. -/
theorem lastByteRunsTheRequest : Obligations.LastByteRunsTheRequest := by
  unfold Obligations.LastByteRunsTheRequest
  intro c l bytes last s hwf h hf
  obtain ⟨code, tag, payload, hvalid, hparse⟩ := judgeFrame_encodeRequest hwf h
  obtain ⟨q, code', payload', hr, -⟩ := encodeRequest_eq h
  obtain ⟨t, hexec, -⟩ := everyCommandCompletes c s
  refine ⟨t, hexec, ?_⟩
  rw [execFrameOpened_of_valid hf hvalid, hparse]
  obtain ⟨hrun, -⟩ | ⟨hnone, -⟩ := runRequest_cases c s
  · exact hrun.trans hexec
  · rw [hr] at hnone
    cases hnone

/-! ## Bytes and bad frames (R180) -/

theorem execFrameOpened_of_bad {l : Link} {byte : Byte} {bs : List Byte} {s : State} {why : FrameFault}
    (hf : (s.block.links.get l).frame = some bs) (hb : judgeFrame (bs ++ [byte]) = .bad why) :
    exec (.frameOpened l byte) s = quietEvent s (dropFrame l) := by
  simp only [exec, execFrameOpened, hf, takeFrame, hb]

/-- A bad frame changes the link's count and its frame alone. -/
theorem quietEvent_dropFrame (s : State) (l : Link) : quietEvent s (dropFrame l) = .next (s.afterBadFrame l) := by
  have hclose : close s.block (dropFrame l s.block) = dropFrame l s.block := close_setLink rfl
  unfold quietEvent
  rw [hclose]
  rfl

/-- Settles O5, by whether a frame is in progress. -/
theorem bytesAssembleFrames : Obligations.BytesAssembleFrames := by
  unfold Obligations.BytesAssembleFrames
  refine fun l byte s => ⟨fun hf => ?_, fun bytes hf hmore => ?_⟩
  · simp only [exec, execFrameOpened, hf]
    by_cases hc : byte = 0xC3#8
    · rw [if_pos hc, if_pos hc]
      rfl
    · rw [if_neg hc, if_neg hc]
      rfl
  · simp only [exec, execFrameOpened, hf, takeFrame, hmore]
    rfl

/-- Settles O6, by the event or the byte that shows the frame bad. -/
theorem badFramesAreDiscarded : Obligations.BadFramesAreDiscarded := by
  unfold Obligations.BadFramesAreDiscarded
  refine fun l s => ⟨fun why => quietEvent_dropFrame s l, fun hf => ?_, fun hf => ?_, fun kind hf hk => ?_,
    fun code tag n hf hn => ?_, fun code tag n payload check hf hn hc => ?_⟩
  · have htimeout : byteTimeout l s.block = dropFrame l s.block := if_pos hf
    simp only [exec, execFrameByteTimeout, quietEvent, htimeout]
    exact quietEvent_dropFrame s l
  · have htimeout : byteTimeout l s.block = s.block := if_neg (by simp [hf])
    simp only [exec, execFrameByteTimeout, quietEvent, htimeout, close_self]
    rfl
  · rw [execFrameOpened_of_bad hf (why := .kind) (by simp [judgeFrame, hk])]
    exact quietEvent_dropFrame s l
  · have hbad : judgeFrame ([0x01, code, tag] ++ [n]) = .bad .length :=
      (judgeFrame_tail code tag n []).trans (if_pos hn)
    rw [execFrameOpened_of_bad hf hbad]
    exact quietEvent_dropFrame s l
  · by_cases hlong : 48 < n.toNat
    · have hbad : judgeFrame ((0x01 :: code :: tag :: n :: payload) ++ [check]) = .bad .length :=
        (judgeFrame_tail code tag n _).trans (if_pos hlong)
      rw [execFrameOpened_of_bad hf hbad]
      exact quietEvent_dropFrame s l
    · have hbad : judgeFrame ((0x01 :: code :: tag :: n :: payload) ++ [check]) = .bad .check :=
        ((judgeFrame_tail code tag n _).trans (if_neg hlong)).trans
          ((judgeTail_check 0x01#8 code tag n hn check).trans (if_neg hc))
      rw [execFrameOpened_of_bad hf hbad]
      exact quietEvent_dropFrame s l

end Sys2Proof.Machine
end

section
/-!
The links: the reply to a request (R181 to R183), the examination (R4, R181), the replies that leave (R182), and the
loss of presence (R3, R18).
-/

namespace Sys2Proof.Machine

/-! ## A request's link -/

/-- Equal links but for the masks. -/
theorem link_eq_of_links {x y : Block} (h : x.kept.links = y.kept.links) (l : Link) :
    x.links.get l = { y.links.get l with mask := (x.links.get l).mask } := by
  have hun : (x.links.get l).unmarked = (y.links.get l).unmarked := by
    have h1 := congrArg (fun v : PerL LinkRec => v.get l) h
    cases l <;> exact h1
  calc x.links.get l = { (x.links.get l).unmarked with mask := (x.links.get l).mask } := rfl
    _ = _ := by rw [hun]; rfl

/-- What a valid frame on `l` with its reply makes of the links, the masks apart (R181 to R183). -/
structure Replied (s t : Block) (l : Link) (r : Reply) : Prop where
  replies   : (t.links.get l).replies = (s.links.get l).replies ++ [r]
  present   : (t.links.get l).present = true
  age       : (t.links.get l).age = some 0
  frame     : (t.links.get l).frame = none
  badFrames : (t.links.get l).badFrames = (s.links.get l).badFrames
  others    : ∀ m, m ≠ l → t.links.get m = { s.links.get m with mask := (t.links.get m).mask }

theorem replied_push (s : Block) (l : Link) (r : Reply) : Replied s (pushReply l r (refresh l s)) l r where
  replies := by simp [pushReply, refresh]
  present := by simp [pushReply, refresh]
  age := by simp [pushReply, refresh]
  frame := by simp [pushReply, refresh]
  badFrames := by simp [pushReply, refresh]
  others m hm := by simp [pushReply, refresh, setLink_get_ne _ _ hm]

/-- The masks are no part of what a reply makes of the links. -/
theorem Replied.of_links {s x y : Block} {l : Link} {r : Reply} (h : Replied s x l r)
    (hy : y.kept.links = x.kept.links) : Replied s y l r := by
  have hl := link_eq_of_links hy
  obtain ⟨replies, present, age, frame, badFrames, others⟩ := h
  refine ⟨?_, ?_, ?_, ?_, ?_, fun m hm => ?_⟩
  · rw [hl l]; exact replies
  · rw [hl l]; exact present
  · rw [hl l]; exact age
  · rw [hl l]; exact frame
  · rw [hl l]; exact badFrames
  · rw [hl m, others m hm]

theorem LinkRec.unmarked_reply {x y : LinkRec} (r : Reply) (h : x.unmarked = y.unmarked) :
    ({ x with replies := x.replies ++ [r] } : LinkRec).unmarked =
      ({ y with replies := y.replies ++ [r] } : LinkRec).unmarked :=
  congrArg (fun v : LinkRec => { v with replies := v.replies ++ [r] }) h

theorem PerL.mk_congr {α : Type} {a a' b b' p p' : α} (ha : a = a') (hb : b = b') (hp : p = p') :
    PerL.mk a b p = PerL.mk a' b' p' := by
  rw [ha, hb, hp]

theorem links_pushReply {x y : Block} (l : Link) (r : Reply) (h : x.kept.links = y.kept.links) :
    (pushReply l r x).kept.links = (pushReply l r y).kept.links := by
  obtain ⟨ha, hb, hp⟩ : x.links.a.unmarked = y.links.a.unmarked ∧ x.links.b.unmarked = y.links.b.unmarked ∧
      x.links.p.unmarked = y.links.p.unmarked := by simpa [Block.kept] using h
  cases l
  case a => exact PerL.mk_congr (LinkRec.unmarked_reply r ha) hb hp
  case b => exact PerL.mk_congr ha (LinkRec.unmarked_reply r hb) hp
  case p => exact PerL.mk_congr ha hb (LinkRec.unmarked_reply r hp)

theorem answer_links {c : Instr} {q : Req} {g : Gate} {owner : Block → Answer} (h : ownerOf c = some owner) (b : Block) :
    (answer q g owner b).block.kept.links = (refresh q.link b).kept.links := by
  unfold answer
  split
  case h_1 code refused => rfl
  case h_2 passed => exact links_of_owner h _

/-- A request that an owner decides is answered once on its link. -/
theorem replied_request {c : Instr} {q : Req} {code : Nat} {g : Gate} {owner : Block → Answer} (h : ownerOf c = some owner)
    (s : State) :
    ∃ t r, request q code g owner s = .next t ∧ r.code = code ∧ r.tag = q.tag ∧ Replied s.block t.block q.link r :=
  ⟨_, ⟨code, q.tag, (answer q g owner s.block).outcome, (answer q g owner s.block).data⟩, rfl, rfl, rfl,
    (replied_push s.block q.link _).of_links
      ((congrArg Kept.links (kept_finish _ _ _)).trans (links_pushReply _ _ (answer_links h _)))⟩

/-- The reply pushed after the presence has been refreshed and the masks marked. -/
theorem replied_close (s : Block) (l : Link) (r : Reply) : Replied s (pushReply l r (close s (refresh l s))) l r :=
  (replied_push s l r).of_links (links_pushReply l r (congrArg Kept.links (kept_close _ _)))

theorem readReply_echo (q : Req) (code : Nat) (view : View) (b : Block) :
    (readReply q code view b).code = code ∧ (readReply q code view b).tag = q.tag := by
  unfold readReply
  split
  case h_1 c refused => exact ⟨rfl, rfl⟩
  case h_2 passed =>
    split
    case h_1 d ok => exact ⟨rfl, rfl⟩
    case h_2 c error => exact ⟨rfl, rfl⟩

theorem replied_read (q : Req) (code : Nat) (view : View) (s : State) :
    ∃ t r, Machine.read q code view s = .next t ∧ r.code = code ∧ r.tag = q.tag ∧ Replied s.block t.block q.link r := by
  obtain ⟨hcode, htag⟩ := readReply_echo q code view (close s.block (refresh q.link s.block))
  exact ⟨_, _, rfl, hcode, htag, replied_close s.block q.link _⟩

theorem links_emptyMask (l : Link) (b : Block) : (emptyMask l b).kept.links = b.kept.links := by
  cases l <;> rfl

theorem replied_digest (q : Req) (s : State) :
    ∃ t r, execReadStatusDigest q s = .next t ∧ r.code = 0x40 ∧ r.tag = q.tag ∧ Replied s.block t.block q.link r := by
  unfold execReadStatusDigest
  dsimp only
  split
  case h_1 c refused => exact ⟨_, refusedRead q 0x40 c, rfl, rfl, rfl, replied_close s.block q.link _⟩
  case h_2 passed =>
    exact ⟨_, ⟨0x40, q.tag, .done, _⟩, rfl, rfl, rfl, (replied_close s.block q.link _).of_links (links_emptyMask _ _)⟩

theorem replied_unknown (q : Req) (code : Nat) (s : State) :
    ∃ t r, execUnknownRequest q code s = .next t ∧ r.code = code ∧ r.tag = q.tag ∧ Replied s.block t.block q.link r :=
  ⟨_, plainReply code q (.refused .unknownRequest), rfl, rfl, rfl,
    (replied_push s.block q.link _).of_links (congrArg Kept.links (kept_close _ _))⟩

/-- Every request is answered once on its link. -/
theorem replied_of_requestOf {c : Instr} {q : Req} {code : Nat} {payload : List Nat}
    (hr : requestOf c = some (q, code, payload)) (s : State) :
    ∃ t r, exec c s = .next t ∧ r.code = code ∧ r.tag = q.tag ∧ Replied s.block t.block q.link r := by
  cases hc : catalogue c with
  | none => exact unknown_of_no_row hr hc ▸ replied_unknown q code s
  | some row =>
    cases taken_of_catalogue hr hc with
    | owned owner own runs => exact runs s ▸ replied_request own s
    | view v reads gate runs => exact runs s ▸ replied_read q code v s
    | digest gate which number => exact which ▸ number ▸ replied_digest q s

/-! ## Examination (R4, R181) -/

theorem examine_wrongLink {q : Req} {g : Gate} (b : Block) (h : g.allowed.permits q.link = false) :
    examine q g b = some .wrongLink := by
  simp [examine, h]

theorem examine_outOfRange {q : Req} {g : Gate} (b : Block) (hl : g.allowed.permits q.link = true)
    (hw : q.wellFormed = false) : examine q g b = some .outOfRange := by
  simp [examine, hl, hw]

theorem examine_wrongMode {q : Req} {g : Gate} {b : Block} (hl : g.allowed.permits q.link = true)
    (hw : q.wellFormed = true) (hm : b.cond.mode = .dormant) (hg : g.dormant = false) :
    examine q g b = some .wrongMode := by
  simp [examine, hl, hw, hm, hg]

theorem examine_notLead {q : Req} {g : Gate} {b : Block} (hl : g.allowed.permits q.link = true)
    (hw : q.wellFormed = true) (hm : b.cond.mode ≠ .dormant ∨ g.dormant = true)
    (hc : leadCheck b q.link g.column = false) : examine q g b = some .notLead := by
  have hawake : ¬(b.cond.mode = .dormant ∧ g.dormant = false) := by
    rintro ⟨hd, hf⟩
    rcases hm with hm | hm
    · exact hm hd
    · rw [hm] at hf; cases hf
  simp [examine, hl, hw, hawake, hc]

/-- The lead check has no part in the examination of a read. -/
theorem examine_read_of_mode {q : Req} {x y : Block} (h : x.cond.mode = y.cond.mode) :
    examine q .read x = examine q .read y := by
  simp [examine, h, Gate.read, leadCheck]

/-- A request that its examination refuses changes nothing but the links. -/
theorem refused_of_catalogue {c : Instr} {q : Req} {code : Nat} {payload : List Nat} {row : CatalogueRow} {s : State}
    {why : RefCode} (hr : requestOf c = some (q, code, payload)) (hc : catalogue c = some row)
    (hx : examine q row.gate (refresh q.link s.block) = some why) :
    ∃ t, exec c s = .next t ∧ OnlyLinks s t ∧ Answered s t q.link (plainReply code q (.refused why)) := by
  cases taken_of_catalogue hr hc with
  | owned owner own runs => exact runs s ▸ refused_request hx
  | view v reads gate runs =>
    rw [gate] at hx
    exact runs s ▸ refused_read fun b hb => (examine_read_of_mode hb).trans hx
  | digest gate which number =>
    rw [gate] at hx
    exact which ▸ number ▸ refused_digest fun b hb => (examine_read_of_mode hb).trans hx

theorem refused_unknown (q : Req) (code : Nat) (s : State) :
    ∃ t, exec (.unknownRequest q code) s = .next t ∧ OnlyLinks s t ∧
      Answered s t q.link (plainReply code q (.refused .unknownRequest)) :=
  ⟨_, rfl, onlyLinks_close rfl, (replies_of_kept (kept_close _ _) _).trans (replied_push s.block q.link _).replies⟩

/-! ## Replies that leave (R179, R182) -/

theorem execReplySent_of_some {l : Link} {contacts : Contacts} {s : State} {r : Reply} {rest : List Reply}
    (h : (s.block.links.get l).replies = r :: rest) :
    execReplySent l contacts s =
      toNext s (if r.code = 0x16 ∧ r.outcome = .accepted then
        warmRestart contacts (setLink l { s.block.links.get l with replies := rest } s.block)
      else setLink l { s.block.links.get l with replies := rest } s.block) := by
  simp only [execReplySent, h]

theorem replyFrame_of_data {code tag : Nat} {o : ReplyOutcome} {data : ReplyData} {bytes : List Nat}
    (h : dataBytes data = some bytes) :
    replyFrame ⟨code, tag, o, data⟩ =
      some (0xC3#8 :: replyBody code tag (outcomeBytes o ++ bytes) ++
        [crc8 (replyBody code tag (outcomeBytes o ++ bytes))]) := by
  simp only [replyFrame, h, Option.map_some]

/-! ## The loss of presence (R3, R18, R183) -/

theorem presenceTimeout_of_lost {l : Link} {b : Block} (hp : (b.links.get l).present = true)
    (ha : (b.links.get l).age ≠ some 0) : presenceTimeout l b = linkLost l b := if_pos ⟨hp, ha⟩

theorem presenceTimeout_of_stays {l : Link} {b : Block}
    (h : (b.links.get l).present = false ∨ (b.links.get l).age = some 0) : presenceTimeout l b = b := by
  refine if_neg ?_
  rintro ⟨hp, ha⟩
  rcases h with h | h
  · rw [h] at hp; cases hp
  · exact ha h

theorem setReady_links (m : Master) (r : Option Ready) (b : Block) : (setReady m r b).links = b.links := by
  cases m <;> rfl

theorem setReady_lead (m : Master) (r : Option Ready) (b : Block) : (setReady m r b).plan.lead = b.plan.lead := by
  cases m <;> rfl

theorem setReady_hold (m : Master) (r : Option Ready) (b : Block) : (setReady m r b).plan.hold = b.plan.hold := by
  cases m <;> rfl

/-- A lead that the link's master holds lapses (R3). -/
def leadLapses (l : Link) (b : Block) : Block := if holdsLead b l then setLead none b else b

/-- The readiness of the link's master is cleared (R18). -/
def readyLapses (l : Link) (b : Block) : Block :=
  match masterOf l with
  | some m => setReady m none b
  | none => b

/-- The link is no longer present, its age at 500 ms or above (R183). -/
def goesAbsent (l : Link) (b : Block) : Block :=
  setLink l { b.links.get l with present := false, age := (b.links.get l).age.map (max 500) } b

theorem linkLost_eq (l : Link) (b : Block) : linkLost l b = readyLapses l (leadLapses l (goesAbsent l b)) := rfl

theorem leadLapses_links (l : Link) (b : Block) : (leadLapses l b).links = b.links := by
  unfold leadLapses
  split <;> rfl

theorem leadLapses_lead (l : Link) (b : Block) :
    (leadLapses l b).plan.lead =
      if (masterOf l).isSome = true ∧ masterOf l = b.plan.lead then none else b.plan.lead := by
  simp only [leadLapses, holdsLead, Bool.and_eq_true, beq_iff_eq, apply_ite Block.plan, apply_ite Plan.lead]
  rfl

theorem leadLapses_rest (l : Link) (b : Block) :
    (leadLapses l b).plan.hold = b.plan.hold ∧ (leadLapses l b).plan.readyA = b.plan.readyA ∧
      (leadLapses l b).plan.readyB = b.plan.readyB := by
  unfold leadLapses
  split <;> exact ⟨rfl, rfl, rfl⟩

theorem readyLapses_links (l : Link) (b : Block) : (readyLapses l b).links = b.links := by cases l <;> rfl

theorem readyLapses_lead (l : Link) (b : Block) : (readyLapses l b).plan.lead = b.plan.lead := by cases l <;> rfl

theorem readyLapses_hold (l : Link) (b : Block) : (readyLapses l b).plan.hold = b.plan.hold := by cases l <;> rfl

theorem readyLapses_readyA (l : Link) (b : Block) :
    (readyLapses l b).plan.readyA = if l = .a then none else b.plan.readyA := by cases l <;> rfl

theorem readyLapses_readyB (l : Link) (b : Block) :
    (readyLapses l b).plan.readyB = if l = .b then none else b.plan.readyB := by cases l <;> rfl

/-! ## The statements about links -/

/-- Settles O8, by how each request of the catalogue is taken. -/
theorem everyRequestIsAnswered : Obligations.EveryRequestIsAnswered := by
  unfold Obligations.EveryRequestIsAnswered
  intro c q code payload s hr
  obtain ⟨t, r, hexec, hcode, htag, replied⟩ := replied_of_requestOf hr s
  exact ⟨t, r, hexec, hcode, htag, replied.replies, replied.present, replied.age, replied.frame, replied.badFrames,
    replied.others⟩

/-- Settles O9, by the check that fails. -/
theorem examinationRefuses : Obligations.ExaminationRefuses := by
  unfold Obligations.ExaminationRefuses
  refine ⟨fun q code s => refused_unknown q code s, ?_⟩
  rintro c q code payload row s hr hc why (⟨hl, rfl⟩ | ⟨hl, hw, rfl⟩ | ⟨hl, hw, hm, hd, rfl⟩)
  · exact refused_of_catalogue hr hc (examine_wrongLink _ hl)
  · exact refused_of_catalogue hr hc (examine_outOfRange _ hl hw)
  · exact refused_of_catalogue hr hc (examine_wrongMode hl hw hm hd)

/-- Settles O10, by the lead check in its two columns. -/
theorem onlyTheLeadIsHeard : Obligations.OnlyTheLeadIsHeard := by
  unfold Obligations.OnlyTheLeadIsHeard
  intro c q code payload row s hr hc hlinks hmaster hw hmode hother hcolumn
  have hlink : row.links.permits q.link = true := by
    rw [hlinks]
    exact traction_of_master hmaster
  have hholds : holdsLead (refresh q.link s.block) q.link = false := by
    simpa [holdsLead, hmaster] using hother
  have hcheck : leadCheck (refresh q.link s.block) q.link row.column = false := by
    rcases hcolumn with hlead | ⟨hwake, hheld⟩
    · rw [hlead]; exact hholds
    · rw [hwake]
      simpa [leadCheck, hholds, ← Option.isSome_iff_ne_none] using hheld
  exact refused_of_catalogue hr hc (examine_notLead hlink hw hmode hcheck)

/-- Settles O7: the queue of replies by its head, and the reply's frame by the kind of its data. -/
theorem repliesLeaveInOrder : Obligations.RepliesLeaveInOrder := by
  unfold Obligations.RepliesLeaveInOrder
  refine ⟨fun l contacts s => ⟨fun hnone => ?_, fun r rest hsome => ?_⟩, fun code tag o data bytes h => ?_, rfl, rfl, rfl,
    by decide⟩
  · simp only [exec, execReplySent, hnone]
    rfl
  · refine ⟨_, rfl, fun hplain => ?_, fun hcode hout => ?_⟩
    · exact (execReplySent_of_some hsome).trans (by rw [if_neg hplain]; rfl)
    · exact (execReplySent_of_some hsome).trans (by rw [if_pos ⟨hcode, hout⟩]; rfl)
  · refine ⟨_, rfl, replyFrame_of_data ?_⟩
    rcases h with ⟨rfl, rfl⟩ | ⟨n, rfl, rfl⟩ | ⟨n, rfl, rfl⟩ | ⟨rfl, rfl⟩ | ⟨d, rfl, rfl⟩ <;> rfl

/-- What an expiry of the presence timer leaves of the parts that the settling keeps. -/
theorem presence_settled (l : Link) (s : State) :
    ∃ t, exec (.linkPresenceTimeout l) s = .next t ∧ t.block.kept = (presenceTimeout l s.block).kept :=
  ⟨_, rfl, kept_settle _ _ _⟩

theorem goesAbsent_other {l m : Link} (b : Block) (hm : m ≠ l) :
    ((goesAbsent l b).links.get m).present = (b.links.get m).present := by
  simp [goesAbsent, setLink_get_ne _ _ hm]

theorem presenceTimeout_hold (l : Link) (b : Block) : (presenceTimeout l b).plan.hold = b.plan.hold := by
  unfold presenceTimeout
  split
  case isTrue lost => rw [linkLost_eq, readyLapses_hold, (leadLapses_rest l _).1]; rfl
  case isFalse stays => rfl

theorem presenceTimeout_other {l m : Link} (b : Block) (hm : m ≠ l) :
    ((presenceTimeout l b).links.get m).present = (b.links.get m).present := by
  unfold presenceTimeout
  split
  case isTrue lost => rw [linkLost_eq, readyLapses_links, leadLapses_links, goesAbsent_other b hm]
  case isFalse stays => rfl

theorem present_of_kept {x y : Block} (h : x.kept = y.kept) (m : Link) :
    (x.links.get m).present = (y.links.get m).present := by
  rw [link_eq_of_links (congrArg Kept.links h) m]

/-- Settles O11, by whether the link is PRESENT and its timer stands at 0. -/
theorem presenceIsLost : Obligations.PresenceIsLost := by
  unfold Obligations.PresenceIsLost
  intro l s
  obtain ⟨t, hexec, hkept⟩ := presence_settled l s
  have lead : t.block.plan.lead = (presenceTimeout l s.block).plan.lead := congrArg Kept.lead hkept
  have hold : t.block.plan.hold = (presenceTimeout l s.block).plan.hold := congrArg Kept.hold hkept
  have readyA : t.block.plan.readyA = (presenceTimeout l s.block).plan.readyA := congrArg Kept.readyA hkept
  have readyB : t.block.plan.readyB = (presenceTimeout l s.block).plan.readyB := congrArg Kept.readyB hkept
  refine ⟨t, hexec, fun hp ha => ?_, fun hp ha => ?_, fun hp => ?_, ?_, fun m hm => ?_⟩
  · rw [presenceTimeout_of_lost hp ha, linkLost_eq] at lead readyA readyB hkept
    refine ⟨?_, ?_, ?_, ?_⟩
    · rw [present_of_kept hkept, readyLapses_links, leadLapses_links]
      simp [goesAbsent]
    · rw [lead, readyLapses_lead, leadLapses_lead]
      rfl
    · rw [readyA, readyLapses_readyA, (leadLapses_rest l _).2.1]
      rfl
    · rw [readyB, readyLapses_readyB, (leadLapses_rest l _).2.2]
      rfl
  · rw [hkept, presenceTimeout_of_stays (.inr ha)]
  · rw [hkept, presenceTimeout_of_stays (.inl hp)]
  · rw [hold, presenceTimeout_hold]
  · rw [present_of_kept hkept, presenceTimeout_other _ hm]

end Sys2Proof.Machine
end

section
/-!
The reads and the Status Digest (R184, R186, R187): each byte of the digest by its place in the table, the mask that a
reading link is given, and the contents of the other reads.
-/

namespace Sys2Proof.Machine

/-! ## Codes as positions in the manual's lists -/

theorem bit_eq (v : Bool) (k : Nat) : bit v k = v.toNat * 2 ^ k := by cases v <;> simp [bit]

theorem modeCode_eq (m : Mode) : modeCode m = place modeList m := by cases m <;> decide
theorem roleCode_eq (r : Role) : roleCode r = place roleList r := by cases r <;> decide
theorem liftCode_eq (l : LiftState) : liftCode l = place liftList l := by cases l <;> decide
theorem heldCode_eq (h : Held) : heldCode h = place heldList h := by cases h <;> decide
theorem phaseCode_eq (p : Phase) : phaseCode p = place phaseList p := by cases p <;> decide
theorem twoCode_eq (s : TwoState) : twoCode s = place twoList s := by cases s <;> decide
theorem selCode_eq (s : SelState) : selCode s = place selList s := by cases s <;> decide

theorem calCode_eq (s : CalStatus) : calCode s = place [CalStatus.none, .valid, .suspect, .failed] s := by
  cases s <;> decide

theorem directionCode_eq (d : Direction) : directionCode d = place [Direction.standstill, .forward, .reverse] d := by
  cases d <;> decide

theorem leadCode_eq (m : Option Master) : leadCode m = placeOf [Master.a, .b] m := by
  cases m with
  | none => rfl
  | some m => cases m <;> decide

theorem systemCode_eq (x : Option LineSystem) : systemCode x = placeOf systemList x := by
  cases x with
  | none => rfl
  | some x => cases x <;> decide

theorem classCode_eq (c : Option LineClass) : classCode c = placeOf classList c := by
  match c with
  | none => rfl
  | some (.sys x) => cases x <;> decide
  | some .dead | some .unknown => decide

theorem pantoCode_eq (p : Option Panto) : pantoCode p = placeOf [Panto.p1, .p2, .p3, .p4] p := by
  cases p with
  | none => rfl
  | some p => cases p <;> decide

theorem pathCode_eq (p : Option Path) : pathCode p = placeOf pathList p := by
  cases p with
  | none => rfl
  | some p => cases p <;> decide

theorem haltCode_eq (r : Option HaltReason) : haltCode r = placeOf reasonList r := by
  cases r with
  | none => rfl
  | some r => cases r <;> decide

theorem faultKind_eq (k : FaultKind) : k.ctorIdx + 1 = placeOf faultList (some k) := by cases k <;> decide

theorem subjectCode_eq (s : Subject) : subjectCode s = place subjectList s := by
  match s with
  | .none => decide
  | .panto p => cases p <;> decide
  | .switch (.iso p) => cases p <;> decide
  | .switch .breaker | .switch .selector | .switch .earth => decide
  | .link l => cases l <;> decide

/-! ## Bytes and byte groups -/

theorem liftByte_eq (b : Block) (p : Panto) : liftByte b p = liftDigest b p := by
  simp only [liftByte, liftDigest, packed, List.foldl, roleCode_eq, liftCode_eq, heldCode_eq, bit_eq]
  omega

theorem readyByte_eq (b : Block) (r : Option Ready) : readyByte b r = readyDigest b r := by
  simp only [readyByte, readyDigest, packed, List.foldl, systemCode_eq, bit_eq]
  omega

theorem calByte_eq (b : Block) (p : Panto) : calByte b p = calDigest b p := by
  simp only [calByte, calDigest, packed, List.foldl, calCode_eq, bit_eq]
  omega

theorem twoGroup_eq (w : TwoSw) : twoGroup w = switchGroup w := by
  simp only [twoGroup, switchGroup, packed, List.foldl, twoCode_eq, bit_eq]
  omega

theorem anyFail_eq (l : List (Option TestResult)) : (anyFail l).toNat = fails l := by
  have hany : l.contains (some .fail) = l.any fun r => r == some .fail := by
    rw [Bool.eq_iff_iff]
    simp
  rw [anyFail, hany, fails]

/-- Bytes as they are sent. -/
def asBytes (l : List Nat) : List Byte := l.map (BitVec.ofNat 8)

theorem asBytes_append (x y : List Nat) : asBytes (x ++ y) = asBytes x ++ asBytes y := List.map_append ..

theorem ofNat_mod_byte (n : Nat) : BitVec.ofNat 8 (n % 256) = BitVec.ofNat 8 n := by
  apply BitVec.eq_of_toNat_eq
  simp

/-- Of a number's upper part the lower byte is sent. -/
theorem asBytes_bytes2 (n : Nat) : asBytes (bytes2 n) = asBytes (twoBytes n) := by
  simp [asBytes, bytes2, twoBytes, ofNat_mod_byte]

/-! ## The sixteen fields -/

theorem sensorsField_eq (b : Block) :
    asBytes (bytes2 (notGoodBits 0 (channels b) + bit b.line.measureFaulty 14)) =
      asBytes [packed [(1, 0), (1, b.line.measureFaulty.toNat), (1, b.sensors.ambient.bad), (1, b.sensors.reservoir.bad),
          (1, b.sensors.height.p4.bad), (1, b.sensors.height.p3.bad), (1, b.sensors.height.p2.bad),
          (1, b.sensors.height.p1.bad)],
        packed [(1, b.sensors.strip.p4.bad), (1, b.sensors.strip.p3.bad), (1, b.sensors.strip.p2.bad),
          (1, b.sensors.strip.p1.bad), (1, b.sensors.actuator.p4.bad), (1, b.sensors.actuator.p3.bad),
          (1, b.sensors.actuator.p2.bad), (1, b.sensors.actuator.p1.bad)]] := by
  have hsum : notGoodBits 0 (channels b) + bit b.line.measureFaulty 14 =
      packed [(1, b.line.measureFaulty.toNat), (1, b.sensors.ambient.bad), (1, b.sensors.reservoir.bad),
        (1, b.sensors.height.p4.bad), (1, b.sensors.height.p3.bad), (1, b.sensors.height.p2.bad),
        (1, b.sensors.height.p1.bad), (1, b.sensors.strip.p4.bad), (1, b.sensors.strip.p3.bad),
        (1, b.sensors.strip.p2.bad), (1, b.sensors.strip.p1.bad), (1, b.sensors.actuator.p4.bad),
        (1, b.sensors.actuator.p3.bad), (1, b.sensors.actuator.p2.bad), (1, b.sensors.actuator.p1.bad)] := by
    simp only [channels, Panto.all, List.map, List.cons_append, List.nil_append, notGoodBits, bit_eq, packed, List.foldl,
      Chan.bad, PerP.get]
    omega
  have bound (c : Chan) : c.bad < 2 := Bool.toNat_lt _
  have b0 := bound b.sensors.strip.p4
  simp only [hsum, asBytes, bytes2, List.map, packed, List.foldl, ofNat_mod_byte]
  have b1 := bound b.sensors.strip.p3
  have b2 := bound b.sensors.strip.p2
  have b3 := bound b.sensors.strip.p1
  have b4 := bound b.sensors.actuator.p4
  have b5 := bound b.sensors.actuator.p3
  have b6 := bound b.sensors.actuator.p2
  have b7 := bound b.sensors.actuator.p1
  refine congrArg₂ List.cons (congrArg _ (by omega)) (congrArg₂ List.cons ?_ rfl)
  apply BitVec.eq_of_toNat_eq
  simp only [BitVec.toNat_ofNat]
  omega

theorem modeByte_eq (b : Block) :
    modeCode b.cond.mode * 32 + bit b.cond.standbyLowering 4 + bit b.cond.heldWake 3 =
      packed [(3, place modeList b.cond.mode), (1, b.cond.standbyLowering.toNat), (1, b.cond.heldWake.toNat), (3, 0)] := by
  simp only [modeCode_eq, bit_eq, packed, List.foldl]
  omega

theorem leadByte_eq (b : Block) :
    leadCode b.plan.lead * 64 + bit b.plan.hold 5 =
      packed [(2, placeOf [Master.a, .b] b.plan.lead), (1, b.plan.hold.toNat), (5, 0)] := by
  simp only [leadCode_eq, bit_eq, packed, List.foldl]
  omega

theorem lineByte_eq (b : Block) :
    systemCode b.record.determined * 32 + pantoCode b.record.source * 4 + bit b.record.tractionOff 1 +
        bit b.record.advisory.isSome 0 =
      packed [(3, placeOf systemList b.record.determined), (3, placeOf [Panto.p1, .p2, .p3, .p4] b.record.source),
        (1, b.record.tractionOff.toNat), (1, b.record.advisory.isSome.toNat)] := by
  simp only [systemCode_eq, pantoCode_eq, bit_eq, packed, List.foldl]
  omega

theorem classByte_eq (b : Block) :
    classCode b.line.confirmed * 32 = packed [(3, placeOf classList b.line.confirmed), (5, 0)] := by
  simp only [classCode_eq, packed, List.foldl]
  omega

theorem pathByte_eq (b : Block) :
    pathCode b.seq.path * 32 + pantoCode b.seq.candidate * 4 + bit b.seq.mismatch 1 =
      packed [(3, placeOf pathList b.seq.path), (3, placeOf [Panto.p1, .p2, .p3, .p4] b.seq.candidate),
        (1, b.seq.mismatch.toNat), (1, 0)] := by
  simp only [pathCode_eq, pantoCode_eq, bit_eq, packed, List.foldl]
  omega

theorem breakerByte_eq (w : Switches) :
    twoGroup w.breaker * 16 + selGroup w.selector =
      packed [(4, switchGroup w.breaker), (3, place selList w.selector.state), (1, w.selector.disagree.toNat)] := by
  simp only [twoGroup_eq, selGroup, selCode_eq, bit_eq, packed, List.foldl]
  omega

theorem isoByte_eq (x y : TwoSw) :
    twoGroup x * 16 + twoGroup y = packed [(4, switchGroup x), (4, switchGroup y)] := by
  simp only [twoGroup_eq, packed, List.foldl]
  omega

theorem earthByte_eq (x : TwoSw) : twoGroup x * 16 = packed [(4, switchGroup x), (4, 0)] := by
  simp only [twoGroup_eq, packed, List.foldl]
  omega

theorem queueByte_eq (b : Block) :
    bit (activeEntry b).isSome 7 + b.queue.entries.length * 8 + bit b.queue.stale 2 + directionCode b.queue.direction =
      packed [(1, (b.queue.entries.find? fun x => x.active).isSome.toNat), (4, b.queue.entries.length),
        (1, b.queue.stale.toNat), (2, place [Direction.standstill, .forward, .reverse] b.queue.direction)] := by
  change bit (b.queue.entries.find? fun x => x.active).isSome 7 + _ + _ + _ = _
  simp only [directionCode_eq, bit_eq, packed, List.foldl]
  omega

theorem iceByte_eq (i : Ice) :
    i.level * 64 + i.forced * 16 + bit i.enable 3 =
      packed [(2, i.level), (2, i.forced), (1, i.enable.toNat), (3, 0)] := by
  simp only [bit_eq, packed, List.foldl]
  omega

theorem heatedByte_eq (i : Ice) :
    pantoCode i.scraper * 32 + pantoCode i.preheat * 4 =
      packed [(3, placeOf [Panto.p1, .p2, .p3, .p4] i.scraper), (3, placeOf [Panto.p1, .p2, .p3, .p4] i.preheat),
        (2, 0)] := by
  simp only [pantoCode_eq, packed, List.foldl]
  omega

theorem faultByte_none (v : Bool) :
    bit v 7 + 0 = packed [(1, v.toNat), (2, 0), (5, placeOf faultList ((none : Option FirstFault).map FirstFault.kind))] := by
  cases v <;> rfl

theorem faultByte_some (v : Bool) (f : FirstFault) :
    bit v 7 + (f.kind.ctorIdx + 1) =
      packed [(1, v.toNat), (2, 0), (5, placeOf faultList ((some f).map FirstFault.kind))] := by
  rw [faultKind_eq, bit_eq]
  simp only [packed, List.foldl, Option.map_some]
  omega

/-- The two bytes of the first fault. -/
theorem faultField_eq (b : Block) :
    (digestFields b)[12]? = some [packed [(1, b.cond.faults.present.toNat), (2, 0),
        (5, placeOf faultList (b.cond.faults.first.map FirstFault.kind))],
      place subjectList ((b.cond.faults.first.map FirstFault.subject).getD .none)] := by
  unfold digestFields
  cases hf : b.cond.faults.first with
  | none =>
    rw [← faultByte_none]
    rfl
  | some f =>
    rw [← faultByte_some]
    exact congrArg (fun n => some [_, n]) (subjectCode_eq f.subject)

theorem linksByte_eq (v : PerL LinkRec) :
    bit v.a.present 2 + bit v.b.present 1 + bit v.p.present 0 =
      packed [(5, 0), (1, v.a.present.toNat), (1, v.b.present.toNat), (1, v.p.present.toNat)] := by
  simp only [bit_eq, packed, List.foldl]
  omega

theorem configByte_eq (c : Cond) :
    bit c.configGood 1 + bit (!c.configSaved) 0 =
      packed [(6, 0), (1, c.configGood.toNat), (1, (!c.configSaved).toNat)] := by
  simp only [bit_eq, packed, List.foldl]
  omega

theorem packed_bits (a b c d e f g h : Nat) :
    packed [(1, a), (1, b), (1, c), (1, d), (1, e), (1, f), (1, g), (1, h)] =
      a * 2 ^ 7 + b * 2 ^ 6 + c * 2 ^ 5 + d * 2 ^ 4 + e * 2 ^ 3 + f * 2 ^ 2 + g * 2 ^ 1 + h * 2 ^ 0 := by
  simp only [packed, List.foldl]
  omega

theorem selfTestByte_eq (r : SelfTest) :
    selfTestByte r = packed [(1, r.completed.toNat), (1, fails [r.config]),
      (1, fails [r.calibration.p1, r.calibration.p2, r.calibration.p3, r.calibration.p4]),
      (1, fails [r.sensors.actuator.p1, r.sensors.actuator.p2, r.sensors.actuator.p3, r.sensors.actuator.p4,
        r.sensors.strip.p1, r.sensors.strip.p2, r.sensors.strip.p3, r.sensors.strip.p4, r.sensors.height.p1,
        r.sensors.height.p2, r.sensors.height.p3, r.sensors.height.p4, r.sensors.reservoir, r.sensors.ambient]),
      (1, fails [r.valves.p1, r.valves.p2, r.valves.p3, r.valves.p4]),
      (1, fails [r.strips.p1, r.strips.p2, r.strips.p3, r.strips.p4]),
      (1, fails [r.switches.breaker, r.switches.selector, r.switches.iso.p1, r.switches.iso.p2, r.switches.iso.p3,
        r.switches.iso.p4, r.switches.earth]),
      (1, fails [r.links.a, r.links.b, r.links.p])] := by
  rw [packed_bits]
  simp only [selfTestByte, bit_eq, anyFail_eq]
  rfl

/-- The digest is laid out as the table of R187 has it. -/
theorem digestBytes_eq (m : Mask) (b : Block) : digestBytes m b = (statusDigest m b).map (BitVec.ofNat 8) := by
  have hfault := Option.some.inj (faultField_eq b)
  change asBytes _ = asBytes _
  unfold statusDigest digestFields
  dsimp only
  simp only [List.flatten_cons, List.flatten_nil, List.append_nil, asBytes_append, List.append_assoc]
  rw [sensorsField_eq, hfault]
  simp only [asBytes_bytes2, Panto.all, List.map, PerP.list, liftByte_eq, calByte_eq, readyByte_eq, haltCode_eq,
    phaseCode_eq]
  rw [modeByte_eq, leadByte_eq, lineByte_eq, classByte_eq, pathByte_eq, breakerByte_eq, isoByte_eq, isoByte_eq,
    earthByte_eq, queueByte_eq, iceByte_eq, heatedByte_eq, linksByte_eq, configByte_eq, selfTestByte_eq]
  rfl

theorem length_digestBytes (m : Mask) (b : Block) : (digestBytes m b).length = 47 := by
  simp [digestBytes, digestFields, bytes2, PerP.list, Panto.all]

/-! ## The masks at a read (R184) -/

/-- Two digests that differ in one field at most. -/
theorem fieldDiff_set (n k : Nat) (l : List (List Nat)) (x y : List Nat) (hk : l[k]? = some x) :
    fieldDiff n l (l.set k y) = if x = y then 0 else BitVec.twoPow 16 (n + k) := by
  induction l generalizing n k with
  | nil => cases hk
  | cons z zs ih =>
    cases k with
    | zero =>
      cases hk
      simp [fieldDiff, fieldDiff_self]
    | succ k =>
      have hrest := ih (n + 1) k hk
      simp only [List.set_cons_succ, fieldDiff, if_true, hrest]
      rw [Nat.add_right_comm, Nat.add_assoc]
      exact BitVec.zero_or

/-- The byte of the digest that shows which links are present. -/
def linksByte (v : PerL LinkRec) : Nat := bit v.a.present 2 + bit v.b.present 1 + bit v.p.present 0

theorem linksByte_eq_present (v : PerL LinkRec) (l : Link) (r : LinkRec) (h : r.present = true) :
    (linksByte v = linksByte (v.set l r)) ↔ (v.get l).present = true := by
  obtain ⟨a, b, p⟩ := v
  have one (x : Bool) : x.toNat = 1 ↔ x = true := by cases x <;> decide
  rw [← one]
  cases l <;> simp only [linksByte, PerL.set, PerL.get, bit_eq, h, Bool.toNat_true] <;> omega

/-- The mask bit that a valid frame's presence sets: that of the links' field, where the link was not present. -/
def presenceBit (l : Link) (b : Block) : Mask := if (b.links.get l).present = true then 0 else 0x2000

theorem changed_refresh (l : Link) (b : Block) : changed b (refresh l b) = presenceBit l b := by
  have hset : digestFields (refresh l b) = (digestFields b).set 13 [linksByte (refresh l b).links] := rfl
  have hget : (digestFields b)[13]? = some [linksByte b.links] := rfl
  have hreports : reports b (refresh l b) = 0 := by simp [reports, refresh, setLink, reportBit]
  have hbyte : linksByte b.links = linksByte (refresh l b).links ↔ (b.links.get l).present = true :=
    linksByte_eq_present b.links l _ rfl
  simp only [changed, hset, fieldDiff_set 0 13 _ _ _ hget, hreports, presenceBit, List.cons.injEq, and_true]
  by_cases hp : (b.links.get l).present = true
  · rw [if_pos hp, if_pos (hbyte.mpr hp)]
    rfl
  · rw [if_neg hp, if_neg (mt hbyte.mp hp)]
    rfl

/-- A valid frame changes the links alone; the masks take the bit of its presence. -/
theorem close_refresh (l : Link) (b : Block) :
    close b (refresh l b) = markAll (presenceBit l b) (refresh l b) := by
  have hr : reference b (refresh l b) = principal (refresh l b) := by
    unfold reference
    simp only [refresh, setLink]
    cases b.cond.restart <;> rfl
  simp only [close, advanceEpoch, hr, if_true, markChanges, changed_refresh]

theorem mask_markAll (m : Mask) (b : Block) (l : Link) :
    ((markAll m b).links.get l).mask = (b.links.get l).mask ||| m := by
  cases l <;> rfl

theorem mask_setLink {l : Link} {r : LinkRec} {b : Block} (h : r.mask = (b.links.get l).mask) (m : Link) :
    ((setLink l r b).links.get m).mask = (b.links.get m).mask := by
  by_cases hm : m = l
  · subst hm; simpa using h
  · rw [setLink_get_ne _ _ hm]

theorem mask_refresh (l m : Link) (b : Block) : ((refresh l b).links.get m).mask = (b.links.get m).mask :=
  mask_setLink (r := { b.links.get l with present := true, age := some 0, frame := none }) rfl m

theorem mask_pushReply (l m : Link) (r : Reply) (b : Block) :
    ((pushReply l r b).links.get m).mask = (b.links.get m).mask :=
  mask_setLink (r := { b.links.get l with replies := (b.links.get l).replies ++ [r] }) rfl m

theorem mask_close_refresh (l m : Link) (b : Block) :
    ((close b (refresh l b)).links.get m).mask = (b.links.get m).mask ||| presenceBit l b := by
  rw [close_refresh, mask_markAll, mask_refresh]

/-! ## The reads (R186) -/

theorem onlyLinks_refresh (q : Req) (s : State) :
    close s.block (refresh q.link s.block) =
      { s.block with links := (close s.block (refresh q.link s.block)).links } :=
  onlyLinks_close (s := s) (x := refresh q.link s.block) rfl

/-- A read of a link's master is answered with what its view gives of the state as it stands. -/
theorem read_shows {q : Req} {code : Nat} {view : View} {s : State} {shown : Option ReplyData} (hw : q.wellFormed = true)
    (hv : ∀ links, view { s.block with links := links } = shown.elim (.error .outOfRange) .ok) :
    ∃ t, Machine.read q code view s = .next t ∧ OnlyLinks s t ∧
      ((s.block.links.get q.link).present = true → ∀ l, (t.block.links.get l).mask = (s.block.links.get l).mask) ∧
      (∀ d, shown = some d → Answered s t q.link ⟨code, q.tag, .done, d⟩) ∧
      (shown = none → Answered s t q.link (plainReply code q (.refused .outOfRange))) := by
  have hview : view (close s.block (refresh q.link s.block)) = shown.elim (.error .outOfRange) .ok :=
    onlyLinks_refresh q s ▸ hv _
  have hreplies := (replied_close s.block q.link (readReply q code view (close s.block (refresh q.link s.block)))).replies
  refine ⟨_, rfl, ?_, fun hp l => ?_, fun d hd => ?_, fun hn => ?_⟩
  · have honly := onlyLinks_refresh q s
    unfold OnlyLinks
    simp only
    rw [honly]
    rfl
  · rw [mask_pushReply, mask_close_refresh, presenceBit, if_pos hp]
    exact BitVec.or_zero
  · rw [hd] at hview
    refine hreplies.trans ?_
    simp only [readReply, examine_read hw, hview, Option.elim]
  · rw [hn] at hview
    refine hreplies.trans ?_
    simp only [readReply, examine_read hw, hview, Option.elim]
    rfl

theorem counters_shown (q : Req) (s : State) (hw : q.wellFormed = true) :
    ∃ t, exec (.readLinkCounters q) s = .next t ∧ OnlyLinks s t ∧
      ∃ v, Answered s t q.link ⟨0x4B, q.tag, .done, .counters v⟩ ∧
        ∀ l, ∃ r, r = t.block.links.get l ∧ v.get l = ⟨r.present, r.age, r.badFrames, r.mask, r.mask != 0⟩ := by
  refine ⟨_, rfl, ?_, countersView (close s.block (refresh q.link s.block)), ?_, fun l => ⟨_, rfl, ?_⟩⟩
  · have honly := onlyLinks_refresh q s
    unfold OnlyLinks
    simp only
    rw [honly]
    rfl
  · refine (replied_close s.block q.link _).replies.trans ?_
    simp only [readReply, examine_read hw]
  · by_cases hl : l = q.link
    · subst hl
      cases hq : q.link <;> simp [pushReply, countersView, linkView, setLink, PerL.get, PerL.set]
    · simp only [pushReply, setLink_get_ne _ _ hl]
      cases l <;> rfl

theorem execReadStatusDigest_of_passed {q : Req} (hw : q.wellFormed = true) (s : State) :
    execReadStatusDigest q s = toNext s (emptyMask q.link (pushReply q.link
      ⟨0x40, q.tag, .done, .digest (digestBytes
        ((close s.block (refresh q.link s.block)).links.get q.link).mask (close s.block (refresh q.link s.block)))⟩
      (close s.block (refresh q.link s.block)))) := by
  simp only [execReadStatusDigest, examine_read hw]

theorem digestBytes_emptyMask (m : Mask) (l : Link) (r : Reply) (b : Block) :
    digestBytes m (emptyMask l (pushReply l r b)) = digestBytes m b := by
  cases l <;> rfl

/-- A digest read carries its link's mask with the bit of its own presence, and empties that mask alone. -/
theorem digest_shown (q : Req) (s : State) (hw : q.wellFormed = true) :
    ∃ t, exec (.readStatusDigest q) s = .next t ∧ OnlyLinks s t ∧
      Answered s t q.link ⟨0x40, q.tag, .done, .digest (digestBytes
        ((s.block.links.get q.link).mask ||| presenceBit q.link s.block) t.block)⟩ ∧
      (t.block.links.get q.link).mask = 0 ∧
      ∀ l, l ≠ q.link → (s.block.links.get q.link).present = true →
        (t.block.links.get l).mask = (s.block.links.get l).mask := by
  refine ⟨_, execReadStatusDigest_of_passed hw s, ?_, ?_, ?_, fun l hl hp => ?_⟩
  · have honly := onlyLinks_refresh q s
    unfold OnlyLinks
    simp only
    rw [honly]
    rfl
  · rw [digestBytes_emptyMask, ← mask_close_refresh]
    exact ((replied_close s.block q.link _).of_links (links_emptyMask _ _)).replies
  · simp [emptyMask]
  · simp only [emptyMask, setLink_get_ne _ _ hl, pushReply]
    rw [mask_close_refresh, presenceBit, if_pos hp]
    exact BitVec.or_zero

/-- A read of one pantograph by its number. -/
theorem pantoRead_eq (n : Nat) (f : Panto → Block → ReplyData) (b : Block) :
    pantoRead n f b = ((pantoOf n).map fun p => f p b).elim (.error .outOfRange) .ok := by
  unfold pantoRead
  cases pantoOf n with
  | none => rfl
  | some p => rfl

theorem arcsView_eq (n : Nat) (b : Block) :
    arcsView n b = (if n ≤ 31 then some (ReplyData.arcs b.ice.arcCount b.ice.history.length ((b.ice.history.drop n).take 8))
      else none).elim (.error .outOfRange) .ok := by
  unfold arcsView
  by_cases hn : n ≤ 31
  · rw [if_pos hn, if_neg (by omega)]
    rfl
  · rw [if_neg hn, if_pos (by omega)]
    rfl

theorem itemView_eq (item : Option Item) (b : Block) :
    itemView item b = (item.map fun i => ReplyData.item (b.cfg i) i.lo i.hi i.initial b.cond.configSaved).elim
      (.error .outOfRange) .ok := by
  cases item with
  | none => rfl
  | some i => rfl

/-- Settles O57: the digest by its table, and each other read by its view of the state. -/
theorem readsAnswerFromTheState : Obligations.ReadsAnswerFromTheState := by
  unfold Obligations.ReadsAnswerFromTheState
  refine ⟨fun q s hw => digest_shown q s hw, fun m b => ⟨digestBytes_eq m b, length_digestBytes m b⟩,
    fun q s hw => counters_shown q s hw, fun q n item s hw c code view h => ?_⟩
  simp only [List.mem_cons, List.not_mem_nil, or_false] at h
  have pantograph := fun links => pantoRead_eq n (fun p b => .panto (pantoView p b)) { s.block with links := links }
  have calibration := fun links => pantoRead_eq n calibrationView { s.block with links := links }
  have arcs := fun links => arcsView_eq n { s.block with links := links }
  have items := fun links => itemView_eq item { s.block with links := links }
  rcases h with h | h | h | h | h | h | h | h | h | h | h <;> cases h
  case inl.refl => exact read_shows hw fun _ => rfl
  case inr.inl.refl => exact read_shows hw pantograph
  case inr.inr.inr.inr.inr.inr.inl.refl => exact read_shows hw arcs
  case inr.inr.inr.inr.inr.inr.inr.inl.refl => exact read_shows hw calibration
  case inr.inr.inr.inr.inr.inr.inr.inr.inr.inr.refl => exact read_shows hw items
  all_goals exact read_shows hw fun _ => rfl

end Sys2Proof.Machine
end

section
/-!
The working record: what a read shows after a write, the clamp of a written item, and the record as a load takes it.
-/

namespace Sys2Proof.Machine

/-! ## Reads after writes -/

theorem all_getElem_ctorIdx (i : Item) : Item.all[i.ctorIdx]? = some i := by cases i <;> rfl

theorem item_ext {i j : Item} (h : i.ctorIdx = j.ctorIdx) : i = j := by
  have hj := all_getElem_ctorIdx j
  rw [← h, all_getElem_ctorIdx i] at hj
  exact Option.some.inj hj

@[simp] theorem cfgGet_cfgSet_self (c : CfgRec) (i : Item) (v : Int) : cfgGet (cfgSet c i v) i = v := by
  simp [cfgGet, cfgSet]

theorem cfgGet_cfgSet_ne {i j : Item} (c : CfgRec) (v : Int) (h : i ≠ j) : cfgGet (cfgSet c j v) i = cfgGet c i := by
  simp only [cfgGet, cfgSet]
  exact Vector.getElem_set_ne _ _ fun hk => h (item_ext hk.symm)

theorem cfgNat_cfgSet_ne {i j : Item} (c : CfgRec) (v : Int) (h : i ≠ j) : cfgNat (cfgSet c j v) i = cfgNat c i := by
  rw [cfgNat, cfgGet_cfgSet_ne c v h, cfgNat]

/-! ## Ranges and ordered pairs -/

theorem item_lo_le_hi (i : Item) : i.lo ≤ i.hi := by cases i <;> decide

theorem clampInto_eq {lo hi : Int} (h : lo ≤ hi) (v : Int) : clampInto lo hi v = max lo (min hi v) := by
  unfold clampInto
  split
  · omega
  · split <;> omega

/-- A low item's range begins no later than its high item's, and ends no later. -/
theorem orderedPairs_ranges : ∀ q ∈ orderedPairs, q.1.lo ≤ q.2.lo ∧ q.1.hi ≤ q.2.hi := by decide

/-- No pair lowers an item to which an earlier pair has lowered another. -/
theorem orderedPairs_once : orderedPairs.Pairwise fun q r => r.1 ≠ q.2 := by decide +kernel

theorem InRange.set {c : CfgRec} {i : Item} {v : Int} (h : InRange c) (hv : i.lo ≤ v ∧ v ≤ i.hi) :
    InRange (cfgSet c i v) := by
  intro j
  by_cases hj : j = i
  · rw [hj, cfgGet_cfgSet_self]
    exact hv
  · rw [cfgGet_cfgSet_ne c v hj]
    exact h j

/-! ## The clamp of a written item -/

/-- The value lowered to every high item of which `i` is the low item. -/
def lowerTo (c : CfgRec) (i : Item) (l : List (Item × Item)) (v : Int) : Int :=
  l.foldl (fun w q => if q.1 = i then (if cfgGet c q.2 < w then cfgGet c q.2 else w) else w) v

/-- The value raised to every low item of which `i` is the high item. -/
def raiseTo (c : CfgRec) (i : Item) (l : List (Item × Item)) (v : Int) : Int :=
  l.foldl (fun w q => if q.2 = i then (if w < cfgGet c q.1 then cfgGet c q.1 else w) else w) v

theorem clampItem_eq (c : CfgRec) (i : Item) (v : Int) :
    clampItem c i v = raiseTo c i orderedPairs (lowerTo c i orderedPairs (max i.lo (min i.hi v))) := by
  rw [← clampInto_eq (item_lo_le_hi i)]
  rfl

theorem lowerTo_spec (c : CfgRec) (i : Item) (l : List (Item × Item)) (w : Int) :
    lowerTo c i l w ≤ w ∧ (∀ q ∈ l, q.1 = i → lowerTo c i l w ≤ cfgGet c q.2) ∧
      (lowerTo c i l w = w ∨ ∃ q ∈ l, q.1 = i ∧ lowerTo c i l w = cfgGet c q.2) := by
  induction l generalizing w with
  | nil => exact ⟨le_rfl, nofun, .inl rfl⟩
  | cons q l ih =>
    obtain ⟨hle, hall, hone⟩ := ih (if q.1 = i then (if cfgGet c q.2 < w then cfgGet c q.2 else w) else w)
    have heq : lowerTo c i (q :: l) w =
      lowerTo c i l (if q.1 = i then (if cfgGet c q.2 < w then cfgGet c q.2 else w) else w) := rfl
    rw [heq]
    generalize hr : lowerTo c i l (if q.1 = i then (if cfgGet c q.2 < w then cfgGet c q.2 else w) else w) = r at *
    have hlater : (∃ q' ∈ l, q'.1 = i ∧ r = cfgGet c q'.2) → ∃ q' ∈ q :: l, q'.1 = i ∧ r = cfgGet c q'.2 :=
      fun ⟨q', hq', h⟩ => ⟨q', List.mem_cons_of_mem q hq', h⟩
    by_cases hq : q.1 = i
    · rw [if_pos hq] at hle hone
      refine ⟨by split at hle <;> omega, fun q' hq' h' => ?_, ?_⟩
      · rcases List.mem_cons.mp hq' with rfl | hq'
        · split at hle <;> omega
        · exact hall q' hq' h'
      · split at hone
        · exact .inr (hone.elim (fun h => ⟨q, List.mem_cons_self, hq, h⟩) hlater)
        · exact hone.imp id hlater
    · rw [if_neg hq] at hle hone
      refine ⟨hle, fun q' hq' h' => ?_, hone.imp id hlater⟩
      rcases List.mem_cons.mp hq' with rfl | hq'
      · exact absurd h' hq
      · exact hall q' hq' h'

theorem raiseTo_spec (c : CfgRec) (i : Item) (l : List (Item × Item)) (w : Int) :
    w ≤ raiseTo c i l w ∧ (∀ q ∈ l, q.2 = i → cfgGet c q.1 ≤ raiseTo c i l w) ∧
      (raiseTo c i l w = w ∨ ∃ q ∈ l, q.2 = i ∧ raiseTo c i l w = cfgGet c q.1) := by
  induction l generalizing w with
  | nil => exact ⟨le_rfl, nofun, .inl rfl⟩
  | cons q l ih =>
    obtain ⟨hle, hall, hone⟩ := ih (if q.2 = i then (if w < cfgGet c q.1 then cfgGet c q.1 else w) else w)
    have heq : raiseTo c i (q :: l) w =
      raiseTo c i l (if q.2 = i then (if w < cfgGet c q.1 then cfgGet c q.1 else w) else w) := rfl
    rw [heq]
    generalize hr : raiseTo c i l (if q.2 = i then (if w < cfgGet c q.1 then cfgGet c q.1 else w) else w) = r at *
    have hlater : (∃ q' ∈ l, q'.2 = i ∧ r = cfgGet c q'.1) → ∃ q' ∈ q :: l, q'.2 = i ∧ r = cfgGet c q'.1 :=
      fun ⟨q', hq', h⟩ => ⟨q', List.mem_cons_of_mem q hq', h⟩
    by_cases hq : q.2 = i
    · rw [if_pos hq] at hle hone
      refine ⟨by split at hle <;> omega, fun q' hq' h' => ?_, ?_⟩
      · rcases List.mem_cons.mp hq' with rfl | hq'
        · split at hle <;> omega
        · exact hall q' hq' h'
      · split at hone
        · exact .inr (hone.elim (fun h => ⟨q, List.mem_cons_self, hq, h⟩) hlater)
        · exact hone.imp id hlater
    · rw [if_neg hq] at hle hone
      refine ⟨hle, fun q' hq' h' => ?_, hone.imp id hlater⟩
      rcases List.mem_cons.mp hq' with rfl | hq'
      · exact absurd h' hq
      · exact hall q' hq' h'

/-- A written item stays within its range. -/
theorem clampItem_range {c : CfgRec} (h : InRange c) (i : Item) (v : Int) :
    i.lo ≤ clampItem c i v ∧ clampItem c i v ≤ i.hi := by
  have hlohi := item_lo_le_hi i
  rw [clampItem_eq]
  obtain ⟨hle, -, hlow⟩ := lowerTo_spec c i orderedPairs (max i.lo (min i.hi v))
  generalize lowerTo c i orderedPairs (max i.lo (min i.hi v)) = w at *
  have hw : i.lo ≤ w ∧ w ≤ i.hi := by
    refine ⟨?_, by omega⟩
    rcases hlow with hw | ⟨q, hq, hi, hw⟩
    · omega
    · have := (orderedPairs_ranges q hq).1
      have := (h q.2).1
      rw [hi] at *
      omega
  obtain ⟨hge, -, hhigh⟩ := raiseTo_spec c i orderedPairs w
  refine ⟨by omega, ?_⟩
  rcases hhigh with hr | ⟨q, hq, hi, hr⟩
  · omega
  · have := (orderedPairs_ranges q hq).2
    have := (h q.1).2
    rw [hi] at *
    omega

/-- A written high item does not fall below its low items. -/
theorem le_clampItem {c : CfgRec} {q : Item × Item} (hq : q ∈ orderedPairs) (v : Int) :
    cfgGet c q.1 ≤ clampItem c q.2 v := by
  rw [clampItem_eq]
  exact (raiseTo_spec c q.2 orderedPairs _).2.1 q hq rfl

/-- A written low item that is no other's high item does not exceed its high item. -/
theorem clampItem_le {c : CfgRec} {q : Item × Item} (hq : q ∈ orderedPairs) (hlow : ∀ r ∈ orderedPairs, r.2 ≠ q.1)
    (v : Int) : clampItem c q.1 v ≤ cfgGet c q.2 := by
  rw [clampItem_eq]
  have hle := (lowerTo_spec c q.1 orderedPairs (max q.1.lo (min q.1.hi v))).2.1 q hq rfl
  rcases (raiseTo_spec c q.1 orderedPairs (lowerTo c q.1 orderedPairs (max q.1.lo (min q.1.hi v)))).2.2 with h | ⟨r, hr, hi, -⟩
  · rw [h]
    exact hle
  · exact absurd hi (hlow r hr)

/-! ## Loads -/

theorem cfgGet_foldl_set (g : Item → Int) (l : List Item) (c : CfgRec) (i : Item) :
    cfgGet (l.foldl (fun r j => cfgSet r j (g j)) c) i = if i ∈ l then g i else cfgGet c i := by
  induction l generalizing c with
  | nil => simp
  | cons j l ih =>
    rw [List.foldl_cons, ih]
    by_cases hi : i ∈ l
    · simp [hi]
    · by_cases hj : i = j
      · simp [hj]
      · simp [hi, hj, cfgGet_cfgSet_ne c _ hj]

/-- The record with each item brought into its range. -/
def rangedRec (c : CfgRec) : CfgRec := Item.all.foldl (fun r i => cfgSet r i (clampInto i.lo i.hi (cfgGet c i))) c

theorem cfgGet_rangedRec (c : CfgRec) (i : Item) : cfgGet (rangedRec c) i = ranged c i := by
  unfold rangedRec
  rw [cfgGet_foldl_set fun i => clampInto i.lo i.hi (cfgGet c i), if_pos (item_mem_all i),
    clampInto_eq (item_lo_le_hi i), ranged]

theorem inRange_rangedRec (c : CfgRec) : InRange (rangedRec c) := by
  intro i
  have := item_lo_le_hi i
  rw [cfgGet_rangedRec, ranged]
  omega

/-- A low item is lowered to its high item where it exceeds it. -/
def lowerPair (r : CfgRec) (q : Item × Item) : CfgRec :=
  if cfgGet r q.2 < cfgGet r q.1 then cfgSet r q.1 (cfgGet r q.2) else r

theorem cfgLoad_eq (c : CfgRec) : cfgLoad c = orderedPairs.foldl lowerPair (rangedRec c) := rfl

theorem cfgGet_lowerPair_ne {i : Item} {q : Item × Item} (r : CfgRec) (h : i ≠ q.1) :
    cfgGet (lowerPair r q) i = cfgGet r i := by
  unfold lowerPair
  split
  · exact cfgGet_cfgSet_ne _ _ h
  · rfl

theorem cfgGet_lowerPair_low (r : CfgRec) (q : Item × Item) :
    cfgGet (lowerPair r q) q.1 = min (cfgGet r q.1) (cfgGet r q.2) := by
  unfold lowerPair
  split
  · rw [cfgGet_cfgSet_self]
    omega
  · omega

theorem inRange_lowerPair {r : CfgRec} {q : Item × Item} (hq : q ∈ orderedPairs) (h : InRange r) :
    InRange (lowerPair r q) := by
  unfold lowerPair
  split
  next hlt =>
    have := (orderedPairs_ranges q hq).1
    have := (h q.1).2
    have := (h q.2).1
    exact h.set ⟨by omega, by omega⟩
  next => exact h

theorem cfgGet_lowerPairs_ne {i : Item} (l : List (Item × Item)) (r : CfgRec) (h : ∀ q ∈ l, i ≠ q.1) :
    cfgGet (l.foldl lowerPair r) i = cfgGet r i := by
  induction l generalizing r with
  | nil => rfl
  | cons q l ih =>
    rw [List.foldl_cons, ih _ fun q' hq' => h q' (List.mem_cons_of_mem q hq'),
      cfgGet_lowerPair_ne r (h q List.mem_cons_self)]

theorem inRange_cfgLoad (c : CfgRec) : InRange (cfgLoad c) := by
  rw [cfgLoad_eq]
  have step (l : List (Item × Item)) (r : CfgRec) (hl : ∀ q ∈ l, q ∈ orderedPairs) (hr : InRange r) :
      InRange (l.foldl lowerPair r) := by
    induction l generalizing r with
    | nil => exact hr
    | cons q l ih =>
      exact ih _ (fun q' hq' => hl q' (List.mem_cons_of_mem q hq')) (inRange_lowerPair (hl q List.mem_cons_self) hr)
  exact step _ _ (fun _ h => h) (inRange_rangedRec c)

/-- The low items of the pairs are distinct. -/
theorem orderedPairs_distinct : orderedPairs.Pairwise fun q r => r.1 ≠ q.1 := by decide +kernel

/-- A load lowers the low item of each pair to its high item, as both stand then. -/
theorem cfgGet_cfgLoad_low (c : CfgRec) : ∀ q ∈ orderedPairs,
    cfgGet (cfgLoad c) q.1 = min (ranged c q.1) (cfgGet (cfgLoad c) q.2) := by
  have step (l : List (Item × Item)) (r : CfgRec) (hne : ∀ q ∈ l, q.2 ≠ q.1) (hdist : l.Pairwise fun q r => r.1 ≠ q.1)
      (honce : l.Pairwise fun q r => r.1 ≠ q.2) : ∀ q ∈ l,
      cfgGet (l.foldl lowerPair r) q.1 = min (cfgGet r q.1) (cfgGet (l.foldl lowerPair r) q.2) := by
    induction l generalizing r with
    | nil => exact nofun
    | cons q l ih =>
      obtain ⟨hq, hdist⟩ := List.pairwise_cons.mp hdist
      obtain ⟨ho, honce⟩ := List.pairwise_cons.mp honce
      intro q' hq'
      rw [List.foldl_cons]
      rcases List.mem_cons.mp hq' with rfl | hq'
      · rw [cfgGet_lowerPairs_ne _ _ fun x hx => (hq x hx).symm, cfgGet_lowerPairs_ne _ _ fun x hx => (ho x hx).symm,
          cfgGet_lowerPair_low, cfgGet_lowerPair_ne r (hne q' List.mem_cons_self)]
      · rw [ih _ (fun x hx => hne x (List.mem_cons_of_mem q hx)) hdist honce q' hq', cfgGet_lowerPair_ne r (hq q' hq')]
  intro q hq
  rw [cfgLoad_eq, ← cfgGet_rangedRec]
  exact step _ _ (by decide) orderedPairs_distinct orderedPairs_once q hq

theorem cfgGet_cfgLoad_ne (c : CfgRec) {i : Item} (h : ∀ q ∈ orderedPairs, q.1 ≠ i) :
    cfgGet (cfgLoad c) i = ranged c i := by
  rw [cfgLoad_eq, cfgGet_lowerPairs_ne _ _ fun q hq => (h q hq).symm, cfgGet_rangedRec]

theorem cfgLoad_ordered (c : CfgRec) {q : Item × Item} (hq : q ∈ orderedPairs) :
    cfgGet (cfgLoad c) q.1 ≤ cfgGet (cfgLoad c) q.2 := by
  rw [cfgGet_cfgLoad_low c q hq]
  exact min_le_right _ _

theorem cfgGet_defaults (i : Item) : cfgGet cfgDefaults i = i.initial := by cases i <;> rfl

theorem inRange_defaults : InRange cfgDefaults := by
  intro i
  rw [cfgGet_defaults]
  cases i <;> decide

theorem defaults_ordered : ∀ q ∈ orderedPairs, cfgGet cfgDefaults q.1 ≤ cfgGet cfgDefaults q.2 := by decide

end Sys2Proof.Machine
end

section
/-!
What a step can do to the block, said once. `Prim` lists the changes of which the operations of all blocks are made, each
with the condition under which an operation makes it; `Prims` is a run of them. A law of the device is kept by a step
because each of these changes keeps it.
-/

namespace Sys2Proof.Machine

/-! ## Weaker forms of two laws, which hold inside an event too -/

/-- What a warm restart that waits rules out at every point of an event: it waits in WAKING with no standby lowering, and
no path stands where one would pass a raise or ask for a switch. `RestartLaw` gives it. -/
def RestartMid (b : Block) : Prop :=
  b.cond.restart.isSome = true →
    b.cond.mode = .waking ∧ b.cond.standbyLowering = false ∧
      b.seq.phase ∉ [.armed, .tractionOff, .breakerOpen, .coast] ∧
      (b.seq.phase = .probe → b.seq.work ∉ [.switches, .isolator, .ready])

/-- The part of `PendingLaw` that does not speak of the breaker. -/
def PendContact (b : Block) : Prop :=
  b.cond.restart = none → ∀ p, (b.lc p).lowerPending = true → (b.lc p).state = .contact

/-! ## Permissions -/

/-- What a stretch of an event may do beyond what every stretch may, and what is known where it begins. -/
structure Scope where
  /-- HALTED may be left. -/
  unhalts   : Prop
  /-- A reading, a timeout or a cleared fault may take the breaker out of travel or out of CLOSED. -/
  reads     : Prop
  /-- The breaker may enter CLOSING: the masters' readiness stands. -/
  closes    : Prop
  /-- IDLE may be left; a scraper's role is cleared before the stretch ends. -/
  starts    : Prop
  /-- The working record may change, and a restart may end. -/
  loads     : Prop
  /-- The parts of the final ice level and the heater shares may change. -/
  estimates : Prop
  /-- The final ice level and the current-limit advisory may change. -/
  advises   : Prop
  /-- A role may be given. -/
  grants    : Prop
  /-- A change mask may be emptied. -/
  forgets   : Prop
  /-- A path may start that goes on with the collector that stands, whatever waits. -/
  stands    : Prop
  /-- `RestartMid` is known to hold. -/
  calm      : Prop
  /-- A scan may publish its readings. -/
  senses    : Prop
  /-- The current limit may be written. -/
  writes    : Prop

/-! ## The condition of a change of one Lift Controller -/

/-- What `AirLaw` asks of the record `l` of the pantograph `p`. -/
structure AirAt (b : Block) (p : Panto) (l : Lift) : Prop where
  count  : (l.state.raised || (b.role p != .none && l.held != .none)) = true →
    committed b p = true ∨ airAllows b p = true
  held   : l.held ≠ .none → b.role p ≠ .none ∧ (l.state = .stowed ∨ l.state = .lowering) ∧ b.cond.restart = none
  search : l.heldSearch = true → l.held ≠ .none ∧ b.role p = .calibrating

/-- The record of `p` may become `l`: it goes up with the earthing switch OPEN alone, its pressure stays within Pmax, its
target is that of an evaluation, a lower pends on a breaker that holds it, and a raise is held or begun as R8 allows. -/
structure LiftMove (sc : Scope) (b : Block) (p : Panto) (l : Lift) : Prop where
  raised   : l.state.raised = true → (b.lc p).state.raised = true ∨ b.sw.earth.state = .opened
  pressure : ConfigLaw b → (b.lc p).commanded ≤ b.nat .pmax → l.commanded ≤ b.nat .pmax
  force    : l.state = .contact →
    (b.lc p).state = .contact ∧ l.targetForce = (b.lc p).targetForce ∨ l.targetForce = some (targetForceOf b p)
  pending  : l.lowerPending = true →
    (b.lc p).lowerPending = true ∧ ((b.lc p).state = .contact → l.state = .contact) ∨
      l.state = .contact ∧ holdsLower b = true
  air      : sc.loads ∨ (sc.calm → AirLaw b → AirAt b p l)

/-! ## The changes -/

/-- The parts of the final level, the ice score, and the heater shares. -/
def Ice.levelParts (i : Ice) : Nat × Nat × Nat × Bool × Nat × PerP Nat × PerP Nat :=
  (i.cap, i.hysteresis, i.forced, i.watch, i.score, i.demand, i.duty)

/-- One change that an operation makes, with what the operation has made sure of. -/
inductive Prim (sc : Scope) (b : Block) : Block → Prop
  | lift (p : Panto) (l : Lift) (h : LiftMove sc b p l) : Prim sc b (b.setLift p l)
  | clear (p : Panto) (held : sc.loads ∨ (AirLaw b → (b.lc p).held = .none)) : Prim sc b (clearRole p b)
  | grant (p : Panto) (r : Role) (o : Origin) (may : sc.grants)
      (one : r = .collecting → ∀ x, x ≠ p → b.role x ≠ .collecting)
      (isolator : r = .scraping ∨ r = .calibrating → (b.sw.iso.get p).state = .opened)
      (idle : r = .scraping → b.seq.phase = .idle)
      (held : AirLaw b → (b.lc p).held = .none) : Prim sc b (setRole p r o b)
  | succeed (p c : Panto) (may : sc.grants) (collects : b.role p = .collecting)
      (held : AirLaw b → (b.lc p).held = .none ∧ (b.lc c).held = .none) :
      Prim sc b (setRole c .collecting .internal (clearRole p b))
  | breaker (x : TwoSw)
      (closing : x.state = .closing → b.sw.breaker.state = .closing ∨ sc.closes)
      (holds : holdsLower b = true → holdsLower (b.setBreaker x) = true ∨ sc.reads) : Prim sc b (b.setBreaker x)
  | selector (x : SelSw) : Prim sc b (b.setSelector x)
  | iso (p : Panto) (x : TwoSw)
      (opened : (b.sw.iso.get p).state = .opened → x.state = .opened ∨ b.role p = .collecting) : Prim sc b (b.setIso p x)
  | earth (x : TwoSw)
      (opened : b.sw.earth.state = .opened → x.state ≠ .opened →
        (∀ p, (b.lc p).state.raised = false) ∧ breakerEngaged b = false) : Prim sc b (b.setEarth x)
  | seq (q : Seq)
      (halted : b.seq.phase = .halted → q.phase = .halted ∨ sc.unhalts)
      (idle : q.phase ≠ .idle → b.seq.phase ≠ .idle ∨ sc.starts)
      (strict : sc.starts ∨ (RestartLaw b → RestartLaw { b with seq := q }))
      (mid : RestartMid b → RestartMid { b with seq := q }) : Prim sc b { b with seq := q }
  | entries (l : List Entry) (order : QueueLaw b.queue → QueueLaw { b.queue with entries := l }) :
      Prim sc b (b.setEntries l)
  | motion (q : Queue) (same : q.entries = b.queue.entries) : Prim sc b { b with queue := q }
  | record (r : LineRecord) (advisory : r.advisory = b.record.advisory ∨ sc.advises) : Prim sc b { b with record := r }
  | ready (x y : Option Ready) : Prim sc b { b with plan := { b.plan with readyA := x, readyB := y } }
  | hold (v : Bool) : Prim sc b { b with plan := { b.plan with hold := v } }
  | lead (m : Option Master) (law : LeadLaw b → LeadLaw { b with plan := { b.plan with lead := m } }) :
      Prim sc b { b with plan := { b.plan with lead := m } }
  | ice (i : Ice) (level : i.level = b.ice.level ∨ sc.advises)
      (parts : i.levelParts = b.ice.levelParts ∨ sc.estimates) : Prim sc b { b with ice := i }
  | cond (c : Cond)
      (fixed : sc.loads ∨ c.cfg = b.cond.cfg ∧ c.restart = b.cond.restart ∧
        c.reloadPending = b.cond.reloadPending ∧ c.newMaxUp = b.cond.newMaxUp)
      (config : ConfigLaw b → ConfigLaw { b with cond := c })
      (faults : FaultLaw b → FaultLaw { b with cond := c })
      (strict : RestartLaw b → RestartLaw { b with cond := c })
      (mid : RestartMid b → RestartMid { b with cond := c }) : Prim sc b { b with cond := c }
  | mem (m : MemPort) : Prim sc b { b with mem := m }
  | cal (c : PerP CalEntry) : Prim sc b { b with cal := c }
  | sensors (x : Sensors) (may : sc.senses) : Prim sc b { b with sensors := x }
  | line (l : LineMon) (run : RunLaw b.line → RunLaw l) : Prim sc b { b with line := l }
  | link (l : Link) (r : LinkRec) (present : (b.links.get l).present = true → r.present = true)
      (mask : sc.forgets ∨ ∀ k, (b.links.get l).mask.getLsbD k = true → r.mask.getLsbD k = true) :
      Prim sc b (setLink l r b)
  | mark (m : Mask) : Prim sc b (markAll m b)
  | lose (l : Link) : Prim sc b (linkLost l b)
  | free (n : Nat) : Prim sc b { b with freeCount := n }

/-- A run of changes. -/
def Prims (sc : Scope) : Block → Block → Prop := Relation.ReflTransGen (Prim sc)

@[simp] theorem Prims.refl (sc : Scope) (b : Block) : Prims sc b b := Relation.ReflTransGen.refl

theorem Prims.trans {sc : Scope} {a b c : Block} (h : Prims sc a b) (h' : Prims sc b c) : Prims sc a c :=
  Relation.ReflTransGen.trans h h'

theorem Prims.of {sc : Scope} {b c : Block} (h : Prim sc b c) : Prims sc b c := Relation.ReflTransGen.single h

/-- A run with one more change. -/
theorem Prims.add {sc : Scope} {a b c : Block} (h : Prims sc a b) (h' : Prim sc b c) : Prims sc a c := h.tail h'

/-- A property that each change keeps is kept by a run of changes. -/
theorem Prims.keep {sc : Scope} {P : Block → Prop} (step : ∀ a b, Prim sc a b → P a → P b) {b c : Block}
    (h : Prims sc b c) (hb : P b) : P c := by
  induction h with
  | refl => exact hb
  | tail _ hstep ih => exact step _ _ hstep ih

/-- A change at each pantograph in turn. -/
theorem Prims.eachPanto {sc : Scope} {f : Panto → Block → Block} (h : ∀ p b, Prims sc b (f p b)) (b : Block) :
    Prims sc b (eachPanto f b) :=
  (((h .p1 b).trans (h .p2 _)).trans (h .p3 _)).trans (h .p4 _)

/-- A change at each pantograph in turn, where `P` is known at the start and kept by each. -/
theorem Prims.eachPanto_of {sc : Scope} {f : Panto → Block → Block} (P : Block → Prop)
    (h : ∀ p b, P b → Prims sc b (f p b)) (keep : ∀ p b, P b → P (f p b)) {b : Block} (hb : P b) :
    Prims sc b (Machine.eachPanto f b) :=
  (((h .p1 b hb).trans (h .p2 _ (keep _ _ hb))).trans (h .p3 _ (keep _ _ (keep _ _ hb)))).trans
    (h .p4 _ (keep _ _ (keep _ _ (keep _ _ hb))))

theorem RestartLaw.mid {b : Block} (h : RestartLaw b) : RestartMid b := by
  intro hr
  obtain ⟨hmode, hlow, hphase⟩ := h hr
  refine ⟨hmode, hlow, ?_, ?_⟩
  · rcases hphase with hp | ⟨hp, -⟩
    · revert hp; cases b.seq.phase <;> simp
    · simp [hp]
  · intro hp
    rcases hphase with hq | ⟨-, hw | hw⟩
    · simp [hp] at hq
    · simp [hw]
    · simp [hw]

end Sys2Proof.Machine
end

section
/-!
The operations of the Switch Unit, of the halt and of the Lift Controllers, each as a run of changes.
-/

namespace Sys2Proof.Machine

variable {sc : Scope} {b : Block}

/-! ## Changes of the Sequencer's record -/

/-- Where the Sequencer may stand while a restart waits. -/
def Seq.Rests (q : Seq) : Prop :=
  q.phase ∈ [.idle, .halted, .lowering, .confirm, .masterReady, .close] ∨
    q.phase = .probe ∧ (q.work = .awaitOpen ∨ q.work = .awaitDown)

theorem Seq.Rests.mid {q : Seq} (h : q.Rests) : q.phase ∉ [.armed, .tractionOff, .breakerOpen, .coast] ∧
    (q.phase = .probe → q.work ∉ [.switches, .isolator, .ready]) := by
  rcases h with hp | ⟨hp, hw⟩
  · refine ⟨?_, fun hq => ?_⟩
    · revert hp; cases q.phase <;> simp
    · simp [hq] at hp
  · refine ⟨by simp [hp], fun _ => ?_⟩
    rcases hw with hw | hw <;> simp [hw]

theorem RestartMid.seq_rests {q : Seq} (h : RestartMid b) (hq : q.Rests) : RestartMid { b with seq := q } :=
  fun hr => ⟨(h hr).1, (h hr).2.1, hq.mid⟩

theorem RestartLaw.seq_rests {q : Seq} (h : RestartLaw b) (hq : q.Rests) : RestartLaw { b with seq := q } :=
  fun hr => ⟨(h hr).1, (h hr).2.1, hq⟩

/-- The record is replaced by one in which a restart may wait. -/
theorem prim_seq_rests {q : Seq} (hq : q.Rests) (halted : b.seq.phase = .halted → q.phase = .halted ∨ sc.unhalts)
    (idle : q.phase ≠ .idle → b.seq.phase ≠ .idle ∨ sc.starts) : Prim sc b { b with seq := q } :=
  .seq q halted idle (.inr fun h => h.seq_rests hq) fun h => h.seq_rests hq

/-- The record is replaced where no restart waits. -/
theorem prim_seq_awake {q : Seq} (hr : RestartMid b → b.cond.restart = none)
    (halted : b.seq.phase = .halted → q.phase = .halted ∨ sc.unhalts)
    (idle : q.phase ≠ .idle → b.seq.phase ≠ .idle ∨ sc.starts) : Prim sc b { b with seq := q } :=
  .seq q halted idle (.inr fun h hs => absurd hs (by simp [hr h.mid])) fun h hs => absurd hs (by simp [hr h])

/-- The record is replaced with phase and work as they are. -/
theorem prim_seq_same {q : Seq} (hp : q.phase = b.seq.phase) (hw : q.work = b.seq.work) :
    Prim sc b { b with seq := q } := by
  refine .seq q (fun h => .inl (hp.trans h)) (fun h => .inl (hp ▸ h)) (.inr fun h hs => ?_) fun h hs => ?_
  · simpa only [hp, hw] using h hs
  · simpa only [hp, hw] using h hs

/-! ## Changes of the Condition Unit -/

/-- A change of the Condition Unit in what no law but that of the fault counters speaks of. -/
theorem prim_cond {c : Cond} (cfg : c.cfg = b.cond.cfg) (restart : c.restart = b.cond.restart)
    (reload : c.reloadPending = b.cond.reloadPending) (maxUp : c.newMaxUp = b.cond.newMaxUp)
    (mode : c.mode = b.cond.mode) (standby : c.standbyLowering = b.cond.standbyLowering)
    (faults : FaultLaw b → FaultLaw { b with cond := c }) : Prim sc b { b with cond := c } := by
  refine .cond c (.inr ⟨cfg, restart, reload, maxUp⟩) (fun h => ?_) faults (fun h hs => ?_) fun h hs => ?_
  · simpa only [ConfigLaw, cfg, maxUp] using h
  · simp only [restart, mode, standby] at hs ⊢
    exact h hs
  · simp only [restart, mode, standby] at hs ⊢
    exact h hs

/-- A change of the mode, or of the standby lowering, where no restart waits or where the part stays in WAKING. -/
theorem prim_mode {c : Cond} (cfg : c.cfg = b.cond.cfg) (restart : c.restart = b.cond.restart)
    (reload : c.reloadPending = b.cond.reloadPending) (maxUp : c.newMaxUp = b.cond.newMaxUp)
    (faults : c.faults = b.cond.faults)
    (hr : (RestartMid b → b.cond.restart = none) ∨ c.mode = .waking ∧ c.standbyLowering = false) :
    Prim sc b { b with cond := c } := by
  refine .cond c (.inr ⟨cfg, restart, reload, maxUp⟩) (fun h => ?_) (fun h k => ?_) (fun h hs => ?_) fun h hs => ?_
  · simpa only [ConfigLaw, cfg, maxUp] using h
  · simpa only [faults] using h k
  · simp only [restart] at hs ⊢
    rcases hr with hr | ⟨hm, hl⟩
    · simp [hr h.mid] at hs
    · exact ⟨hm, hl, (h hs).2.2⟩
  · simp only [restart] at hs ⊢
    rcases hr with hr | ⟨hm, hl⟩
    · simp [hr h] at hs
    · exact ⟨hm, hl, (h hs).2.2⟩

theorem satAdd_le {lim n k : Nat} : satAdd lim n k ≤ lim := Nat.min_le_left _ _

theorem FaultLaw.recordFault {k : FaultKind} {x : Subject} (h : FaultLaw b) : FaultLaw (recordFault k x b) := by
  intro j
  simp only [Machine.recordFault, Vector.getElem_set]
  split
  · exact satAdd_le
  · exact h j

theorem prims_recordFault (k : FaultKind) (x : Subject) (b : Block) : Prims sc b (recordFault k x b) :=
  Prims.of (prim_cond rfl rfl rfl rfl rfl rfl FaultLaw.recordFault)

theorem prims_setTestStep (t : TestStep) (b : Block) : Prims sc b (setTestStep t b) :=
  Prims.of (prim_cond rfl rfl rfl rfl rfl rfl id)

theorem prims_setValves (p : Panto) (r : TestResult) (b : Block) : Prims sc b (setValves p r b) :=
  Prims.of (prim_cond rfl rfl rfl rfl rfl rfl id)

theorem prims_setStrips (p : Panto) (r : TestResult) (b : Block) : Prims sc b (setStrips p r b) :=
  Prims.of (prim_cond rfl rfl rfl rfl rfl rfl id)

theorem prims_setTest (t : SelfTest) (b : Block) : Prims sc b (setTest t b) :=
  Prims.of (prim_cond rfl rfl rfl rfl rfl rfl id)

/-! ## Plain changes -/

theorem prims_report (n : Nat) (b : Block) : Prims sc b (report n b) := Prims.of (Prim.mark _)

theorem prims_setTractionOff (v : Bool) (b : Block) : Prims sc b (setTractionOff v b) := Prims.of (Prim.record _ (.inl rfl))

theorem prims_setPreheat (v : Option Panto) (b : Block) : Prims sc b (setPreheat v b) := Prims.of (Prim.ice _ (.inl rfl) (.inl rfl))

theorem prims_setScraper (v : Option Panto) (b : Block) : Prims sc b (setScraper v b) := Prims.of (Prim.ice _ (.inl rfl) (.inl rfl))

theorem prims_beginWrite (j : MemJob) (b : Block) : Prims sc b (beginWrite j b) := by
  cases j <;> exact Prims.of (Prim.mem _)

theorem prims_offerWrite (j : MemJob) (b : Block) : Prims sc b (offerWrite j b) := by
  unfold offerWrite
  split
  · exact prims_beginWrite j b
  · split
    · exact Prims.refl _ _
    · exact Prims.of (Prim.mem _)

theorem prims_changeEntry (p : Panto) (f : CalFields → CalFields) (b : Block) : Prims sc b (changeEntry p f b) :=
  ((Prims.of (Prim.cal _)).trans (prims_offerWrite _ _)).trans (prims_report _ _)

/-! ## The breaker and the halt -/

/-- An open: the breaker is CLOSING or CLOSED no longer, and holds a lower as it did. -/
theorem prims_openBreaker (x : Source) (b : Block) : Prims sc b (openBreaker x b) := by
  unfold openBreaker
  split
  case h_1 | h_4 => exact Prims.refl _ _
  case h_2 hs | h_3 hs =>
    exact Prims.of (Prim.breaker _ (by simp [TwoSw.move, TwoPos.travel])
      (fun _ => .inl rfl))
  case h_5 hs =>
    exact Prims.of (Prim.breaker _ (by simp [hs]) (by simp [holdsLower, hs]))

theorem prims_guardBreaker (b : Block) : Prims sc b (guardBreaker b) := by
  unfold guardBreaker
  split
  · exact prims_openBreaker _ b
  · exact Prims.refl _ _

theorem prims_setDetermined (s : Option LineSystem) (p : Option Panto) (b : Block) :
    Prims sc b (setDetermined s p b) := by
  unfold setDetermined
  dsimp only
  split
  · exact Prims.of (Prim.record _ (.inl rfl))
  · exact (Prims.of (.record { b.record with determined := s, source := p } (.inl rfl))).add (.ready none none)

/-- Marking entries as served changes none of what orders the queue. -/
theorem QueueLaw.map {q : Queue} (h : QueueLaw q) (f : Entry → Entry)
    (hf : ∀ e, (f e).id = e.id ∧ (f e).kind = e.kind ∧ (f e).start = e.start ∧ (f e).length = e.length)
    (ha : ∀ e, (f e).active = true → e.active = true) : QueueLaw { q with entries := q.entries.map f } where
  length := by simpa using h.length
  ascending := by
    simp only [List.pairwise_map, (hf _).2.2.1]
    exact h.ascending
  ids := by
    simp only [List.pairwise_map, (hf _).1]
    exact h.ids
  apart := by
    simp only [List.pairwise_map, Entry.stop, (hf _).2.1, (hf _).2.2.1, (hf _).2.2.2]
    exact h.apart
  active := by
    simp only [List.pairwise_map]
    exact h.active.imp fun hn hb => hn ⟨ha _ hb.1, ha _ hb.2⟩

theorem prims_serveEntry (i : Option Nat) (b : Block) : Prims sc b (serveEntry i b) := by
  cases i with
  | none => exact Prims.refl _ _
  | some n =>
    refine Prims.of (Prim.entries _ fun h => h.map _ (fun e => ?_) fun e he => ?_)
    · split <;> simp
    · split at he <;> exact he

theorem prims_haltFault (r : HaltReason) (b : Block) : Prims sc b (haltFault r b) := by
  cases r
  case positionLost | noPantograph | mismatch | noLine | masterNotReady | noMaster => exact prims_recordFault _ _ b
  all_goals exact Prims.refl _ _

/-- The phase is one that no part of a halt but the halt itself writes. -/
theorem seq_haltFault (r : HaltReason) (b : Block) : (haltFault r b).seq = b.seq := by cases r <;> rfl

theorem seq_serveEntry (i : Option Nat) (b : Block) : (serveEntry i b).seq = b.seq := by cases i <;> rfl

theorem seq_setDetermined (s : Option LineSystem) (p : Option Panto) (b : Block) : (setDetermined s p b).seq = b.seq := by
  unfold setDetermined
  dsimp only
  split <;> rfl

theorem prims_enterHalt (r : HaltReason) (b : Block) (hp : b.seq.phase ≠ .idle) : Prims sc b (enterHalt r b) := by
  unfold enterHalt
  dsimp only
  refine Prims.trans ?_ (prims_openBreaker _ _)
  refine Prims.trans ?_ (prims_setPreheat _ _)
  have hwrite : Prims sc b (if r = .mismatch then setDetermined none none (haltFault r b) else haltFault r b) := by
    split
    · exact (prims_haltFault r b).trans (prims_setDetermined _ _ _)
    · exact prims_haltFault r b
  have hseq : (if r = .mismatch then setDetermined none none (haltFault r b) else haltFault r b).seq = b.seq := by
    split <;> simp only [seq_setDetermined, seq_haltFault]
  refine (hwrite.trans (prims_serveEntry _ _)).add (prim_seq_rests ?_ (fun _ => .inl rfl) fun _ => .inl ?_)
  · exact .inl (by simp)
  · rwa [seq_serveEntry, hseq]

theorem prims_halt (r : HaltReason) (b : Block) : Prims sc b (halt r b) := by
  unfold halt
  split
  · exact Prims.refl _ _
  · split
    · exact Prims.of (prim_seq_same rfl rfl)
    · exact Prims.refl _ _
  next h _ => exact prims_enterHalt r b h

end Sys2Proof.Machine
end

section
/-!
The Lift Controllers' operations as runs of changes.
-/

namespace Sys2Proof.Machine

variable {sc : Scope} {b : Block} {p : Panto}

/-! ## Conditions of a change of one Lift Controller -/

/-- The record keeps what `AirLaw` speaks of, in a state where a raise may be held. -/
theorem AirAt.of_same {l : Lift} (h : AirLaw b) (hheld : l.held = (b.lc p).held)
    (hsearch : l.heldSearch = (b.lc p).heldSearch) (hup : l.state.raised = true → (b.lc p).state.raised = true)
    (hst : (b.lc p).held ≠ .none → l.state = .stowed ∨ l.state = .lowering) : AirAt b p l where
  count hc := by
    refine .inl ?_
    simp only [Bool.or_eq_true, hheld] at hc
    simp only [committed, Bool.or_eq_true]
    exact hc.imp hup id
  held hh := by
    rw [hheld] at hh
    exact ⟨(h.held p hh).1, hst hh, (h.held p hh).2.2⟩
  search hs := by
    rw [hsearch] at hs
    rw [hheld]
    exact h.search p hs

/-- The record holds no raise and the pantograph goes up no further. -/
theorem AirAt.of_none {l : Lift} (hheld : l.held = .none) (hsearch : l.heldSearch = false)
    (hup : l.state.raised = true → (b.lc p).state.raised = true) : AirAt b p l where
  count hc := by
    refine .inl ?_
    simp only [hheld, bne_self_eq_false, Bool.and_false, Bool.or_false] at hc
    simp [committed, hup hc]
  held hh := absurd hheld hh
  search hs := by simp [hsearch] at hs

/-- The lift state, the held raise and the target stay, and no lower comes to pend. -/
theorem LiftMove.of_same {l : Lift} (hstate : l.state = (b.lc p).state) (hheld : l.held = (b.lc p).held)
    (hsearch : l.heldSearch = (b.lc p).heldSearch)
    (hpressure : ConfigLaw b → (b.lc p).commanded ≤ b.nat .pmax → l.commanded ≤ b.nat .pmax)
    (hforce : l.targetForce = (b.lc p).targetForce ∨ l.targetForce = some (targetForceOf b p))
    (hpend : l.lowerPending = true → (b.lc p).lowerPending = true) : LiftMove sc b p l where
  raised h := .inl (hstate ▸ h)
  pressure := hpressure
  force h := hforce.imp (fun hf => ⟨hstate ▸ h, hf⟩) id
  pending h := .inl ⟨hpend h, fun hc => hstate.trans hc⟩
  air := .inr fun _ ha => .of_same ha hheld hsearch (fun h => hstate ▸ h) fun hh => by
    rw [hstate]
    exact (ha.held p hh).2.1

/-- The pantograph comes to a state in which it is not up, the held raise as it was. -/
theorem LiftMove.of_down {l : Lift} (hup : l.state.raised = false) (hheld : l.held = (b.lc p).held)
    (hsearch : l.heldSearch = (b.lc p).heldSearch) (hpressure : l.commanded ≤ (b.lc p).commanded)
    (hpend : l.lowerPending = true → (b.lc p).lowerPending = true ∧ (b.lc p).state ≠ .contact)
    (hst : AirLaw b → (b.lc p).held ≠ .none → l.state = .stowed ∨ l.state = .lowering) : LiftMove sc b p l where
  raised h := by simp [hup] at h
  pressure _ h := hpressure.trans h
  force h := by simp [h, LiftState.raised] at hup
  pending h := .inl ⟨(hpend h).1, fun hc => absurd hc (hpend h).2⟩
  air := .inr fun _ ha => .of_same ha hheld hsearch (fun h => by simp [hup] at h) (hst ha)

/-- Nothing but timers, flags and a pressure that does not rise. -/
theorem prims_setLift_same {l : Lift} (hstate : l.state = (b.lc p).state) (hheld : l.held = (b.lc p).held)
    (hsearch : l.heldSearch = (b.lc p).heldSearch) (hpressure : l.commanded ≤ (b.lc p).commanded)
    (hforce : l.targetForce = (b.lc p).targetForce) (hpend : l.lowerPending = (b.lc p).lowerPending) :
    Prims sc b (b.setLift p l) :=
  .of (.lift p l (.of_same hstate hheld hsearch (fun _ h => hpressure.trans h) (.inl hforce) fun h => hpend ▸ h))

/-! ## Changes of lift state -/

theorem prims_evaluate (p : Panto) (b : Block) : Prims sc b (evaluate p b) :=
  .of (.lift p _ (.of_same rfl rfl rfl (fun _ h => h) (.inr rfl) id))

theorem prims_leaveContact {l : Lift} (h : LiftMove sc b p l) : Prims sc b (leaveContact p l b) := by
  unfold leaveContact
  dsimp only
  split
  · exact (Prims.of (.lift p l h)).trans (prims_halt _ _)
  · exact .of (.lift p l h)

theorem LiftMove.toLowering (b : Block) (p : Panto) : LiftMove sc b p (b.lc p).toLowering :=
  .of_down rfl rfl rfl le_rfl (fun h => by simp [Lift.toLowering] at h) fun _ _ => .inr rfl

theorem prims_beginLowering (p : Panto) (b : Block) : Prims sc b (beginLowering p b) :=
  prims_leaveContact (.toLowering b p)

theorem prims_clearRole (p : Panto) (b : Block) (h : (b.lc p).held = .none) : Prims sc b (clearRole p b) :=
  .of (.clear p (.inr fun _ => h))

theorem Lift.toStowed_held (l : Lift) : l.toStowed.held = .none ↔ l.held = .none := by
  simp only [Lift.toStowed, Lift.noTarget]
  split
  next h => simp [h]
  next => rfl

/-- The arrival in STOWED, of a pantograph that is not in CONTACT. -/
theorem LiftMove.toStowed (hc : (b.lc p).state ≠ .contact) : LiftMove sc b p (b.lc p).toStowed where
  raised := nofun
  pressure _ _ := Nat.zero_le _
  force := nofun
  pending h := .inl ⟨h, fun h' => absurd h' hc⟩
  air := .inr fun _ ha => {
    count := fun h => .inl (by
      have hh : b.role p ≠ .none ∧ (b.lc p).toStowed.held ≠ .none := by
        simpa [Lift.toStowed, LiftState.raised] using h
      simp [committed, hh.1, mt (Lift.toStowed_held _).mpr hh.2])
    held := fun h => by
      have hh := ha.held p (mt (Lift.toStowed_held _).mpr h)
      exact ⟨hh.1, .inl rfl, hh.2.2⟩
    search := fun h => (ha.search p h).imp_left (mt (Lift.toStowed_held _).mp) }

theorem prims_arriveStowed (p : Panto) (b : Block) (hc : (b.lc p).state ≠ .contact) :
    Prims sc b (arriveStowed p b) := by
  unfold arriveStowed
  dsimp only
  split
  next hn =>
    refine (Prims.of (.lift p _ (.toStowed hc))).trans (prims_clearRole _ _ ?_)
    simpa [Lift.toStowed_held] using hn
  next => exact .of (.lift p _ (.toStowed hc))

/-- What the start of a raise or of a search asks: the earthing switch OPEN, the pantograph counted or within MaxUp. -/
structure MayBegin (sc : Scope) (p : Panto) (b : Block) : Prop where
  down  : (b.lc p).state = .stowed
  earth : b.sw.earth.state = .opened
  air   : sc.calm → AirLaw b → committed b p = true ∨ airAllows b p = true

theorem prims_beginRaise (h : MayBegin sc p b) : Prims sc b (beginRaise p b) := by
  refine Prims.trans (.of (.lift p _ ?_)) (prims_evaluate p _)
  exact {
    raised := fun _ => .inr h.earth
    pressure := fun _ _ => Nat.zero_le _
    force := nofun
    pending := fun hp => .inl ⟨hp, fun hc => by simp [h.down] at hc⟩
    air := .inr fun hk ha => ⟨fun _ => h.air hk ha, nofun, nofun⟩ }

theorem prims_enterContact (p : Panto) (b : Block) (h : sc.loads ∨ (b.lc p).state.raised = true)
    (he : (b.lc p).state.raised = true ∨ b.sw.earth.state = .opened) : Prims sc b (enterContact p b) := by
  have hmove : LiftMove sc b p { b.lc p with
      state := .contact, raiseTimer := none, devTimer := none, targetForce := some (targetForceOf b p) } := {
    raised := fun _ => he
    pressure := fun _ h => h
    force := fun _ => .inr rfl
    pending := fun hp => .inl ⟨hp, fun _ => rfl⟩
    air := h.imp id fun hu _ ha => .of_same ha rfl rfl (fun _ => hu) fun hh => by
      rcases (ha.held p hh).2.1 with hs | hs <;> simp [hs, LiftState.raised] at hu }
  refine Prims.trans (.of (.lift p _ hmove)) ?_
  have heq : enterContact p b = evaluate p (b.setLift p { b.lc p with
      state := .contact, raiseTimer := none, devTimer := none, targetForce := some (targetForceOf b p) }) := by
    cases p <;> rfl
  rw [heq]
  exact prims_evaluate p _


/-! ## The touch search -/

theorem LiftMove.of_searching {l : Lift} (hs : (b.lc p).state = .searching) (hstate : l.state = .searching)
    (hheld : l.held = (b.lc p).held) (hsearch : l.heldSearch = (b.lc p).heldSearch)
    (hpressure : l.commanded ≤ b.nat .pmax) (hpend : l.lowerPending = (b.lc p).lowerPending) : LiftMove sc b p l where
  raised _ := .inl (by rw [hs]; rfl)
  pressure _ _ := hpressure
  force h := by simp [hstate] at h
  pending h := .inl ⟨hpend ▸ h, fun hc => by simp [hs] at hc⟩
  air := .inr fun _ ha => .of_same ha hheld hsearch (fun _ => by rw [hs]; rfl) fun hh => by
    rcases (ha.held p hh).2.1 with h | h <;> simp [hs] at h

theorem prims_commandStep {r : SearchRec} {n : Nat} (hs : (b.lc p).state = .searching) :
    Prims sc b (commandStep p r n b) :=
  .of (.lift p _ (.of_searching hs hs rfl rfl (Nat.min_le_right _ _) rfl))

theorem prims_beginSearch (h : MayBegin sc p b) : Prims sc b (beginSearch p b) := by
  unfold beginSearch
  refine Prims.trans (.of (.lift p _ ?_)) (prims_commandStep (by simp))
  exact {
    raised := fun _ => .inr h.earth
    pressure := fun _ h => h
    force := nofun
    pending := fun hp => .inl ⟨hp, fun hc => by simp [h.down] at hc⟩
    air := .inr fun hk ha => ⟨fun _ => h.air hk ha, nofun, nofun⟩ }

theorem prims_abortEntry (p : Panto) (b : Block) : Prims sc b (abortEntry p b) := prims_changeEntry _ _ _

theorem prims_abortSearch (p : Panto) (b : Block) : Prims sc b (abortSearch p b) :=
  (prims_abortEntry p b).trans (prims_beginLowering p _)

theorem prims_endSearch (p : Panto) (r : SearchResult) (f : CalFields → CalFields) (b : Block) :
    Prims sc b (endSearch p r f b) :=
  (prims_changeEntry _ _ _).trans (prims_beginLowering p _)

theorem prims_failSearch (p : Panto) (r : SearchResult) (b : Block) : Prims sc b (failSearch p r b) :=
  (prims_recordFault _ _ _).trans (prims_endSearch _ _ _ _)

theorem prims_finishSearch (p : Panto) (n m : Nat) (b : Block) : Prims sc b (finishSearch p n m b) := by
  unfold finishSearch
  dsimp only
  split <;> exact prims_endSearch _ _ _ _

theorem prims_judgeRise {r : SearchRec} {x : Int} {y : Option Int} (hs : (b.lc p).state = .searching) :
    Prims sc b (judgeRise p r x y b) := by
  unfold judgeRise
  split
  · split
    · refine Prims.trans ?_ (prims_failSearch _ _ _)
      exact prims_setLift_same rfl rfl rfl le_rfl rfl rfl
    · exact prims_commandStep hs
  · split
    · exact prims_failSearch _ _ _
    · split
      · exact prims_failSearch _ _ _
      · exact prims_commandStep hs

theorem prims_judgeRelease {r : SearchRec} {x : Int} (hs : (b.lc p).state = .searching) :
    Prims sc b (judgeRelease p r x b) := by
  unfold judgeRelease
  dsimp only
  split
  · exact prims_finishSearch _ _ _ _
  · split
    · exact prims_finishSearch _ _ _ _
    · exact prims_commandStep hs

/-! ## Held raises -/

/-- Writing an entry leaves the Lift Controllers as they are. -/
@[simp] theorem lift_offerWrite (j : MemJob) (b : Block) : (offerWrite j b).lift = b.lift := by
  unfold offerWrite
  split
  · cases j <;> rfl
  · split <;> rfl

@[simp] theorem lc_changeEntry (p x : Panto) (f : CalFields → CalFields) (b : Block) :
    (changeEntry p f b).lc x = b.lc x := by
  simp only [Block.lc, changeEntry, report, markAll_lift, lift_offerWrite]

@[simp] theorem lc_abortEntry (p x : Panto) (b : Block) : (abortEntry p b).lc x = b.lc x := lc_changeEntry _ _ _ _

theorem prims_discardHeld (p : Panto) (b : Block) : Prims sc b (discardHeld p b) := by
  unfold discardHeld
  dsimp only
  have habort : Prims sc b (if (b.lc p).heldSearch = true then abortEntry p b else b) := by
    split
    · exact prims_abortEntry p b
    · exact Prims.refl _ _
  refine (habort.add (.lift p _ ?_)).trans (prims_clearRole _ _ (by simp))
  exact {
    raised := fun h => .inl h
    pressure := fun _ h => h
    force := fun h => .inl ⟨h, rfl⟩
    pending := fun h => .inl ⟨h, fun hc => hc⟩
    air := .inr fun _ _ => .of_none rfl rfl id }

/-- The steps of the self-test write to the commanded pressures of the Lift Controllers alone. -/
theorem skipValves_lc (p x : Panto) (b : Block) : ∃ n, (skipValves p b).lc x = { b.lc x with commanded := n } := by
  have hset (y : Panto) (n : Nat) (b : Block) : ∃ m, (b.setLift y { b.lc y with commanded := n }).lc x =
      { b.lc x with commanded := m } := by
    by_cases h : x = y
    · subst h; exact ⟨n, by simp⟩
    · exact ⟨(b.lc x).commanded, by rw [lc_setLift_ne _ _ h]⟩
  have hvalves (l : List Panto) (b : Block) : ∃ n, (valvesFrom l b).lc x = { b.lc x with commanded := n } := by
    induction l generalizing b with
    | nil => exact ⟨_, rfl⟩
    | cons y ys ih =>
      unfold valvesFrom
      split
      · exact hset y _ b
      · exact ih _
  unfold skipValves
  split
  · split
    · obtain ⟨n, hn⟩ := hset p 0 b
      obtain ⟨m, hm⟩ := hvalves (Panto.after p) (setStrips p .skipped (setValves p .skipped (b.setLift p { b.lc p with commanded := 0 })))
      refine ⟨m, hm.trans ?_⟩
      have : (setStrips p .skipped (setValves p .skipped (b.setLift p { b.lc p with commanded := 0 }))).lc x =
        (b.setLift p { b.lc p with commanded := 0 }).lc x := rfl
      rw [this, hn]
    · exact ⟨_, rfl⟩
  · exact ⟨_, rfl⟩

end Sys2Proof.Machine
end

section
/-!
Raises, lowers and drops of the Lift Controllers as runs of changes.
-/

namespace Sys2Proof.Machine

variable {sc : Scope} {b : Block} {p : Panto}

/-! ## What the air law reads -/

/-- The two blocks agree in all that `AirLaw` reads. -/
structure SameAir (a b : Block) : Prop where
  role    : ∀ p, a.role p = b.role p
  state   : ∀ p, (a.lc p).state = (b.lc p).state
  held    : ∀ p, (a.lc p).held = (b.lc p).held
  search  : ∀ p, (a.lc p).heldSearch = (b.lc p).heldSearch
  maxUp   : a.nat .maxUp = b.nat .maxUp
  restart : a.cond.restart = b.cond.restart
  reload  : a.cond.reloadPending = b.cond.reloadPending
  waiting : a.cond.newMaxUp = b.cond.newMaxUp

theorem SameAir.symm {a b : Block} (h : SameAir a b) : SameAir b a :=
  ⟨fun p => (h.role p).symm, fun p => (h.state p).symm, fun p => (h.held p).symm, fun p => (h.search p).symm,
    h.maxUp.symm, h.restart.symm, h.reload.symm, h.waiting.symm⟩

theorem SameAir.committed {a b : Block} (h : SameAir a b) (p : Panto) : committed a p = committed b p := by
  simp only [Machine.committed, h.role, h.state, h.held]

theorem SameAir.committed_eq {a b : Block} (h : SameAir a b) : Machine.committed a = Machine.committed b :=
  funext h.committed

theorem SameAir.airAllows {a b : Block} (h : SameAir a b) (p : Panto) : airAllows a p = airAllows b p := by
  simp only [Machine.airAllows, h.committed_eq, h.maxUp]

theorem SameAir.law {a b : Block} (h : SameAir a b) (hb : AirLaw b) : AirLaw a where
  count := by
    rw [committedCount, h.committed_eq, h.maxUp]
    exact hb.count
  held p := by
    simp only [h.held, h.role, h.state, h.restart]
    exact hb.held p
  search p := by
    simp only [h.held, h.role, h.search]
    exact hb.search p
  adoption := by
    simp only [AdoptionLaw, h.restart, h.reload, h.waiting]
    exact hb.adoption

/-! ## The VALVES steps -/

/-- Every Pmax in its range allows the pressure of a VALVES step. -/
theorem ConfigLaw.valveTest (h : ConfigLaw b) : valveTestPressure ≤ b.nat .pmax := by
  have := (h.1 .pmax).1
  simp only [Item.lo] at this
  simp only [valveTestPressure, Block.nat, cfgNat]
  omega

theorem prims_valvesFrom (l : List Panto) (b : Block) : Prims sc b (valvesFrom l b) := by
  induction l generalizing b with
  | nil => exact prims_setTestStep _ _
  | cons x xs ih =>
    unfold valvesFrom
    split
    · refine Prims.trans (.of (.lift x _ ?_)) (prims_setTestStep _ _)
      exact .of_same rfl rfl rfl (fun h _ => h.valveTest) (.inl rfl) id
    · exact ((prims_setValves _ _ _).trans (prims_setStrips _ _ _)).trans (ih _)

theorem prims_skipValves (p : Panto) (b : Block) : Prims sc b (skipValves p b) := by
  unfold skipValves
  split
  · split
    · refine Prims.trans ?_ (prims_valvesFrom _ _)
      refine Prims.trans ?_ (prims_setStrips _ _ _)
      refine Prims.trans ?_ (prims_setValves _ _ _)
      exact prims_setLift_same rfl rfl rfl (Nat.zero_le _) rfl rfl
    · exact Prims.refl _ _
  · exact Prims.refl _ _

theorem valvesFrom_frame (l : List Panto) (b : Block) :
    (valvesFrom l b).plan = b.plan ∧ (valvesFrom l b).sw = b.sw ∧ (valvesFrom l b).seq = b.seq ∧
      (valvesFrom l b).sensors = b.sensors ∧ (valvesFrom l b).cal = b.cal ∧ (valvesFrom l b).mem = b.mem ∧
      (valvesFrom l b).links = b.links := by
  induction l generalizing b with
  | nil => exact ⟨rfl, rfl, rfl, rfl, rfl, rfl, rfl⟩
  | cons x xs ih =>
    unfold valvesFrom
    split
    · exact ⟨rfl, rfl, rfl, rfl, rfl, rfl, rfl⟩
    · exact ih _

theorem skipValves_frame (p : Panto) (b : Block) :
    (skipValves p b).plan = b.plan ∧ (skipValves p b).sw = b.sw ∧ (skipValves p b).seq = b.seq ∧
      (skipValves p b).sensors = b.sensors ∧ (skipValves p b).cal = b.cal ∧ (skipValves p b).mem = b.mem ∧
      (skipValves p b).links = b.links := by
  unfold skipValves
  split
  · split
    · exact valvesFrom_frame _ _
    · exact ⟨rfl, rfl, rfl, rfl, rfl, rfl, rfl⟩
  · exact ⟨rfl, rfl, rfl, rfl, rfl, rfl, rfl⟩

theorem skipValves_plan (p : Panto) (b : Block) : (skipValves p b).plan = b.plan := (skipValves_frame p b).1

theorem skipValves_sw (p : Panto) (b : Block) : (skipValves p b).sw = b.sw := (skipValves_frame p b).2.1

theorem skipValves_state (p x : Panto) (b : Block) : ((skipValves p b).lc x).state = (b.lc x).state := by
  obtain ⟨n, hn⟩ := skipValves_lc p x b
  rw [hn]

theorem skipValves_held (p x : Panto) (b : Block) : ((skipValves p b).lc x).held = (b.lc x).held := by
  obtain ⟨n, hn⟩ := skipValves_lc p x b
  rw [hn]

theorem sameAir_skipValves (p : Panto) (b : Block) : SameAir (skipValves p b) b where
  role x := by rw [Block.role, skipValves_plan, Block.role]
  state x := skipValves_state p x b
  held x := skipValves_held p x b
  search x := by
    obtain ⟨n, hn⟩ := skipValves_lc p x b
    rw [hn]
  maxUp := congrArg (fun k : Kept => cfgNat k.cfg .maxUp) (kept_skipValves p b)
  restart := congrArg Kept.restart (kept_skipValves p b)
  reload := congrArg Kept.reload (kept_skipValves p b)
  waiting := congrArg Kept.newMaxUp (kept_skipValves p b)

/-! ## Raises -/

theorem MayBegin.skipValves (h : MayBegin sc p b) : MayBegin sc p (skipValves p b) where
  down := (skipValves_state p p b).trans h.down
  earth := by rw [skipValves_sw]; exact h.earth
  air hk ha := by
    have hs := sameAir_skipValves p b
    rw [hs.committed, hs.airAllows]
    exact h.air hk (hs.symm.law ha)

theorem prims_beginWork {search : Bool} (h : MayBegin sc p b) : Prims sc b (beginWork p search b) := by
  unfold beginWork
  split
  · exact (prims_skipValves p b).trans (prims_beginSearch h.skipValves)
  · exact (prims_skipValves p b).trans (prims_beginRaise h.skipValves)

theorem earthOpen_state (h : earthOpen b = true) : b.sw.earth.state = .opened := by
  simp only [earthOpen, TwoSw.isOpen, Bool.and_eq_true, beq_iff_eq] at h
  exact h.1

theorem prims_heldDue (hs : (b.lc p).state = .stowed) (hh : (b.lc p).held ≠ .none) : Prims sc b (heldDue p b) := by
  unfold heldDue
  split
  next he =>
    refine prims_beginWork ⟨hs, earthOpen_state he, fun _ ha => .inl ?_⟩
    simp [committed, (ha.held p hh).1, hh]
  next => exact prims_discardHeld p b

/-- What the Roof Plan has made sure of when it passes a raise or a search. -/
structure Granted (sc : Scope) (p : Panto) (search : Bool) (b : Block) : Prop where
  role    : b.role p ≠ .none
  search  : search = true → b.role p = .calibrating
  air     : sc.calm → AirLaw b → airAllows b p = true
  restart : sc.calm → b.cond.restart = none

theorem prims_holdRaise {kind : Held} {search : Bool} (hk : kind ≠ .none)
    (hs : (b.lc p).state = .stowed ∨ (b.lc p).state = .lowering) (h : Granted sc p search b) :
    Prims sc b (holdRaise p kind search b) :=
  .of (.lift p _ {
    raised := fun h => .inl h
    pressure := fun _ h => h
    force := fun h => .inl ⟨h, rfl⟩
    pending := fun h => .inl ⟨h, fun hc => hc⟩
    air := .inr fun hcalm ha =>
      ⟨fun _ => .inr (h.air hcalm ha), fun _ => ⟨h.role, hs, h.restart hcalm⟩, fun hf => ⟨hk, h.search hf⟩⟩ })

theorem prims_takeRaise {search : Bool} (h : Granted sc p search b) : Prims sc b (takeRaise p search b) := by
  unfold takeRaise
  dsimp only
  split
  case h_1 hs =>
    split
    · exact Prims.refl _ _
    · split
      · exact prims_holdRaise (by decide) (.inl hs) h
      · split
        · exact prims_holdRaise (by decide) (.inl hs) h
        · split
          next he => exact prims_beginWork ⟨hs, earthOpen_state he, fun hk ha => .inr (h.air hk ha)⟩
          next => exact (prims_holdRaise (by decide) (.inl hs) h).trans (prims_discardHeld _ _)
  case h_2 hs =>
    split
    · exact Prims.refl _ _
    · exact prims_holdRaise (by decide) (.inr hs) h
  all_goals exact Prims.refl _ _

/-! ## Lowers -/

theorem prims_pendLower (hw : (b.lc p).state = .contact) (hb : holdsLower b = true) : Prims sc b (pendLower p b) := by
  unfold pendLower
  split
  · exact Prims.refl _ _
  · refine Prims.trans (.of (.lift p _ ?_)) (prims_openBreaker _ _)
    exact {
      raised := fun h => .inl h
      pressure := fun _ h => h
      force := fun h => .inl ⟨h, rfl⟩
      pending := fun _ => .inr ⟨hw, hb⟩
      air := .inr fun _ ha => .of_same ha rfl rfl id fun hh => (ha.held p hh).2.1 }

theorem waitsForBreaker_iff {immediate : Bool} : waitsForBreaker b immediate p = true ↔
    (b.lc p).state = .contact ∧ immediate = false ∧ b.role p = .collecting ∧ holdsLower b = true := by
  simp [waitsForBreaker, and_assoc]

theorem prims_noteLower (p : Panto) (b : Block) : Prims sc b (noteLower p b) :=
  prims_setLift_same rfl rfl rfl le_rfl rfl rfl

theorem prims_actOnLower (i : Bool) (p : Panto) (b : Block) : Prims sc b (actOnLower i p b) := by
  unfold actOnLower
  split
  · split
    · exact (prims_skipValves p b).trans (prims_discardHeld p _)
    · exact prims_skipValves p b
  · exact prims_beginLowering p b
  · split
    next hw =>
      obtain ⟨hs, -, -, hb⟩ := waitsForBreaker_iff.mp hw
      exact prims_pendLower hs hb
    next => exact prims_beginLowering p b
  · split
    · exact prims_discardHeld p b
    · exact Prims.refl _ _
  · exact prims_abortSearch p b
  · exact Prims.refl _ _
  · exact Prims.refl _ _

theorem prims_takeLower (i : Bool) (p : Panto) (b : Block) : Prims sc b (takeLower i p b) := by
  unfold takeLower
  split
  · split
    next hw =>
      obtain ⟨hs, -, -, hb⟩ := waitsForBreaker_iff.mp hw
      exact prims_pendLower hs hb
    next => exact prims_noteLower p b
  · exact prims_actOnLower i p b

theorem prims_releasePending (b : Block) : Prims sc b (releasePending b) := by
  refine .eachPanto (fun p b => ?_) b
  unfold releasePendingOf
  split
  · exact prims_beginLowering p b
  · exact Prims.refl _ _

theorem prims_lowerUp (i : Bool) (b : Block) : Prims sc b (lowerUp i b) := by
  refine .eachPanto (fun p b => ?_) b
  split
  · exact prims_takeLower i p b
  · exact Prims.refl _ _

theorem prims_abortSearches (b : Block) : Prims sc b (abortSearches b) := by
  unfold abortSearches onceAdopted
  split
  · exact Prims.refl _ _
  · refine .eachPanto (fun p b => ?_) b
    split
    · exact prims_abortSearch p b
    · split
      · exact prims_discardHeld p b
      · exact Prims.refl _ _

theorem prims_discardAllHeld (b : Block) : Prims sc b (discardAllHeld b) := by
  refine .eachPanto (fun p b => ?_) b
  split
  · exact prims_discardHeld p b
  · exact Prims.refl _ _

end Sys2Proof.Machine
end

section
/-!
The drops, the lowering of scrapers, and the moves of the switches as runs of changes.
-/

namespace Sys2Proof.Machine

variable {sc : Scope} {b : Block} {p : Panto}

/-! ## A role cleared with the lower that follows it -/

theorem valvesFrom_clearRole (l : List Panto) (p : Panto) (b : Block) :
    valvesFrom l (clearRole p b) = clearRole p (valvesFrom l b) := by
  induction l generalizing b with
  | nil => rfl
  | cons x xs ih =>
    have htest : valveTestable (clearRole p b) x = valveTestable b x := rfl
    unfold valvesFrom
    rw [htest]
    split
    · rfl
    · exact ih (setStrips x .skipped (setValves x .skipped b))

theorem skipValves_clearRole (p x : Panto) (b : Block) : skipValves x (clearRole p b) = clearRole p (skipValves x b) := by
  unfold skipValves
  have hstep : (clearRole p b).cond.testStep = b.cond.testStep := rfl
  rw [hstep]
  split
  · split
    · exact valvesFrom_clearRole (Panto.after x) p
        (setStrips x .skipped (setValves x .skipped (b.setLift x { b.lc x with commanded := 0 })))
    · rfl
  · rfl

theorem clearRole_clearRole (p : Panto) (b : Block) : clearRole p (clearRole p b) = clearRole p b := by
  cases p <;> rfl

theorem offerWrite_clearRole (j : MemJob) (p : Panto) (b : Block) :
    offerWrite j (clearRole p b) = clearRole p (offerWrite j b) := by
  unfold offerWrite
  have hmem : (clearRole p b).mem = b.mem := rfl
  rw [hmem]
  split
  · cases j <;> rfl
  · split <;> rfl

theorem abortEntry_clearRole (p x : Panto) (b : Block) : abortEntry x (clearRole p b) = clearRole p (abortEntry x b) :=
  congrArg (report 7) (offerWrite_clearRole (.entry x) p { b with
    cal := b.cal.set x ⟨{ (b.cal.get x).fields with lastResult := some .aborted }, false⟩ })

theorem offerWrite_setLift (j : MemJob) (p : Panto) (l : Lift) (b : Block) :
    offerWrite j (b.setLift p l) = (offerWrite j b).setLift p l := by
  unfold offerWrite
  have hmem : (b.setLift p l).mem = b.mem := rfl
  rw [hmem]
  split
  · cases j <;> rfl
  · split <;> rfl

theorem abortEntry_setLift (x p : Panto) (l : Lift) (b : Block) :
    abortEntry x (b.setLift p l) = (abortEntry x b).setLift p l :=
  congrArg (report 7) (offerWrite_setLift (.entry x) p l { b with
    cal := b.cal.set x ⟨{ (b.cal.get x).fields with lastResult := some .aborted }, false⟩ })

/-! ## The discard of a held raise -/

/-- The record after a held raise is discarded. -/
def Lift.discarded (l : Lift) : Lift :=
  { l with
    held := .none, heldSearch := false, airTimer := none, search := if l.heldSearch then none else l.search }

/-- A held search ends ABORTED. -/
def abortHeld (s : Bool) (p : Panto) (b : Block) : Block := if s then abortEntry p b else b

theorem abortHeld_clearRole (s : Bool) (p x : Panto) (b : Block) :
    abortHeld s x (clearRole p b) = clearRole p (abortHeld s x b) := by
  cases s
  case false => rfl
  case true => exact abortEntry_clearRole p x b

theorem abortHeld_setLift (s : Bool) (x p : Panto) (l : Lift) (b : Block) :
    abortHeld s x (b.setLift p l) = (abortHeld s x b).setLift p l := by
  cases s
  case false => rfl
  case true => exact abortEntry_setLift x p l b

theorem lc_abortHeld (s : Bool) (p x : Panto) (b : Block) : (abortHeld s p b).lc x = b.lc x := by
  cases s
  case false => rfl
  case true => exact lc_abortEntry p x b

theorem discardHeld_eq (p : Panto) (b : Block) :
    discardHeld p b = clearRole p ((abortHeld (b.lc p).heldSearch p b).setLift p (b.lc p).discarded) := by
  have hlc := lc_abortHeld (b.lc p).heldSearch p p b
  unfold discardHeld Lift.discarded
  change clearRole p ((abortHeld (b.lc p).heldSearch p b).setLift p
    { (abortHeld (b.lc p).heldSearch p b).lc p with
      held := .none, heldSearch := false, airTimer := none
      search := if (b.lc p).heldSearch then none else (b.lc p).search }) = _
  rw [hlc]

/-- The discard of a held raise clears the role itself. -/
theorem discardHeld_clearRole (p : Panto) (b : Block) : discardHeld p (clearRole p b) = discardHeld p b := by
  rw [discardHeld_eq, discardHeld_eq, clearRole_lc, abortHeld_clearRole]
  exact clearRole_clearRole p ((abortHeld (b.lc p).heldSearch p b).setLift p (b.lc p).discarded)

theorem setLift_setLift (b : Block) (p : Panto) (l l' : Lift) : (b.setLift p l).setLift p l' = b.setLift p l' := by
  cases p <;> rfl

theorem prims_abortHeld (s : Bool) (p : Panto) (b : Block) : Prims sc b (abortHeld s p b) := by
  cases s
  case false => exact Prims.refl _ _
  case true => exact prims_abortEntry p b

/-- A pantograph comes to a record with a fault, and its held raise is discarded with it. -/
theorem prims_discardWith {l : Lift} (k : FaultKind) (x : Subject) (h : LiftMove sc b p l.discarded) :
    Prims sc b (discardHeld p (recordFault k x (b.setLift p l))) := by
  have heq : discardHeld p (recordFault k x (b.setLift p l)) =
      clearRole p (abortHeld l.heldSearch p (recordFault k x (b.setLift p l.discarded))) := by
    rw [discardHeld_eq]
    have hlc : (recordFault k x (b.setLift p l)).lc p = l := by simp
    have hfault (y : Lift) : recordFault k x (b.setLift p y) = (recordFault k x b).setLift p y := rfl
    rw [hlc, hfault, hfault, abortHeld_setLift, abortHeld_setLift, setLift_setLift]
  rw [heq]
  refine ((Prims.of (.lift p _ h)).trans ((prims_recordFault k x _).trans (prims_abortHeld _ _ _))).trans
    (prims_clearRole _ _ ?_)
  rw [lc_abortHeld]
  simp [Lift.discarded]

/-- SCRAPING is released with the lower that follows at once. -/
theorem prims_releaseLower (i : Bool) (p : Panto) (b : Block) : Prims sc b (takeLower i p (clearRole p b)) := by
  by_cases hheld : (b.lc p).held = .none
  · exact (prims_clearRole p b hheld).trans (prims_takeLower i p _)
  by_cases hfree : b.cond.restart = none ∧ ((b.lc p).state = .stowed ∨ (b.lc p).state = .lowering)
  · obtain ⟨hr, hs⟩ := hfree
    have hlc : (clearRole p b).lc p = b.lc p := rfl
    have hw : adoptionWaits (clearRole p b) = false := by simp [adoptionWaits, clearRole, hr]
    unfold takeLower
    rw [if_neg (by simp [hw])]
    unfold actOnLower
    rw [hlc]
    rcases hs with hs | hs
    · simp only [hs, if_pos hheld, ne_eq]
      rw [skipValves_clearRole, discardHeld_clearRole]
      exact (prims_skipValves p b).trans (prims_discardHeld p _)
    · simp only [hs, if_pos hheld, ne_eq]
      rw [discardHeld_clearRole]
      exact prims_discardHeld p b
  · refine (Prims.of (.clear p (.inr fun ha => ?_))).trans (prims_takeLower i p _)
    by_contra hne
    exact hfree ⟨(ha.held p hne).2.2, (ha.held p hne).2.1⟩

theorem prims_lowerScrapers (b : Block) : Prims sc b (lowerScrapers b) := by
  refine .eachPanto (fun p b => ?_) b
  split
  · exact prims_releaseLower false p b
  · exact Prims.refl _ _

theorem prims_lowerRoof (i : Bool) (b : Block) : Prims sc b (lowerRoof i b) := by
  refine .eachPanto (fun p b => ?_) b
  split
  · exact prims_releaseLower i p b
  · exact prims_takeLower i p b

/-! ## Drops -/

theorem AirLaw.held_of_raised (h : AirLaw b) (hu : (b.lc p).state.raised = true) : (b.lc p).held = .none := by
  by_contra hh
  rcases (h.held p hh).2.1 with hs | hs <;> simp [hs, LiftState.raised] at hu

/-- A pantograph that is up drops. -/
theorem prims_enterDropped (hu : (b.lc p).state.raised = true) : Prims sc b (enterDropped p b) := by
  unfold enterDropped
  dsimp only
  refine Prims.trans ?_ (prims_recordFault _ _ _)
  have hdrop (x : Block) (hx : (x.lc p).state.raised = true) : Prims sc x (x.setLift p (x.lc p).toDropped) :=
    .of (.lift p _ (.of_down rfl rfl rfl (Nat.zero_le _) nofun fun ha hh => absurd (ha.held_of_raised hx) hh))
  split
  · exact (prims_abortEntry p b).trans (hdrop _ (by rwa [lc_abortEntry]))
  · exact hdrop b hu

theorem openBreaker_lc (x : Source) (p : Panto) (b : Block) : (openBreaker x b).lc p = b.lc p := by
  unfold openBreaker
  split <;> rfl

theorem state_enterDropped (p : Panto) (b : Block) : ((enterDropped p b).lc p).state = .dropped := by
  unfold enterDropped
  dsimp only
  rw [recordFault_lc, lc_setLift_self]
  rfl

/-- The role of a pantograph that holds no raise may be cleared. -/
theorem prims_clearRole_of_state (hs : (b.lc p).state ≠ .stowed) (hl : (b.lc p).state ≠ .lowering) :
    Prims sc b (clearRole p b) := by
  refine .of (.clear p (.inr fun ha => ?_))
  by_contra hh
  exact (ha.held p hh).2.1.elim hs hl

theorem prims_dropLift (hu : (b.lc p).state.raised = true) : Prims sc b (dropLift p b) := by
  unfold dropLift
  dsimp only
  have hstate := state_enterDropped p b
  refine (prims_enterDropped hu).trans ?_
  split
  · refine (prims_openBreaker _ _).trans (prims_clearRole_of_state ?_ ?_)
    all_goals
      rw [openBreaker_lc, hstate]
      decide
  · refine prims_clearRole_of_state ?_ ?_
    all_goals
      rw [hstate]
      decide

/-- A strip that fails in the self-test drops its pantograph, whatever raise it holds. -/
theorem prims_dropInTest (p : Panto) (b : Block) : Prims sc b (dropInTest p b) := by
  unfold dropInTest enterDropped
  dsimp only
  have hdrop (x : Block) : LiftMove sc x p (x.lc p).toDropped.discarded := {
    raised := nofun
    pressure := fun _ _ => Nat.zero_le _
    force := nofun
    pending := nofun
    air := .inr fun _ _ => .of_none rfl rfl nofun }
  split
  · exact (prims_abortEntry p b).trans (prims_discardWith _ _ (hdrop _))
  · exact prims_discardWith _ _ (hdrop _)

theorem prims_failValve (p : Panto) (b : Block) : Prims sc b (failValve p b) :=
  prims_discardWith _ _ {
    raised := nofun
    pressure := fun _ h => h
    force := nofun
    pending := nofun
    air := .inr fun _ _ => .of_none rfl rfl nofun }

/-! ## Commands to the switches -/

theorem examine_none_of_opened {w : TwoSw} (h : w.examine .opened = none) : w.state = .closed := by
  unfold TwoSw.examine at h
  cases hs : w.state <;> simp [hs] at h ⊢

theorem examine_none_of_closed {w : TwoSw} (h : w.examine .closed = none) : w.state = .opened ∧ w.disagree = false := by
  unfold TwoSw.examine at h
  cases hs : w.state <;> simp [hs] at h ⊢
  exact h

theorem prims_moveIsolator (p : Panto) (pos : TwoPos) (x : Source) (b : Block) :
    Prims sc b (moveIsolator p pos x b).1 := by
  unfold moveIsolator
  split
  case h_1 => exact Prims.refl _ _
  case h_2 hnone =>
    split
    next hlock =>
      refine .of (.iso p _ fun ho => ?_)
      cases pos
      case opened =>
        rw [examine_none_of_opened hnone] at ho
        cases ho
      case closed =>
        simp only [isolatorInterlock, Bool.and_eq_true, beq_iff_eq] at hlock
        exact .inr hlock.2
    next => exact Prims.refl _ _

theorem prims_moveSelector (pos : SelPos) (x : Source) (b : Block) : Prims sc b (moveSelector pos x b).1 := by
  unfold moveSelector
  split
  case h_1 => exact Prims.refl _ _
  case h_2 =>
    split
    · exact .of (.selector _)
    · exact Prims.refl _ _

theorem LiftState.raised_of_atRest {s : LiftState} (h : s.atRest = true) : s.raised = false := by
  cases s <;> simp [LiftState.atRest, LiftState.raised] at h ⊢

theorem panto_all (P : Panto → Prop) : (∀ p ∈ Panto.all, P p) ↔ ∀ p, P p := by
  constructor
  · intro h p
    cases p <;> exact h _ (by simp [Panto.all])
  · exact fun h p _ => h p

theorem prims_moveEarth (pos : TwoPos) (x : Source) (b : Block) : Prims sc b (moveEarth pos x b).1 := by
  unfold moveEarth
  split
  case h_1 => exact Prims.refl _ _
  case h_2 hnone =>
    split
    next hlock =>
      refine .of (.earth _ fun ho _ => ?_)
      cases pos
      case opened =>
        rw [examine_none_of_opened hnone] at ho
        cases ho
      case closed =>
        simp only [earthInterlock, Bool.and_eq_true, List.all_eq_true, panto_all] at hlock
        obtain ⟨⟨hrest, hbreaker⟩, -⟩ := hlock
        refine ⟨fun p => LiftState.raised_of_atRest (hrest p), ?_⟩
        simp only [TwoSw.isOpen, Bool.and_eq_true, beq_iff_eq] at hbreaker
        simp [breakerEngaged, hbreaker.1]
    next => exact Prims.refl _ _

theorem closeConditions_earth (h : closeConditions b = true) : b.sw.earth.state = .opened := by
  simp only [closeConditions, Bool.and_eq_true] at h
  exact earthOpen_state h.1

theorem prims_closeBreaker (hc : readinessMet b = true → sc.closes) (x : Source) : Prims sc b (closeBreaker x b).1 := by
  unfold closeBreaker
  split
  case h_1 => exact Prims.refl _ _
  case h_2 =>
    split
    next hcond =>
      simp only [Bool.and_eq_true] at hcond
      exact .of (.breaker _ (fun _ => .inr (hc hcond.2)) fun _ => .inl rfl)
    next => exact Prims.refl _ _

theorem prims_failureIf (f : Bool) (w : SwId) (b : Block) : Prims sc b (failureIf f w b) := by
  cases f
  case false => exact Prims.refl _ _
  case true => exact prims_recordFault _ _ _

theorem prims_workCommand {f : Block → Block × ReplyOutcome} (h : Prims sc b (f b).1) : Prims sc b (workCommand f b) := by
  unfold workCommand
  dsimp only
  split
  · exact h.trans (prims_halt _ _)
  · exact h

end Sys2Proof.Machine
end

section
/-!
The Changeover Sequencer's progress, the ends of WAKING and the rounds of answers as runs of changes.
-/

namespace Sys2Proof.Machine

variable {sc : Scope} {b : Block} {p : Panto}

/-! ## No restart waits -/

/-- What the loss of a link's presence leaves alone. -/
theorem linkLost_frame (l : Link) (b : Block) :
    (linkLost l b).seq = b.seq ∧ (linkLost l b).cond = b.cond ∧ (linkLost l b).lift = b.lift ∧
      (linkLost l b).plan.roles = b.plan.roles ∧ (linkLost l b).plan.hold = b.plan.hold ∧
      (linkLost l b).plan.epoch = b.plan.epoch ∧ (linkLost l b).sw = b.sw ∧ (linkLost l b).record = b.record ∧
      (linkLost l b).ice = b.ice ∧ (linkLost l b).queue = b.queue ∧ (linkLost l b).line = b.line ∧
      (linkLost l b).sensors = b.sensors := by
  cases l
  case p => exact ⟨rfl, rfl, rfl, rfl, rfl, rfl, rfl, rfl, rfl, rfl, rfl, rfl⟩
  all_goals
    unfold linkLost
    dsimp only [masterOf, setReady]
    split <;> exact ⟨rfl, rfl, rfl, rfl, rfl, rfl, rfl, rfl, rfl, rfl, rfl, rfl⟩

theorem prim_mid {x : Block} (h : Prim sc b x) (hm : RestartMid b) : RestartMid x := by
  cases h
  case seq mid => exact mid hm
  case cond mid => exact mid hm
  case lose l =>
    obtain ⟨hseq, hcond, -⟩ := linkLost_frame l b
    unfold RestartMid
    rw [hseq, hcond]
    exact hm
  all_goals exact hm

/-- What a waiting restart rules out stays ruled out. -/
theorem Prims.mid {x : Block} (h : Prims sc b x) (hm : RestartMid b) : RestartMid x :=
  h.keep (P := RestartMid) (fun _ _ hs => prim_mid hs) hm

/-- No restart waits, as the Sequencer's phase or the block itself tells. -/
def Awake (b : Block) : Prop := RestartMid b → b.cond.restart = none

theorem awake_of_restart (h : b.cond.restart = none) : Awake b := fun _ => h

theorem awake_of_phase (h : b.seq.phase ∈ [.armed, .tractionOff, .breakerOpen, .coast]) : Awake b := by
  intro hm
  by_contra hr
  exact (hm (Option.isSome_iff_ne_none.mpr hr)).2.2.1 h

theorem awake_of_work (hp : b.seq.phase = .probe) (hw : b.seq.work ∈ [.switches, .isolator, .ready]) : Awake b := by
  intro hm
  by_contra hr
  exact (hm (Option.isSome_iff_ne_none.mpr hr)).2.2.2 hp hw

theorem awake_of_standby (h : b.cond.standbyLowering = true) : Awake b := by
  intro hm
  by_contra hr
  have := (hm (Option.isSome_iff_ne_none.mpr hr)).2.1
  rw [h] at this
  cases this

theorem Awake.congr {x : Block} (h : Awake b) (hs : x.seq = b.seq) (hc : x.cond = b.cond) : Awake x := by
  intro hm
  rw [hc]
  refine h ?_
  unfold RestartMid at hm ⊢
  rw [hs, hc] at hm
  exact hm

/-! ## Changes of the Sequencer's record -/

theorem prims_setPhaseWork {q : Seq} (ha : Awake b) (hh : b.seq.phase ≠ .halted)
    (hi : q.phase ≠ .idle → b.seq.phase ≠ .idle) : Prims sc b { b with seq := q } :=
  .of (prim_seq_awake ha (fun h => absurd h hh) fun h => .inl (hi h))

theorem prims_setWork (w : Work) (ha : Awake b) : Prims sc b (setWork w b) :=
  .of (prim_seq_awake ha (fun h => .inl h) fun h => .inl h)

theorem prims_setCandidate (c : Option Panto) (b : Block) : Prims sc b (setCandidate c b) := by
  unfold setCandidate
  dsimp only
  split
  · exact (Prims.of (prim_seq_same (q := { b.seq with candidate := c }) rfl rfl)).trans (prims_setPreheat _ _)
  · exact .of (prim_seq_same rfl rfl)

theorem setCandidate_phase (c : Option Panto) (b : Block) : (setCandidate c b).seq.phase = b.seq.phase := by
  unfold setCandidate
  dsimp only
  split <;> rfl

theorem setCandidate_work (c : Option Panto) (b : Block) : (setCandidate c b).seq.work = b.seq.work := by
  unfold setCandidate
  dsimp only
  split <;> rfl

theorem setCandidate_cond (c : Option Panto) (b : Block) : (setCandidate c b).cond = b.cond := by
  unfold setCandidate
  dsimp only
  split <;> rfl

theorem prims_finishPath (hh : b.seq.phase ≠ .halted) : Prims sc b (finishPath b) := by
  unfold finishPath
  refine Prims.trans (.of (prim_seq_rests
    (q := { b.seq with phase := .idle, path := none, activeEntry := none, work := .none, timer := none })
    (.inl (by simp)) (fun h => absurd h hh) fun h => absurd rfl h)) ?_
  exact (prims_serveEntry _ _).trans (prims_setTractionOff _ _)

/-! ## Entries to phases -/

theorem prims_enterTractionOff (ha : Awake b) (hh : b.seq.phase ≠ .halted) (hi : b.seq.phase ≠ .idle) :
    Prims sc b (enterTractionOff b) :=
  (prims_setPhaseWork ha hh fun _ => hi).trans (prims_setTractionOff _ _)

theorem prims_enterBreakerOpen (ha : Awake b) (hh : b.seq.phase ≠ .halted) (hi : b.seq.phase ≠ .idle) :
    Prims sc b (enterBreakerOpen b) := by
  unfold enterBreakerOpen
  dsimp only
  have hopen := (prims_setPhaseWork (sc := sc) (q := { b.seq with phase := .breakerOpen, timer := none }) ha hh
    fun _ => hi).trans (prims_openBreaker .internal _)
  split
  · exact hopen.trans (prims_lowerUp _ _)
  · exact hopen

theorem prims_enterLowering (hh : b.seq.phase ≠ .halted) (hi : b.seq.phase ≠ .idle) : Prims sc b (enterLowering b) :=
  (Prims.of (prim_seq_rests (.inl (by simp)) (fun h => absurd h hh) fun _ => .inl hi)).trans (prims_lowerUp _ _)

theorem prims_enterConfirm (hh : b.seq.phase ≠ .halted) (hi : b.seq.phase ≠ .idle) : Prims sc b (enterConfirm b) :=
  .of (prim_seq_rests (.inl (by simp)) (fun h => absurd h hh) fun _ => .inl hi)

theorem prims_enterMasterReady (s : LineSystem) (hh : b.seq.phase ≠ .halted) (hi : b.seq.phase ≠ .idle) :
    Prims sc b (enterMasterReady s b) :=
  (Prims.of (prim_seq_rests (.inl (by simp)) (fun h => absurd h hh) fun _ => .inl hi)).trans (prims_setDetermined _ _ _)

theorem prims_enterClose (hc : readinessMet b = true → sc.closes) (hh : b.seq.phase ≠ .halted) (hi : b.seq.phase ≠ .idle) :
    Prims sc b (enterClose b) := by
  unfold enterClose
  dsimp only
  refine Prims.trans (.of (prim_seq_rests (q := { b.seq with phase := .close, timer := none }) (.inl (by simp))
    (fun h => absurd h hh) fun _ => .inl hi)) ?_
  split
  · exact prims_halt _ _
  · split
    · exact (prims_closeBreaker (by exact hc) _).trans (prims_halt _ _)
    · exact prims_closeBreaker (by exact hc) _

/-! ## Switch work -/

theorem prims_startWork (c : Panto) (ha : Awake b) : Prims sc b (startWork c b) := by
  unfold startWork
  dsimp only
  have hask : Prims sc (setWork .switches b) (eachPanto (fun p b =>
      if b.seq.phase = .halted then b
      else if p = c ∨ isoOpen b p = true then b
      else workCommand (moveIsolator p .opened .internal) b) (setWork .switches b)) := by
    refine .eachPanto (fun p b => ?_) _
    split
    · exact Prims.refl _ _
    · split
      · exact Prims.refl _ _
      · exact prims_workCommand (prims_moveIsolator _ _ _ _)
  refine ((prims_setWork _ ha).trans hask).trans ?_
  split
  · exact Prims.refl _ _
  · exact prims_workCommand (prims_moveSelector _ _ _)

theorem prims_coastWork (hp : b.seq.phase = .coast) : Prims sc b (coastWork b) := by
  unfold coastWork
  have hcand (c : Option Panto) : Awake (setCandidate c b) :=
    awake_of_phase (by rw [setCandidate_phase, hp]; simp)
  split
  · exact (prims_setCandidate _ _).trans (prims_setWork _ (hcand _))
  · split
    · exact prims_halt _ _
    · dsimp only
      split
      · exact (prims_setCandidate _ _).trans (prims_setWork _ (hcand _))
      · exact (prims_setCandidate _ _).trans (prims_startWork _ (hcand _))

theorem prims_enterCoast (ha : Awake b) (hh : b.seq.phase ≠ .halted) (hi : b.seq.phase ≠ .idle) :
    Prims sc b (enterCoast b) := by
  unfold enterCoast
  dsimp only
  have hwork := (prims_setPhaseWork (sc := sc) (q := { b.seq with phase := .coast, timer := none }) ha hh
    fun _ => hi).trans (prims_coastWork rfl)
  split
  · exact hwork.trans (prims_halt _ _)
  · exact hwork

/-! ## The candidate's raise -/

/-- What the Roof Plan grants the Sequencer. -/
theorem grantCollecting_eq {c : Panto} {x : Block} (h : grantCollecting c b = some x) :
    b.role c = .collecting ∧ x = b ∨
      (∀ p, p ≠ c → b.role p ≠ .collecting) ∧ b.role c = .none ∧ x = setRole c .collecting .internal b := by
  unfold grantCollecting at h
  split at h
  next hc =>
    cases h
    exact .inl ⟨hc, rfl⟩
  next =>
    split at h
    next => cases h
    next hone =>
      split at h
      next => cases h
      next =>
        split at h
        next hnone =>
          cases h
          refine .inr ⟨fun p hp hrole => hone ?_, hnone, rfl⟩
          refine List.any_eq_true.mpr ⟨p, ?_, by simp [hp, hrole]⟩
          cases p <;> simp [Panto.all]
        next => cases h

theorem prims_grantCollecting (hg : sc.grants) {c : Panto} {x : Block} (h : grantCollecting c b = some x) : Prims sc b x := by
  obtain ⟨-, rfl⟩ | ⟨hone, hnone, rfl⟩ := grantCollecting_eq h
  · exact Prims.refl _ _
  · refine .of (.grant c .collecting .internal hg (fun _ => hone) nofun nofun fun ha => ?_)
    by_contra hh
    exact (ha.held c hh).1 hnone

theorem role_grantCollecting {c : Panto} {x : Block} (h : grantCollecting c b = some x) : x.role c = .collecting := by
  obtain ⟨hc, rfl⟩ | ⟨-, -, rfl⟩ := grantCollecting_eq h
  · exact hc
  · simp [Block.role, setRole]

theorem grantCollecting_frame {c : Panto} {x : Block} (h : grantCollecting c b = some x) :
    x.seq = b.seq ∧ x.cond = b.cond ∧ x.lift = b.lift ∧ ∀ p, p ≠ c → x.role p = b.role p := by
  obtain ⟨-, rfl⟩ | ⟨-, -, rfl⟩ := grantCollecting_eq h
  · exact ⟨rfl, rfl, rfl, fun _ _ => rfl⟩
  · refine ⟨rfl, rfl, rfl, fun p hp => ?_⟩
    simp [Block.role, setRole, PerP.get_set_ne _ _ hp]

/-- Whether MaxUp allows `c` does not depend on the role of `c`. -/
theorem airAllows_congr {x : Block} {c : Panto} (hl : x.lift = b.lift) (hcfg : x.cond.cfg = b.cond.cfg)
    (hr : ∀ p, p ≠ c → x.role p = b.role p) : airAllows x c = airAllows b c := by
  have hfun : (fun p => p == c || committed x p) = fun p => p == c || committed b p := by
    funext p
    by_cases hp : p = c
    · simp [hp]
    · simp [committed, Block.lc, hl, hr p hp]
  unfold airAllows
  rw [hfun, Block.nat, hcfg]
  rfl

theorem prims_passRaise (hg : sc.grants) (ha : Awake b) (hm : sc.calm → RestartMid b) : Prims sc b (passRaise b) := by
  unfold passRaise
  split
  · exact prims_halt _ _
  · split
    · exact prims_halt _ _
    · split
      · exact prims_halt _ _
      next hair =>
        split
        · exact prims_halt _ _
        next c _ _ _ x hgrant =>
          obtain ⟨hseq, hcond, hlift, hrole⟩ := grantCollecting_frame hgrant
          refine ((prims_grantCollecting hg hgrant).trans (prims_setWork _ (ha.congr hseq hcond))).trans
            (prims_takeRaise ?_)
          have hc : x.role c = .collecting := role_grantCollecting hgrant
          have hwork : (setWork .raising x).role c = .collecting := hc
          refine ⟨by rw [hwork]; decide, nofun, fun _ _ => ?_, fun hk => ?_⟩
          · simp only [Bool.or_eq_true, Bool.not_eq_true', not_or, Bool.not_eq_false] at hair
            exact (airAllows_congr (x := setWork .raising x) hlift (congrArg Cond.cfg hcond) hrole).trans hair.2
          · exact (congrArg Cond.restart hcond).trans (ha (hm hk))

theorem prims_enterProbe (hg : sc.grants) (hm : sc.calm → RestartMid b) (hp : b.seq.phase = .coast) (hw : b.seq.work = .ready) :
    Prims sc b (enterProbe b) := by
  have hphase : Prims sc b { b with seq := { b.seq with phase := .probe, timer := none } } :=
    prims_setPhaseWork (awake_of_phase (by simp [hp])) (by simp [hp]) fun _ => by simp [hp]
  exact hphase.trans (prims_passRaise hg (awake_of_work rfl (by simp [hw])) fun hk => hphase.mid (hm hk))

/-! ## Progress -/

theorem prims_advanceWork (hg : sc.grants) (hp : b.seq.phase = .coast ∨ b.seq.phase = .probe) : Prims sc b (advanceWork b) := by
  have hawake (hw : b.seq.work ∈ [.switches, .isolator, .ready]) : Awake b :=
    hp.elim (fun h => awake_of_phase (by simp [h])) fun h => awake_of_work h hw
  unfold advanceWork
  split
  · exact Prims.refl _ _
  · split
    case h_1 hw =>
      split
      · split
        · exact prims_halt _ _
        next x hgrant =>
          obtain ⟨hseq, hcond, -⟩ := grantCollecting_frame hgrant
          refine ((prims_grantCollecting hg hgrant).trans (prims_setWork _ ((hawake (by simp [hw])).congr hseq hcond))).trans
            (prims_workCommand (prims_moveIsolator _ _ _ _))
      · exact Prims.refl _ _
    case h_2 hw =>
      split
      · exact prims_setWork _ (hawake (by simp [hw]))
      · exact Prims.refl _ _
    all_goals exact Prims.refl _ _

theorem prims_leaveCoast (hg : sc.grants) (hm : sc.calm → RestartMid b) (hp : b.seq.phase = .coast) (hw : b.seq.work = .ready) :
    Prims sc b (leaveCoast b) := by
  have hh : b.seq.phase ≠ .halted := by simp [hp]
  have hi : b.seq.phase ≠ .idle := by simp [hp]
  unfold leaveCoast
  split
  · exact prims_finishPath hh
  · split
    · exact prims_enterProbe hg hm hp hw
    · split
      · exact prims_enterConfirm hh hi
      · exact prims_enterConfirm hh hi
      · exact prims_enterProbe hg hm hp hw

theorem prims_coastStep (hg : sc.grants) (hm : sc.calm → RestartMid b) (hp : b.seq.phase = .coast) : Prims sc b (coastStep b) := by
  have hwork := prims_advanceWork (sc := sc) hg (.inl hp)
  unfold coastStep
  dsimp only
  split
  next h => exact hwork.trans (prims_leaveCoast hg (fun hk => hwork.mid (hm hk)) h.1 h.2.1)
  next => exact hwork

theorem roofDown_restart (h : roofDown b = true) : b.cond.restart = none := by
  simp only [roofDown, adoptionWaits, Bool.and_eq_true, Bool.not_eq_true', Option.isSome_eq_false_iff,
    Option.isNone_iff_eq_none] at h
  exact h.1

theorem prims_breakerFailedHalt (b : Block) : Prims sc b (breakerFailedHalt b) := (prims_lowerUp _ _).trans (prims_halt _ _)

theorem prims_probeStep (hg : sc.grants) (hm : sc.calm → RestartMid b) (hp : b.seq.phase = .probe) : Prims sc b (probeStep b) := by
  unfold probeStep
  split
  case h_1 hw =>
    split
    · refine Prims.trans (.of (prim_seq_rests (q := { b.seq with work := .awaitDown }) (.inr ⟨hp, .inr rfl⟩)
        (fun h => .inl h) fun h => .inl h)) (prims_lowerUp _ _)
    · split
      · exact prims_breakerFailedHalt b
      · exact Prims.refl _ _
  case h_2 hw =>
    split
    next hdown =>
      split
      · exact prims_halt _ _
      · refine (prims_setCandidate _ _).trans (prims_startWork _ (awake_of_restart ?_))
        rw [setCandidate_cond]
        exact roofDown_restart hdown
    next => exact Prims.refl _ _
  case h_3 | h_4 => exact prims_advanceWork hg (.inr hp)
  case h_5 hw => exact prims_passRaise hg (awake_of_work hp (by simp [hw])) hm
  case h_6 hw =>
    split
    · exact prims_halt _ _
    · split
      · exact prims_enterConfirm (by simp [hp]) (by simp [hp])
      · exact Prims.refl _ _
      · split
        · exact prims_halt _ _
        · exact Prims.refl _ _
      · split
        · exact prims_halt _ _
        · exact Prims.refl _ _
      all_goals exact prims_halt _ _
  case h_7 => exact Prims.refl _ _

theorem prims_seqStep (hg : sc.grants) (hc : readinessMet b = true → sc.closes) (hm : sc.calm → RestartMid b) : Prims sc b (seqStep b) := by
  unfold seqStep
  split
  case h_1 | h_2 | h_3 | h_8 => exact Prims.refl _ _
  case h_4 hp =>
    have hh : b.seq.phase ≠ .halted := by simp [hp]
    have hi : b.seq.phase ≠ .idle := by simp [hp]
    split
    · split
      · exact prims_enterLowering hh hi
      · exact prims_enterCoast (awake_of_phase (by simp [hp])) hh hi
    · split
      · exact prims_breakerFailedHalt b
      · exact Prims.refl _ _
  case h_5 hp =>
    split
    next hdown => exact prims_enterCoast (awake_of_restart (roofDown_restart hdown)) (by simp [hp]) (by simp [hp])
    next => exact Prims.refl _ _
  case h_6 hp => exact prims_coastStep hg hm hp
  case h_7 hp => exact prims_probeStep hg hm hp
  case h_9 hp =>
    split
    · exact prims_halt _ _
    · split
      · exact prims_enterClose hc (by simp [hp]) (by simp [hp])
      · exact Prims.refl _ _
  case h_10 hp =>
    split
    · exact prims_finishPath (by simp [hp])
    · exact Prims.refl _ _
    · exact prims_halt _ _
  case h_11 hp =>
    unfold withdrawInHalt
    split
    · exact prims_setTractionOff _ _
    · exact Prims.refl _ _

/-! ## Modes and the ends of WAKING -/

theorem prims_setMode (m : Mode) (ha : Awake b) : Prims sc b (setMode m b) :=
  (Prims.of (prim_mode (c := { b.cond with mode := m, modeTimer := 0, standbyLowering := false, heldWake := false })
    rfl rfl rfl rfl rfl (.inl ha))).trans (prims_abortSearches _)

theorem prims_beginStandbyLowering (ha : Awake b) : Prims sc b (beginStandbyLowering b) := by
  unfold beginStandbyLowering
  dsimp only
  refine (Prims.of (prim_mode (c := { b.cond with standbyLowering := true }) rfl rfl rfl rfl rfl (.inl ha))).trans ?_
  exact ((prims_halt _ _).trans (prims_openBreaker _ _)).trans (prims_lowerRoof _ _)

theorem restart_setMode (m : Mode) (b : Block) : (setMode m b).cond.restart = b.cond.restart :=
  congrArg Kept.restart (kept_abortSearches _)

theorem prims_enterStandby (hr : b.cond.restart = none) : Prims sc b (enterStandby b) := by
  unfold enterStandby
  split
  · exact (prims_setMode _ (awake_of_restart hr)).trans
      (prims_beginStandbyLowering (awake_of_restart ((restart_setMode _ _).trans hr)))
  · exact prims_setMode _ (awake_of_restart hr)

theorem prims_endWaking (hr : b.cond.restart = none) : Prims sc b (endWaking b) := by
  unfold endWaking
  split
  · exact prims_setMode _ (awake_of_restart hr)
  · split
    · exact prims_setMode _ (awake_of_restart hr)
    · exact prims_enterStandby hr
  all_goals exact prims_enterStandby hr

theorem prims_completeWaking (hr : b.cond.restart = none) : Prims sc b (completeWaking b) :=
  (prims_setTest _ b).trans (prims_endWaking hr)

theorem prims_stopValves (b : Block) : Prims sc b (stopValves b) := by
  unfold stopValves
  split
  · refine Prims.trans ?_ (prims_setTestStep _ _)
    exact prims_setLift_same rfl rfl rfl (Nat.zero_le _) rfl rfl
  · exact prims_setTestStep _ _

theorem restart_stopValves (b : Block) : (stopValves b).cond.restart = b.cond.restart := by
  unfold stopValves
  split <;> rfl

theorem prims_timeoutWaking (hr : b.cond.restart = none) : Prims sc b (timeoutWaking b) :=
  ((prims_stopValves b).trans (prims_setTest _ _)).trans (prims_endWaking ((restart_stopValves b).trans hr))

theorem restart_of_adopted (h : adoptionWaits b = false) : b.cond.restart = none := by
  simpa [adoptionWaits] using h

theorem prims_wakingCheck (b : Block) : Prims sc b (wakingCheck b) := by
  unfold wakingCheck
  split
  next h =>
    have hr := restart_of_adopted h.2
    split
    · split
      · exact prims_completeWaking hr
      · exact Prims.refl _ _
    · split
      · exact prims_timeoutWaking hr
      · exact Prims.refl _ _
  next => exact Prims.refl _ _

theorem prims_standbyCheck (b : Block) : Prims sc b (standbyCheck b) := by
  unfold standbyCheck
  split
  next h =>
    simp only [Bool.and_eq_true] at h
    exact prims_setMode _ (awake_of_standby h.1.1)
  next => exact Prims.refl _ _

/-! ## Rounds -/

/-- Readiness is among what the blocks' answers leave alone. -/
theorem readinessMet_of_kept {x : Block} (h : x.kept = b.kept) : readinessMet x = readinessMet b := by
  have hready (present : Bool) (r : Option Ready) : readyFor x present r = readyFor b present r := by
    unfold readyFor
    rw [show x.record.determined = b.record.determined from congrArg Kept.determined h]
  unfold readinessMet
  rw [hready, hready, show x.plan.readyA = b.plan.readyA from congrArg Kept.readyA h,
    show x.plan.readyB = b.plan.readyB from congrArg Kept.readyB h,
    show x.links.a.present = b.links.a.present from present_of_kept h .a,
    show x.links.b.present = b.links.b.present from present_of_kept h .b]

theorem prims_round (hg : sc.grants) (hc : readinessMet b = true → sc.closes) (hm : sc.calm → RestartMid b) :
    Prims sc b (round b) := by
  have hbefore := (prims_guardBreaker (sc := sc) b).trans (prims_releasePending _)
  have hseq := prims_seqStep (sc := sc) (b := releasePending (guardBreaker b)) hg
    (fun h => hc ((readinessMet_of_kept (by simp)).symm.trans h)) fun hk => hbefore.mid (hm hk)
  exact ((hbefore.trans hseq).trans (prims_wakingCheck _)).trans (prims_standbyCheck _)

theorem prims_rounds (hg : sc.grants) (n : Nat) (hc : readinessMet b = true → sc.closes) (hm : sc.calm → RestartMid b) :
    Prims sc b (rounds n b) := by
  induction n generalizing b with
  | zero => exact Prims.refl _ _
  | succ n ih =>
    have hround := prims_round hg hc hm
    exact hround.trans (ih (fun h => hc ((readinessMet_of_kept (by simp)).symm.trans h)) fun hk => hround.mid (hm hk))

end Sys2Proof.Machine
end

section
/-!
The Ice Unit's part of an event, and the end of every event, as runs of changes.
-/

namespace Sys2Proof.Machine

variable {sc : Scope} {b : Block} {p : Panto}

/-! ## The estimate -/

theorem prims_ice {i : Ice} (he : sc.estimates) (hlevel : i.level = b.ice.level) : Prims sc b { b with ice := i } :=
  .of (.ice i (.inl hlevel) (.inr he))

theorem prims_judgeLevel (he : sc.estimates) (fall : Bool) (raw : Nat) (b : Block) : Prims sc b (judgeLevel fall raw b) := by
  have write (i : Ice) (hlevel : i.level = b.ice.level) : Prims sc b { b with ice := i } := prims_ice he hlevel
  unfold judgeLevel
  dsimp only
  split
  · exact write _ rfl
  · split
    · exact write _ rfl
    · split
      · exact write _ rfl
      · split <;> exact write _ rfl

theorem prims_evaluateScore (he : sc.estimates) (fall : Bool) (b : Block) : Prims sc b (evaluateScore fall b) := by
  unfold evaluateScore
  exact (prims_ice (i := { b.ice with score := scoreOf b }) he rfl).trans (prims_judgeLevel he _ _ _)

theorem prims_handOver (he : sc.estimates) (b : Block) : Prims sc b (handOver b) := prims_ice he rfl

theorem prims_followCollector (he : sc.estimates) (s b : Block) : Prims sc b (followCollector s b) := by
  unfold followCollector
  split
  · exact Prims.refl _ _
  · exact prims_evaluateScore he _ _

theorem prims_followEntries (he : sc.estimates) (s b : Block) : Prims sc b (followEntries s b) := by
  unfold followEntries
  split
  · exact Prims.refl _ _
  · exact prims_handOver he _

/-! ## The level and the advisory -/

theorem prims_takeLevel (he : sc.estimates) (ha : sc.advises) (b : Block) : Prims sc b (takeLevel b) :=
  .of (.ice _ (.inr ha) (.inr he))

theorem prims_setAdvisory (ha : sc.advises) (v : Option Nat) (b : Block) : Prims sc b (setAdvisory v b) :=
  .of (.record _ (.inr ha))

theorem prims_adviseOn (ha : sc.advises) (n : Nat) (b : Block) : Prims sc b (adviseOn n b) := by
  unfold adviseOn
  split
  · split
    · exact Prims.refl _ _
    · exact prims_setAdvisory ha _ _
  · split
    · exact prims_setAdvisory ha _ _
    · exact Prims.refl _ _

theorem prims_adviseAfterRestart (ha : sc.advises) (b : Block) : Prims sc b (adviseAfterRestart b) := by
  unfold adviseAfterRestart
  split
  · split
    · exact prims_setAdvisory ha _ _
    · exact Prims.refl _ _
  · exact prims_setAdvisory ha _ _

theorem prims_followLevel (he : sc.estimates) (ha : sc.advises) (s b : Block) : Prims sc b (followLevel s b) := by
  unfold followLevel
  split
  · exact (prims_takeLevel he ha b).trans (prims_adviseAfterRestart ha _)
  · exact (prims_takeLevel he ha b).trans (prims_adviseOn ha _ _)

theorem prims_shareBudget (he : sc.estimates) (b : Block) : Prims sc b (shareBudget b) := by
  unfold shareBudget
  split <;> exact prims_ice he rfl

theorem prims_endPreheat (b : Block) : Prims sc b (endPreheat b) := by
  unfold endPreheat
  split
  · split
    · exact Prims.refl _ _
    · exact prims_setPreheat _ _
  · exact Prims.refl _ _

/-! ## The scraper -/

theorem prims_endScraper (b : Block) : Prims sc b (endScraper b) := by
  unfold endScraper
  refine Prims.trans (.of (.ice { b.ice with scraper := none, lastLowering := some b.queue.position }
    (.inl rfl) (.inl rfl))) (prims_report _ _)

theorem prims_followReleased (b : Block) : Prims sc b (followReleased b) := by
  unfold followReleased
  split
  · split
    · exact prims_endScraper b
    · exact Prims.refl _ _
  · exact Prims.refl _ _

theorem prims_followScraper (b : Block) : Prims sc b (followScraper b) := by
  unfold followScraper
  split
  · exact Prims.refl _ _
  · split
    · exact prims_setScraper _ _
    · split
      · exact prims_endScraper b
      · exact Prims.refl _ _

/-- What the Roof Plan has made sure of when it grants SCRAPING (R10). -/
structure MayScrape (p : Panto) (b : Block) : Prop where
  idle     : b.seq.phase = .idle
  free     : b.role p = .none
  isolator : (b.sw.iso.get p).state = .opened
  air      : airAllows b p = true

theorem scrapingRefusal_none (h : scrapingRefusal b p = none) : MayScrape p b := by
  unfold scrapingRefusal at h
  split at h
  next => cases h
  split at h
  next => cases h
  next hidle =>
  split at h
  next => cases h
  split at h
  next => cases h
  split at h
  next => cases h
  next hfree =>
  split at h
  next => cases h
  next hiso =>
  split at h
  next => cases h
  next hair =>
  simp only [not_or, Decidable.not_not] at hidle hfree
  simp only [Bool.not_eq_true', Bool.not_eq_false] at hiso hair
  refine ⟨hidle, hfree.1, ?_, hair⟩
  simp only [isoOpen, TwoSw.isOpen, Bool.and_eq_true, beq_iff_eq] at hiso
  exact hiso.1

/-- Whether MaxUp allows `p` does not depend on the role of `p`. -/
theorem airAllows_setRole (p : Panto) (r : Role) (o : Origin) (b : Block) : airAllows (setRole p r o b) p = airAllows b p :=
  airAllows_congr rfl rfl fun x hx => by simp [Block.role, setRole, PerP.get_set_ne _ _ hx]

theorem AirLaw.held_of_free (h : AirLaw b) (hr : b.role p = .none) : (b.lc p).held = .none := by
  by_contra hh
  exact (h.held p hh).1 hr

theorem prims_askScraper (hg : sc.grants) (hr : b.cond.restart = none) (p : Panto) : Prims sc b (askScraper p b) := by
  unfold askScraper
  split
  next => exact Prims.refl _ _
  next hnone =>
    obtain ⟨hidle, hfree, hiso, hair⟩ := scrapingRefusal_none hnone
    refine Prims.trans (.of (.grant p .scraping .internal hg nofun (fun _ => hiso) (fun _ => hidle)
      fun ha => ha.held_of_free hfree)) ((prims_setScraper (some p) _).trans (prims_takeRaise ?_))
    have hrole : (setScraper (some p) (setRole p .scraping .internal b)).role p = .scraping :=
      role_setRole_self p .scraping .internal b
    exact ⟨by rw [hrole]; decide, nofun, fun _ _ => (airAllows_setRole p .scraping .internal b).trans hair, fun _ => hr⟩

theorem prims_lowerScraper (p : Panto) (b : Block) : Prims sc b (lowerScraper p b) :=
  (prims_releaseLower false p b).trans (prims_endScraper _)

theorem prims_judgeScraper (hg : sc.grants) (hr : b.cond.restart = none) : Prims sc b (judgeScraper b) := by
  unfold judgeScraper
  split
  · split
    · exact prims_lowerScraper _ b
    · exact Prims.refl _ _
  · split
    · split
      · exact prims_askScraper hg hr _
      · exact Prims.refl _ _
    · exact Prims.refl _ _

/-! ## The end of every event -/

theorem restart_of_kept {x : Block} (h : x.kept = b.kept) : x.cond.restart = b.cond.restart := congrArg Kept.restart h

theorem prims_iceSettle (hg : sc.grants) (he : sc.estimates) (ha : sc.advises) (s : Block) (judge : Bool) (b : Block) :
    Prims sc b (iceSettle s judge b) := by
  have hfollow : Prims sc b (followEntries s (followCollector s b)) :=
    (prims_followCollector he s b).trans (prims_followEntries he s _)
  unfold iceSettle
  dsimp only
  split
  · exact (((hfollow.trans (prims_followReleased _)).trans (prims_followLevel he ha s _)).trans
      (prims_endPreheat _)).trans (prims_shareBudget he _)
  next hw =>
    have hlevel := (hfollow.trans (prims_followScraper _)).trans (prims_followLevel he ha s _)
    refine Prims.trans ?_ ((prims_endPreheat _).trans (prims_shareBudget he _))
    split
    · refine hlevel.trans (prims_judgeScraper hg ?_)
      simp only [Bool.or_eq_true, not_or, Bool.not_eq_true] at hw
      exact (restart_of_kept (by simp)).trans (restart_of_adopted hw.1)
    · exact hlevel

/-- What the blocks do at the end of an event that began at `s`, before the epoch and the masks are brought up. -/
def answers (s : Block) (judge : Bool) (b : Block) : Block :=
  guardBreaker (standbyCheck (iceSettle s judge (rounds roundLimit b)))

theorem settle_eq (s : Block) (judge : Bool) (b : Block) : settle s judge b = close s (answers s judge b) := rfl

theorem prims_answers (hg : sc.grants) (hc : readinessMet b = true → sc.closes) (he : sc.estimates) (ha : sc.advises) (s : Block) (judge : Bool)
    (hm : sc.calm → RestartMid b) : Prims sc b (answers s judge b) :=
  (((prims_rounds hg roundLimit hc hm).trans (prims_iceSettle hg he ha s judge _)).trans (prims_standbyCheck _)).trans
    (prims_guardBreaker _)

end Sys2Proof.Machine
end

section
/-!
The start of a path, the loads of the configuration, and what a scan does to a pantograph, as moves: runs of changes with
what they come to.
-/

namespace Sys2Proof.Machine

variable {sc : Scope} {b x : Block} {p : Panto}

/-! ## Moves -/

/-- The scope without starts and loads. -/
def Scope.still (sc : Scope) : Scope := { sc with starts := False, loads := False }

/-- The scope of the start of a path. -/
def Scope.starting (sc : Scope) : Scope := { sc with starts := True, loads := False }

/-- The scope of a load. -/
def Scope.loading (sc : Scope) : Scope := { sc with starts := False, loads := True, advises := True }

/-- No reload and no adoption waits. -/
def Loaded (b : Block) : Prop := b.cond.restart = none ∧ b.cond.reloadPending = false

/-- The advisory stays, or is that of CurrentLimit as it stands; it is so at level 3 where CurrentLimit has changed. -/
structure Advised (b x : Block) : Prop where
  level    : x.ice.level = b.ice.level
  changed  : cfgGet x.cond.cfg .currentLimit ≠ cfgGet b.cond.cfg .currentLimit → b.ice.level = 3 →
    x.record.advisory = some (x.nat .currentLimit)
  advisory : x.record.advisory = b.record.advisory ∨
    b.ice.level = 3 ∧ x.record.advisory = some (x.nat .currentLimit)

/-- A change, the start of a path taken whole, or a load taken whole. -/
inductive Move (sc : Scope) (b : Block) : Block → Prop
  | prim {x : Block} (change : Prim sc.still b x) : Move sc b x
  | start {x : Block} (run : Prims sc.starting b x) (released : ∀ p, x.role p ≠ .scraping)
      (rests : sc.stands ∨ (RestartLaw b → RestartLaw x)) : Move sc b x
  | load {x : Block} (run : Prims sc.loading b x) (awake : b.cond.restart = none → x.cond.restart = none)
      (air : ConfigLaw b → AirLaw b → AirLaw x)
      (limits : ConfigLaw b → LimitsLaw b → LimitsLaw x) (pends : PendContact b → PendContact x)
      (advised : Loaded b → Loaded x ∧ Advised b x ∧ (sc.writes ∨ x.record.advisory = b.record.advisory)) : Move sc b x

/-- A run of moves. -/
def Moves (sc : Scope) : Block → Block → Prop := Relation.ReflTransGen (Move sc)

@[simp] theorem Moves.refl (sc : Scope) (b : Block) : Moves sc b b := Relation.ReflTransGen.refl

theorem Moves.trans {a b c : Block} (h : Moves sc a b) (h' : Moves sc b c) : Moves sc a c :=
  Relation.ReflTransGen.trans h h'

theorem Moves.of {b c : Block} (h : Move sc b c) : Moves sc b c := Relation.ReflTransGen.single h

theorem Prims.moves (h : Prims sc.still b x) : Moves sc b x := by
  induction h with
  | refl => exact Moves.refl _ _
  | tail _ hstep ih => exact ih.trans (.of (.prim hstep))

/-- A property that each move keeps is kept by a run of moves. -/
theorem Moves.keep {P : Block → Prop} (step : ∀ a b, Move sc a b → P a → P b) (h : Moves sc b x) (hb : P b) : P x := by
  induction h with
  | refl => exact hb
  | tail _ hstep ih => exact step _ _ hstep ih

/-- A property that each change keeps, whatever the scope lets a path or a load do, is kept by a run of moves. -/
theorem Moves.keepPrim {P : Block → Prop} (step : ∀ a b, Prim sc.still a b → P a → P b)
    (starting : ∀ a b, Prim sc.starting a b → P a → P b) (loading : ∀ a b, Prim sc.loading a b → P a → P b)
    (h : Moves sc b x) (hb : P b) : P x := by
  refine h.keep (fun a c hm => ?_) hb
  cases hm with
  | prim change => exact step a c change
  | start run => exact run.keep starting
  | load run => exact run.keep loading

theorem Moves.mid (h : Moves sc b x) (hm : RestartMid b) : RestartMid x :=
  h.keepPrim (fun _ _ => prim_mid) (fun _ _ => prim_mid) (fun _ _ => prim_mid) hm

/-! ## What a run without loads, or without grants, leaves -/

theorem prim_restart (hl : ¬sc.loads) (h : Prim sc b x) : x.cond.restart = b.cond.restart := by
  cases h
  case cond fixed _ _ _ _ => exact (fixed.resolve_left hl).2.1
  case lose l => rw [(linkLost_frame l b).2.1]
  all_goals rfl

theorem Prims.restart (hl : ¬sc.loads) (h : Prims sc b x) : x.cond.restart = b.cond.restart :=
  h.keep (P := fun y => y.cond.restart = b.cond.restart) (fun _ _ hs hp => (prim_restart hl hs).trans hp) rfl

/-- A restart that does not wait does not come to wait. -/
theorem Moves.awake (h : Moves sc b x) (hr : b.cond.restart = none) : x.cond.restart = none := by
  refine h.keep (P := fun y => y.cond.restart = none) (fun a c hm ha => ?_) hr
  cases hm with
  | prim change => exact (prim_restart (sc := sc.still) id change).trans ha
  | start run => exact (run.restart (sc := sc.starting) id).trans ha
  | load _ awake => exact awake ha

/-- Without a grant a role is cleared or stays. -/
theorem prim_role (hg : ¬sc.grants) (h : Prim sc b x) (p : Panto) : x.role p = b.role p ∨ x.role p = .none := by
  cases h
  case clear q _ =>
    by_cases hq : p = q
    · exact .inr (hq ▸ role_clearRole_self q b)
    · exact .inl (role_clearRole_ne b hq)
  case grant may _ _ _ _ => exact absurd may hg
  case succeed may _ _ => exact absurd may hg
  case lose l =>
    have hroles := (linkLost_frame l b).2.2.2.1
    exact .inl (by rw [Block.role, hroles, Block.role])
  all_goals exact .inl rfl

theorem Prims.role (hg : ¬sc.grants) (h : Prims sc b x) (p : Panto) : x.role p = b.role p ∨ x.role p = .none := by
  refine h.keep (P := fun y => y.role p = b.role p ∨ y.role p = .none) (fun a c hs ha => ?_) (.inl rfl)
  rcases prim_role hg hs p with h | h
  · exact ha.imp h.trans h.trans
  · exact .inr h

/-- A scope that permits nothing. -/
def Scope.plain : Scope := ⟨False, False, False, False, False, False, False, False, False, False, False, False, False⟩

theorem Prims.notScraping (h : Prims Scope.plain b x) (hp : b.role p ≠ .scraping) : x.role p ≠ .scraping := by
  rcases h.role (sc := Scope.plain) id p with hr | hr
  · rwa [hr]
  · simp [hr]

/-! ## The start of a path -/

/-- What a change at a pantograph brings about there, and the changes at the others leave, holds of each in the end. -/
theorem eachPanto_settles {f : Panto → Block → Block} {P : Panto → Block → Prop} (own : ∀ p b, P p (f p b))
    (others : ∀ p q b, P p b → P p (f q b)) (b : Block) (p : Panto) : P p (eachPanto f b) := by
  unfold eachPanto
  cases p
  case p1 => exact others _ _ _ (others _ _ _ (others _ _ _ (own _ _)))
  case p2 => exact others _ _ _ (others _ _ _ (own _ _))
  case p3 => exact others _ _ _ (own _ _)
  case p4 => exact own _ _

theorem lowerScrapers_released (b : Block) (p : Panto) : (lowerScrapers b).role p ≠ .scraping := by
  refine eachPanto_settles (P := fun p b => b.role p ≠ .scraping) (fun p b => ?_) (fun p q b h => ?_) b p
  · split
    · exact (prims_takeLower false p _).notScraping (by simp [role_clearRole_self])
    · assumption
  · split
    · exact (prims_releaseLower false q b).notScraping h
    · exact h

/-- The records of a path that starts. -/
def pathRecords (k : Path) (entry : Option Nat) (late : Bool) (expected : Option LineSystem)
    (expectedHead : Option Head) (phase : Phase) (b : Block) : Block :=
  { b with
    record := { b.record with
      serial := wrapSucc b.record.serial
      tractionOff := if phase = .armed ∨ phase = .tractionOff then b.record.tractionOff else true }
    plan := { b.plan with
      readyA := if Path.carries k then carryReady b (wrapSucc b.record.serial) b.plan.readyA else none
      readyB := if Path.carries k then carryReady b (wrapSucc b.record.serial) b.plan.readyB else none }
    seq := { phase := phase, path := some k, activeEntry := entry, lateMark := late, expected := expected
             expectedHead := expectedHead, candidate := none, retry := false, mismatch := false, work := .none
             timer := none, haltReason := none } }

theorem prims_pathRecords {k : Path} {entry : Option Nat} {late : Bool} {expected : Option LineSystem}
    {expectedHead : Option Head} {phase : Phase} (hs : sc.starts)
    (ha : Awake b ∨ phase = .probe) (hh : b.seq.phase = .halted → sc.unhalts) :
    Prims sc b (pathRecords k entry late expected expectedHead phase b) := by
  have hrecord : Prims sc b { b with record := { b.record with
      serial := wrapSucc b.record.serial
      tractionOff := if phase = .armed ∨ phase = .tractionOff then b.record.tractionOff else true } } :=
    .of (.record _ (.inl rfl))
  have hready := hrecord.add (.ready
    (if Path.carries k then carryReady b (wrapSucc b.record.serial) b.plan.readyA else none)
    (if Path.carries k then carryReady b (wrapSucc b.record.serial) b.plan.readyB else none))
  refine hready.add (.seq (pathRecords k entry late expected expectedHead phase b).seq (fun h => .inr (hh h))
    (fun _ => .inr hs) (.inl hs) fun hm => ?_)
  rcases ha with ha | hp
  · exact fun hr => absurd hr (by simp [ha hm])
  · exact fun hr => ⟨(hm hr).1, (hm hr).2.1, by simp [pathRecords, hp], by simp [pathRecords]⟩

/-- What the start of a path does beyond its records. -/
def clearForPath (b : Block) : Block := report 5 (lowerScrapers (discardAllHeld (abortSearches b)))

theorem prims_clearForPath (b : Block) : Prims sc b (clearForPath b) :=
  (((prims_abortSearches b).trans (prims_discardAllHeld _)).trans (prims_lowerScrapers _)).trans (prims_report _ _)

theorem report_role (n : Nat) (b : Block) (p : Panto) : (report n b).role p = b.role p := rfl

theorem clearForPath_released (b : Block) (p : Panto) : (clearForPath b).role p ≠ .scraping := by
  rw [clearForPath, report_role]
  exact lowerScrapers_released _ p

theorem startPath_eq (k : Path) (entry : Option Nat) (late : Bool) (expected : Option LineSystem)
    (expectedHead : Option Head) (phase : Phase) (b : Block) :
    startPath k entry late expected expectedHead phase b =
      clearForPath (pathRecords k entry late expected expectedHead phase b) := rfl

/-- What the start of a path asks of the phase it starts in: no restart waits, or it starts at PROBE. -/
theorem prims_startPath {k : Path} {entry : Option Nat} {late : Bool} {expected : Option LineSystem}
    {expectedHead : Option Head} {phase : Phase} (hs : sc.starts)
    (ha : Awake b ∨ phase = .probe) (hh : b.seq.phase = .halted → sc.unhalts) :
    Prims sc b (startPath k entry late expected expectedHead phase b) := by
  rw [startPath_eq]
  exact (prims_pathRecords hs ha hh).trans (prims_clearForPath _)

theorem startPath_released (k : Path) (entry : Option Nat) (late : Bool) (expected : Option LineSystem)
    (expectedHead : Option Head) (phase : Phase) (b : Block) (p : Panto) :
    (startPath k entry late expected expectedHead phase b).role p ≠ .scraping := by
  rw [startPath_eq]
  exact clearForPath_released _ p

/-! ## What leaves the Sequencer's record alone -/

/-- The phases in which the loss of the candidate's contact halts the path (R137). -/
def Seq.NeedsContact (q : Seq) : Prop := q.phase = .confirm ∨ q.phase = .masterReady ∨ q.phase = .close

theorem leaveContact_seq {l : Lift} (h : ¬b.seq.NeedsContact) : (leaveContact p l b).seq = b.seq := by
  unfold leaveContact
  dsimp only
  rw [if_neg fun hc => h hc.2.2]
  rfl

theorem beginLowering_seq (h : ¬b.seq.NeedsContact) : (beginLowering p b).seq = b.seq := leaveContact_seq h

theorem openBreaker_seq (x : Source) (b : Block) : (openBreaker x b).seq = b.seq := by
  unfold openBreaker
  split <;> rfl

theorem offerWrite_seq (j : MemJob) (b : Block) : (offerWrite j b).seq = b.seq := by
  unfold offerWrite
  split
  · cases j <;> rfl
  · split <;> rfl

theorem abortEntry_seq (p : Panto) (b : Block) : (abortEntry p b).seq = b.seq := offerWrite_seq _ _

theorem discardHeld_seq (p : Panto) (b : Block) : (discardHeld p b).seq = b.seq := by
  unfold discardHeld
  dsimp only
  rw [clearRole_seq, setLift_seq]
  split
  · exact abortEntry_seq p b
  · rfl

theorem skipValves_seq (p : Panto) (b : Block) : (skipValves p b).seq = b.seq := (skipValves_frame p b).2.2.1

theorem abortSearch_seq (h : ¬b.seq.NeedsContact) : (abortSearch p b).seq = b.seq := by
  unfold abortSearch
  have hs := abortEntry_seq p b
  rw [beginLowering_seq (by rwa [hs]), hs]

theorem pendLower_seq (p : Panto) (b : Block) : (pendLower p b).seq = b.seq := by
  unfold pendLower
  split
  · rfl
  · exact openBreaker_seq _ _

theorem takeLower_seq {i : Bool} (h : ¬b.seq.NeedsContact) : (takeLower i p b).seq = b.seq := by
  unfold takeLower
  split
  · split
    · exact pendLower_seq p b
    · rfl
  · unfold actOnLower
    split
    · split
      · rw [discardHeld_seq, skipValves_seq]
      · exact skipValves_seq p b
    · exact beginLowering_seq h
    · split
      · exact pendLower_seq p b
      · exact beginLowering_seq h
    · split
      · exact discardHeld_seq p b
      · rfl
    · exact abortSearch_seq h
    · rfl
    · rfl

/-- A change at each pantograph that leaves a record alone leaves it alone. -/
theorem eachPanto_seq {f : Panto → Block → Block} {q : Seq} (h : ∀ p b, b.seq = q → (f p b).seq = q) (b : Block)
    (hb : b.seq = q) : (eachPanto f b).seq = q :=
  h _ _ (h _ _ (h _ _ (h _ _ hb)))

theorem abortSearches_seq (h : ¬b.seq.NeedsContact) : (abortSearches b).seq = b.seq := by
  unfold abortSearches onceAdopted
  split
  · rfl
  · refine eachPanto_seq (fun p x hx => ?_) b rfl
    split
    · rw [abortSearch_seq (by rwa [hx]), hx]
    · split
      · rw [discardHeld_seq, hx]
      · exact hx

theorem discardAllHeld_seq (b : Block) : (discardAllHeld b).seq = b.seq := by
  refine eachPanto_seq (fun p x hx => ?_) b rfl
  split
  · rw [discardHeld_seq, hx]
  · exact hx

theorem lowerScrapers_seq (h : ¬b.seq.NeedsContact) : (lowerScrapers b).seq = b.seq := by
  refine eachPanto_seq (fun p x hx => ?_) b rfl
  split
  · rw [takeLower_seq (by rwa [clearRole_seq, hx]), clearRole_seq, hx]
  · exact hx

theorem lowerUp_seq {i : Bool} (h : ¬b.seq.NeedsContact) : (lowerUp i b).seq = b.seq := by
  refine eachPanto_seq (fun p x hx => ?_) b rfl
  split
  · rw [takeLower_seq (by rwa [hx]), hx]
  · exact hx

theorem clearForPath_seq (h : ¬b.seq.NeedsContact) : (clearForPath b).seq = b.seq := by
  have hsearch := abortSearches_seq h
  have hheld : (discardAllHeld (abortSearches b)).seq = b.seq := by rw [discardAllHeld_seq, hsearch]
  unfold clearForPath report
  rw [markAll_seq, lowerScrapers_seq (by rwa [hheld]), hheld]

/-- A path stands at its start as its records say. -/
theorem startPath_seq {k : Path} {entry : Option Nat} {late : Bool} {expected : Option LineSystem}
    {expectedHead : Option Head} {phase : Phase} (h : phase ∈ [.armed, .tractionOff, .breakerOpen, .probe]) :
    (startPath k entry late expected expectedHead phase b).seq =
      (pathRecords k entry late expected expectedHead phase b).seq := by
  rw [startPath_eq]
  refine clearForPath_seq fun hc => ?_
  have hphase : (pathRecords k entry late expected expectedHead phase b).seq.phase = phase := rfl
  rw [Seq.NeedsContact, hphase] at hc
  rcases hc with hc | hc | hc <;> simp [hc] at h

end Sys2Proof.Machine
end

section
/-!
The starts of paths, the drops that bring one, the windows handed to the Sequencer, and the scan of a pantograph, as moves.
-/

namespace Sys2Proof.Machine

variable {sc : Scope} {b x y z : Block} {p : Panto} {phase : Phase}

/-! ## Paths that start where no restart waits -/

theorem awake_of_mode (h : b.cond.mode ≠ .waking) : Awake b := by
  intro hm
  by_contra hr
  exact h (hm (Option.isSome_iff_ne_none.mpr hr)).1

theorem Awake.restartLaw (ha : Awake b) (hl : RestartLaw b) (hr : x.cond.restart = b.cond.restart) : RestartLaw x :=
  fun h => absurd h (by simp [hr, ha hl.mid])

/-- `z` is `x` at the start of a path in a phase. -/
def Begun (phase : Phase) (x z : Block) : Prop :=
  ∃ k entry late expected expectedHead, z = startPath k entry late expected expectedHead phase x

/-- The phases in which a path starts. -/
def BeginsPath (phase : Phase) : Prop := phase ∈ [.armed, .tractionOff, .breakerOpen, .probe]

theorem Begun.phase_eq (h : Begun phase x z) (hp : BeginsPath phase) : z.seq.phase = phase := by
  obtain ⟨k, entry, late, expected, expectedHead, rfl⟩ := h
  rw [startPath_seq hp]
  rfl

theorem Begun.candidate (h : Begun phase x z) (hp : BeginsPath phase) : z.seq.candidate = none := by
  obtain ⟨k, entry, late, expected, expectedHead, rfl⟩ := h
  rw [startPath_seq hp]
  rfl

theorem Begun.awake (h : Begun phase x z) (hp : phase ∈ [.armed, .tractionOff, .breakerOpen]) : Awake z := by
  refine awake_of_phase ?_
  have hb : BeginsPath phase := by
    simp only [BeginsPath, List.mem_cons] at hp ⊢
    tauto
  rw [h.phase_eq hb]
  simp only [List.mem_cons] at hp ⊢
  tauto

theorem Begun.released (h : Begun phase x z) (p : Panto) : z.role p ≠ .scraping := by
  obtain ⟨k, entry, late, expected, expectedHead, rfl⟩ := h
  exact startPath_released _ _ _ _ _ _ _ p

theorem Begun.prims (h : Begun phase x z) (hs : sc.starts) (ha : Awake x ∨ phase = .probe)
    (hh : x.seq.phase = .halted → sc.unhalts) : Prims sc x z := by
  obtain ⟨k, entry, late, expected, expectedHead, rfl⟩ := h
  exact prims_startPath hs ha hh

/-- A path starts, and the changes that follow its start are such as any stretch of an event may make. -/
theorem moves_begun (ha : Awake b) (before : Prims sc.starting b x) (hz : Begun phase x z)
    (hp : x.seq.phase = .halted → sc.unhalts) (hx : Awake x) (after : ∀ sc : Scope, Prims sc z y) : Moves sc b y := by
  have run := (before.trans (hz.prims (sc := sc.starting) trivial (.inl hx) hp)).trans (after _)
  exact .of (.start run (fun p => (after Scope.plain).notScraping (hz.released p))
    (.inr fun hl => ha.restartLaw hl (run.restart (sc := sc.starting) id)))

/-- BREAKER_OPEN follows the start of a path there. -/
theorem Begun.enterBreakerOpen (h : Begun .breakerOpen x z) : Prims sc z (enterBreakerOpen z) := by
  have hphase := h.phase_eq (by simp [BeginsPath])
  exact prims_enterBreakerOpen (h.awake (by simp)) (by simp [hphase]) (by simp [hphase])

theorem moves_offerEntry (e : Entry) (late : Bool) (ha : Awake b) (hp : b.seq.phase = .idle) :
    Moves sc b (offerEntry e late b) := by
  have hnot : b.seq.phase = .halted → sc.unhalts := fun h => by simp [hp] at h
  have take (z y : Block) (phase : Phase) (hz : Begun phase b z) (after : ∀ sc : Scope, Prims sc z y) : Moves sc b y :=
    moves_begun ha (Prims.refl _ _) hz hnot ha after
  unfold offerEntry
  dsimp only
  split
  · generalize hz : startPath .sectionChange (some e.id) late e.newSystem none (if late = true then .breakerOpen else
      .armed) b = z
    have hbegun : Begun (if late = true then .breakerOpen else .armed) b z := ⟨_, _, _, _, _, hz.symm⟩
    cases late
    case true => exact take z _ _ hbegun fun _ => Begun.enterBreakerOpen hbegun
    case false =>
      refine take z _ _ hbegun fun _ => ?_
      simp only [Bool.false_eq_true, if_false]
      split
      · exact (prims_setCandidate _ _).trans (prims_setPreheat _ _)
      · exact prims_setCandidate _ _
  · exact Moves.refl _ _
  · generalize hk : (if e.kind = .neutral then neutralPath b else Path.zone) = k
    generalize hz : startPath k (some e.id) late b.record.determined none (if late = true then .breakerOpen else
      .armed) b = z
    have hbegun : Begun (if late = true then .breakerOpen else .armed) b z := ⟨_, _, _, _, _, hz.symm⟩
    cases late
    case true =>
      refine take z _ _ hbegun fun _ => ?_
      simp only [if_true]
      split
      · exact Begun.enterBreakerOpen hbegun
      · exact prims_finishPath (by rw [hbegun.phase_eq (by simp [BeginsPath])]; decide)
    case false =>
      refine take z _ _ hbegun fun _ => ?_
      simp only [Bool.false_eq_true, if_false]
      split
      · exact prims_setCandidate _ _
      · exact Prims.refl _ _

theorem moves_startSelected (k : Path) (expected : Option LineSystem) (expectedHead : Option Head)
    (ha : Awake b) (hp : b.seq.phase = .halted → sc.unhalts) : Moves sc b (startSelected k expected expectedHead b) := by
  unfold startSelected
  split
  · generalize hz : startPath k none false expected expectedHead .tractionOff b = z
    have hbegun : Begun .tractionOff b z := ⟨_, _, _, _, _, hz.symm⟩
    refine moves_begun ha (Prims.refl _ _) hbegun hp ha fun _ => ?_
    have hphase := hbegun.phase_eq (by simp [BeginsPath])
    exact prims_enterTractionOff (hbegun.awake (by simp)) (by simp [hphase]) (by simp [hphase])
  · generalize hz : startPath k none false expected expectedHead .breakerOpen b = z
    have hbegun : Begun .breakerOpen b z := ⟨_, _, _, _, _, hz.symm⟩
    exact moves_begun ha (Prims.refl _ _) hbegun hp ha fun _ => hbegun.enterBreakerOpen

/-! ## Drops -/

theorem lc_enterDropped_ne {c : Panto} (h : c ≠ p) (b : Block) : (enterDropped p b).lc c = b.lc c := by
  unfold enterDropped
  dsimp only
  rw [recordFault_lc, lc_setLift_ne _ _ h]
  split
  · exact lc_abortEntry p c b
  · rfl

theorem offerWrite_plan (j : MemJob) (b : Block) : (offerWrite j b).plan = b.plan := by
  unfold offerWrite
  split
  · cases j <;> rfl
  · split <;> rfl

theorem enterDropped_plan (p : Panto) (b : Block) : (enterDropped p b).plan = b.plan := by
  unfold enterDropped
  split
  · exact offerWrite_plan _ _
  · rfl

theorem openBreaker_plan (x : Source) (b : Block) : (openBreaker x b).plan = b.plan := by
  unfold openBreaker
  split <;> rfl

theorem openBreaker_cond (x : Source) (b : Block) : (openBreaker x b).cond = b.cond := by
  unfold openBreaker
  split <;> rfl

theorem enterDropped_restart (p : Panto) (b : Block) : (enterDropped p b).cond.restart = b.cond.restart :=
  restart_of_kept (kept_enterDropped p b)

/-- The scraper takes over from a collector that drops. -/
theorem moves_startSubstitute (hg : sc.grants) {c : Panto} (hr : b.cond.restart = none)
    (hup : (b.lc p).state.raised = true) (hp : b.seq.phase = .idle) (hcol : b.role p = .collecting) (hne : c ≠ p)
    (hcon : (b.lc c).state = .contact) : Moves sc b (startSubstitute c (dropLift p b)) := by
  have hdrop : dropLift p b = clearRole p (openBreaker .internal (enterDropped p b)) := by
    unfold dropLift
    dsimp only
    rw [if_pos hcol]
  generalize hd : openBreaker .internal (enterDropped p b) = d at hdrop
  have hrole : d.role p = .collecting := by
    rw [← hd, Block.role, openBreaker_plan, enterDropped_plan]
    exact hcol
  have hstate : (d.lc p).state = .dropped := by rw [← hd, openBreaker_lc, state_enterDropped]
  have hother : (d.lc c).state = .contact := by rw [← hd, openBreaker_lc, lc_enterDropped_ne hne, hcon]
  have hrest : d.cond.restart = none := by rw [← hd, openBreaker_cond, enterDropped_restart, hr]
  have hseq : d.seq.phase = .idle := by
    rw [← hd, openBreaker_seq]
    unfold enterDropped
    dsimp only
    rw [recordFault_seq, setLift_seq]
    split
    · rw [abortEntry_seq, hp]
    · exact hp
  have free (q : Panto) (ha : AirLaw d) (h : (d.lc q).state ≠ .stowed ∧ (d.lc q).state ≠ .lowering) :
      (d.lc q).held = .none := by
    by_contra hh
    exact (ha.held q hh).2.1.elim h.1 h.2
  have before : Prims sc.starting b (setRole c .collecting .internal (clearRole p d)) := by
    have hlift := (prims_enterDropped (sc := sc.starting) hup).trans (prims_openBreaker .internal _)
    rw [hd] at hlift
    refine hlift.add (.succeed p c hg hrole fun ha => ⟨free p ha ?_, free c ha ?_⟩)
    · simp [hstate]
    · simp [hother]
  unfold startSubstitute
  rw [hdrop]
  generalize hx : setRole c .collecting .internal (clearRole p d) = x at before
  have hxr : x.cond.restart = none := by rw [← hx]; exact hrest
  have hxs : x.seq.phase = .idle := by rw [← hx]; exact hseq
  generalize hz : startPath .substitute none false (clearRole p d).record.determined none .breakerOpen x = z
  have hbegun : Begun .breakerOpen x z := ⟨_, _, _, _, _, hz.symm⟩
  refine moves_begun (awake_of_restart hr) before hbegun (by simp [hxs]) (awake_of_restart hxr) fun _ => ?_
  have hphase := hbegun.phase_eq (by simp [BeginsPath])
  refine (prims_setCandidate _ _).trans (prims_enterBreakerOpen ?_ ?_ ?_)
  · exact awake_of_phase (by simp [setCandidate_phase, hphase])
  · simp [setCandidate_phase, hphase]
  · simp [setCandidate_phase, hphase]

theorem moves_dropPanto (hg : sc.grants) (hr : b.cond.restart = none)
    (hup : (b.lc p).state.raised = true) : Moves sc b (dropPanto p b) := by
  have hdrop : Moves sc b (dropLift p b) := (prims_dropLift hup).moves
  unfold dropPanto
  dsimp only
  split
  next hp =>
    split
    next hcol =>
      simp only [Bool.and_eq_true, beq_iff_eq] at hcol
      split
      next c hc =>
        have hfound := List.find?_some hc
        simp only [Bool.and_eq_true, beq_iff_eq, bne_iff_ne, ne_eq] at hfound
        exact moves_startSubstitute hg hr hup hp hcol.1.1 hfound.1.1 hfound.2
      next => exact hdrop
    next => exact hdrop
  next =>
    split
    · exact hdrop.trans (prims_halt _ _).moves
    · exact hdrop

theorem moves_dropIfRaised (hg : sc.grants) (hr : b.cond.restart = none) (p : Panto) :
    Moves sc b (dropIfRaised p b) := by
  unfold dropIfRaised
  split
  next h => exact moves_dropPanto hg hr h
  next => exact Moves.refl _ _

end Sys2Proof.Machine
end

section
/-!
The windows handed to the Sequencer, and the scan of a pantograph, as moves.
-/

namespace Sys2Proof.Machine

variable {sc : Scope} {b x y z : Block} {p : Panto}

/-! ## Windows -/

/-- The Sequencer's record is replaced in the scope of a start, at PROBE with a work that may wait. -/
theorem prims_probeWork {w : Work} (hs : sc.starts) (hp : b.seq.phase = .probe) (hw : w ∉ [.switches, .isolator, .ready]) :
    Prims sc b (setWork w b) := by
  refine .of (.seq { b.seq with work := w } (fun h => .inl h) (fun h => .inl h) (.inl hs) fun hm hr => ?_)
  exact ⟨(hm hr).1, (hm hr).2.1, by simp [hp], fun _ => hw⟩

theorem setWork_role (w : Work) (b : Block) (p : Panto) : (setWork w b).role p = b.role p := rfl

theorem setCandidate_role (c : Option Panto) (b : Block) (p : Panto) : (setCandidate c b).role p = b.role p := by
  unfold setCandidate
  dsimp only
  split <;> rfl

/-- The wrong-system detection starts its path, whatever waits. -/
theorem moves_startWrongSystem (hst : sc.stands) (s : LineSystem) (hp : b.seq.phase ≠ .halted) :
    Moves sc b (startWrongSystem s b) := by
  unfold startWrongSystem
  dsimp only
  generalize hx : setPreheat none (setTractionOff true (openBreaker .internal
    (recordFault .wrongSystem (collectorSubject b) b))) = x
  have before (sc : Scope) : Prims sc b x := by
    rw [← hx]
    exact (((prims_recordFault .wrongSystem (collectorSubject b) b).trans (prims_openBreaker .internal _)).trans
      (prims_setTractionOff true _)).trans (prims_setPreheat none _)
  have hseq : x.seq = b.seq := by
    rw [← hx]
    exact openBreaker_seq _ _
  generalize hz : startPath .identify none false (some s) none .probe x = z
  have hbegun : Begun .probe x z := ⟨_, _, _, _, _, hz.symm⟩
  have hphase := hbegun.phase_eq (by simp [BeginsPath])
  have hstart : Prims sc.starting b z :=
    (before _).trans (hbegun.prims (sc := sc.starting) trivial (.inr rfl) fun h => absurd h (by rwa [hseq]))
  have wait : Moves sc b (setWork .awaitOpen z) :=
    .of (.start (hstart.trans (prims_probeWork (sc := sc.starting) trivial hphase (by simp))) hbegun.released
      (.inl hst))
  split
  · split
    next c _ _ =>
      have hwork := prims_probeWork (sc := sc.starting) (b := setCandidate (some c) z) (w := .raising) trivial
        (by rw [setCandidate_phase, hphase]) (by simp)
      refine .of (.start ((hstart.trans (prims_setCandidate _ _)).trans hwork) (fun p => ?_) (.inl hst))
      rw [setWork_role, setCandidate_role]
      exact hbegun.released p
    next => exact wait
  · exact wait

theorem prims_lostLine (b : Block) : Prims sc b (lostLine b) := by
  unfold lostLine
  split
  · exact (prims_recordFault _ _ _).trans (prims_setTractionOff _ _)
  · split
    · exact prims_setTractionOff _ _
    · exact Prims.refl _ _

theorem prims_probeOther (s : LineSystem) (hp : b.seq.phase = .confirm) : Prims sc b (probeOther s b) := by
  unfold probeOther
  split
  · exact prims_halt _ _
  · refine Prims.trans (.of (prim_seq_same (q := { b.seq with retry := true, expected := some s }) rfl rfl))
      (prims_enterLowering ?_ ?_)
    · simp [hp]
    · simp [hp]

theorem prims_confirmStep (hp : b.seq.phase = .confirm) : Prims sc b (confirmStep b) := by
  have hh : b.seq.phase ≠ .halted := by simp [hp]
  have hi : b.seq.phase ≠ .idle := by simp [hp]
  unfold confirmStep
  split
  · extract_lets served
    split
    · exact prims_enterMasterReady _ hh hi
    · split
      · split
        · exact prims_enterMasterReady _ hh hi
        · refine Prims.trans (.of (prim_seq_same (q := { b.seq with mismatch := true }) rfl rfl))
            (prims_enterMasterReady _ ?_ ?_)
          · exact hh
          · exact hi
      · exact prims_probeOther _ hp
  · exact Prims.refl _ _

theorem moves_takeWindow (hst : sc.stands) (r : WindowResult) (b : Block) :
    Moves sc b (takeWindow r b) := by
  have hrecord : Prims sc.still b { b with record := { b.record with measured := r.cls } } := .of (.record _ (.inl rfl))
  unfold takeWindow
  dsimp only
  refine hrecord.moves.trans ?_
  generalize hx : { b with record := { b.record with measured := r.cls } } = x
  have hseq : b.seq = x.seq := by rw [← hx]
  rw [hseq]
  split
  case h_1 hp =>
    split
    · exact moves_startWrongSystem hst _ (by simp [hp])
    · exact (prims_lostLine _).moves
  case h_2 hp =>
    split
    · exact moves_startWrongSystem hst _ (by simp [hp])
    · exact Moves.refl _ _
  case h_3 hp =>
    split
    · exact moves_startWrongSystem hst _ (by simp [hp])
    · split
      · exact (prims_enterBreakerOpen (awake_of_phase (by simp [hp])) (by simp [hp]) (by simp [hp])).moves
      · exact Moves.refl _ _
  case h_4 hp => exact (prims_confirmStep hp).moves
  case h_5 => exact Moves.refl _ _

theorem RunLaw.record (l : LineMon) (count low : Nat) (r : WindowResult) : RunLaw (l.record count r low) := by
  intro c hc
  simp only [LineMon.record, LineMon.confirmedAfter] at hc ⊢
  split at hc
  next => cases hc
  next hne =>
    split at hc
    next =>
      cases hc
      exact ⟨rfl, hne⟩
    next =>
      split at hc
      next =>
        cases hc
        exact ⟨rfl, hne⟩
      next => cases hc

theorem moves_closeWindow (hst : sc.stands) (b : Block) : Moves sc b (closeWindow b) := by
  unfold closeWindow
  dsimp only
  have hline : Prims sc.still b
      { b with line := b.line.record (b.nat .confirmCount) (windowResult b b.line).1 (windowResult b b.line).2 } :=
    .of (.line _ fun _ => RunLaw.record _ _ _ _)
  refine Moves.trans ?_ (moves_takeWindow hst _ _)
  split
  · exact (hline.trans (prims_recordFault _ _ _)).moves
  · exact hline.moves

theorem LineMon.takeSlot_run (slot : SampleSlot) (l : LineMon) :
    (l.takeSlot slot).confirmed = l.confirmed ∧ (l.takeSlot slot).runClass = l.runClass := by
  unfold LineMon.takeSlot
  split
  · unfold LineMon.capture
    dsimp only
    split <;> exact ⟨rfl, rfl⟩
  · exact ⟨rfl, rfl⟩

theorem prims_takeSlot (slot : SampleSlot) (b : Block) : Prims sc b (takeSlot slot b) := by
  refine .of (.line _ fun h c hc => ?_)
  obtain ⟨hconf, hrun⟩ := b.line.takeSlot_run slot
  rw [hconf] at hc
  rw [hrun]
  exact h c hc

/-! ## The scan of one pantograph -/

theorem prims_servoDeviation (p : Panto) (b : Block) : Prims sc b (servoDeviationOf p b) := by
  unfold servoDeviationOf
  split
  · refine Prims.trans ?_ (prims_recordFault _ _ _)
    exact prims_setLift_same rfl rfl rfl le_rfl rfl rfl
  · exact Prims.refl _ _

theorem prims_deviationCheck (p : Panto) (b : Block) : Prims sc b (deviationCheck p b) := by
  unfold deviationCheck
  dsimp only
  split
  · exact prims_setLift_same rfl rfl rfl le_rfl rfl rfl
  · exact prims_setLift_same rfl rfl rfl le_rfl rfl rfl
  · split
    · exact Prims.refl _ _
    · split
      · exact prims_setLift_same rfl rfl rfl le_rfl rfl rfl
      · split
        · exact prims_servoDeviation p b
        · exact Prims.refl _ _

theorem prims_noWireInContact (p : Panto) (b : Block) : Prims sc b (noWireInContact p b) := by
  unfold noWireInContact
  dsimp only
  have hlower := (prims_recordFault (sc := sc) .noWire (.panto p) b).trans (prims_takeLower false p _)
  split
  · exact hlower.trans (prims_setLift_same rfl rfl rfl le_rfl rfl rfl)
  · exact hlower

theorem prims_contactChecks (p : Panto) (b : Block) : Prims sc b (contactChecks p b) := by
  unfold contactChecks
  dsimp only
  have hwire : Prims sc b (if (aboveHMax b p && !(b.lc p).noWireLower) = true then noWireInContact p b else b) := by
    split
    · exact prims_noWireInContact p b
    · exact Prims.refl _ _
  generalize (if (aboveHMax b p && !(b.lc p).noWireLower) = true then noWireInContact p b else b) = y at hwire ⊢
  split
  · exact hwire.trans (prims_deviationCheck p _)
  · exact hwire

theorem prims_raiseTimeout (p : Panto) (b : Block) : Prims sc b (raiseTimeoutOf p b) := by
  unfold raiseTimeoutOf
  split
  · exact (prims_recordFault _ _ _).trans (prims_beginLowering p _)
  · exact Prims.refl _ _

theorem prims_raisingChecks (hs : (b.lc p).state = .raising) : Prims sc b (raisingChecks p b) := by
  have hup : (b.lc p).state.raised = true := by rw [hs]; rfl
  unfold raisingChecks
  split
  · exact prims_beginLowering p b
  · split
    · exact (prims_recordFault _ _ _).trans (prims_beginLowering p _)
    · split
      · exact prims_raiseTimeout p b
      · split
        · exact prims_enterContact p b (.inr hup) (.inl hup)
        · exact Prims.refl _ _

theorem prims_searchChecks (hs : (b.lc p).state = .searching) : Prims sc b (searchChecks p b) := by
  unfold searchChecks
  split
  · exact prims_abortSearch p b
  · split
    · exact (prims_recordFault _ _ _).trans (prims_failSearch _ _ _)
    · split
      · split
        · split
          · exact prims_judgeRise hs
          · exact prims_judgeRelease hs
          · exact Prims.refl _ _
        · exact Prims.refl _ _
      · exact Prims.refl _ _

theorem prims_noteHeight (p : Panto) (b : Block) : Prims sc b (noteHeight p b) := by
  unfold noteHeight
  split
  · exact prims_setLift_same rfl rfl rfl le_rfl rfl rfl
  · exact Prims.refl _ _

theorem noteHeight_state (p x : Panto) (b : Block) : ((noteHeight p b).lc x).state = (b.lc x).state := by
  unfold noteHeight
  split
  · by_cases h : x = p
    · rw [h, lc_setLift_self]
      rfl
    · rw [lc_setLift_ne _ _ h]
  · rfl

theorem noteHeight_cond (p : Panto) (b : Block) : (noteHeight p b).cond = b.cond := by
  unfold noteHeight
  split <;> rfl

/-- The drop check of a scan, where the drop and the other checks are moves of a pantograph in its state. -/
theorem moves_checked {drop rest : Panto → Block → Block} {st : LiftState} (hs : (b.lc p).state = st)
    (hr : b.cond.restart = none)
    (hdrop : ∀ b, (b.lc p).state = st → b.cond.restart = none → Moves sc b (drop p b))
    (hrest : ∀ b, (b.lc p).state = st → Prims sc.still b (rest p b)) : Moves sc b (checked drop rest p b) := by
  unfold checked
  dsimp only
  have hcount : Prims sc.still b (b.setLift p { b.lc p with lowStrip := countStrip b p }) :=
    prims_setLift_same rfl rfl rfl le_rfl rfl rfl
  have hst : ((b.setLift p { b.lc p with lowStrip := countStrip b p }).lc p).state = st := by
    rw [lc_setLift_self]
    exact hs
  split
  · exact hcount.moves.trans (hdrop _ hst hr)
  · exact hcount.moves.trans (hrest _ hst).moves

theorem stepToward_le {up down start target most : Nat} (hstart : start ≤ most) (htarget : target ≤ most) :
    stepToward up down start target ≤ most := by
  unfold stepToward
  split <;> omega

theorem rampStep_le {l : Lift} (hc : l.commanded ≤ b.nat .pmax) (ht : ∀ t, l.targetPressure = some t → t ≤ b.nat .pmax) :
    rampStep b l ≤ b.nat .pmax := by
  unfold rampStep
  split
  next t h => exact stepToward_le hc (ht t h)
  next => exact hc

theorem contactStep_le {l : Lift} (hc : l.commanded ≤ b.nat .pmax) (ht : ∀ t, l.targetPressure = some t → t ≤ b.nat .pmax) :
    contactStep b l ≤ b.nat .pmax := by
  unfold contactStep
  split
  · exact hc
  · split
    next t h => exact stepToward_le hc (ht t h)
    next => exact hc

theorem targetPressureOf_le (b : Block) (p : Panto) : targetPressureOf b p ≤ b.nat .pmax := Nat.min_le_right _ _

/-- The law is evaluated and the pressure moved toward the target that it gave. -/
theorem prims_followTarget {f : Block → Lift → Nat}
    (hf : ∀ {b : Block} {l : Lift}, l.commanded ≤ b.nat .pmax →
      (∀ t, l.targetPressure = some t → t ≤ b.nat .pmax) → f b l ≤ b.nat .pmax) :
    Prims sc b ((evaluate p b).setLift p
      { (evaluate p b).lc p with commanded := f (evaluate p b) ((evaluate p b).lc p) }) := by
  refine (prims_evaluate p b).trans (.of (.lift p _ (.of_same rfl rfl rfl (fun _ h => hf h fun t ht => ?_) (.inl rfl) id)))
  have htarget : ((evaluate p b).lc p).targetPressure = some (targetPressureOf b p) := by
    unfold evaluate
    rw [lc_setLift_self]
  rw [htarget] at ht
  cases ht
  exact targetPressureOf_le b p

theorem state_followTarget (f : Block → Lift → Nat) : ((((evaluate p b).setLift p
    { (evaluate p b).lc p with commanded := f (evaluate p b) ((evaluate p b).lc p) })).lc p).state = (b.lc p).state := by
  rw [lc_setLift_self]
  unfold evaluate
  rw [lc_setLift_self]

theorem prims_discardUnavailable (p : Panto) (b : Block) : Prims sc b (discardUnavailable p b) := by
  unfold discardUnavailable
  split
  · exact prims_discardHeld p b
  · exact Prims.refl _ _

theorem lc_discardHeld_self (p : Panto) (b : Block) : (discardHeld p b).lc p = (b.lc p).discarded := by
  rw [discardHeld_eq, clearRole_lc, lc_setLift_self]

theorem discardUnavailable_state (p : Panto) (b : Block) :
    ((discardUnavailable p b).lc p).state = (b.lc p).state := by
  unfold discardUnavailable
  split
  · rw [lc_discardHeld_self]
    rfl
  · rfl

theorem prims_stowedScan (hs : (b.lc p).state = .stowed) : Prims sc b (stowedScan p b) := by
  have hdiscard := prims_discardUnavailable (sc := sc) p b
  unfold stowedScan
  dsimp only
  split
  next h =>
    refine hdiscard.trans (prims_heldDue ?_ ?_)
    · rw [discardUnavailable_state, hs]
    · rw [h.1]
      decide
  next => exact hdiscard

theorem prims_loweringScan (hs : (b.lc p).state = .lowering) : Prims sc b (loweringScan p b) := by
  have hfall : Prims sc b (b.setLift p { b.lc p with commanded := (b.lc p).commanded - b.nat .lowerSlew }) :=
    prims_setLift_same rfl rfl rfl (Nat.sub_le _ _) rfl rfl
  have hdiscard := hfall.trans (prims_discardUnavailable p _)
  unfold loweringScan
  dsimp only
  split
  · split
    · refine hdiscard.trans (prims_arriveStowed p _ ?_)
      rw [discardUnavailable_state, lc_setLift_self]
      simp [hs]
    · exact hdiscard
  · exact hdiscard

theorem moves_liftScan (hg : sc.grants) (hr : b.cond.restart = none) (p : Panto) :
    Moves sc b (liftScan dropPanto p b) := by
  have drop (st : LiftState) (hup : st.raised = true) (b : Block) (h : (b.lc p).state = st)
      (hr : b.cond.restart = none) : Moves sc b (dropPanto p b) :=
    moves_dropPanto hg hr (by rw [h, hup])
  unfold liftScan
  split
  case h_1 h => exact (prims_stowedScan h).moves
  case h_2 h =>
    have hramp := prims_followTarget (sc := sc.still) (b := b) (p := p) (f := rampStep) rampStep_le
    refine (hramp.trans (prims_noteHeight p _)).moves.trans
      (moves_checked (st := .raising) ?_ ?_ (drop _ rfl) fun _ h => prims_raisingChecks h)
    · rw [noteHeight_state, state_followTarget, h]
    · rw [noteHeight_cond]
      exact hr
  case h_3 h =>
    have hstep := prims_followTarget (sc := sc.still) (b := b) (p := p) (f := contactStep) contactStep_le
    refine hstep.moves.trans (moves_checked (st := .contact) ?_ hr (drop _ rfl) fun _ _ => prims_contactChecks p _)
    rw [state_followTarget, h]
  case h_4 h => exact (prims_loweringScan h).moves
  case h_5 h =>
    refine (prims_noteHeight p b).moves.trans
      (moves_checked (st := .searching) ?_ ?_ (drop _ rfl) fun _ h => prims_searchChecks h)
    · rw [noteHeight_state, h]
    · rw [noteHeight_cond]
      exact hr
  case h_6 | h_7 => exact Moves.refl _ _

end Sys2Proof.Machine
end

section
/-!
The loads of the configuration, a write of one item, and the adoption scan, as moves.
-/

namespace Sys2Proof.Machine

variable {sc : Scope} {b x y z : Block} {p : Panto}

/-! ## Lift records that change together -/

/-- The two records agree in what the laws speak of, but for the commanded pressure. -/
structure Lift.Same (l l' : Lift) : Prop where
  state  : l'.state = l.state
  held   : l'.held = l.held
  search : l'.heldSearch = l.heldSearch
  force  : l'.targetForce = l.targetForce
  pends  : l'.lowerPending = true → l.lowerPending = true

theorem LiftMove.of_sameLift {l : Lift} (h : (b.lc p).Same l)
    (hp : ConfigLaw b → (b.lc p).commanded ≤ b.nat .pmax → l.commanded ≤ b.nat .pmax) : LiftMove sc b p l :=
  .of_same h.state h.held h.search hp (.inl h.force) h.pends

/-- All four records are replaced by such as agree with them. -/
theorem prims_liftAll {g : Panto → Lift} (h : ∀ p, (b.lc p).Same (g p))
    (hp : ConfigLaw b → ∀ p, (b.lc p).commanded ≤ b.nat .pmax → (g p).commanded ≤ b.nat .pmax) :
    Prims sc b { b with lift := .ofFun g } := by
  have heq : { b with lift := .ofFun g } =
      (((b.setLift .p1 (g .p1)).setLift .p2 (g .p2)).setLift .p3 (g .p3)).setLift .p4 (g .p4) := rfl
  have step (x : Block) (q : Panto) (hlc : x.lc q = b.lc q) (hcond : x.cond = b.cond) :
      Prim sc x (x.setLift q (g q)) := by
    refine .lift q _ (.of_sameLift (by rw [hlc]; exact h q) fun hc => ?_)
    have hnat : x.nat .pmax = b.nat .pmax := by rw [Block.nat, hcond, Block.nat]
    rw [hlc, hnat]
    refine hp ?_ q
    simpa only [ConfigLaw, hcond] using hc
  rw [heq]
  exact (((Prims.of (step _ .p1 rfl rfl)).add (step _ .p2 rfl rfl)).add (step _ .p3 rfl rfl)).add (step _ .p4 rfl rfl)

/-- A change of the configuration, where mode, restart and faults stay. -/
theorem prims_load {c : Cond} (hl : sc.loads) (config : ConfigLaw b → ConfigLaw { b with cond := c })
    (restart : c.restart = b.cond.restart) (mode : c.mode = b.cond.mode)
    (standby : c.standbyLowering = b.cond.standbyLowering) (faults : c.faults = b.cond.faults) :
    Prims sc b { b with cond := c } := by
  refine .of (.cond c (.inl hl) config (fun h k => ?_) (fun h hs => ?_) fun h hs => ?_)
  · simpa only [faults] using h k
  · simp only [restart, mode, standby] at hs ⊢
    exact h hs
  · simp only [restart, mode, standby] at hs ⊢
    exact h hs

/-! ## The clamp of the commanded pressures, and evaluations -/

theorem Lift.same_within (n : Nat) (l : Lift) : l.Same (l.within n) := ⟨rfl, rfl, rfl, rfl, id⟩

theorem clampCommanded_eq (b : Block) :
    clampCommanded b = { b with lift := .ofFun fun p => (b.lc p).within (b.nat .pmax) } := rfl

theorem prims_clampCommanded (b : Block) : Prims sc b (clampCommanded b) := by
  rw [clampCommanded_eq]
  exact prims_liftAll (fun p => Lift.same_within _ _) fun _ p _ => Nat.min_le_right _ _

theorem prims_ventAll (b : Block) : Prims sc b (ventAll b) :=
  prims_liftAll (fun _ => ⟨rfl, rfl, rfl, rfl, id⟩) fun _ _ _ => Nat.zero_le _

theorem prims_evaluateUp (b : Block) : Prims sc b (evaluateUp b) := by
  refine .eachPanto (fun p b => ?_) b
  split
  · exact prims_evaluate p b
  · exact Prims.refl _ _

/-! ## Reload -/

/-- The working record of a load, of what the memory holds. -/
def loadedCfg (m : MemImage) : CfgRec :=
  match m.config with
  | some c => cfgLoad c
  | none => cfgDefaults

theorem inRange_loadedCfg (m : MemImage) : InRange (loadedCfg m) := by
  unfold loadedCfg
  split
  · exact inRange_cfgLoad _
  · exact inRange_defaults

theorem loadedCfg_ordered (m : MemImage) : ∀ q ∈ orderedPairs, cfgGet (loadedCfg m) q.1 ≤ cfgGet (loadedCfg m) q.2 := by
  unfold loadedCfg
  split
  · exact fun q hq => cfgLoad_ordered _ hq
  · exact defaults_ordered

theorem loadConfig_some {c : CfgRec} (h : b.mem.image.config = some c) :
    loadConfig b = { b with cond := { b.cond with
      cfg := cfgLoad c, configGood := true, configSaved := true, configLoaded := true } } := by
  unfold loadConfig
  rw [h]

theorem loadConfig_none (h : b.mem.image.config = none) :
    loadConfig b = recordFault .configBad .none { b with cond := { b.cond with
      cfg := cfgDefaults, configGood := false, configSaved := false, configLoaded := false } } := by
  unfold loadConfig
  rw [h]

/-- What a load of the configuration writes. -/
theorem loadConfig_frame (b : Block) :
    loadConfig b = { b with cond := (loadConfig b).cond } ∧ (loadConfig b).cond.cfg = loadedCfg b.mem.image ∧
      (loadConfig b).cond.restart = b.cond.restart ∧ (loadConfig b).cond.mode = b.cond.mode ∧
      (loadConfig b).cond.standbyLowering = b.cond.standbyLowering ∧
      (FaultLaw b → FaultLaw (loadConfig b)) := by
  cases hc : b.mem.image.config with
  | some c =>
    rw [loadConfig_some hc]
    exact ⟨rfl, by rw [loadedCfg, hc], rfl, rfl, rfl, id⟩
  | none =>
    rw [loadConfig_none hc]
    exact ⟨rfl, by rw [loadedCfg, hc]; rfl, rfl, rfl, rfl, fun h => FaultLaw.recordFault (b := { b with cond := { b.cond with
      cfg := cfgDefaults, configGood := false, configSaved := false, configLoaded := false } }) h⟩

/-- The block of a reload before the commanded pressures are judged. -/
def reloaded (b : Block) : Block :=
  let b1 := loadEntries (loadConfig b)
  { b1 with cond := { b1.cond with
      reloadPending := false
      newMaxUp := some (b1.cfg .maxUp)
      cfg := cfgSet b1.cond.cfg .maxUp (b.cfg .maxUp)
      selfTest := withLoadResults b1 b1.cond.selfTest
      returnMode := match b1.cond.restart with
        | some r => returnAfter r (b1.on .holdOver)
        | none => .standby } }

theorem reload_eq (b : Block) :
    reload b = if (reloaded b).on .holdOver then clampCommanded (reloaded b) else ventAll (reloaded b) := rfl

/-- What a reload writes but for the commanded pressures. -/
theorem reloaded_frame (b : Block) :
    reloaded b = { b with cal := (reloaded b).cal, cond := (reloaded b).cond } ∧
      (reloaded b).cond.restart = b.cond.restart ∧ (reloaded b).cond.mode = b.cond.mode ∧
      (reloaded b).cond.standbyLowering = b.cond.standbyLowering ∧ (reloaded b).cond.reloadPending = false ∧
      (reloaded b).cond.cfg = cfgSet (loadedCfg b.mem.image) .maxUp (b.cfg .maxUp) ∧
      (reloaded b).cond.newMaxUp = some (cfgGet (loadedCfg b.mem.image) .maxUp) ∧
      (FaultLaw b → FaultLaw (reloaded b)) := by
  obtain ⟨heq, hcfg, hrestart, hmode, hstandby, hfaults⟩ := loadConfig_frame b
  generalize hy : loadConfig b = y at *
  have hreloaded : (reloaded b).cond.cfg = cfgSet y.cond.cfg .maxUp (b.cfg .maxUp) ∧
      (reloaded b).cond.newMaxUp = some (cfgGet y.cond.cfg .maxUp) := by
    rw [← hy]
    exact ⟨rfl, rfl⟩
  rw [hcfg] at hreloaded
  refine ⟨?_, ?_, ?_, ?_, rfl, hreloaded.1, hreloaded.2, fun h => ?_⟩
  · conv_lhs => unfold reloaded
    rw [hy]
    conv_rhs => unfold reloaded
    rw [hy, heq]
    rfl
  · rw [← hrestart, ← hy]
    rfl
  · rw [← hmode, ← hy]
    rfl
  · rw [← hstandby, ← hy]
    rfl
  · have hf := hfaults h
    rw [← hy] at hf
    exact hf

theorem prims_reload (hl : sc.loads) (b : Block) : Prims sc b (reload b) := by
  obtain ⟨heq, hrestart, hmode, hstandby, -, hcfg, hmax, hfaults⟩ := reloaded_frame b
  have hreloaded : Prims sc b (reloaded b) := by
    rw [heq]
    refine (Prims.of (.cal (reloaded b).cal)).add (.cond (reloaded b).cond (.inl hl) (fun h => ⟨?_, fun v hv => ?_⟩)
      (fun h k => ?_) (fun h hs => ?_) fun h hs => ?_)
    · change InRange (reloaded b).cond.cfg
      rw [hcfg]
      exact (inRange_loadedCfg _).set (h.1 .maxUp)
    · change (reloaded b).cond.newMaxUp = some v at hv
      rw [hmax] at hv
      cases hv
      exact inRange_loadedCfg _ .maxUp
    · exact hfaults h k
    · simp only [hrestart, hmode, hstandby] at hs ⊢
      exact h hs
    · simp only [hrestart, hmode, hstandby] at hs ⊢
      exact h hs
  rw [reload_eq]
  split
  · exact hreloaded.trans (prims_clampCommanded _)
  · exact hreloaded.trans (prims_ventAll _)

/-- The lift records agree in what the air law speaks of, and it asks no more than before. -/
theorem AirLaw.of_same (h : AirLaw b) (role : ∀ p, x.role p = b.role p) (state : ∀ p, (x.lc p).state = (b.lc p).state)
    (held : ∀ p, (x.lc p).held = (b.lc p).held) (search : ∀ p, (x.lc p).heldSearch = (b.lc p).heldSearch)
    (restart : x.cond.restart = b.cond.restart) (count : committedCount b ≤ x.nat .maxUp) (adoption : AdoptionLaw x) :
    AirLaw x where
  count := by
    have hcommitted : committed x = committed b := by
      funext p
      simp only [committed, role, state, held]
    rw [committedCount, hcommitted]
    exact count
  held p := by
    rw [held, state, role, restart]
    exact h.held p
  search p := by
    rw [search, held, role]
    exact h.search p
  adoption := adoption

theorem forceItems_ordered (h : ∀ q ∈ orderedPairs, cfgGet b.cond.cfg q.1 ≤ cfgGet b.cond.cfg q.2) (hd : Head) :
    (forceItems b hd).least ≤ (forceItems b hd).most := by
  cases hd
  case ac => exact Int.toNat_le_toNat (h (.forceMinAC, .forceMaxAC) (by simp [orderedPairs]))
  case dc => exact Int.toNat_le_toNat (h (.forceMinDC, .forceMaxDC) (by simp [orderedPairs]))

theorem lc_eachLift (f : Panto → Lift → Lift) (p : Panto) :
    ({ b with lift := .ofFun fun p => f p (b.lc p) } : Block).lc p = f p (b.lc p) := by cases p <;> rfl

/-- What a reload leaves of the lift records. -/
theorem reload_lift (b : Block) (p : Panto) :
    (b.lc p).Same ((reload b).lc p) ∧ ((reload b).lc p).commanded ≤ (reload b).nat .pmax := by
  have hlc : (reloaded b).lc p = b.lc p := by rw [(reloaded_frame b).1]; rfl
  rw [reload_eq]
  split
  · rw [clampCommanded_eq, ← hlc]
    refine ⟨?_, ?_⟩
    · rw [lc_eachLift fun _ l => l.within ((reloaded b).nat .pmax)]
      exact Lift.same_within _ _
    · rw [lc_eachLift fun _ l => l.within ((reloaded b).nat .pmax)]
      exact Nat.min_le_right _ _
  · rw [ventAll, ← hlc, lc_eachLift fun _ l => { l with commanded := 0, quickVent := false }]
    exact ⟨⟨rfl, rfl, rfl, rfl, id⟩, Nat.zero_le _⟩

theorem reload_frame (b : Block) :
    (reload b).plan = b.plan ∧ (reload b).cond = (reloaded b).cond ∧ (reload b).sw = b.sw ∧ (reload b).seq = b.seq := by
  rw [reload_eq]
  split
  · rw [clampCommanded_eq, (reloaded_frame b).1]
    exact ⟨rfl, rfl, rfl, rfl⟩
  · rw [ventAll, (reloaded_frame b).1]
    exact ⟨rfl, rfl, rfl, rfl⟩

theorem moves_reload (hw : b.cond.reloadPending = true) : Moves sc b (reload b) := by
  obtain ⟨-, hrestart, -, -, -, hcfg, -, -⟩ := reloaded_frame b
  obtain ⟨hplan, hcond, -⟩ := reload_frame b
  have hr : (reload b).cond.restart = b.cond.restart := by rw [hcond, hrestart]
  have hget (i : Item) (hi : i ≠ .maxUp) : cfgGet (reload b).cond.cfg i = cfgGet (loadedCfg b.mem.image) i := by
    rw [hcond, hcfg, cfgGet_cfgSet_ne _ _ hi]
  have waits (ha : AdoptionLaw b) : b.cond.restart ≠ none := fun h => by simp [(ha h).1] at hw
  have hpends (hp : PendContact b) : PendContact (reload b) := fun h p hlow =>
    (reload_lift b p).1.state.trans (hp (hr.symm.trans h) p ((reload_lift b p).1.pends hlow))
  refine .of (.load (prims_reload trivial b) (fun h => hr.trans h) (fun _ ha => ?_) (fun _ hlim => ?_) hpends
    fun h => by rw [h.2] at hw; cases hw)
  · refine ha.of_same (fun p => ?_) (fun p => (reload_lift b p).1.state) (fun p => (reload_lift b p).1.held)
      (fun p => (reload_lift b p).1.search) hr ?_ fun h => absurd (hr.symm.trans h) (waits ha.adoption)
    · rw [Block.role, hplan, Block.role]
    · rw [Block.nat, hcond, hcfg, cfgNat, cfgGet_cfgSet_self]
      exact ha.count
  · have hne := waits hlim.adoption
    refine ⟨fun p => (reload_lift b p).2, fun h => absurd (hr.symm.trans h) hne, fun hd => ?_,
      fun h => absurd (hr.symm.trans h) hne⟩
    refine forceItems_ordered (fun q hq => ?_) hd
    have hsafe : q.1 ≠ .maxUp ∧ q.2 ≠ .maxUp := by
      revert q
      decide
    rw [hget _ hsafe.1, hget _ hsafe.2]
    exact loadedCfg_ordered _ q hq

theorem moves_reloadIfIdle (b : Block) : Moves sc b (reloadIfIdle b) := by
  unfold reloadIfIdle
  split
  next h => exact moves_reload h.1
  next => exact Moves.refl _ _

/-! ## A write of one item -/

theorem ConfigLaw.of_cfg {c : Cond} (hcfg : InRange c.cfg) (hmax : c.newMaxUp = b.cond.newMaxUp) (h : ConfigLaw b) :
    ConfigLaw { b with cond := c } := ⟨hcfg, fun v hv => h.2 v (hmax ▸ hv)⟩

theorem forceItems_congr (h : x.cond.cfg = b.cond.cfg) (hd : Head) : forceItems x hd = forceItems b hd := by
  cases hd <;> simp only [forceItems, Block.nat, h]

theorem head_congr (h : x.cond.cfg = b.cond.cfg) (p : Panto) : x.head p = b.head p := by
  unfold Block.head Block.cfg
  rw [h]

/-- The record of a pantograph after the evaluation that a write makes. -/
def evaluated (b : Block) (p : Panto) (l : Lift) : Lift :=
  if l.state.up then
    { l with
      targetForce := some (targetForceOf b p)
      targetPressure := some (targetPressureOf b p)
      forceClamped := targetForceOf b p != rawForce b p
      pressureClamped := decide (b.nat .pmax ≤ rawPressure b p) }
  else l

theorem setLift_lc (b : Block) (p : Panto) : b.setLift p (b.lc p) = b := by cases p <;> rfl

theorem evaluateUp_eq (b : Block) : evaluateUp b = { b with lift := .ofFun fun p => evaluated b p (b.lc p) } := by
  have step (p : Panto) (y : Block) :
      (if (y.lc p).state.up then evaluate p y else y) = y.setLift p (evaluated y p (y.lc p)) := by
    unfold evaluated
    split
    · rfl
    · exact (setLift_lc y p).symm
  have same (y : Block) (q : Panto) (l : Lift) : evaluated (y.setLift q l) = evaluated y := rfl
  unfold evaluateUp eachPanto
  simp only [step, same]
  rfl

theorem evaluated_same (b : Block) (p : Panto) (l : Lift) :
    (evaluated b p l).state = l.state ∧ (evaluated b p l).held = l.held ∧ (evaluated b p l).heldSearch = l.heldSearch ∧
      (evaluated b p l).commanded = l.commanded ∧
      (l.state.up = true → (evaluated b p l).targetForce = some (targetForceOf b p)) := by
  unfold evaluated
  split
  · exact ⟨rfl, rfl, rfl, rfl, fun _ => rfl⟩
  next h => exact ⟨rfl, rfl, rfl, rfl, fun h' => absurd h' h⟩

theorem judgeLevel_frame (fall : Bool) (raw : Nat) (b : Block) :
    judgeLevel fall raw b = { b with ice := (judgeLevel fall raw b).ice } := by
  unfold judgeLevel
  dsimp only
  split
  · rfl
  · split
    · rfl
    · split
      · rfl
      · split <;> rfl

theorem evaluateScore_frame (fall : Bool) (b : Block) : evaluateScore fall b = { b with ice := (evaluateScore fall b).ice } :=
  judgeLevel_frame _ _ _

/-- What a write does to the lift records. -/
def liftsWritten (i : Item) (b : Block) : Block :=
  let b1 := if i = .pmax then clampCommanded b else b
  if forceLawItem i then evaluateUp b1 else b1

/-- What a write does beyond the lift records: the ice estimate and the advisory. -/
def estimatesWritten (i : Item) (b : Block) : Block :=
  match i with
  | .iceWindow => evaluateScore false b
  | .iceT1 => retakeRaw b
  | .iceT2 => retakeRaw b
  | .iceT3 => retakeRaw b
  | .currentLimit => if b.ice.level = 3 then setAdvisory (some (b.nat .currentLimit)) b else b
  | _ => b

theorem afterWrite_eq (i : Item) (b : Block) : afterWrite i b = estimatesWritten i (liftsWritten i b) := rfl

theorem estimatesWritten_frame (i : Item) (b : Block) :
    ∃ ice record, estimatesWritten i b = { b with ice := ice, record := record } := by
  unfold estimatesWritten
  split
  case h_1 => exact ⟨_, _, evaluateScore_frame false b⟩
  case h_2 | h_3 | h_4 => exact ⟨_, _, judgeLevel_frame false _ b⟩
  case h_5 =>
    split
    · exact ⟨_, _, rfl⟩
    · exact ⟨_, _, rfl⟩
  case h_6 => exact ⟨_, _, rfl⟩

theorem afterWrite_frame (i : Item) (b : Block) :
    ∃ ice record, afterWrite i b = { liftsWritten i b with ice := ice, record := record } :=
  estimatesWritten_frame i (liftsWritten i b)

theorem liftsWritten_frame (i : Item) (b : Block) : liftsWritten i b = { b with lift := (liftsWritten i b).lift } := by
  unfold liftsWritten
  extract_lets b1
  have hb1 : b1 = { b with lift := b1.lift } := by
    unfold b1
    split
    · rw [clampCommanded_eq]
    · rfl
  split
  · rw [evaluateUp_eq, hb1]
  · exact hb1

theorem prims_retakeRaw (he : sc.estimates) (b : Block) : Prims sc b (retakeRaw b) := prims_judgeLevel he _ _ _

theorem prims_liftsWritten (i : Item) (b : Block) : Prims sc b (liftsWritten i b) := by
  unfold liftsWritten
  extract_lets b1
  have hb1 : Prims sc b b1 := by
    unfold b1
    split
    · exact prims_clampCommanded b
    · exact Prims.refl _ _
  split
  · exact hb1.trans (prims_evaluateUp _)
  · exact hb1

theorem prims_estimatesWritten (he : sc.estimates) (i : Item) (ha : i = .currentLimit → sc.advises) (b : Block) :
    Prims sc b (estimatesWritten i b) := by
  unfold estimatesWritten
  split
  case h_1 => exact prims_evaluateScore he _ _
  case h_2 | h_3 | h_4 => exact prims_retakeRaw he _
  case h_5 =>
    split
    · exact prims_setAdvisory (ha rfl) _ _
    · exact Prims.refl _ _
  case h_6 => exact Prims.refl _ _

theorem prims_afterWrite (he : sc.estimates) (i : Item) (ha : i = .currentLimit → sc.advises) (b : Block) :
    Prims sc b (afterWrite i b) :=
  (prims_liftsWritten i b).trans (prims_estimatesWritten he i ha _)

/-- What a write does to one lift record. -/
theorem liftsWritten_lift (i : Item) (b : Block) (p : Panto) :
    ((liftsWritten i b).lc p).state = (b.lc p).state ∧ ((liftsWritten i b).lc p).held = (b.lc p).held ∧
      ((liftsWritten i b).lc p).heldSearch = (b.lc p).heldSearch ∧
      ((liftsWritten i b).lc p).commanded = (if i = .pmax then min (b.lc p).commanded (b.nat .pmax) else (b.lc p).commanded) ∧
      ((b.lc p).state.up = true → forceLawItem i = true →
        ((liftsWritten i b).lc p).targetForce = some (targetForceOf b p)) ∧
      (forceLawItem i = false → ((liftsWritten i b).lc p).targetForce = (b.lc p).targetForce) := by
  unfold liftsWritten
  extract_lets b1
  have hb1 : (b1.lc p).state = (b.lc p).state ∧ (b1.lc p).held = (b.lc p).held ∧
      (b1.lc p).heldSearch = (b.lc p).heldSearch ∧
      (b1.lc p).commanded = (if i = .pmax then min (b.lc p).commanded (b.nat .pmax) else (b.lc p).commanded) ∧
      (b1.lc p).targetForce = (b.lc p).targetForce ∧ targetForceOf b1 p = targetForceOf b p := by
    unfold b1
    split
    · rw [clampCommanded_eq, lc_eachLift fun _ l => l.within (b.nat .pmax)]
      exact ⟨rfl, rfl, rfl, rfl, rfl, rfl⟩
    · exact ⟨rfl, rfl, rfl, rfl, rfl, rfl⟩
  obtain ⟨hstate, hheld, hsearch, hcom, hforce, htarget⟩ := hb1
  split
  next hlaw =>
    obtain ⟨estate, eheld, esearch, ecom, eforce⟩ := evaluated_same b1 p (b1.lc p)
    rw [evaluateUp_eq, lc_eachLift (evaluated b1)]
    refine ⟨estate.trans hstate, eheld.trans hheld, esearch.trans hsearch, ecom.trans hcom, fun hup _ => ?_, fun hf => ?_⟩
    · rw [← htarget]
      exact eforce (by rw [hstate]; exact hup)
    · simp [hlaw] at hf
  next hlaw => exact ⟨hstate, hheld, hsearch, hcom, fun _ h => absurd h hlaw, fun _ => hforce⟩

theorem liftsWritten_pending (i : Item) (b : Block) (p : Panto) :
    ((liftsWritten i b).lc p).lowerPending = (b.lc p).lowerPending := by
  unfold liftsWritten
  extract_lets b1
  have hb1 : (b1.lc p).lowerPending = (b.lc p).lowerPending := by
    unfold b1
    split
    · rw [clampCommanded_eq, lc_eachLift fun _ l => l.within (b.nat .pmax)]
      rfl
    · rfl
  split
  · rw [evaluateUp_eq, lc_eachLift (evaluated b1), ← hb1]
    unfold evaluated
    split <;> rfl
  · exact hb1

/-- The block after a write of one item. -/
def itemWritten (i : Item) (v : Int) (b : Block) : Block := afterWrite i (writeItem i (clampItem b.cond.cfg i v) b)

/-- What a write leaves. -/
theorem itemWritten_frame (i : Item) (v : Int) (b : Block) :
    (itemWritten i v b).plan = b.plan ∧
      (itemWritten i v b).cond = { b.cond with cfg := cfgSet b.cond.cfg i (clampItem b.cond.cfg i v), configSaved := false } ∧
      (itemWritten i v b).lift = (liftsWritten i (writeItem i (clampItem b.cond.cfg i v) b)).lift := by
  obtain ⟨ice, record, heq⟩ := afterWrite_frame i (writeItem i (clampItem b.cond.cfg i v) b)
  unfold itemWritten
  rw [heq, liftsWritten_frame]
  exact ⟨rfl, rfl, rfl⟩

/-- What a write does to the ice level and the advisory. -/
theorem estimatesWritten_advisory (i : Item) (b : Block) :
    (estimatesWritten i b).ice.level = b.ice.level ∧
      (estimatesWritten i b).record =
        if i = .currentLimit ∧ b.ice.level = 3 then { b.record with advisory := some (b.nat .currentLimit) } else b.record := by
  have hjudge (fall : Bool) (raw : Nat) (x : Block) : (judgeLevel fall raw x).ice.level = x.ice.level := by
    unfold judgeLevel
    dsimp only
    split
    · rfl
    · split
      · rfl
      · split
        · rfl
        · split <;> rfl
  unfold estimatesWritten
  split
  case h_1 =>
    rw [evaluateScore_frame]
    exact ⟨hjudge _ _ _, rfl⟩
  case h_2 | h_3 | h_4 =>
    rw [retakeRaw, judgeLevel_frame]
    exact ⟨hjudge _ _ _, rfl⟩
  case h_5 =>
    split
    next h => exact ⟨rfl, (if_pos ⟨rfl, h⟩).symm⟩
    next h => exact ⟨rfl, (if_neg fun h' => h h'.2).symm⟩
  case h_6 hne => exact ⟨rfl, (if_neg fun h' => hne h'.1).symm⟩

theorem itemWritten_advisory (i : Item) (v : Int) (b : Block) :
    (itemWritten i v b).ice.level = b.ice.level ∧
      (itemWritten i v b).record = if i = .currentLimit ∧ b.ice.level = 3 then
        { b.record with advisory := some ((itemWritten i v b).nat .currentLimit) } else b.record := by
  obtain ⟨-, hcond, -⟩ := itemWritten_frame i v b
  have h := estimatesWritten_advisory i (liftsWritten i (writeItem i (clampItem b.cond.cfg i v) b))
  have hcfg : (writeItem i (clampItem b.cond.cfg i v) b).cond.cfg = (itemWritten i v b).cond.cfg := by rw [hcond]; rfl
  rw [← afterWrite_eq, liftsWritten_frame] at h
  simp only [Block.nat] at h ⊢
  rw [← hcfg]
  exact h

theorem itemWritten_advised (i : Item) (v : Int) (b : Block) : Advised b (itemWritten i v b) := by
  obtain ⟨-, hcond, -⟩ := itemWritten_frame i v b
  obtain ⟨hlevel, hrecord⟩ := itemWritten_advisory i v b
  refine ⟨hlevel, fun hne h3 => ?_, ?_⟩
  · have hi : i = .currentLimit := by
      by_contra hi
      refine hne ?_
      rw [hcond]
      exact cfgGet_cfgSet_ne _ _ (Ne.symm hi)
    rw [if_pos ⟨hi, h3⟩] at hrecord
    rw [hrecord]
  · split at hrecord
    next h => exact .inr ⟨h.2, by rw [hrecord]⟩
    next => exact .inl (by rw [hrecord])

theorem writes_or_same (i : Item) (v : Int) (b : Block) :
    i = .currentLimit ∨ (itemWritten i v b).record.advisory = b.record.advisory := by
  obtain ⟨-, hrecord⟩ := itemWritten_advisory i v b
  by_cases hi : i = .currentLimit
  · exact .inl hi
  · rw [if_neg fun h => hi h.1] at hrecord
    exact .inr (by rw [hrecord])

theorem toNat_cfgGet_le_of_write {c : CfgRec} {q : Item × Item} (hq : q ∈ orderedPairs) (hne : q.1 ≠ q.2)
    (hlow : ∀ r ∈ orderedPairs, r.2 ≠ q.1) (h : cfgNat c q.1 ≤ cfgNat c q.2) (i : Item) (v : Int) :
    cfgNat (cfgSet c i (clampItem c i v)) q.1 ≤ cfgNat (cfgSet c i (clampItem c i v)) q.2 := by
  by_cases h1 : q.1 = i
  · subst h1
    rw [cfgNat_cfgSet_ne _ _ hne.symm, cfgNat, cfgGet_cfgSet_self]
    exact Int.toNat_le_toNat (clampItem_le hq hlow v)
  · by_cases h2 : q.2 = i
    · subst h2
      rw [cfgNat_cfgSet_ne _ _ hne, cfgNat, cfgNat, cfgGet_cfgSet_self]
      exact Int.toNat_le_toNat (le_clampItem hq v)
    · rw [cfgNat_cfgSet_ne _ _ h1, cfgNat_cfgSet_ne _ _ h2]
      exact h

theorem committedCount_le_write (hc : ConfigLaw b) (ha : committedCount b ≤ b.nat .maxUp) {v : Int}
    (hv : ¬v < (committedCount b : Int)) : committedCount b ≤ (clampItem b.cond.cfg .maxUp v).toNat := by
  have hmax := hc.1 .maxUp
  have hget : b.nat .maxUp = (cfgGet b.cond.cfg .maxUp).toNat := rfl
  have hrange : clampItem b.cond.cfg .maxUp v = max Item.maxUp.lo (min Item.maxUp.hi v) := by
    rw [clampItem_eq]
    rcases (lowerTo_spec b.cond.cfg .maxUp orderedPairs (max Item.maxUp.lo (min Item.maxUp.hi v))).2.2 with h | ⟨q, hq, hi, -⟩
    · rcases (raiseTo_spec b.cond.cfg .maxUp orderedPairs
        (lowerTo b.cond.cfg .maxUp orderedPairs (max Item.maxUp.lo (min Item.maxUp.hi v)))).2.2 with h' | ⟨q, hq, hi, -⟩
      · rw [h', h]
      · exact absurd hi (by revert q; decide)
    · exact absurd hi (by revert q; decide)
  rw [hrange]
  omega

/-- The head class of a pantograph in CONTACT stays over a write that is not refused. -/
theorem head_of_write {i : Item} {v : Int} (hbusy : writeBusy b i v = false) (hcon : (b.lc p).state = .contact) :
    cfgGet (cfgSet b.cond.cfg i (clampItem b.cond.cfg i v)) (headItem p) = cfgGet b.cond.cfg (headItem p) := by
  by_cases hi : headItem p = i
  · have hinst : installed i = some p := by
      rw [← hi]
      cases p <;> rfl
    have hmotion : inMotion b p = true := by simp [inMotion, hcon, LiftState.raised]
    simp only [writeBusy, hinst, hmotion, Bool.true_and, Bool.or_eq_false_iff, bne_eq_false_iff_eq] at hbusy
    rw [hi, cfgGet_cfgSet_self]
    exact hbusy.2
  · exact cfgGet_cfgSet_ne _ _ hi

theorem clampForce_between {lo hi : Nat} (h : lo ≤ hi) (v : Nat) : lo ≤ clampForce lo hi v ∧ clampForce lo hi v ≤ hi := by
  unfold clampForce
  split
  · omega
  · split <;> omega

theorem targetForceOf_between (h : ∀ hd, (forceItems b hd).least ≤ (forceItems b hd).most) (p : Panto) :
    (forceItems b (b.head p)).least ≤ targetForceOf b p ∧ targetForceOf b p ≤ (forceItems b (b.head p)).most :=
  clampForce_between (h _) _

/-- An item that the force law does not name leaves its limits alone. -/
theorem forceItems_of_write {i : Item} (hlaw : forceLawItem i = false) (w : Int) {c : Cond}
    (hc : c.cfg = cfgSet b.cond.cfg i w) (hd : Head) :
    (forceItems { b with cond := c } hd).least = (forceItems b hd).least ∧
      (forceItems { b with cond := c } hd).most = (forceItems b hd).most := by
  have hne (j : Item) (hj : forceLawItem j = true) : j ≠ i := fun h => by simp [← h, hj] at hlaw
  have hget (j : Item) (hj : forceLawItem j = true) : ({ b with cond := c } : Block).nat j = b.nat j := by
    simp only [Block.nat, hc]
    exact cfgNat_cfgSet_ne _ _ (hne j hj)
  cases hd
  case ac => exact ⟨hget .forceMinAC rfl, hget .forceMaxAC rfl⟩
  case dc => exact ⟨hget .forceMinDC rfl, hget .forceMaxDC rfl⟩

theorem moves_write (he : sc.estimates) {i : Item} (had : i = .currentLimit → sc.writes) {v : Int}
    (hbusy : writeBusy b i v = false) : Moves sc b (itemWritten i v b) := by
  obtain ⟨hplan, hcond, hlift⟩ := itemWritten_frame i v b
  have hlc (p : Panto) := liftsWritten_lift i (writeItem i (clampItem b.cond.cfg i v) b) p
  generalize hw : clampItem b.cond.cfg i v = w at *
  have hlc' (p : Panto) : (itemWritten i v b).lc p = (liftsWritten i (writeItem i w b)).lc p := by
    rw [Block.lc, hlift, Block.lc]
  have hr : (itemWritten i v b).cond.restart = b.cond.restart := by rw [hcond]
  have hreload : (itemWritten i v b).cond.reloadPending = b.cond.reloadPending := by rw [hcond]
  have hadopt : AdoptionLaw b → AdoptionLaw (itemWritten i v b) := by
    unfold AdoptionLaw
    rw [hcond]
    exact id
  have hpends (hp : PendContact b) : PendContact (itemWritten i v b) := by
    intro h p hlow
    rw [hlc' p] at hlow ⊢
    rw [liftsWritten_pending] at hlow
    exact (hlc p).1.trans (hp (hr.symm.trans h) p hlow)
  refine .of (.load ?_ (fun h => hr.trans h) (fun hc ha => ?_) (fun hc hlim => ?_) hpends
    fun h => ⟨⟨hr.trans h.1, hreload.trans h.2⟩, itemWritten_advised i v b, (writes_or_same i v b).imp had id⟩)
  · have hwrite : Prims sc.loading b { b with cond := { b.cond with cfg := cfgSet b.cond.cfg i w, configSaved := false } } :=
      prims_load trivial (fun h => .of_cfg (h.1.set (hw ▸ clampItem_range h.1 i v)) rfl h) rfl rfl rfl rfl
    unfold itemWritten
    rw [hw]
    exact (hwrite.add (.mem { b.mem with storeDirty := true })).trans (prims_afterWrite (sc := sc.loading) he i (fun _ => trivial) _)
  · refine ha.of_same (fun p => ?_) (fun p => ?_) (fun p => ?_) (fun p => ?_) hr ?_ (hadopt ha.adoption)
    · rw [Block.role, hplan, Block.role]
    · rw [hlc' p]
      exact (hlc p).1
    · rw [hlc' p]
      exact (hlc p).2.1
    · rw [hlc' p]
      exact (hlc p).2.2.1
    · rw [Block.nat, hcond]
      by_cases hi : Item.maxUp = i
      · subst hi
        rw [cfgNat, cfgGet_cfgSet_self, ← hw]
        refine committedCount_le_write hc ha.count fun hv => ?_
        simp [writeBusy, hv] at hbusy
      · rw [cfgNat_cfgSet_ne _ _ hi]
        exact ha.count
  · have hordered (hd : Head) : (forceItems (itemWritten i v b) hd).least ≤ (forceItems (itemWritten i v b) hd).most := by
      cases hd
      case ac =>
        change cfgNat _ Item.forceMinAC ≤ cfgNat _ Item.forceMaxAC
        rw [hcond, ← hw]
        exact toNat_cfgGet_le_of_write (q := (.forceMinAC, .forceMaxAC)) (by decide) (by decide) (by decide)
          (hlim.ordered .ac) i v
      case dc =>
        change cfgNat _ Item.forceMinDC ≤ cfgNat _ Item.forceMaxDC
        rw [hcond, ← hw]
        exact toNat_cfgGet_le_of_write (q := (.forceMinDC, .forceMaxDC)) (by decide) (by decide) (by decide)
          (hlim.ordered .dc) i v
    have hcfg : (itemWritten i v b).cond.cfg = (writeItem i w b).cond.cfg := by rw [hcond]; rfl
    refine ⟨fun p => ?_, fun h p hcon => ?_, hordered, hadopt hlim.adoption⟩
    · rw [hlc' p, (hlc p).2.2.2.1, Block.nat, Block.nat, hcfg]
      split
      · exact Nat.min_le_right _ _
      next hi =>
        change (b.lc p).commanded ≤ cfgNat (cfgSet b.cond.cfg i w) .pmax
        rw [cfgNat_cfgSet_ne _ _ (Ne.symm hi)]
        exact hlim.pressure p
    · rw [hlc' p] at hcon ⊢
      have hcon' : (b.lc p).state = .contact := (hlc p).1.symm.trans hcon
      rw [head_congr hcfg, forceItems_congr hcfg]
      have hord (hd : Head) : (forceItems (writeItem i w b) hd).least ≤ (forceItems (writeItem i w b) hd).most := by
        rw [← forceItems_congr hcfg]
        exact hordered hd
      cases hlaw : forceLawItem i with
      | true => exact ⟨_, (hlc p).2.2.2.2.1 (by rw [show (writeItem i w b).lc p = b.lc p from rfl, hcon']; rfl) hlaw,
          targetForceOf_between hord p⟩
      | false =>
        obtain ⟨f, hf, hbetween⟩ := hlim.force (hr.symm.trans h) p hcon'
        refine ⟨f, ((hlc p).2.2.2.2.2 hlaw).trans hf, ?_⟩
        have hhead : (writeItem i w b).head p = b.head p := by
          rw [Block.head, Block.head, Block.cfg, Block.cfg, ← hw]
          exact congrArg (fun n : Int => if n = 1 then Head.dc else Head.ac) (head_of_write hbusy hcon')
        obtain ⟨hleast, hmost⟩ := forceItems_of_write (b := b) hlaw w (c := (writeItem i w b).cond) rfl (b.head p)
        rw [hhead]
        change (forceItems { b with cond := (writeItem i w b).cond } (b.head p)).least ≤ f ∧
          f ≤ (forceItems { b with cond := (writeItem i w b).cond } (b.head p)).most
        rw [hleast, hmost]
        exact hbetween

end Sys2Proof.Machine
end

section
/-!
The adoption scan as a move.
-/

namespace Sys2Proof.Machine

variable {sc : Scope} {b x y z : Block} {p : Panto}

/-! ## What a halt leaves -/

theorem openBreaker_lift (x : Source) (b : Block) : (openBreaker x b).lift = b.lift := by
  unfold openBreaker
  split <;> rfl

theorem serveEntry_lift (i : Option Nat) (b : Block) : (serveEntry i b).lift = b.lift := by cases i <;> rfl

theorem haltFault_lift (r : HaltReason) (b : Block) : (haltFault r b).lift = b.lift := by cases r <;> rfl

theorem setDetermined_lift (s : Option LineSystem) (p : Option Panto) (b : Block) : (setDetermined s p b).lift = b.lift := by
  unfold setDetermined
  dsimp only
  split <;> rfl

theorem halt_lift (r : HaltReason) (b : Block) : (halt r b).lift = b.lift := by
  unfold halt
  split
  · rfl
  · split <;> rfl
  · unfold enterHalt
    dsimp only
    rw [openBreaker_lift]
    change (serveEntry _ _).lift = _
    rw [serveEntry_lift]
    split
    · rw [setDetermined_lift, haltFault_lift]
    · exact haltFault_lift r b

theorem leaveContact_lift (p : Panto) (l : Lift) (b : Block) : (leaveContact p l b).lift = (b.setLift p l).lift := by
  unfold leaveContact
  dsimp only
  split
  · exact halt_lift _ _
  · rfl

theorem leaveContact_lc (p q : Panto) (l : Lift) (b : Block) : (leaveContact p l b).lc q = (b.setLift p l).lc q := by
  rw [Block.lc, leaveContact_lift, Block.lc]

/-! ## The adoption of one pantograph -/

/-- The record of a pantograph that is not adopted. -/
def Lift.notAdopted (stowed : Bool) (l : Lift) : Lift :=
  if stowed then l.stowedAtAdoption else { l.toLowering with quickVent := false }

theorem adoptOne_chosen {chosen : List Panto} (h : chosen.contains p = true) (b : Block) :
    adoptOne chosen p b = enterContact p (b.setLift p { b.lc p with lowerNoted := false, quickVent := false }) := by
  unfold adoptOne
  dsimp only
  rw [if_pos h, lc_setLift_self, setLift_setLift]

theorem adoptOne_rest {chosen : List Panto} (h : chosen.contains p = false) (b : Block) :
    adoptOne chosen p b = clearRole p (settleDown p (b.setLift p { b.lc p with lowerNoted := false })) := by
  unfold adoptOne
  dsimp only
  rw [if_neg (by simp only [h, Bool.false_eq_true, not_false_eq_true])]

theorem settleDown_eq (p : Panto) (b : Block) :
    settleDown p b = leaveContact p ((b.lc p).notAdopted (readsStowed b p)) b := by
  unfold settleDown Lift.notAdopted
  cases readsStowed b p <;> rfl

theorem Lift.notAdopted_rests (stowed : Bool) (l : Lift) :
    (l.notAdopted stowed).state.raised = false ∧ (l.notAdopted stowed).state ≠ .contact ∧
      (l.notAdopted stowed).held = l.held ∧ (l.notAdopted stowed).heldSearch = l.heldSearch ∧
      (l.notAdopted stowed).commanded ≤ l.commanded ∧ (l.notAdopted stowed).lowerPending = false := by
  cases stowed
  case true => exact ⟨rfl, nofun, rfl, rfl, Nat.zero_le _, rfl⟩
  case false => exact ⟨rfl, nofun, rfl, rfl, le_rfl, rfl⟩

theorem kept_adoptOne (chosen : List Panto) (p : Panto) (b : Block) : (adoptOne chosen p b).kept = b.kept := by
  cases h : chosen.contains p with
  | true => rw [adoptOne_chosen h, kept_enterContact, kept_setLift]
  | false => rw [adoptOne_rest h, kept_clearRole, settleDown_eq, kept_leaveContact, kept_setLift]

theorem lc_adoptOne_ne {chosen : List Panto} {q : Panto} (hq : q ≠ p) (b : Block) : (adoptOne chosen p b).lc q = b.lc q := by
  cases h : chosen.contains p with
  | true =>
    rw [adoptOne_chosen h]
    unfold enterContact evaluate
    rw [lc_setLift_ne _ _ hq, lc_setLift_ne _ _ hq, lc_setLift_ne _ _ hq]
  | false =>
    rw [adoptOne_rest h, clearRole_lc, settleDown_eq, leaveContact_lc, lc_setLift_ne _ _ hq, lc_setLift_ne _ _ hq]

/-- What the adoption scan makes of one pantograph. -/
structure AdoptedAs (chosen : List Panto) (p : Panto) (l l' : Lift) (b : Block) : Prop where
  raised    : l'.state.raised = true → chosen.contains p = true
  contact   : l'.state = .contact → l'.targetForce = some (targetForceOf b p)
  held      : l'.held = l.held
  search    : l'.heldSearch = l.heldSearch
  commanded : l'.commanded ≤ l.commanded
  pends     : l'.lowerPending = true → l'.state = .contact

theorem adoptedAs_adoptOne (chosen : List Panto) (p : Panto) (b : Block) :
    AdoptedAs chosen p (b.lc p) ((adoptOne chosen p b).lc p) b := by
  cases h : chosen.contains p with
  | true =>
    rw [adoptOne_chosen h]
    unfold enterContact evaluate
    simp only [lc_setLift_self]
    exact {
      raised := fun _ => h
      contact := fun _ => rfl
      held := rfl
      search := rfl
      commanded := le_rfl
      pends := fun _ => rfl }
  | false =>
    rw [adoptOne_rest h, clearRole_lc, settleDown_eq, leaveContact_lc, lc_setLift_self, lc_setLift_self]
    obtain ⟨hup, hcon, hheld, hsearch, hcom, hpend⟩ :=
      Lift.notAdopted_rests (readsStowed (b.setLift p { b.lc p with lowerNoted := false }) p) { b.lc p with lowerNoted := false }
    exact ⟨fun hr => absurd hr (by rw [hup]; decide), fun hc => absurd hc hcon, hheld, hsearch, hcom,
      fun hp => absurd hp (by rw [hpend]; decide)⟩

theorem prims_adoptOne (hl : sc.loads) {chosen : List Panto}
    (he : chosen.contains p = true → b.sw.earth.state = .opened) : Prims sc b (adoptOne chosen p b) := by
  cases h : chosen.contains p with
  | true =>
    rw [adoptOne_chosen h]
    have hset : Prims sc b (b.setLift p { b.lc p with lowerNoted := false, quickVent := false }) :=
      prims_setLift_same rfl rfl rfl le_rfl rfl rfl
    exact hset.trans (prims_enterContact p _ (.inl hl) (.inr (he h)))
  | false =>
    rw [adoptOne_rest h, settleDown_eq]
    have hset : Prims sc b (b.setLift p { b.lc p with lowerNoted := false }) :=
      prims_setLift_same rfl rfl rfl le_rfl rfl rfl
    refine (hset.trans (prims_leaveContact ?_)).add (.clear p (.inl hl))
    generalize b.setLift p { b.lc p with lowerNoted := false } = y
    obtain ⟨hup, hcon, -, -, hcom, hpend⟩ := Lift.notAdopted_rests (readsStowed y p) (y.lc p)
    exact {
      raised := fun hr => by rw [hup] at hr; cases hr
      pressure := fun _ hp => hcom.trans hp
      force := fun hc => absurd hc hcon
      pending := fun hp => by rw [hpend] at hp; cases hp
      air := .inl hl }

/-! ## The adoption scan -/

/-- A condition that each change keeps, and what each brings about at its pantograph, hold in the end. -/
theorem eachPanto_settles_of {f : Panto → Block → Block} {Q : Block → Prop} {P : Panto → Block → Prop}
    (keep : ∀ p b, Q b → Q (f p b)) (own : ∀ p b, Q b → P p (f p b)) (others : ∀ p q b, p ≠ q → P p b → P p (f q b))
    (hb : Q b) : Q (eachPanto f b) ∧ ∀ p, P p (eachPanto f b) := by
  have h1 := keep .p1 b hb
  have h2 := keep .p2 _ h1
  have h3 := keep .p3 _ h2
  refine ⟨keep .p4 _ h3, fun p => ?_⟩
  unfold eachPanto
  cases p
  case p1 =>
    exact others .p1 .p4 _ (by decide) (others .p1 .p3 _ (by decide) (others .p1 .p2 _ (by decide) (own .p1 b hb)))
  case p2 => exact others .p2 .p4 _ (by decide) (others .p2 .p3 _ (by decide) (own .p2 _ h1))
  case p3 => exact others .p3 .p4 _ (by decide) (own .p3 _ h2)
  case p4 => exact own .p4 _ h3

/-- Those chosen at the adoption scan. -/
def chosenAt (b : Block) : List Panto := if b.on .holdOver then adopted (takePressures b) else []

/-- The block of the adoption scan at which those chosen are adopted. -/
def readyToAdopt (b : Block) : Block := if b.on .holdOver then takePressures b else b

/-- The end of the adoption scan. -/
def adoptionEnd (b : Block) : Block :=
  adoptBreaker (adoptScraper { b with cond := { b.cond with restart := none } })

theorem adoption_eq (b : Block) : adoption b =
    adoptionEnd (eachPanto (adoptOne (chosenAt (takeMaxUp b))) (readyToAdopt (takeMaxUp b))) := by
  unfold adoption chosenAt readyToAdopt adoptionEnd
  dsimp only
  split <;> rfl

theorem adoptBreaker_frame (b : Block) : (adoptBreaker b).lift = b.lift ∧ (adoptBreaker b).plan = b.plan ∧
    (adoptBreaker b).cond = b.cond := by
  have hopen (c : Prop) [Decidable c] (y : Block) :
      (if c then openBreaker .internal y else y).lift = y.lift ∧
        (if c then openBreaker .internal y else y).plan = y.plan ∧
        (if c then openBreaker .internal y else y).cond = y.cond := by
    split
    · exact ⟨openBreaker_lift _ _, openBreaker_plan _ _, openBreaker_cond _ _⟩
    · exact ⟨rfl, rfl, rfl⟩
  unfold adoptBreaker
  extract_lets b1
  obtain ⟨h1, h2, h3⟩ := hopen (b.sw.breaker.state = .closed ∧ (b.plan.hold = true ∨ closeConditions b = false)) b
  obtain ⟨k1, k2, k3⟩ := hopen (b1.seq.phase = .halted ∧ b1.seq.haltReason = some .restart) b1
  exact ⟨k1.trans h1, k2.trans h2, k3.trans h3⟩

theorem adoptionEnd_frame (b : Block) : (adoptionEnd b).lift = b.lift ∧ (adoptionEnd b).plan = b.plan ∧
    (adoptionEnd b).cond = { b.cond with restart := none } :=
  adoptBreaker_frame (adoptScraper { b with cond := { b.cond with restart := none } })

theorem prims_adoptBreaker (b : Block) : Prims sc b (adoptBreaker b) := by
  have hopen (c : Prop) [Decidable c] (y : Block) : Prims sc y (if c then openBreaker .internal y else y) := by
    split
    · exact prims_openBreaker _ _
    · exact Prims.refl _ _
  exact (hopen _ _).trans (hopen _ _)

theorem prims_adoptionEnd (hl : sc.loads) (b : Block) : Prims sc b (adoptionEnd b) := by
  have hend : Prims sc b { b with cond := { b.cond with restart := none } } :=
    .of (.cond _ (.inl hl) id id (fun _ h => by cases h) fun _ h => by cases h)
  exact (hend.trans (prims_setScraper _ _)).trans (prims_adoptBreaker _)

/-- MaxUp as it stands at the adoption scan. -/
theorem takeMaxUp_frame (b : Block) : takeMaxUp b = { b with cond := (takeMaxUp b).cond } ∧
    (takeMaxUp b).cond.restart = b.cond.restart ∧ (takeMaxUp b).cond.reloadPending = b.cond.reloadPending ∧
    (takeMaxUp b).cond.newMaxUp = none ∧ (takeMaxUp b).cond.mode = b.cond.mode ∧
    (takeMaxUp b).cond.standbyLowering = b.cond.standbyLowering ∧ (takeMaxUp b).cond.faults = b.cond.faults ∧
    (∀ i, i ≠ .maxUp → cfgGet (takeMaxUp b).cond.cfg i = cfgGet b.cond.cfg i) ∧
    (ConfigLaw b → InRange (takeMaxUp b).cond.cfg) := by
  unfold takeMaxUp
  split
  next v hv =>
    exact ⟨rfl, rfl, rfl, rfl, rfl, rfl, rfl, fun i hi => cfgGet_cfgSet_ne _ _ hi, fun h => h.1.set (h.2 v hv)⟩
  next hv => exact ⟨rfl, rfl, rfl, hv, rfl, rfl, rfl, fun _ _ => rfl, fun h => h.1⟩

theorem takePressures_lc (b : Block) (p : Panto) :
    (takePressures b).lc p = { b.lc p with commanded := adoptedPressure b p } := by cases p <;> rfl

theorem adoptedPressure_le (b : Block) (p : Panto) : adoptedPressure b p ≤ b.nat .pmax := by
  unfold adoptedPressure
  split
  · exact Nat.min_le_right _ _
  · exact Nat.min_le_right _ _

theorem prims_takePressures (b : Block) : Prims sc b (takePressures b) := by
  have hlift : Prims sc b { b with lift := .ofFun fun p => { b.lc p with commanded := adoptedPressure b p } } :=
    prims_liftAll (fun _ => ⟨rfl, rfl, rfl, rfl, id⟩) fun _ p _ => adoptedPressure_le b p
  exact hlift.add (.free (b.freeCount + 4))

theorem prims_readyToAdopt (b : Block) : Prims sc b (readyToAdopt b) := by
  unfold readyToAdopt
  split
  · exact prims_takePressures b
  · exact Prims.refl _ _

theorem readyToAdopt_frame (b : Block) (p : Panto) :
    (readyToAdopt b).plan = b.plan ∧ (readyToAdopt b).cond = b.cond ∧ (readyToAdopt b).sw = b.sw ∧
      ((readyToAdopt b).lc p).held = (b.lc p).held ∧ ((readyToAdopt b).lc p).heldSearch = (b.lc p).heldSearch ∧
      ((b.lc p).commanded ≤ b.nat .pmax → ((readyToAdopt b).lc p).commanded ≤ b.nat .pmax) := by
  unfold readyToAdopt
  split
  · rw [takePressures_lc]
    exact ⟨rfl, rfl, rfl, rfl, rfl, fun _ => adoptedPressure_le b p⟩
  · exact ⟨rfl, rfl, rfl, rfl, rfl, id⟩

theorem mem_adopted (h : p ∈ adopted b) : adoptable b p = true := by
  have hmem := List.mem_of_mem_take h
  simp only [List.mem_append, List.mem_filter] at hmem
  rcases hmem with hm | hm
  · exact hm.1.2
  · exact hm.1.2

theorem chosenAt_earth (h : (chosenAt b).contains p = true) : b.sw.earth.state = .opened := by
  unfold chosenAt at h
  split at h
  · have hfit := mem_adopted (List.contains_iff_mem.mp h)
    simp only [adoptable, Bool.and_eq_true] at hfit
    exact earthOpen_state hfit.2
  · simp at h

theorem chosenAt_length (b : Block) : (chosenAt b).length ≤ b.nat .maxUp := by
  unfold chosenAt
  split
  · exact List.length_take_le _ _
  · exact Nat.zero_le _

theorem prims_adoption (hl : sc.loads) (b : Block) : Prims sc b (adoption b) := by
  obtain ⟨heq, hrestart, -, hmax, hmode, hstandby, hfaults, -, hrange⟩ := takeMaxUp_frame b
  have htake : Prims sc b (takeMaxUp b) := by
    rw [heq]
    refine prims_load hl (fun h => ⟨hrange h, fun v hv => ?_⟩) hrestart hmode hstandby hfaults
    rw [show ({ b with cond := (takeMaxUp b).cond } : Block).cond.newMaxUp = none from hmax] at hv
    cases hv
  rw [adoption_eq]
  generalize takeMaxUp b = y at htake ⊢
  have hearth : (readyToAdopt y).sw = y.sw := (readyToAdopt_frame y .p1).2.2.1
  have heach := Prims.eachPanto_of (sc := sc) (f := adoptOne (chosenAt y)) (b := readyToAdopt y)
    (fun z => z.kept.earth = y.sw.earth)
    (fun p z hz => prims_adoptOne hl fun h => by
      rw [show z.sw.earth = y.sw.earth from hz]
      exact chosenAt_earth h)
    (fun p z hz => by rw [kept_adoptOne]; exact hz)
    (congrArg Switches.earth hearth)
  exact ((htake.trans (prims_readyToAdopt y)).trans heach).trans (prims_adoptionEnd hl _)

/-- What an adoption leaves of all four records while it judges them. -/
structure Adopting (y x : Block) : Prop where
  kept      : x.kept = y.kept
  held      : ∀ p, (x.lc p).held = (y.lc p).held
  search    : ∀ p, (x.lc p).heldSearch = (y.lc p).heldSearch
  commanded : ∀ p, (x.lc p).commanded ≤ (y.lc p).commanded

theorem Adopting.step (h : Adopting y x) (chosen : List Panto) (p : Panto) : Adopting y (adoptOne chosen p x) := by
  have each (q : Panto) : ((adoptOne chosen p x).lc q).held = (x.lc q).held ∧
      ((adoptOne chosen p x).lc q).heldSearch = (x.lc q).heldSearch ∧
      ((adoptOne chosen p x).lc q).commanded ≤ (x.lc q).commanded := by
    by_cases hq : q = p
    · obtain ⟨-, -, hheld, hsearch, hcom, -⟩ := adoptedAs_adoptOne chosen q x
      rw [← hq]
      exact ⟨hheld, hsearch, hcom⟩
    · rw [lc_adoptOne_ne hq]
      exact ⟨rfl, rfl, le_rfl⟩
  exact ⟨(kept_adoptOne chosen p x).trans h.kept, fun q => (each q).1.trans (h.held q),
    fun q => (each q).2.1.trans (h.search q), fun q => (each q).2.2.trans (h.commanded q)⟩

/-- What has come of one pantograph once it has been judged. -/
def Judged (chosen : List Panto) (y : Block) (p : Panto) (x : Block) : Prop :=
  ((x.lc p).state.raised = true → chosen.contains p = true) ∧
    ((x.lc p).state = .contact → ∃ z : Block, z.kept = y.kept ∧ (x.lc p).targetForce = some (targetForceOf z p)) ∧
    ((x.lc p).lowerPending = true → (x.lc p).state = .contact)

theorem adoptAll_facts (chosen : List Panto) (y : Block) :
    Adopting y (eachPanto (adoptOne chosen) y) ∧ ∀ p, Judged chosen y p (eachPanto (adoptOne chosen) y) := by
  refine eachPanto_settles_of (Q := Adopting y) (P := Judged chosen y) (fun p b h => h.step chosen p) (fun p b h => ?_)
    (fun p q b hpq h => ?_) ⟨rfl, fun _ => rfl, fun _ => rfl, fun _ => le_rfl⟩
  · obtain ⟨hup, hcon, -, -, -, hpend⟩ := adoptedAs_adoptOne chosen p b
    exact ⟨hup, fun hc => ⟨b, h.kept, hcon hc⟩, hpend⟩
  · unfold Judged
    rw [lc_adoptOne_ne hpq]
    exact h

theorem countP_le_of_mem {f : Panto → Bool} {l : List Panto} (h : ∀ p, f p = true → l.contains p = true) :
    countP f ≤ l.length := by
  unfold countP
  rw [List.countP_eq_length_filter]
  have hnodup : Panto.all.Nodup := by decide
  refine ((hnodup.filter f).subperm fun p hp => ?_).length_le
  exact List.contains_iff_mem.mp (h p (List.mem_filter.mp hp).2)

theorem moves_adoption (hw : b.cond.restart.isSome = true) (hl : b.cond.reloadPending = false) :
    Moves sc b (adoption b) := by
  obtain ⟨heq, hrestart, hreload, hmax, -, -, -, hcfg, hrange⟩ := takeMaxUp_frame b
  generalize hy : takeMaxUp b = y at *
  have hylc (p : Panto) : y.lc p = b.lc p := by rw [heq]; rfl
  have hyrole (p : Panto) : y.role p = b.role p := by rw [heq]; rfl
  obtain ⟨hadopting, hjudged⟩ := adoptAll_facts (chosenAt y) (readyToAdopt y)
  obtain ⟨hlift, hplan, hcond⟩ := adoptionEnd_frame (eachPanto (adoptOne (chosenAt y)) (readyToAdopt y))
  have hadoption := adoption_eq b
  rw [hy] at hadoption
  rw [← hadoption] at hlift hplan hcond
  generalize hx : eachPanto (adoptOne (chosenAt y)) (readyToAdopt y) = x at *
  have hkept : x.kept = (readyToAdopt y).kept := hadopting.kept
  have hxcfg : x.cond.cfg = y.cond.cfg :=
    (congrArg Kept.cfg hkept).trans (congrArg Cond.cfg (readyToAdopt_frame y .p1).2.1)
  have hxreload : x.cond.reloadPending = false :=
    ((congrArg Kept.reload hkept).trans (congrArg Cond.reloadPending (readyToAdopt_frame y .p1).2.1)).trans
      (hreload.trans hl)
  have hxmax : x.cond.newMaxUp = none :=
    ((congrArg Kept.newMaxUp hkept).trans (congrArg Cond.newMaxUp (readyToAdopt_frame y .p1).2.1)).trans hmax
  have hlc (p : Panto) : (adoption b).lc p = x.lc p := by rw [Block.lc, hlift, Block.lc]
  have hheld (p : Panto) : (x.lc p).held = (b.lc p).held := by
    rw [hadopting.held, (readyToAdopt_frame y p).2.2.2.1, hylc]
  have hsearch (p : Panto) : (x.lc p).heldSearch = (b.lc p).heldSearch := by
    rw [hadopting.search, (readyToAdopt_frame y p).2.2.2.2.1, hylc]
  have hdone : AdoptionLaw (adoption b) := fun _ => by
    rw [hcond]
    exact ⟨hxreload, hxmax⟩
  have hnat (i : Item) : (adoption b).nat i = y.nat i := by
    rw [Block.nat, hcond, Block.nat]
    exact congrArg (cfgNat · i) hxcfg
  have hpends (_ : PendContact b) : PendContact (adoption b) := by
    intro _ p hlow
    rw [hlc] at hlow ⊢
    exact (hjudged p).2.2 hlow
  refine .of (.load (prims_adoption trivial b) (fun h => by rw [h] at hw; cases hw) (fun _ ha => ?_) (fun hc hlim => ?_) hpends
    fun h => by rw [h.1] at hw; cases hw)
  · have free (p : Panto) : (b.lc p).held = .none := by
      by_contra hh
      rw [(ha.held p hh).2.2] at hw
      cases hw
    have hnone (p : Panto) : ((adoption b).lc p).held = .none := by rw [hlc, hheld, free]
    refine ⟨?_, fun p h => absurd (hnone p) h, fun p h => ?_, hdone⟩
    · rw [hnat]
      refine (countP_le_of_mem fun p hp => ?_).trans (chosenAt_length y)
      simp only [committed, hnone, bne_self_eq_false, Bool.and_false, Bool.or_false] at hp
      rw [hlc] at hp
      exact (hjudged p).1 hp
    · rw [hlc, hsearch] at h
      exact absurd (free p) (ha.search p h).1
  · have hpmax : y.nat .pmax = b.nat .pmax := by
      rw [Block.nat, cfgNat, hcfg .pmax (by decide), Block.nat, cfgNat]
    have hacfg : (adoption b).cond.cfg = y.cond.cfg := by rw [hcond]; exact hxcfg
    have hforce (hd : Head) : (forceItems y hd).least = (forceItems b hd).least ∧
        (forceItems y hd).most = (forceItems b hd).most := by
      have hsame (i : Item) (hi : i ≠ .maxUp) : y.nat i = b.nat i := by
        rw [Block.nat, cfgNat, hcfg i hi, Block.nat, cfgNat]
      cases hd
      case ac => exact ⟨hsame .forceMinAC (by decide), hsame .forceMaxAC (by decide)⟩
      case dc => exact ⟨hsame .forceMinDC (by decide), hsame .forceMaxDC (by decide)⟩
    have hordered (hd : Head) : (forceItems (adoption b) hd).least ≤ (forceItems (adoption b) hd).most := by
      rw [forceItems_congr hacfg, (hforce hd).1, (hforce hd).2]
      exact hlim.ordered hd
    refine ⟨fun p => ?_, fun _ p hcon => ?_, hordered, hdone⟩
    · rw [hlc, hnat]
      refine (hadopting.commanded p).trans ((readyToAdopt_frame y p).2.2.2.2.2 ?_)
      rw [hylc, hpmax]
      exact hlim.pressure p
    · rw [hlc] at hcon ⊢
      obtain ⟨z, hz, htarget⟩ := (hjudged p).2.1 hcon
      have hzcfg : z.cond.cfg = (adoption b).cond.cfg := by
        rw [hacfg, ← hxcfg]
        exact congrArg Kept.cfg (hz.trans hkept.symm)
      refine ⟨_, htarget, ?_⟩
      rw [← head_congr hzcfg, ← forceItems_congr hzcfg]
      refine targetForceOf_between (fun hd => ?_) p
      rw [forceItems_congr hzcfg]
      exact hordered hd

end Sys2Proof.Machine
end

section
/-!
The Section Queue: what each of its operations keeps of the law of R119, and the operations as runs of changes.
-/

namespace Sys2Proof.Machine

variable {sc : Scope} {b x y z : Block} {p : Panto}

/-! ## Removals and marks -/

theorem QueueLaw.sublist {q : Queue} {l : List Entry} (h : QueueLaw q) (hl : l.Sublist q.entries) :
    QueueLaw { q with entries := l } where
  length := hl.length_le.trans h.length
  ascending := h.ascending.sublist hl
  ids := h.ids.sublist hl
  apart := h.apart.sublist hl
  active := h.active.sublist hl

theorem prims_filterEntries (f : Entry → Bool) (b : Block) : Prims sc b (b.setEntries (b.queue.entries.filter f)) :=
  .of (.entries _ fun h => h.sublist List.filter_sublist)

/-- An entry becomes ACTIVE where no other is. -/
theorem QueueLaw.activate {q : Queue} (h : QueueLaw q) (id : Nat) (hw : ∀ e ∈ q.entries, e.active = false) :
    QueueLaw { q with entries := q.entries.map fun e => if e.id = id then { e with active := true, served := false } else e } where
  length := by simpa using h.length
  ascending := by
    rw [List.pairwise_map]
    refine h.ascending.imp fun {a c} hac => ?_
    split <;> split <;> exact hac
  ids := by
    rw [List.pairwise_map]
    refine h.ids.imp fun {a c} hac => ?_
    split <;> split <;> exact hac
  apart := by
    rw [List.pairwise_map]
    refine h.apart.imp fun {a c} hac => ?_
    split <;> split <;> exact hac
  active := by
    rw [List.pairwise_map]
    refine h.ids.imp_of_mem fun {a c} ha hc hac => ?_
    have hna := hw a ha
    have hnc := hw c hc
    split
    next hai =>
      split
      next hci => exact absurd (hai.trans hci.symm) hac
      next => simp [hnc]
    next => simp [hna]

theorem unservedActive_none (h : unservedActive b = none) : ∀ e ∈ b.queue.entries, e.active = true → e.served = true := by
  intro e he ha
  have := List.find?_eq_none.mp h e he
  simpa [ha] using this

/-- Where every ACTIVE entry is served, the removal of the served leaves none ACTIVE. -/
theorem dropServed_waiting (h : unservedActive b = none) : ∀ e ∈ (dropServed b).queue.entries, e.active = false := by
  intro e he
  obtain ⟨hmem, hkeep⟩ := List.mem_filter.mp he
  by_contra ha
  have hact : e.active = true := by simpa using ha
  simp [hact, unservedActive_none h e hmem hact] at hkeep

theorem prims_takeUp (h : unservedActive b = none) (id : Nat) : Prims sc b (activate id (dropServed b)) :=
  (prims_filterEntries _ b).add (.entries _ fun hq => hq.activate id (dropServed_waiting h))

/-! ## Insertion -/

theorem mem_insertEntry {e x : Entry} {l : List Entry} : x ∈ insertEntry e l ↔ x = e ∨ x ∈ l := by
  induction l with
  | nil => simp [insertEntry]
  | cons y l ih =>
    unfold insertEntry
    split
    · rw [List.mem_cons, ih, List.mem_cons]
      tauto
    · rw [List.mem_cons]

theorem length_insertEntry (e : Entry) (l : List Entry) : (insertEntry e l).length = l.length + 1 := by
  induction l with
  | nil => rfl
  | cons y l ih =>
    unfold insertEntry
    split
    · rw [List.length_cons, ih, List.length_cons]
    · rfl

/-- A symmetric relation that holds between the new entry and every other holds throughout after the insertion. -/
theorem pairwise_insertEntry {R : Entry → Entry → Prop} {e : Entry} {l : List Entry} (hl : l.Pairwise R)
    (hnew : ∀ x ∈ l, R x e ∧ R e x) : (insertEntry e l).Pairwise R := by
  induction l with
  | nil => simp [insertEntry]
  | cons y l ih =>
    obtain ⟨hy, hl⟩ := List.pairwise_cons.mp hl
    unfold insertEntry
    split
    · refine List.pairwise_cons.mpr ⟨fun x hx => ?_, ih hl fun x hx => hnew x (List.mem_cons_of_mem y hx)⟩
      rcases mem_insertEntry.mp hx with rfl | hx
      · exact (hnew y List.mem_cons_self).1
      · exact hy x hx
    · refine List.pairwise_cons.mpr ⟨fun x hx => (hnew x hx).2, List.pairwise_cons.mpr ⟨hy, hl⟩⟩

theorem ascending_insertEntry {e : Entry} {l : List Entry} (hl : l.Pairwise fun x y => x.start ≤ y.start) :
    (insertEntry e l).Pairwise fun x y => x.start ≤ y.start := by
  induction l with
  | nil => simp [insertEntry]
  | cons y l ih =>
    obtain ⟨hy, hl'⟩ := List.pairwise_cons.mp hl
    unfold insertEntry
    split
    next hle =>
      refine List.pairwise_cons.mpr ⟨fun x hx => ?_, ih hl'⟩
      rcases mem_insertEntry.mp hx with rfl | hx
      · exact hle
      · exact hy x hx
    next hlt =>
      refine List.pairwise_cons.mpr ⟨fun x hx => ?_, hl⟩
      rcases List.mem_cons.mp hx with rfl | hx
      · omega
      · have := hy x hx
        omega

/-- What an announcement that passes R118 has made sure of. -/
structure Admitted (m : Marker) (b : Block) : Prop where
  apart : m.kind ≠ .iceWatch → ∀ e ∈ b.queue.entries, e.id ≠ m.id → e.kind ≠ .iceWatch →
    overlap e.start e.stop m.start (m.start + m.length) = false
  room  : holdsId b m.id = false → 8 ≤ b.queue.entries.length → ∃ e ∈ b.queue.entries, e.active = false ∧ m.start < e.start
  late  : m.kind ≠ .iceWatch → m.start ≤ b.queue.position →
    b.cond.mode = .service ∧ b.seq.phase = .idle ∧ unservedActive b = none

theorem admitted_of_markerRefusal {m : Marker} (h : markerRefusal b m = none) : Admitted m b := by
  unfold markerRefusal at h
  extract_lets pos stop timed at h
  split at h
  next => cases h
  split at h
  next => cases h
  split at h
  next => cases h
  split at h
  next => cases h
  next hover =>
  split at h
  next => cases h
  next hlate =>
  split at h
  next => cases h
  next hfull =>
  refine ⟨fun hk e he hid hek => ?_, fun hid hlen => ?_, fun hk hstart => ?_⟩
  · by_contra ho
    refine hover ⟨by simp [timed, hk], List.any_eq_true.mpr ⟨e, he, ?_⟩⟩
    have hov : overlap e.start e.stop m.start (m.start + m.length) = true := by simpa using ho
    simp [hid, hek, stop, hov]
  · by_contra hno
    refine hfull ⟨hid, hlen, List.any_eq_false.mpr fun e he => ?_⟩
    intro hcond
    simp only [Bool.and_eq_true, Bool.not_eq_true', decide_eq_true_eq] at hcond
    exact hno ⟨e, he, hcond⟩
  · by_contra hno
    refine hlate ⟨by simp [timed, hk], hstart, fun hyes => hno ?_⟩
    obtain ⟨hmode, hphase, hnone⟩ := hyes
    exact ⟨hmode, hphase, by simpa using hnone⟩

/-- The entries that stand beside the new one. -/
def besides (m : Marker) (b : Block) : List Entry :=
  b.queue.entries.filter fun e => e.id != m.id && some e.id != evictedBy b m

theorem mem_besides {m : Marker} {e : Entry} (h : e ∈ besides m b) : e ∈ b.queue.entries ∧ e.id ≠ m.id := by
  obtain ⟨hmem, hkeep⟩ := List.mem_filter.mp h
  simp only [Bool.and_eq_true, bne_iff_ne, ne_eq] at hkeep
  exact ⟨hmem, hkeep.1⟩

theorem filter_length_lt {l : List Entry} {f : Entry → Bool} {e : Entry} (he : e ∈ l) (hf : f e = false) :
    (l.filter f).length < l.length :=
  List.length_filter_lt_length_iff_exists.mpr ⟨e, he, by simp [hf]⟩

theorem besides_length {m : Marker} (ha : Admitted m b) (hq : b.queue.entries.length ≤ 8) : (besides m b).length < 8 := by
  by_cases hid : holdsId b m.id = true
  · obtain ⟨e, he, hem⟩ := List.any_eq_true.mp hid
    have hlt := filter_length_lt (f := fun e => e.id != m.id && some e.id != evictedBy b m) he (by simp_all)
    exact hlt.trans_le hq
  · have hno : holdsId b m.id = false := by simpa using hid
    by_cases hlen : 8 ≤ b.queue.entries.length
    · obtain ⟨e, he, hwait, -⟩ := ha.room hno hlen
      have hsome : (b.queue.entries.reverse.find? fun e => !e.active).isSome = true :=
        List.find?_isSome.mpr ⟨e, List.mem_reverse.mpr he, by simp [hwait]⟩
      obtain ⟨v, hv⟩ := Option.isSome_iff_exists.mp hsome
      have hmem : v ∈ b.queue.entries := List.mem_reverse.mp (List.mem_of_find?_eq_some hv)
      have hev : evictedBy b m = some v.id := by
        unfold evictedBy
        rw [if_pos ⟨hno, hlen⟩, hv]
        rfl
      have hlt := filter_length_lt (f := fun e => e.id != m.id && some e.id != evictedBy b m) hmem (by simp [hev])
      exact hlt.trans_le hq
    · exact (List.length_filter_le _ _).trans_lt (by omega)

theorem overlap_comm (a c d e : Nat) : overlap a c d e = overlap d e a c := Bool.and_comm _ _

theorem QueueLaw.insert {m : Marker} (ha : Admitted m b) (h : QueueLaw b.queue) :
    QueueLaw { b.queue with entries := insertEntry (entryOf m) (besides m b) } := by
  have hsub : (besides m b).Sublist b.queue.entries := List.filter_sublist
  refine ⟨?_, ascending_insertEntry (h.ascending.sublist hsub), ?_, ?_, ?_⟩
  · change (insertEntry (entryOf m) (besides m b)).length ≤ 8
    rw [length_insertEntry]
    exact besides_length ha h.length
  · exact pairwise_insertEntry (h.ids.sublist hsub) fun x hx => ⟨(mem_besides hx).2, (mem_besides hx).2.symm⟩
  · refine pairwise_insertEntry (h.apart.sublist hsub) fun x hx => ?_
    obtain ⟨hmem, hid⟩ := mem_besides hx
    refine ⟨fun hxk hmk => ha.apart hmk x hmem hid hxk, fun hmk hxk => ?_⟩
    rw [overlap_comm]
    exact ha.apart hmk x hmem hid hxk
  · exact pairwise_insertEntry (h.active.sublist hsub) fun x _ => ⟨by simp [entryOf], by simp [entryOf]⟩

end Sys2Proof.Machine
end

section
/-!
The Section Queue's requests as moves: Motion Reports with the removal pass and activation, announcements, withdrawals.
-/

namespace Sys2Proof.Machine

variable {sc : Scope} {b x y z : Block} {p : Panto}

theorem Moves.prims (h : Moves sc b x) (h' : Prims sc.still x y) : Moves sc b y := h.trans h'.moves

/-! ## Entries offered to the Sequencer -/

theorem moves_takeLate (e : Entry) (hm : b.cond.mode = .service) (hp : b.seq.phase = .idle)
    (hu : unservedActive b = none) : Moves sc b (takeLate e b) := by
  unfold takeLate
  refine ((prims_takeUp hu e.id).trans (prims_recordFault _ _ _)).moves.trans (moves_offerEntry _ _ ?_ hp)
  exact awake_of_mode (by change b.cond.mode ≠ _; simp [hm])

theorem moves_takeArmed (e : Entry) (hm : b.cond.mode = .service) (hp : b.seq.phase = .idle)
    (hu : unservedActive b = none) : Moves sc b (takeArmed e b) := by
  unfold takeArmed
  refine (prims_takeUp hu e.id).moves.trans (moves_offerEntry _ _ ?_ hp)
  exact awake_of_mode (by change b.cond.mode ≠ _; simp [hm])

theorem moves_activation (b : Block) : Moves sc b (activation b) := by
  unfold activation
  split
  next hready =>
    obtain ⟨hm, hp⟩ := hready
    have hawake : Awake b := awake_of_mode (by simp [hm])
    split
    next e he =>
      split
      · exact moves_offerEntry _ _ hawake hp
      · split
        · exact moves_offerEntry _ _ hawake hp
        · exact Moves.refl _ _
    next hu =>
      split
      next => exact Moves.refl _ _
      next e he =>
        split
        · exact moves_takeLate e hm hp hu
        · split
          · exact moves_takeArmed e hm hp hu
          · exact Moves.refl _ _
  next => exact Moves.refl _ _

/-! ## Motion Reports -/

theorem prims_recordMissed (l : List Entry) (b : Block) : Prims sc b (recordMissed l b) := by
  induction l generalizing b with
  | nil => exact Prims.refl _ _
  | cons e l ih => exact (prims_recordFault _ _ _).trans (ih _)

theorem prims_removalPass (b : Block) : Prims sc b (removalPass b) :=
  (prims_filterEntries _ b).trans (prims_recordMissed _ _)

theorem prims_reverseRoute (b : Block) : Prims sc b (reverseRoute b) :=
  (Prims.of (.entries [] fun h => h.sublist (List.nil_sublist _))).trans (prims_halt _ _)

theorem prims_leaveArmed (hp : b.seq.phase = .armed) : Prims sc b (leaveArmed b) := by
  unfold leaveArmed
  split
  · refine Prims.trans (.of (prim_seq_rests
      (q := { b.seq with phase := .idle, path := none, activeEntry := none }) (.inl (by simp)) ?_ ?_))
      (prims_serveEntry _ _)
    · simp [hp]
    · simp
  · exact prims_enterTractionOff (awake_of_phase (by simp [hp])) (by simp [hp]) (by simp [hp])

theorem prims_motionExits (before : Phase) (b : Block) : Prims sc b (motionExits before b) := by
  unfold motionExits
  split
  next => exact Prims.refl _ _
  next hsame =>
    have hphase : b.seq.phase = before := by simpa using hsame
    split
    next harmed => exact prims_leaveArmed (hphase.trans harmed)
    next =>
      split
      next hoff =>
        have hp : b.seq.phase = .tractionOff := hphase.trans hoff.1
        exact prims_enterBreakerOpen (awake_of_phase (by simp [hp])) (by simp [hp]) (by simp [hp])
      next => exact Prims.refl _ _

theorem prims_speedAbort (b : Block) : Prims sc b (speedAbort b) := by
  unfold speedAbort
  split
  · exact prims_abortSearches b
  · exact Prims.refl _ _

theorem moves_acceptMotion (he : sc.estimates) (position speed : Nat) (direction : Direction) (b : Block) :
    Moves sc b (acceptMotion position speed direction b) := by
  unfold acceptMotion
  dsimp only
  have hheld : Prims sc.still b (if directionChange b direction = true then
      reverseRoute (holdMotion position speed direction b) else holdMotion position speed direction b) := by
    have hhold : Prims sc.still b (holdMotion position speed direction b) := .of (.motion _ rfl)
    split
    · exact hhold.trans (prims_reverseRoute _)
    · exact hhold
  have hact := (hheld.trans (prims_removalPass _)).moves.trans (moves_activation _)
  refine hact.prims ((prims_speedAbort _).trans ((prims_motionExits _ _).trans (prims_handOver (sc := sc.still) he _)))

/-! ## Announce Marker -/

theorem unservedActive_insert {m : Marker} (h : unservedActive b = none) (y : Block)
    (hy : y.queue.entries = insertEntry (entryOf m) (besides m b)) : unservedActive y = none := by
  refine List.find?_eq_none.mpr fun e he => ?_
  rw [hy, mem_insertEntry] at he
  rcases he with rfl | he
  · simp [entryOf]
  · have := unservedActive_none h e (mem_besides he).1
    cases ha : e.active <;> simp_all

theorem moves_insertMarker (he : sc.estimates) {m : Marker} (h : markerRefusal b m = none) :
    Moves sc b (insertMarker m b) := by
  have hadm := admitted_of_markerRefusal h
  unfold insertMarker
  dsimp only
  have hin : Prims sc.still b (handOver (report 9 (b.setEntries (insertEntry (entryOf m) (besides m b))))) :=
    (Prims.of (.entries _ fun hq => hq.insert hadm)).trans
      ((prims_report _ _).trans (prims_handOver (sc := sc.still) he _))
  split
  next hlate =>
    obtain ⟨hm, hp, hu⟩ := hadm.late hlate.1 hlate.2
    refine hin.moves.trans (moves_takeLate _ ?_ ?_ ?_)
    · exact hm
    · exact hp
    · exact unservedActive_insert hu _ rfl
  next => exact hin.moves

/-! ## Withdraw Marker -/

theorem prims_removeId (id : Nat) (b : Block) : Prims sc b (removeId id b) := prims_filterEntries _ b

theorem prims_endByWithdrawal (hp : b.seq.phase ≠ .halted) : Prims sc b (endByWithdrawal b) := by
  unfold endByWithdrawal
  refine Prims.trans (.of (prim_seq_rests
    (q := { b.seq with phase := .idle, path := none, activeEntry := none, work := .none, timer := none })
    (.inl (by simp)) (fun h => absurd h hp) (by simp))) ?_
  exact (prims_setTractionOff _ _).trans (prims_setPreheat _ _)

theorem prims_withdraw (id : Nat) (b : Block) : Prims sc b (withdraw id b).1 := by
  unfold withdraw
  split
  · exact Prims.refl _ _
  · split
    · exact prims_removeId id b
    · split
      next => exact prims_removeId id b
      next => exact prims_removeId id b
      next hp => exact (prims_removeId id b).trans (prims_endByWithdrawal (by change b.seq.phase ≠ _; simp [hp]))
      next hp => exact (prims_removeId id b).trans (prims_endByWithdrawal (by change b.seq.phase ≠ _; simp [hp]))
      next => exact Prims.refl _ _

end Sys2Proof.Machine
end

section
/-!
What each event does before the blocks answer one another, as moves.
-/

namespace Sys2Proof.Machine

variable {sc : Scope} {b x y z : Block} {p : Panto}

/-! ## The passing of time -/

/-- The timers of the Switch Unit advance: each switch stays in its state. -/
theorem prims_tickSwitches (ms : Nat) (b : Block) : Prims sc b { b with sw := b.sw.tick ms } := by
  have breaker (x : Block) : Prim sc x (x.setBreaker (x.sw.breaker.tick (switchTimeout .breaker) ms)) :=
    .breaker _ .inl .inl
  have iso (p : Panto) (x : Block) : Prim sc x (x.setIso p ((x.sw.iso.get p).tick (switchTimeout (.iso p)) ms)) :=
    .iso p _ .inl
  have earth (x : Block) : Prim sc x (x.setEarth (x.sw.earth.tick (switchTimeout .earth) ms)) :=
    .earth _ fun h hne => absurd h hne
  have hall := ((((((Prims.of (breaker b)).add (.selector (b.sw.selector.tick (switchTimeout .selector) ms))).add
    (iso .p1 _)).add (iso .p2 _)).add (iso .p3 _)).add (iso .p4 _)).add (earth _)
  simpa only [Block.setBreaker, Block.setSelector, Block.setIso, Block.setEarth, Switches.tick, PerP.set, PerP.ofFun,
    PerP.get] using hall

/-- The ages of the links advance. -/
theorem prims_tickLinks (ms : Nat) (b : Block) :
    Prims sc b { b with links := ⟨b.links.a.tick ms, b.links.b.tick ms, b.links.p.tick ms⟩ } := by
  have heq : { b with links := ⟨b.links.a.tick ms, b.links.b.tick ms, b.links.p.tick ms⟩ } =
      setLink .p (b.links.p.tick ms) (setLink .b (b.links.b.tick ms) (setLink .a (b.links.a.tick ms) b)) := rfl
  have step (l : Link) (x : Block) : Prim sc x (setLink l ((x.links.get l).tick ms) x) :=
    .link l _ id (.inr fun _ => id)
  rw [heq]
  exact ((Prims.of (step .a b)).add (step .b _)).add (step .p _)

theorem prims_passTime (ms : Nat) (b : Block) : Prims sc b (passTime ms b) := by
  have hlift := prims_liftAll (sc := sc) (b := b) (g := fun p => (b.lc p).tick ms)
    (fun _ => ⟨rfl, rfl, rfl, rfl, id⟩) fun _ _ h => h
  refine hlift.trans ((prims_tickSwitches ms _).trans ?_)
  refine Prims.trans (.of (.motion { b.queue with motionAge := satAdd 65535 b.queue.motionAge ms } rfl)) ?_
  refine Prims.trans (.of (prim_seq_same (q := { b.seq with timer := Machine.tick 65535 ms b.seq.timer }) rfl rfl)) ?_
  refine Prims.trans (.of (prim_cond (c := { b.cond with
    modeTimer := satAdd 65535 b.cond.modeTimer ms, testStep := b.cond.testStep.tick ms })
    rfl rfl rfl rfl rfl rfl id)) ?_
  exact prims_tickLinks ms _

/-! ## The scan -/

theorem prims_faultOf (v : Option Int) (c : Chan) (k : Subject) (b : Block) : Prims sc b (faultOf v c k b) := by
  unfold faultOf
  split
  · exact prims_recordFault _ _ _
  · exact Prims.refl _ _

theorem prims_publish (hs : sc.senses) (r : Readings) (b : Block) : Prims sc b (publish r b) := by
  unfold publish
  dsimp only
  have each (v : Panto → Option Int) (c : Panto → Chan) (x : Block) :
      Prims sc x (eachPanto (fun p => faultOf (v p) (c p) (.panto p)) x) := .eachPanto (fun _ => prims_faultOf _ _ _) x
  exact (((((Prims.of (.sensors (b.sensors.take r) hs)).trans (each _ _ _)).trans (each _ _ _)).trans (each _ _ _)).trans
    (prims_faultOf _ _ _ _)).trans (prims_faultOf _ _ _ _)

theorem prims_judgeSensors (b : Block) : Prims sc b (judgeSensors b) := by
  unfold judgeSensors
  split
  · exact prims_setTest _ _
  · exact Prims.refl _ _

theorem prims_judgeStrips (b : Block) : Prims sc b (judgeStrips b) := by
  have hfail (p : Panto) : Prims sc b (valvesFrom (Panto.after p) (setStrips p .fail (dropInTest p b))) :=
    (prims_dropInTest p b).trans ((prims_setStrips _ _ _).trans (prims_valvesFrom _ _))
  unfold judgeStrips
  split
  · split
    · split
      · exact (prims_setStrips _ _ _).trans (prims_valvesFrom _ _)
      · exact hfail _
    · exact hfail _
  · exact Prims.refl _ _

theorem prims_judgeTest (b : Block) : Prims sc b (judgeTest b) := by
  unfold judgeTest
  split
  · exact (prims_judgeSensors b).trans (prims_judgeStrips _)
  · exact Prims.refl _ _

theorem moves_liftPart (hg : sc.grants) (b : Block) : Moves sc b (liftPart b) := by
  unfold liftPart
  split
  next hw =>
    split
    next => exact Moves.refl _ _
    next hl => exact moves_adoption hw (by simpa using hl)
  next hw =>
    have hr : b.cond.restart = none := restart_of_adopted (by simpa using hw)
    have h1 := moves_liftScan hg hr .p1
    have h2 := moves_liftScan (sc := sc) hg (h1.awake hr) .p2
    have h3 := moves_liftScan (sc := sc) hg (h2.awake (h1.awake hr)) .p3
    have h4 := moves_liftScan (sc := sc) hg (h3.awake (h2.awake (h1.awake hr))) .p4
    exact ((h1.trans h2).trans h3).trans h4

theorem moves_scan (hg : sc.grants) (hs : sc.senses) (r : Readings) (b : Block) : Moves sc b (scan r b) :=
  (((prims_passTime _ b).trans (prims_publish (sc := sc.still) hs r _)).moves.trans (moves_liftPart hg _)).prims (prims_judgeTest _)

/-! ## Presence and modes -/

theorem prims_presenceTimeout (l : Link) (b : Block) : Prims sc b (presenceTimeout l b) := by
  unfold presenceTimeout
  split
  · exact .of (.lose l)
  · exact Prims.refl _ _

theorem prims_enterWaking (ret : Mode) (b : Block) : Prims sc b (enterWaking ret b) :=
  .of (prim_mode rfl rfl rfl rfl rfl (.inr ⟨rfl, rfl⟩))

theorem prims_heldWakeDue (b : Block) : Prims sc b (heldWakeDue b) := by
  unfold heldWakeDue
  split
  · exact prims_enterWaking _ b
  · exact Prims.refl _ _

theorem prims_reachModeTime (n : Nat) (b : Block) : Prims sc b (reachModeTime n b) :=
  .of (prim_cond rfl rfl rfl rfl rfl rfl id)

theorem prims_valvesStart (b : Block) : Prims sc b (valvesStart b) := by
  unfold valvesStart
  split
  · exact (prims_reachModeTime _ _).trans (prims_valvesFrom _ _)
  · exact Prims.refl _ _

theorem prims_judgeValve (p : Panto) (b : Block) : Prims sc b (judgeValve p b) := by
  unfold judgeValve
  dsimp only
  have hlift : Prims sc b (b.setLift p { b.lc p with commanded := 0 }) :=
    prims_setLift_same rfl rfl rfl (Nat.zero_le _) rfl rfl
  have hzero := hlift.trans (prims_setTestStep (.strips p) _)
  split
  · exact hzero.trans (prims_setValves _ _ _)
  · exact (hzero.trans (prims_failValve p _)).trans (prims_setValves _ _ _)

theorem prims_valvesCheck (b : Block) : Prims sc b (valvesCheck b) := by
  unfold valvesCheck
  split
  · exact prims_judgeValve _ b
  · exact Prims.refl _ _

theorem prims_onceAdopted {f : Block → Block} (h : b.cond.restart = none → Prims sc b (f b)) :
    Prims sc b (onceAdopted f b) := by
  unfold onceAdopted
  split
  next => exact Prims.refl _ _
  next hw => exact h (restart_of_adopted (by simpa using hw))

theorem prims_endOfWaking (b : Block) : Prims sc b (endOfWaking b) := by
  unfold endOfWaking
  split
  · exact (prims_reachModeTime _ b).trans (prims_onceAdopted fun hr => prims_completeWaking hr)
  · exact Prims.refl _ _

theorem prims_selfTestTimeout (b : Block) : Prims sc b (selfTestTimeout b) := by
  unfold selfTestTimeout
  split
  · exact (prims_reachModeTime _ b).trans (prims_onceAdopted fun hr => prims_timeoutWaking hr)
  · exact Prims.refl _ _

/-! ## Timers of the Lift Controllers -/

/-- A raise held for one reason comes to be held for another. -/
theorem prims_reheld {l : Lift} (hstate : l.state = (b.lc p).state) (hheld : (b.lc p).held ≠ .none ∧ l.held ≠ .none)
    (hsearch : l.heldSearch = (b.lc p).heldSearch) (hpressure : l.commanded = (b.lc p).commanded)
    (hforce : l.targetForce = (b.lc p).targetForce) (hpend : l.lowerPending = (b.lc p).lowerPending) :
    Prims sc b (b.setLift p l) := by
  refine .of (.lift p l {
    raised := fun h => .inl (hstate ▸ h)
    pressure := fun _ h => hpressure.trans_le h
    force := fun h => .inl ⟨hstate ▸ h, hforce⟩
    pending := fun h => .inl ⟨hpend ▸ h, fun hc => hstate.trans hc⟩
    air := .inr fun _ ha => ?_ })
  obtain ⟨hrole, hrest, hawake⟩ := ha.held p hheld.1
  refine ⟨fun _ => .inl ?_, fun _ => ⟨hrole, hstate ▸ hrest, hawake⟩, fun hs => ⟨hheld.2, ?_⟩⟩
  · simp [committed, hrole, hheld.1]
  · rw [hsearch] at hs
    exact (ha.search p hs).2

theorem prims_dwellExpiry (p : Panto) (b : Block) : Prims sc b (dwellExpiry p b) := by
  unfold dwellExpiry
  split
  next => exact Prims.refl _ _
  next =>
    dsimp only
    have hend : Prims sc b (b.setLift p { b.lc p with dwellTimer := none }) :=
      prims_setLift_same rfl rfl rfl le_rfl rfl rfl
    split
    next hdue =>
      obtain ⟨hs, hh⟩ := hdue
      split
      · exact hend.trans (prims_heldDue hs (by rw [hh]; decide))
      · exact hend.trans (prims_reheld rfl ⟨by rw [hh]; decide, by simp⟩ rfl rfl rfl rfl)
    next => exact hend

theorem prims_airHoldExpiry (p : Panto) (b : Block) : Prims sc b (airHoldExpiry p b) := by
  unfold airHoldExpiry
  split
  · exact (prims_recordFault _ _ _).trans (prims_discardHeld _ _)
  · exact Prims.refl _ _

theorem prims_lowerTimeout (p : Panto) (b : Block) : Prims sc b (lowerTimeout p b) := by
  unfold lowerTimeout
  split
  · dsimp only
    have hlift : Prims sc b (b.setLift p { b.lc p with commanded := 0, quickVent := true, lowerOverdue := true }) :=
      prims_setLift_same rfl rfl rfl (Nat.zero_le _) rfl rfl
    have hvent := hlift.trans (prims_recordFault .lowerTimeout (.panto p) _)
    split
    · exact hvent.trans (prims_halt _ _)
    · exact hvent
  · exact Prims.refl _ _

theorem moves_automaticDrop (hg : sc.grants) (p : Panto) (b : Block) : Moves sc b (onceAdopted (dropIfRaised p) b) := by
  unfold onceAdopted
  split
  next => exact Moves.refl _ _
  next hw => exact moves_dropIfRaised hg (restart_of_adopted (by simpa using hw)) p

/-! ## Waits of the changeover -/

theorem prims_tractionOffExpiry (b : Block) : Prims sc b (tractionOffExpiry b) := by
  unfold tractionOffExpiry
  split
  next hp =>
    exact (prims_recordFault _ _ _).trans
      (prims_enterBreakerOpen (awake_of_phase (by simp [hp])) (by simp [hp]) (by simp [hp]))
  next => exact Prims.refl _ _

theorem prims_haltIf (c : Prop) [Decidable c] (r : HaltReason) (b : Block) : Prims sc b (if c then halt r b else b) := by
  split
  · exact prims_halt _ _
  · exact Prims.refl _ _

theorem prims_positionLost (b : Block) : Prims sc b (positionLost b) := by
  have hage : Prims sc b (reachMotionAge 5000 b) := .of (.motion _ rfl)
  unfold positionLost
  dsimp only
  split
  · exact hage.trans (prims_halt _ _)
  · exact hage.trans (prims_halt _ _)
  · exact hage

/-! ## Readings and timeouts of the switches -/

theorem TwoSw.settle_closing {isBreaker : Bool} {r : TwoPattern} {w : TwoSw}
    (h : (w.settle isBreaker r).1.state = .closing) : w.state = .closing := by
  unfold TwoSw.settle at h
  dsimp only at h
  cases hs : w.state
  case closing => rfl
  case failed => simp only [hs, reduceCtorEq] at h
  case opened =>
    simp only [hs] at h
    split at h <;> simp only [reduceCtorEq] at h
  case closed =>
    simp only [hs] at h
    split at h
    · simp only [reduceCtorEq] at h
    · split at h <;> simp only [TwoSw.fail, reduceCtorEq] at h
  case opening =>
    simp only [hs] at h
    split at h
    · cases hc : w.lastCmd <;> simp [hc, TwoPos.atRest] at h
    · split at h <;> simp only [TwoSw.fail, reduceCtorEq] at h

theorem TwoSw.settle_opened {r : TwoPattern} {w : TwoSw} (isBreaker : Bool) (h : w.state = .opened) :
    (w.settle isBreaker r).1.state = .opened := by
  unfold TwoSw.settle
  simp only [h]
  split <;> rfl

theorem prims_breakerRead (hr : sc.reads) {w : TwoSw} (h : w.state = .closing → b.sw.breaker.state = .closing) :
    Prims sc b (b.setBreaker w) :=
  .of (.breaker w (fun hc => .inl (h hc)) fun _ => .inr hr)

theorem prims_takeReading (hr : sc.reads) (r : SettledReading) (b : Block) : Prims sc b (takeReading r b) := by
  unfold takeReading
  split
  · exact (prims_breakerRead hr TwoSw.settle_closing).trans (prims_failureIf _ _ _)
  · exact (Prims.of (.selector _)).trans (prims_failureIf _ _ _)
  · exact (Prims.of (.iso _ _ fun h => .inl (TwoSw.settle_opened false h))).trans (prims_failureIf _ _ _)
  · exact (Prims.of (.earth _ fun h hne => absurd (TwoSw.settle_opened false h) hne)).trans (prims_failureIf _ _ _)

theorem prims_takeTimeout (hr : sc.reads) (w : SwId) (b : Block) : Prims sc b (takeTimeout w b) := by
  unfold takeTimeout
  split
  · split
    · exact (prims_breakerRead hr (by simp [TwoSw.fail])).trans (prims_recordFault _ _ _)
    · exact Prims.refl _ _
  · split
    · exact (Prims.of (.selector _)).trans (prims_recordFault _ _ _)
    · exact Prims.refl _ _
  · split
    next ht => exact (Prims.of (.iso _ _ fun h => by simp [h, TwoState.travelling] at ht)).trans (prims_recordFault _ _ _)
    next => exact Prims.refl _ _
  · split
    next ht => exact (Prims.of (.earth _ fun h => by simp [h, TwoState.travelling] at ht)).trans (prims_recordFault _ _ _)
    next => exact Prims.refl _ _

theorem prims_haltIfLeft (s b : Block) : Prims sc b (haltIfLeft s b) := prims_haltIf _ _ _

/-! ## Arcs and the memory port -/

theorem prims_makeArc (he : sc.estimates) (p : Panto) (us : Nat) (counted : Bool) (b : Block) :
    Prims sc b (makeArc p us counted b) := by
  have henter : Prim sc b (enterArc p us counted b) := .ice _ (.inl rfl) (.inl rfl)
  exact (Prims.of henter).trans (prims_evaluateScore he _ _)

theorem prims_setCapture (p : Panto) (c : Capture) (b : Block) : Prims sc b (b.setCapture p c) :=
  .of (.ice _ (.inl rfl) (.inl rfl))

theorem prims_arcEnd (he : sc.estimates) (p : Panto) (us : Nat) (b : Block) : Prims sc b (arcEnd p us b) := by
  unfold arcEnd
  dsimp only
  split
  · split
    · exact (prims_setCapture _ _ b).trans (prims_makeArc he _ _ _ _)
    · exact prims_setCapture _ _ b
  · exact prims_setCapture _ _ b
  · exact prims_setCapture _ _ b
  · exact Prims.refl _ _

theorem prims_arcExpiry (he : sc.estimates) (p : Panto) (b : Block) : Prims sc b (arcExpiry p b) := by
  unfold arcExpiry
  dsimp only
  split
  · exact (prims_setCapture _ _ b).trans (prims_makeArc he _ _ _ _)
  all_goals exact Prims.refl _ _

theorem prims_nextWrite (b : Block) : Prims sc b (nextWrite b) := by
  unfold nextWrite
  split
  · exact .of (.mem _)
  · exact (Prims.of (.mem _)).trans (prims_beginWrite _ _)

theorem prims_entryWritten (p : Panto) (f : CalFields) (r : EntryReadBack) (b : Block) :
    Prims sc b (entryWritten p f r b) := by
  unfold entryWritten
  split
  · refine Prims.trans (.of (.mem _)) (?_ : Prims sc (setStored p (some f) b) _)
    unfold saveEntry
    split
    · exact .of (.cal _)
    · exact Prims.refl _ _
  · exact Prims.refl _ _
  · exact .of (.mem _)

theorem moves_entryWriteDone (r : EntryReadBack) (b : Block) : Moves sc b (entryWriteDone r b) := by
  unfold entryWriteDone
  split
  · exact ((prims_entryWritten _ _ r b).trans (prims_nextWrite _)).moves.trans (moves_reloadIfIdle _)
  · exact Moves.refl _ _

theorem prims_storeWritten (c : CfgRec) (ok : Bool) (b : Block) : Prims sc b (storeWritten c ok b) := by
  cases ok
  case false =>
    exact (Prims.of (.mem { b.mem with image := { b.mem.image with config := none } })).add
      (prim_cond (c := { b.cond with configGood := false, configSaved := false }) rfl rfl rfl rfl rfl rfl id)
  case true =>
    exact (Prims.of (.mem { b.mem with image := { b.mem.image with config := some c } })).add
      (prim_cond (c := { b.cond with configGood := true, configSaved := !b.mem.storeDirty }) rfl rfl rfl rfl rfl rfl id)

theorem moves_storeDone (ok : Bool) (b : Block) : Moves sc b (storeDone ok b) := by
  unfold storeDone
  split
  · exact ((prims_storeWritten _ ok b).trans (prims_nextWrite _)).moves.trans (moves_reloadIfIdle _)
  · exact Moves.refl _ _

/-! ## Every event -/

/-- What every event does to the block is a run of moves. -/
theorem moves_eventOf (hg : sc.grants) (hr : sc.reads) (he : sc.estimates) {s : Block} {c : Instr} {judge : Bool}
    {f : Block → Block} (h : eventOf s c = some (judge, f)) (hst : (∃ i, c = .samplePair i ∨ c = .windowClose i) → sc.stands)
    (hsc : (∃ r, c = .scanComplete r) → sc.senses) (b : Block) : Moves sc b (f b) := by
  cases c
  case samplePair i | windowClose i =>
    simp only [eventOf] at h
    split at h
    · cases h
      exact (prims_takeSlot i b).moves.trans (moves_closeWindow (hst ⟨i, by simp⟩) _)
    · cases h
  all_goals cases h
  case heldWakeDue => exact (prims_heldWakeDue b).moves
  case linkPresenceTimeout l => exact (prims_presenceTimeout l b).moves
  case scanComplete r => exact moves_scan hg (hsc ⟨r, rfl⟩) r b
  case selfTestValvesStart => exact (prims_valvesStart b).moves
  case selfTestValvesCheck => exact (prims_valvesCheck b).moves
  case endOfWaking => exact (prims_endOfWaking b).moves
  case selfTestTimeout => exact (prims_selfTestTimeout b).moves
  case dwellExpiry p => exact (prims_onceAdopted fun _ => prims_dwellExpiry p b).moves
  case airHoldExpiry p => exact (prims_onceAdopted fun _ => prims_airHoldExpiry p b).moves
  case raiseTimeout p => exact (prims_onceAdopted fun _ => prims_raiseTimeout p b).moves
  case lowerTimeout p => exact (prims_onceAdopted fun _ => prims_lowerTimeout p b).moves
  case servoDeviation p => exact (prims_onceAdopted fun _ => prims_servoDeviation p b).moves
  case automaticDrop p => exact moves_automaticDrop hg p b
  case tractionOffWaitExpiry => exact (prims_tractionOffExpiry b).moves
  case confirmWaitExpiry => exact (prims_haltIf _ _ b).moves
  case readyWaitExpiry => exact (prims_haltIf _ _ b).moves
  case settledReading r => exact ((prims_takeReading (sc := sc.still) hr r b).trans (prims_haltIfLeft b _)).moves
  case switchOperationTimeout w => exact ((prims_takeTimeout (sc := sc.still) hr w b).trans (prims_haltIfLeft b _)).moves
  case positionLost => exact (prims_positionLost b).moves
  case arcPulseEnd p us => exact (prims_arcEnd (sc := sc.still) he p us b).moves
  case arcPulseTimerExpiry p => exact (prims_arcExpiry (sc := sc.still) he p b).moves
  case calibrationEntryWriteDone r => exact moves_entryWriteDone r b
  case configurationStoreDone ok => exact moves_storeDone ok b

end Sys2Proof.Machine
end

section
/-!
What the owner of each request does, as moves.
-/

namespace Sys2Proof.Machine

variable {sc : Scope} {b x y z : Block} {p : Panto}

theorem moves_answerOf {r : Block × ReplyOutcome} (h : Moves sc b r.1) : Moves sc b (answerOf r).block := h

theorem moves_answerUnless {early : Option ReplyOutcome} {f : Block → Block × ReplyOutcome} (h : Moves sc b (f b).1) :
    Moves sc b (answerUnless early f b).block := by
  unfold answerUnless
  split
  · exact Moves.refl _ _
  · exact h

theorem moves_inWorkshop {f : Block → Answer} (h : Moves sc b (f b).block) : Moves sc b (inWorkshop f b).block := by
  unfold inWorkshop
  split
  · exact h
  · exact Moves.refl _ _

/-! ## Lead, modes and readiness -/

theorem masterOf_injective {l l' : Link} {m : Master} (h : masterOf l = some m) (h' : masterOf l' = some m) : l = l' := by
  revert h h'
  cases m <;> cases l <;> cases l' <;> decide

theorem prims_claimLead {l : Link} (hp : (b.links.get l).present = true) : Prims sc b (claimLead l b).block := by
  unfold claimLead
  split
  next m hm _ =>
    refine .of (.lead (some m) fun _ l' _ hl' => ?_)
    rwa [masterOf_injective hl' hm]
  next =>
    split
    · exact Prims.refl _ _
    · exact Prims.refl _ _
  next => exact Prims.refl _ _

theorem prims_releaseLead (l : Link) (b : Block) : Prims sc b (releaseLead l b).block := by
  unfold releaseLead
  split
  · refine .of (.lead none fun _ l' hs hl' => ?_)
    have hnone : masterOf l' = none := hl'
    simp [hnone] at hs
  · exact Prims.refl _ _

theorem prims_fromStandby (m : Mode) (ha : Awake b) : Prims sc b (fromStandby m b).block := by
  unfold fromStandby
  split
  · exact Prims.refl _ _
  · split
    · exact prims_setMode _ ha
    · exact Prims.refl _ _
  · exact prims_setMode _ ha
  · split
    · exact Prims.refl _ _
    · split
      · exact prims_setMode _ ha
      · exact Prims.refl _ _
  · exact Prims.refl _ _

theorem fromService_block (m : Mode) (b : Block) :
    (fromService m b).block = b ∨ (fromService m b).block = beginStandbyLowering b := by
  unfold fromService
  split
  · split
    · exact .inl rfl
    · exact .inr rfl
  all_goals split <;> exact .inl rfl

theorem prims_fromWorkshop (m : Mode) (ha : Awake b) : Prims sc b (fromWorkshop m b).block := by
  unfold fromWorkshop
  split
  case h_2 => exact prims_setMode _ ha
  all_goals exact Prims.refl _ _

theorem prims_enterMode (m : Mode) (b : Block) : Prims sc b (enterMode m b).block := by
  unfold enterMode
  split
  next hmode => exact prims_fromStandby m (awake_of_mode (by simp [hmode]))
  next hmode =>
    rcases fromService_block m b with h | h
    · rw [h]
      exact Prims.refl _ _
    · rw [h]
      exact prims_beginStandbyLowering (awake_of_mode (by simp [hmode]))
  next hmode => exact prims_fromWorkshop m (awake_of_mode (by simp [hmode]))
  next => split <;> exact Prims.refl _ _
  next => exact Prims.refl _ _

theorem prims_wake (b : Block) : Prims sc b (wake b).block := by
  unfold wake
  split
  · exact Prims.refl _ _
  · split
    · exact Prims.refl _ _
    · split
      · exact prims_enterWaking _ b
      · exact .of (prim_cond rfl rfl rfl rfl rfl rfl id)

theorem prims_declareReady (l : Link) (sys : LineSystem) (serial : Nat) (b : Block) :
    Prims sc b (declareReady l sys serial b).block := by
  unfold declareReady
  split
  next m _ =>
    split
    · cases m
      case a => exact .of (.ready _ _)
      case b => exact .of (.ready _ _)
    · exact Prims.refl _ _
  next => exact Prims.refl _ _

theorem prims_emergencyLower (b : Block) : Prims sc b (emergencyLower b) :=
  (Prims.of (.hold true)).trans ((prims_openBreaker _ _).trans ((prims_halt _ _).trans (prims_lowerRoof _ _)))

theorem prims_releaseHold (b : Block) : Prims sc b (releaseHold b).block := by
  unfold releaseHold
  split
  · exact .of (.hold false)
  · exact Prims.refl _ _

/-! ## Raises -/

theorem inService_mode (h : inService b = true) : b.cond.mode = .service := by
  simp only [inService, Bool.and_eq_true, beq_iff_eq] at h
  exact h.1

theorem raiseRefusal_none (h : raiseRefusal b = none) :
    inService b = true ∧ b.plan.hold = false ∧ b.seq.phase = .idle ∧ earthOpen b = true := by
  unfold raiseRefusal at h
  split at h
  next => cases h
  split at h
  next => cases h
  split at h
  next => cases h
  split at h
  next => cases h
  next hs hh hp he => exact ⟨by simpa using hs, by simpa using hh, by simpa using hp, by simpa using he⟩

theorem otherCollects_iff (b : Block) (p : Panto) :
    otherCollects b p = false ↔ ∀ x, x ≠ p → b.role x ≠ .collecting := by
  simp only [otherCollects, List.any_eq_false, Bool.and_eq_true, bne_iff_ne, beq_iff_eq, not_and]
  exact panto_all fun x => x ≠ p → b.role x ≠ .collecting

theorem prims_raiseNamed (hg : sc.grants) (hr : sc.calm → b.cond.restart = none) (l : Link) (p : Panto) :
    Prims sc b (raiseNamed l p b).block := by
  unfold raiseNamed
  split
  next => exact Prims.refl _ _
  split
  next => exact Prims.refl _ _
  next hnot =>
  split
  next hlow =>
    split
    next hair => exact prims_takeRaise ⟨by simp [hlow.1], nofun, fun _ _ => hair, hr⟩
    next => exact Prims.refl _ _
  next hlow =>
  split
  next => exact Prims.refl _ _
  next hbusy =>
  split
  next => exact Prims.refl _ _
  split
  next => exact Prims.refl _ _
  next hother =>
  split
  next => exact Prims.refl _ _
  next hair =>
  have hheld : AirLaw b → (b.lc p).held = .none := by
    intro ha
    by_contra hh
    have hrole : b.role p = .collecting := by
      by_contra hc
      exact hbusy (.inl ⟨(ha.held p hh).1, hc⟩)
    exact hnot (by simp [alreadyRaised, hrole, hh])
  have hone := (otherCollects_iff b p).mp (by simpa using hother)
  refine Prims.trans (.of (.grant p .collecting (originOf l) hg (fun _ => hone) (by simp) nofun hheld)) ?_
  have hrole : (setRole p .collecting (originOf l) b).role p = .collecting := role_setRole_self p .collecting _ b
  refine prims_takeRaise ⟨by rw [hrole]; decide, nofun, fun _ _ => ?_, hr⟩
  rw [airAllows_setRole]
  simpa using hair

theorem prims_raisePanto (hg : sc.grants) (hm : sc.calm → RestartMid b) (l : Link) (p : Panto) :
    Prims sc b (raisePanto l p b).block := by
  unfold raisePanto
  split
  next => exact Prims.refl _ _
  next h =>
    have hmode := inService_mode (raiseRefusal_none h).1
    exact prims_raiseNamed hg (fun hc => awake_of_mode (by simp [hmode]) (hm hc)) l p

theorem moves_raiseAuto (hg : sc.grants) (hm : sc.calm → RestartMid b) (l : Link) :
    Moves sc b (raiseAutoOf l b).block := by
  unfold raiseAutoOf
  split
  next => exact Moves.refl _ _
  next h =>
    obtain ⟨hs, -, hp, -⟩ := raiseRefusal_none h
    have hawake : Awake b := awake_of_mode (by simp [inService_mode hs])
    split
    · exact moves_startSelected _ _ _ hawake fun hh => by simp [hp] at hh
    · split
      · exact Moves.refl _ _
      · split
        next p _ => exact (prims_raiseNamed (sc := sc.still) hg (fun hc => hawake (hm hc)) l p).moves
        next => exact Moves.refl _ _

theorem searchRefusal_none (h : searchRefusal b p = none) :
    (b.cond.mode = .workshop ∨ inService b = true) ∧ (b.lc p).state = .stowed ∧ b.role p = .none ∧
      isoOpen b p = true ∧ airAllows b p = true := by
  unfold searchRefusal at h
  split at h
  next => cases h
  split at h
  next => cases h
  split at h
  next => cases h
  split at h
  next => cases h
  next hmode =>
  split at h
  next => cases h
  split at h
  next => cases h
  next hstate =>
  split at h
  next => cases h
  next hrole =>
  split at h
  next => cases h
  next hiso =>
  split at h
  next => cases h
  split at h
  next => cases h
  next hair =>
  exact ⟨by simpa [or_iff_not_imp_left] using hmode, by simpa using hstate, by simpa using hrole, by simpa using hiso, by simpa using hair⟩

theorem prims_startTouchSearch (hg : sc.grants) (hm : sc.calm → RestartMid b) (l : Link) (p : Panto) :
    Prims sc b (startTouchSearch l p b).block := by
  unfold startTouchSearch
  split
  next => exact Prims.refl _ _
  next h =>
    obtain ⟨hmode, -, hrole, hiso, hair⟩ := searchRefusal_none h
    have hawake : Awake b := by
      refine awake_of_mode ?_
      rcases hmode with hw | hs
      · simp [hw]
      · simp [inService_mode hs]
    have hopened : (b.sw.iso.get p).state = .opened := by
      simp only [isoOpen, TwoSw.isOpen, Bool.and_eq_true, beq_iff_eq] at hiso
      exact hiso.1
    refine Prims.trans (.of (.grant p .calibrating (originOf l) hg nofun (fun _ => hopened) nofun
      fun ha => ha.held_of_free hrole)) ?_
    have hcal : (setRole p .calibrating (originOf l) b).role p = .calibrating := role_setRole_self p .calibrating _ b
    refine prims_takeRaise ⟨by rw [hcal]; decide, fun _ => hcal, fun _ _ => ?_, fun hc => hawake (hm hc)⟩
    rw [airAllows_setRole]
    exact hair

/-! ## Lowers, drops cleared and pantographs out of service -/

theorem prims_passLowers (l : List Panto) (b : Block) : Prims sc b (passLowers l b) := by
  induction l generalizing b with
  | nil => exact Prims.refl _ _
  | cons p l ih => exact (prims_takeLower false p b).trans (ih _)

theorem prims_lowerNamed (n : Option Panto) (b : Block) : Prims sc b (lowerNamed n b).block := by
  unfold lowerNamed
  split
  · split
    · exact prims_passLowers _ b
    · exact Prims.refl _ _
  · exact (prims_halt _ _).trans (prims_passLowers _ _)

theorem prims_clearDrop (p : Panto) (b : Block) : Prims sc b (clearDropOf p b).block := by
  unfold clearDropOf
  split
  next => exact Prims.refl _ _
  split
  next => exact Prims.refl _ _
  next hd =>
  have hdropped : (b.lc p).state = .dropped := by simpa using hd
  split
  next => exact prims_arriveStowed p b (by rw [hdropped]; decide)
  next => exact Prims.refl _ _

theorem prims_takeOutOfService (hs : (b.lc p).state = .stowed) (h : (b.lc p).held = .none) : Prims sc b (takeOutOfService p b) := by
  unfold takeOutOfService
  refine Prims.trans (.of (.lift p _ ?_)) (prims_clearRole p _ ?_)
  · exact .of_down rfl rfl rfl (Nat.zero_le _) (fun hl => ⟨hl, by rw [hs]; decide⟩) fun _ hh => absurd h hh
  · rw [lc_setLift_self]
    exact h

theorem prims_outOfService (p : Panto) (b : Block) : Prims sc b (outOfServiceOf p b).block := by
  unfold outOfServiceOf
  split
  next => exact Prims.refl _ _
  split
  next h =>
    simp only [restsStowed, Bool.and_eq_true, beq_iff_eq] at h
    exact prims_takeOutOfService h.1 h.2
  next =>
  split
  · exact Prims.refl _ _
  · exact Prims.refl _ _

theorem prims_return (p : Panto) (b : Block) : Prims sc b (returnOf p b).block := by
  unfold returnOf
  split
  next => exact Prims.refl _ _
  split
  next h => exact prims_arriveStowed p b (by rw [h]; decide)
  next => exact Prims.refl _ _

/-! ## Changeover -/

theorem moves_selectSystem (hu : sc.unhalts) (sys : Option LineSystem) (b : Block) :
    Moves sc b (selectSystem sys b).block := by
  have hmode (h : selectRefusal b = none) : Awake b := by
    unfold selectRefusal at h
    split at h
    next => cases h
    next hm => exact awake_of_mode (by simp [by simpa using hm])
  unfold selectSystem
  split
  next => exact Moves.refl _ _
  next h =>
    split
    · exact moves_startSelected _ _ _ (hmode h) fun _ => hu
    · split
      · exact Moves.refl _ _
      · exact moves_startSelected _ _ _ (hmode h) fun _ => hu

theorem prims_clearHalt (hu : sc.unhalts) (b : Block) : Prims sc b (clearHaltOf b).block := by
  unfold clearHaltOf
  split
  · exact .of (prim_seq_rests (.inl (by simp)) (fun _ => .inr hu) (by simp))
  · exact Prims.refl _ _
  · exact Prims.refl _ _

/-! ## Switches -/

theorem prims_closeFromPhase (hc : readinessMet b = true → sc.closes) (l : Link) :
    Moves sc b (closeFromPhase l b).block := by
  unfold closeFromPhase
  split
  next => exact Moves.refl _ _
  split
  next => exact Moves.refl _ _
  next => exact moves_answerUnless (prims_closeBreaker (sc := sc.still) hc _).moves

theorem moves_closeOf (hc : readinessMet b = true → sc.closes) (l : Link) : Moves sc b (closeOf l b).block := by
  unfold closeOf
  split
  · exact prims_closeFromPhase hc l
  · exact Moves.refl _ _

theorem moves_watched {f : Block → Block × ReplyOutcome} (h : Prims sc.still b (f b).1) :
    Moves sc b (watched f b).1 := (h.trans (prims_haltIfLeft b _)).moves

theorem prims_clearSwitchFaultOf (hr : sc.reads) (w : SwId) (k : Source) (b : Block) :
    Prims sc b (clearSwitchFaultOf w k b).1 := by
  unfold clearSwitchFaultOf
  split
  · split
    · exact Prims.refl _ _
    · split
      · exact prims_breakerRead hr (by simp [TwoSw.adopt, TwoPos.atRest])
      · exact Prims.refl _ _
  · split
    · exact Prims.refl _ _
    · split
      · exact .of (.selector _)
      · exact Prims.refl _ _
  next p =>
    split
    next => exact Prims.refl _ _
    next hf =>
      have hfailed : (b.sw.iso.get p).state = .failed := by simpa using hf
      split
      · split
        · exact Prims.refl _ _
        · exact .of (.iso _ _ fun h => by simp [hfailed] at h)
      · exact Prims.refl _ _
  · split
    next => exact Prims.refl _ _
    next hf =>
      have hfailed : b.sw.earth.state = .failed := by simpa using hf
      split
      · exact .of (.earth _ fun h => by simp [hfailed] at h)
      · exact Prims.refl _ _

theorem moves_clearSwitchFault (hr : sc.reads) (l : Link) (w : SwId) (b : Block) :
    Moves sc b (clearSwitchFault l w b).block := by
  unfold clearSwitchFault
  split
  · exact moves_answerUnless (prims_clearSwitchFaultOf (sc := sc.still) hr _ _ b).moves
  · exact Moves.refl _ _

/-! ## Configuration, ice mode and the route -/

theorem faultLaw_empty (c : Cond) : FaultLaw { b with cond := { c with faults := FaultRecord.empty } } := by
  have hzero (k : FaultKind) : FaultRecord.empty.counters[k.ctorIdx]'(k.ctorIdx_lt) ≤ 255 := by
    cases k <;> decide
  exact hzero

theorem prims_clearFaults (b : Block) : Prims sc b (clearFaultsOf b).block := by
  unfold clearFaultsOf
  split
  · exact Prims.refl _ _
  · exact Prims.refl _ _
  · exact .of (prim_cond rfl rfl rfl rfl rfl rfl fun _ => faultLaw_empty b.cond)

theorem moves_writeItem (he : sc.estimates) (item : Option Item) (ha : item = some .currentLimit → sc.writes) (v : Int)
    (b : Block) : Moves sc b (writeConfigurationItem item v b).block := by
  unfold writeConfigurationItem
  split
  next => exact Moves.refl _ _
  split
  next => exact Moves.refl _ _
  next i =>
    split
    next => exact Moves.refl _ _
    next hbusy => exact moves_write he (fun hi => ha (by rw [hi])) (by simpa using hbusy)

theorem prims_storeConfiguration (b : Block) : Prims sc b (storeConfiguration b).block := by
  unfold storeConfiguration
  split
  next => exact Prims.refl _ _
  split
  next => exact Prims.refl _ _
  next => exact prims_offerWrite _ b

theorem prims_setIceMode (he : sc.estimates) (n : Nat) (e : Bool) (b : Block) : Prims sc b (setIceMode n e b).block := by
  unfold setIceMode
  split
  · exact Prims.refl _ _
  · exact Prims.refl _ _
  · split
    · exact Prims.refl _ _
    · exact prims_ice he rfl

theorem moves_motionReport (he : sc.estimates) (x v : Nat) (d : Direction) (b : Block) :
    Moves sc b (motionReport x v d b).block := by
  unfold motionReport
  split
  · exact Moves.refl _ _
  · have haccept := moves_acceptMotion he x v d b
    generalize acceptMotion x v d b = y at haccept ⊢
    exact haccept.prims (prims_evaluateScore (sc := sc.still) he _ y)

theorem moves_announceMarker (he : sc.estimates) (m : Marker) (b : Block) : Moves sc b (announceMarker m b).block := by
  unfold announceMarker
  split
  · exact Moves.refl _ _
  next h => exact moves_insertMarker he h

/-! ## Every owner -/

/-- The requests that leave HALTED. -/
def Unhalts : Instr → Prop
  | .clearHalt _ => True
  | .selectSystem _ _ => True
  | _ => False

/-- The requests that close the breaker. -/
def Closes : Instr → Prop
  | .closeBreaker _ => True
  | .switchCommandBreakerClose _ => True
  | _ => False

/-- The requests that write the current limit. -/
def WritesLimit : Instr → Prop
  | .writeConfigurationItem _ i _ => i = some .currentLimit
  | _ => False

/-- What the owner of every request does to the block is a run of moves. -/
theorem moves_ownerOf {c : Instr} {owner : Block → Answer} (own : ownerOf c = some owner) (hg : sc.grants) (hr : sc.reads)
    (he : sc.estimates) (hu : Unhalts c → sc.unhalts) (hc : Closes c → readinessMet b = true → sc.closes)
    (ha : WritesLimit c → sc.writes) (hm : sc.calm → RestartMid b)
    (hp : ∀ q, c = .claimLead q → (b.links.get q.link).present = true) : Moves sc b (owner b).block := by
  cases c
  case claimLead q => cases own; exact (prims_claimLead (hp q rfl)).moves
  case releaseLead q => cases own; exact (prims_releaseLead q.link b).moves
  case enterMode _ m => cases own; exact (prims_enterMode m b).moves
  case wake => cases own; exact (prims_wake b).moves
  case raise q p => cases own; exact (prims_raisePanto (sc := sc.still) hg hm q.link p).moves
  case raiseAuto q => cases own; exact moves_raiseAuto hg hm q.link
  case lower _ n => cases own; exact (prims_lowerNamed n b).moves
  case selectSystem _ sys => cases own; exact moves_selectSystem (hu trivial) sys b
  case clearHalt => cases own; exact (prims_clearHalt (sc := sc.still) (hu trivial) b).moves
  case declareReady q sys n => cases own; exact (prims_declareReady q.link sys n b).moves
  case openBreaker q => cases own; exact (prims_openBreaker _ b).moves
  case closeBreaker q => cases own; exact moves_closeOf (fun h => hc trivial h) q.link
  case setIceMode _ n e => cases own; exact (prims_setIceMode (sc := sc.still) he n e b).moves
  case startTouchSearch q p => cases own; exact (prims_startTouchSearch (sc := sc.still) hg hm q.link p).moves
  case clearDrop _ p => cases own; exact (prims_clearDrop p b).moves
  case setOutOfService _ p => cases own; exact (prims_outOfService p b).moves
  case returnToService _ p => cases own; exact (prims_return p b).moves
  case switchCommandBreakerOpen q => cases own; exact (prims_openBreaker _ b).moves
  case switchCommandBreakerClose q => cases own; exact moves_inWorkshop (prims_closeFromPhase (hc trivial) q.link)
  case switchCommandSelector q pos =>
    cases own; exact moves_inWorkshop (moves_answerUnless (moves_watched (prims_moveSelector pos _ b)))
  case switchCommandIsolator q p pos =>
    cases own; exact moves_inWorkshop (moves_answerUnless (moves_watched (prims_moveIsolator p pos _ b)))
  case switchCommandEarth q pos =>
    cases own; exact moves_inWorkshop (moves_answerUnless (prims_moveEarth pos _ b).moves)
  case clearSwitchFault q w => cases own; exact moves_clearSwitchFault hr q.link w b
  case clearFaults => cases own; exact (prims_clearFaults b).moves
  case writeConfigurationItem _ i v => cases own; exact moves_writeItem he i ha v b
  case storeConfiguration => cases own; exact (prims_storeConfiguration b).moves
  case restart => cases own; exact Moves.refl _ _
  case motionReport _ x v d => cases own; exact moves_motionReport he x v d b
  case announceMarker _ m => cases own; exact moves_announceMarker he m b
  case withdrawMarker _ n => cases own; exact moves_answerUnless (prims_withdraw n b).moves
  case emergencyLower => cases own; exact (prims_emergencyLower b).moves
  case releaseHold => cases own; exact (prims_releaseHold b).moves
  all_goals cases own

end Sys2Proof.Machine
end

section
/-!
What a step comes to: a run of moves that the blocks' answers close, a change that concerns one block alone, a reply, a
frame in progress, or a reset.
-/

namespace Sys2Proof.Machine

variable {sc : Scope} {b x y z s t : Block} {p : Panto} {c : Instr}

/-! ## Changes that concern one block alone -/

/-- The block without what a change that concerns its own block alone can write. -/
def Block.working (b : Block) : Block :=
  { b with
    plan := { b.plan with lead := none }
    line := LineMon.initial
    queue := Queue.initial
    ice := { b.ice with capture := Ice.initial.capture, applied := Ice.initial.applied }
    cond := { b.cond with heldWake := false, faults := FaultRecord.empty }
    mem := Block.initial.mem
    links := Block.initial.links }

@[simp] theorem working_setLink (l : Link) (r : LinkRec) (b : Block) : (setLink l r b).working = b.working := rfl
@[simp] theorem working_refresh (l : Link) (b : Block) : (refresh l b).working = b.working := rfl
@[simp] theorem working_pushReply (l : Link) (r : Reply) (b : Block) : (pushReply l r b).working = b.working := rfl

/-- The answer reaches other blocks, or its effect concerns one block alone. -/
def Answer.Aside (a : Answer) (b : Block) : Prop := a.reach = .own → a.block.working = b.working

theorem aside_refuse (r : RefCode) (b : Block) : (refuse r b).Aside b := fun _ => rfl
theorem aside_unchanged (b : Block) : (unchanged b).Aside b := fun _ => rfl
theorem aside_effect (o : ReplyOutcome) (x b : Block) : (effect o x).Aside b := nofun

theorem aside_answerOf {r : Block × ReplyOutcome} (hr : r.2.refuses = true → r.1 = b) : (answerOf r).Aside b := by
  intro h
  unfold answerOf at h ⊢
  by_cases href : r.2.refuses = true
  · exact congrArg Block.working (hr href)
  · simp [href] at h

theorem aside_answerUnless {early : Option ReplyOutcome} {f : Block → Block × ReplyOutcome}
    (hr : (f b).2.refuses = true → (f b).1 = b) : (answerUnless early f b).Aside b := by
  unfold answerUnless
  cases early with
  | some o => exact fun _ => rfl
  | none => exact aside_answerOf hr

theorem aside_inWorkshop {f : Block → Answer} (hf : (f b).Aside b) : (inWorkshop f b).Aside b := by
  unfold inWorkshop
  split
  · exact hf
  · exact aside_refuse _ b

theorem haltIfLeft_self (b : Block) : haltIfLeft b b = b := by
  have hleft : leftPosition b b = false := by
    unfold leftPosition
    split
    · rfl
    · simp [bne, Bool.and_not_self]
  have hfail : workFails b b = false := by simp [workFails, bne, Bool.and_comm]
  simp [haltIfLeft, hleft, hfail]

theorem watched_refuses {f : Block → Block × ReplyOutcome} (hf : (f b).2.refuses = true → (f b).1 = b)
    (h : (watched f b).2.refuses = true) : (watched f b).1 = b := by
  unfold watched at h ⊢
  simp only at h ⊢
  rw [hf h, haltIfLeft_self]

theorem moveSelector_refuses (pos : SelPos) (k : Source) (h : (moveSelector pos k b).2.refuses = true) :
    (moveSelector pos k b).1 = b := by
  unfold moveSelector at h ⊢
  split
  · rfl
  next he =>
    split
    next hb => simp [he, hb, ReplyOutcome.refuses] at h
    next => rfl

theorem moveIsolator_refuses (pos : TwoPos) (k : Source) (h : (moveIsolator p pos k b).2.refuses = true) :
    (moveIsolator p pos k b).1 = b := by
  unfold moveIsolator at h ⊢
  split
  · rfl
  next he =>
    split
    next hb => simp [he, hb, ReplyOutcome.refuses] at h
    next => rfl

theorem moveEarth_refuses (pos : TwoPos) (k : Source) (h : (moveEarth pos k b).2.refuses = true) :
    (moveEarth pos k b).1 = b := by
  unfold moveEarth at h ⊢
  split
  · rfl
  next he =>
    split
    next hb => simp [he, hb, ReplyOutcome.refuses] at h
    next => rfl

theorem closeBreaker_refuses (k : Source) (h : (closeBreaker k b).2.refuses = true) : (closeBreaker k b).1 = b := by
  unfold closeBreaker at h ⊢
  split
  · rfl
  next he =>
    split
    next hb => simp [he, hb, ReplyOutcome.refuses] at h
    next => rfl

theorem clearSwitchFaultOf_refuses (w : SwId) (k : Source) (h : (clearSwitchFaultOf w k b).2.refuses = true) :
    (clearSwitchFaultOf w k b).1 = b := by
  unfold clearSwitchFaultOf at h ⊢
  cases w
  case breaker =>
    dsimp only at h ⊢
    split
    next => rfl
    next hf =>
      split
      next hs => simp [hf, hs, ReplyOutcome.refuses] at h
      next => rfl
  case selector =>
    dsimp only at h ⊢
    split
    next => rfl
    next hf =>
      split
      next hs => simp [hf, hs, ReplyOutcome.refuses] at h
      next => rfl
  case iso p =>
    dsimp only at h ⊢
    split
    next => rfl
    next hf =>
      split
      next hs =>
        split
        next => rfl
        next hc => simp [hf, hs, hc, ReplyOutcome.refuses] at h
      next => rfl
  case earth =>
    dsimp only at h ⊢
    split
    next => rfl
    next hf =>
      split
      next hs => simp [hf, hs, ReplyOutcome.refuses] at h
      next => rfl

theorem withdraw_refuses (n : Nat) (h : (withdraw n b).2.refuses = true) : (withdraw n b).1 = b := by
  unfold withdraw at h ⊢
  split
  next => rfl
  next e he =>
    simp only [he] at h
    split
    next hc => simp [hc, ReplyOutcome.refuses] at h
    next hc =>
      rw [if_neg hc] at h
      cases hp : b.seq.phase
      case idle | halted | armed | tractionOff => simp [hp, ReplyOutcome.refuses] at h
      all_goals rfl

theorem aside_claimLead (l : Link) (b : Block) : (claimLead l b).Aside b := by
  unfold claimLead
  split
  · exact fun _ => rfl
  · split
    · exact fun _ => rfl
    · exact aside_refuse _ b
  · exact aside_refuse _ b

theorem aside_releaseLead (l : Link) (b : Block) : (releaseLead l b).Aside b := by
  unfold releaseLead
  split
  · exact fun _ => rfl
  · exact aside_refuse _ b

theorem aside_fromStandby (m : Mode) (b : Block) : (fromStandby m b).Aside b := by
  unfold fromStandby
  split
  · exact aside_unchanged b
  · split
    · exact aside_effect _ _ b
    · exact aside_refuse _ b
  · exact aside_effect _ _ b
  · split
    · exact aside_refuse _ b
    · split
      · exact aside_effect _ _ b
      · exact aside_refuse _ b
  · exact aside_refuse _ b

theorem aside_fromService (m : Mode) (b : Block) : (fromService m b).Aside b := by
  unfold fromService
  split
  · split
    · exact fun _ => rfl
    · exact aside_effect _ _ b
  · split
    · exact aside_refuse _ b
    · exact aside_unchanged b
  all_goals split <;> exact aside_refuse _ b

theorem aside_fromWorkshop (m : Mode) (b : Block) : (fromWorkshop m b).Aside b := by
  unfold fromWorkshop
  split
  · exact aside_unchanged b
  · exact aside_effect _ _ b
  all_goals exact aside_refuse _ b

theorem aside_enterMode (m : Mode) (b : Block) : (enterMode m b).Aside b := by
  unfold enterMode
  split
  · exact aside_fromStandby m b
  · exact aside_fromService m b
  · exact aside_fromWorkshop m b
  · split
    · exact aside_unchanged b
    · exact aside_refuse _ b
  · exact aside_refuse _ b

theorem aside_wake (b : Block) : (wake b).Aside b := by
  unfold wake
  split
  · exact aside_refuse _ b
  · split
    · exact fun _ => rfl
    · split
      · exact aside_effect _ _ b
      · exact fun _ => rfl

theorem aside_raiseNamed (l : Link) (p : Panto) (b : Block) : (raiseNamed l p b).Aside b := by
  unfold raiseNamed
  split
  next => exact aside_refuse _ b
  split
  next => exact aside_unchanged b
  split
  next =>
    split
    · exact aside_effect _ _ b
    · exact aside_refuse _ b
  split
  next => exact aside_refuse _ b
  split
  next => exact aside_refuse _ b
  split
  next => exact aside_refuse _ b
  split
  next => exact aside_refuse _ b
  next => exact aside_effect _ _ b

theorem aside_raisePanto (l : Link) (p : Panto) (b : Block) : (raisePanto l p b).Aside b := by
  unfold raisePanto
  split
  · exact aside_refuse _ b
  · exact aside_raiseNamed l p b

theorem aside_raiseAuto (l : Link) (b : Block) : (raiseAutoOf l b).Aside b := by
  unfold raiseAutoOf
  split
  next => exact aside_refuse _ b
  split
  next => exact aside_effect _ _ b
  split
  next => exact aside_unchanged b
  split
  next => exact aside_raiseNamed l _ b
  next => exact aside_refuse _ b

theorem aside_lowerNamed (n : Option Panto) (b : Block) : (lowerNamed n b).Aside b := by
  unfold lowerNamed
  split
  · split
    · exact aside_effect _ _ b
    · exact aside_unchanged b
  · exact aside_effect _ _ b

theorem aside_startTouchSearch (l : Link) (p : Panto) (b : Block) : (startTouchSearch l p b).Aside b := by
  unfold startTouchSearch
  split
  · exact aside_refuse _ b
  · exact aside_effect _ _ b

theorem aside_selectSystem (sys : Option LineSystem) (b : Block) : (selectSystem sys b).Aside b := by
  unfold selectSystem
  split
  next => exact aside_refuse _ b
  split
  next => exact aside_effect _ _ b
  split
  next => exact aside_unchanged b
  next => exact aside_effect _ _ b

theorem aside_clearHalt (b : Block) : (clearHaltOf b).Aside b := by
  unfold clearHaltOf
  split
  · exact aside_effect _ _ b
  · exact aside_unchanged b
  · exact aside_refuse _ b

theorem aside_declareReady (l : Link) (sys : LineSystem) (n : Nat) (b : Block) : (declareReady l sys n b).Aside b := by
  unfold declareReady
  split
  · split
    · exact aside_effect _ _ b
    · exact aside_refuse _ b
  · exact aside_refuse _ b

theorem aside_setIceMode (n : Nat) (e : Bool) (b : Block) : (setIceMode n e b).Aside b := by
  unfold setIceMode
  split
  · exact aside_refuse _ b
  · exact aside_refuse _ b
  · split
    · exact aside_refuse _ b
    · exact nofun

theorem aside_clearDrop (p : Panto) (b : Block) : (clearDropOf p b).Aside b := by
  unfold clearDropOf
  split
  next => exact aside_refuse _ b
  split
  next => exact aside_unchanged b
  split
  next => exact aside_effect _ _ b
  next => exact aside_refuse _ b

theorem aside_outOfService (p : Panto) (b : Block) : (outOfServiceOf p b).Aside b := by
  unfold outOfServiceOf
  split
  next => exact aside_refuse _ b
  split
  next => exact aside_effect _ _ b
  split
  next => exact aside_unchanged b
  next => exact aside_refuse _ b

theorem aside_return (p : Panto) (b : Block) : (returnOf p b).Aside b := by
  unfold returnOf
  split
  next => exact aside_refuse _ b
  split
  next => exact aside_effect _ _ b
  next => exact aside_unchanged b

theorem aside_closeFromPhase (l : Link) (b : Block) : (closeFromPhase l b).Aside b := by
  unfold closeFromPhase
  split
  next => exact aside_refuse _ b
  split
  next => exact aside_refuse _ b
  next => exact aside_answerUnless (closeBreaker_refuses _)

theorem aside_closeOf (l : Link) (b : Block) : (closeOf l b).Aside b := by
  unfold closeOf
  split
  · exact aside_closeFromPhase l b
  · exact aside_refuse _ b

theorem aside_clearSwitchFault (l : Link) (w : SwId) (b : Block) : (clearSwitchFault l w b).Aside b := by
  unfold clearSwitchFault
  split
  · exact aside_answerUnless (clearSwitchFaultOf_refuses w _)
  · exact aside_refuse _ b

theorem aside_clearFaults (b : Block) : (clearFaultsOf b).Aside b := by
  unfold clearFaultsOf
  split
  · exact aside_refuse _ b
  · exact aside_refuse _ b
  · exact fun _ => rfl

theorem aside_writeItem (i : Option Item) (v : Int) (b : Block) : (writeConfigurationItem i v b).Aside b := by
  unfold writeConfigurationItem
  split
  next => exact aside_refuse _ b
  split
  next => exact aside_refuse _ b
  split
  next => exact aside_refuse _ b
  next => exact aside_effect _ _ b

theorem working_offerWrite (j : MemJob) (b : Block) : (offerWrite j b).working = b.working := by
  unfold offerWrite
  split
  · cases j <;> rfl
  · split <;> rfl

theorem aside_storeConfiguration (b : Block) : (storeConfiguration b).Aside b := by
  unfold storeConfiguration
  split
  next => exact aside_refuse _ b
  split
  next => exact aside_refuse _ b
  next => exact fun _ => working_offerWrite _ b

theorem aside_motionReport (x v : Nat) (d : Direction) (b : Block) : (motionReport x v d b).Aside b := by
  unfold motionReport
  split
  · exact aside_refuse _ b
  · exact nofun

theorem aside_announceMarker (m : Marker) (b : Block) : (announceMarker m b).Aside b := by
  unfold announceMarker
  split
  · exact aside_refuse _ b
  · exact nofun

theorem aside_releaseHold (b : Block) : (releaseHold b).Aside b := by
  unfold releaseHold
  split
  · exact aside_effect _ _ b
  · exact aside_unchanged b

/-- An owner whose effect does not reach other blocks writes to its own part alone. -/
theorem aside_ownerOf {owner : Block → Answer} (own : ownerOf c = some owner) (b : Block) : (owner b).Aside b := by
  cases c
  case claimLead q => cases own; exact aside_claimLead q.link b
  case releaseLead q => cases own; exact aside_releaseLead q.link b
  case enterMode _ m => cases own; exact aside_enterMode m b
  case wake => cases own; exact aside_wake b
  case raise q p => cases own; exact aside_raisePanto q.link p b
  case raiseAuto q => cases own; exact aside_raiseAuto q.link b
  case lower _ n => cases own; exact aside_lowerNamed n b
  case selectSystem _ sys => cases own; exact aside_selectSystem sys b
  case clearHalt => cases own; exact aside_clearHalt b
  case declareReady q sys n => cases own; exact aside_declareReady q.link sys n b
  case openBreaker q => cases own; exact aside_effect _ _ b
  case closeBreaker q => cases own; exact aside_closeOf q.link b
  case setIceMode _ n e => cases own; exact aside_setIceMode n e b
  case startTouchSearch q p => cases own; exact aside_startTouchSearch q.link p b
  case clearDrop _ p => cases own; exact aside_clearDrop p b
  case setOutOfService _ p => cases own; exact aside_outOfService p b
  case returnToService _ p => cases own; exact aside_return p b
  case switchCommandBreakerOpen q => cases own; exact aside_effect _ _ b
  case switchCommandBreakerClose q => cases own; exact aside_inWorkshop (aside_closeFromPhase q.link b)
  case switchCommandSelector q pos =>
    cases own; exact aside_inWorkshop (aside_answerUnless (watched_refuses (moveSelector_refuses pos _)))
  case switchCommandIsolator q p pos =>
    cases own; exact aside_inWorkshop (aside_answerUnless (watched_refuses (moveIsolator_refuses pos _)))
  case switchCommandEarth q pos =>
    cases own; exact aside_inWorkshop (aside_answerUnless (moveEarth_refuses pos _))
  case clearSwitchFault q w => cases own; exact aside_clearSwitchFault q.link w b
  case clearFaults => cases own; exact aside_clearFaults b
  case writeConfigurationItem _ i v => cases own; exact aside_writeItem i v b
  case storeConfiguration => cases own; exact aside_storeConfiguration b
  case restart => cases own; exact fun _ => rfl
  case motionReport _ x v d => cases own; exact aside_motionReport x v d b
  case announceMarker _ m => cases own; exact aside_announceMarker m b
  case withdrawMarker _ n => cases own; exact aside_answerUnless (withdraw_refuses n)
  case emergencyLower => cases own; exact aside_effect _ _ b
  case releaseHold => cases own; exact aside_releaseHold b
  all_goals cases own

end Sys2Proof.Machine
end

section
/-!
What a step comes to, case by case.
-/

namespace Sys2Proof.Machine

variable {sc : Scope} {b x y z s t : Block} {p : Panto} {c : Instr}

/-! ## Changes that only concern one block -/

theorem prims_refresh (l : Link) (b : Block) : Prims sc b (refresh l b) :=
  .of (.link l _ (fun _ => rfl) (.inr fun _ => id))

theorem prims_pushReply (l : Link) (r : Reply) (b : Block) : Prims sc b (pushReply l r b) :=
  .of (.link l _ id (.inr fun _ => id))

theorem prims_dropFrame (l : Link) (b : Block) : Prims sc b (dropFrame l b) :=
  .of (.link l _ id (.inr fun _ => id))

theorem prims_byteTimeout (l : Link) (b : Block) : Prims sc b (byteTimeout l b) := by
  unfold byteTimeout
  split
  · exact prims_dropFrame l b
  · exact Prims.refl _ _

theorem arcStart_eq (p : Panto) (edge : ArcEdge) (b : Block) :
    arcStart p edge b = b ∨ ∃ k, arcStart p edge b = b.setCapture p k := by
  unfold arcStart
  dsimp only
  split
  · exact .inr ⟨_, rfl⟩
  · exact .inr ⟨_, rfl⟩
  · exact .inl rfl

theorem prims_quietOf {f : Block → Block} (h : quietOf s c = some f) (b : Block) : Prims sc b (f b) := by
  cases c
  case badFrame l _ => cases h; exact prims_dropFrame l b
  case frameByteTimeout l => cases h; exact prims_byteTimeout l b
  case samplePair i | windowClose i =>
    simp only [quietOf] at h
    split at h
    · cases h
    · cases h
      exact prims_takeSlot i b
  case motionStale => cases h; exact .of (.motion _ rfl)
  case arcPulseStart p edge =>
    cases h
    rcases arcStart_eq p edge b with h | ⟨k, h⟩
    · rw [h]
      exact Prims.refl _ _
    · rw [h]
      exact prims_setCapture p k b
  case heaterPeriodStart => cases h; exact .of (.ice _ (.inl rfl) (.inl rfl))
  all_goals cases h

theorem working_quietOf {f : Block → Block} (h : quietOf s c = some f) (b : Block) : (f b).working = b.working := by
  cases c
  case badFrame l _ => cases h; rfl
  case frameByteTimeout l =>
    cases h
    unfold byteTimeout
    split <;> rfl
  case samplePair i | windowClose i =>
    simp only [quietOf] at h
    split at h
    · cases h
    · cases h
      rfl
  case motionStale => cases h; rfl
  case arcPulseStart p edge =>
    cases h
    rcases arcStart_eq p edge b with h | ⟨k, h⟩ <;> rw [h]
    rfl
  case heaterPeriodStart => cases h; rfl
  all_goals cases h

/-! ## The cases -/

/-- What a command is permitted, from `s` to the block `y` that the other blocks answer. -/
structure Permits (sc : Scope) (c : Instr) (s y : Block) : Prop where
  grants    : sc.grants
  reads     : sc.reads
  estimates : sc.estimates
  unhalts   : Unhalts c → sc.unhalts
  closes    : Closes c → readinessMet y = true → sc.closes
  writes    : WritesLimit c → sc.writes
  stands    : (∃ i, c = .samplePair i ∨ c = .windowClose i) → sc.stands
  calm      : sc.calm → RestartMid s
  senses    : (∃ r, c = .scanComplete r) → sc.senses

/-- What the command `c` makes of the block `s`, frames that carry requests apart. -/
inductive Ends (c : Instr) (s : Block) : Block → Prop
  | settled (judge : Bool) (y : Block) (moves : ∀ sc, Permits sc c s y → Moves sc s y) : Ends c s (settle s judge y)
  | aside (y : Block) (moves : ∀ sc, Permits sc c s y → Moves sc s y) (own : y.working = s.working) : Ends c s (close s y)
  | replied (l : Link) (r : Reply) : Ends c s (pushReply l r (close s (refresh l s)))
  | digest (q : Req) (r : Reply) (is : c = .readStatusDigest q) :
      Ends c s (emptyMask q.link (pushReply q.link r (close s (refresh q.link s))))
  | silent (l : Link) (r : LinkRec) (present : r.present = (s.links.get l).present)
      (mask : r.mask = (s.links.get l).mask) (is : (∃ byte, c = .frameOpened l byte) ∨ ∃ k, c = .replySent l k) :
      Ends c s (setLink l r s)
  | restarted (k : Contacts) (x : Block) (from' : x = s ∨ ∃ l r, r.present = (s.links.get l).present ∧ x = setLink l r s)
      (is : c = .warmRestart k ∨ ∃ l, c = .replySent l k) : Ends c s (warmRestart k x)
  | started (k : Contacts) (m : MemImage) (is : c = .powerOn k m) :
      Ends c s { powerOn k m with freeCount := s.freeCount }

/-! ## Requests -/

theorem readinessMet_pushReply (l : Link) (r : Reply) (b : Block) : readinessMet (pushReply l r b) = readinessMet b := by
  cases l <;> rfl

theorem readinessMet_closeBreaker (k : Source) (b : Block) : readinessMet (closeBreaker k b).1 = readinessMet b :=
  readinessMet_of_kept (kept_closeBreaker k b)

theorem readinessMet_closeFromPhase (l : Link) (b : Block) :
    readinessMet (closeFromPhase l b).block = readinessMet b := by
  unfold closeFromPhase
  split
  next => rfl
  split
  next => rfl
  next =>
    unfold answerUnless
    split
    · rfl
    · exact readinessMet_closeBreaker _ b

/-- A close leaves what the masters' readiness is judged by. -/
theorem readinessMet_of_closes {owner : Block → Answer} (own : ownerOf c = some owner) (hc : Closes c) (b : Block) :
    readinessMet (owner b).block = readinessMet b := by
  cases c
  case closeBreaker q =>
    cases own
    unfold closeOf
    split
    · exact readinessMet_closeFromPhase _ b
    · rfl
  case switchCommandBreakerClose q =>
    cases own
    unfold inWorkshop
    split
    · exact readinessMet_closeFromPhase _ b
    · rfl
  all_goals exact hc.elim

/-- The block after the owner's decision and the reply. -/
theorem ends_of_request {q : Req} {code : Nat} {payload : List Nat} {g : Gate} {owner : Block → Answer} {S T : State}
    (is : requestOf c = some (q, code, payload)) (own : ownerOf c = some owner)
    (h : request q code g owner S = .next T) : Ends c S.block T.block := by
  have hrefresh (sc : Scope) : Prims sc.still S.block (refresh q.link S.block) := prims_refresh _ _
  unfold request at h
  dsimp only at h
  cases h
  change Ends c S.block (finish S.block (answer q g owner S.block).reach (pushReply q.link _ (answer q g owner S.block).block))
  generalize (⟨code, q.tag, (answer q g owner S.block).outcome, (answer q g owner S.block).data⟩ : Reply) = r
  have hmoves (sc : Scope) (hp : Permits sc c S.block (pushReply q.link r (answer q g owner S.block).block)) :
      Moves sc S.block (pushReply q.link r (answer q g owner S.block).block) := by
    refine Moves.prims ?_ (prims_pushReply _ _ _)
    have hclose := hp.closes
    rw [readinessMet_pushReply] at hclose
    unfold answer at hclose ⊢
    split
    next => exact (hrefresh sc).moves
    next hnone =>
      rw [hnone] at hclose
      refine (hrefresh sc).moves.trans (moves_ownerOf own hp.grants hp.reads hp.estimates hp.unhalts ?_ hp.writes
        (fun hcalm => (prims_refresh (sc := sc) _ _).mid (hp.calm hcalm)) ?_)
      · intro hc hmet
        exact hclose hc ((readinessMet_of_closes own hc _).trans hmet)
      · intro q' hq
        subst hq
        cases is
        simp [refresh, setLink]
  have haside : (answer q g owner S.block).Aside S.block := by
    unfold answer
    split
    · exact fun _ => rfl
    · exact fun h => (aside_ownerOf own _ h).trans (working_refresh _ _)
  cases hr : (answer q g owner S.block).reach
  case own => exact .aside _ hmoves (haside hr)
  case others => exact .settled false _ hmoves
  case scraper => exact .settled true _ hmoves

/-! ## Every command -/

theorem setLink_self (l : Link) (b : Block) : setLink l (b.links.get l) b = b := by cases l <;> rfl

/-- What every command but a byte of a frame comes to. -/
theorem ends_of_exec {S T : State} (hb : ∀ l byte, c ≠ .frameOpened l byte) (h : exec c S = .next T) :
    Ends c S.block T.block := by
  cases course c S
  case request q code payload row is stands =>
    cases taken_of_catalogue is stands
    case owned owner own runs =>
      rw [runs] at h
      exact ends_of_request is own h
    case view v reads gate runs =>
      rw [runs] at h
      cases h
      exact .replied q.link _
    case digest gate which number =>
      subst which
      change execReadStatusDigest q S = _ at h
      unfold execReadStatusDigest at h
      dsimp only at h
      split at h
      · cases h
        exact .replied q.link _
      · cases h
        exact .digest q _ rfl
  case unknown q code is =>
    subst is
    cases h
    exact .aside _ (fun _ _ => ((prims_refresh _ _).trans (prims_pushReply _ _ _)).moves) rfl
  case event judge f is =>
    rw [exec_of_eventOf is] at h
    cases h
    exact .settled judge _ fun sc hp => moves_eventOf hp.grants hp.reads hp.estimates is hp.stands hp.senses _
  case quiet f is =>
    rw [exec_of_quietOf is] at h
    cases h
    exact .aside _ (fun sc _ => (prims_quietOf is _).moves) (working_quietOf is _)
  case replySent l contacts is =>
    subst is
    change execReplySent l contacts S = _ at h
    unfold execReplySent at h
    split at h
    next =>
      cases h
      have hsame := Ends.silent (c := .replySent l contacts) (s := S.block) l (S.block.links.get l) rfl rfl (.inr ⟨_, rfl⟩)
      rwa [setLink_self] at hsame
    next r rest _ =>
      cases h
      dsimp only
      split
      · exact .restarted contacts _ (.inr ⟨l, { S.block.links.get l with replies := rest }, rfl, rfl⟩) (.inr ⟨l, rfl⟩)
      · exact .silent l _ rfl rfl (.inr ⟨_, rfl⟩)
  case byte l byte is => exact absurd is (hb l byte)
  case powerOn contacts mem is =>
    subst is
    cases h
    exact .started contacts mem rfl
  case warmRestart contacts is =>
    subst is
    cases h
    exact .restarted contacts _ (.inl rfl) (.inl rfl)

/-- What a byte of a frame comes to: what the request does that the frame carries, or nothing beyond its link. -/
theorem ends_of_byte {S T : State} {l : Link} {byte : Byte} (h : exec (.frameOpened l byte) S = .next T) :
    Ends (.frameOpened l byte) S.block T.block ∨
      ∃ bytes code tag payload, (S.block.links.get l).frame = some bytes ∧
        judgeFrame (bytes ++ [byte]) = .valid code tag payload ∧ Ends (parseRequest l code tag payload) S.block T.block := by
  have stays : Ends (.frameOpened l byte) S.block S.block := by
    have hsame := Ends.silent (c := .frameOpened l byte) (s := S.block) l (S.block.links.get l) rfl rfl (.inl ⟨_, rfl⟩)
    rwa [setLink_self] at hsame
  change execFrameOpened l byte S = _ at h
  unfold execFrameOpened at h
  split at h
  next =>
    cases h
    refine .inl ?_
    dsimp only
    split
    · exact .silent l _ rfl rfl (.inl ⟨_, rfl⟩)
    · exact stays
  next bytes hframe =>
    unfold takeFrame at h
    split at h
    next =>
      cases h
      exact .inl (.silent l _ rfl rfl (.inl ⟨_, rfl⟩))
    next =>
      cases h
      exact .inl (.aside _ (fun _ _ => (prims_dropFrame _ _).moves) rfl)
    next code tag payload hvalid =>
      obtain ⟨hrun, hnot⟩ | ⟨-, hrun⟩ := runRequest_cases (parseRequest l code tag payload) S
      · rw [hrun] at h
        exact .inr ⟨bytes, code, tag, payload, hframe, hvalid, ends_of_exec hnot h⟩
      · rw [hrun] at h
        cases h
        exact .inl stays

/-- What a step comes to. -/
theorem step_ends {S T : State} (h : step S = .next T) : T.block = S.block ∨ ∃ c, Ends c S.block T.block := by
  unfold step at h
  split at h
  next =>
    cases h
    exact .inl rfl
  next c rest _ =>
    by_cases hb : ∃ l byte, c = .frameOpened l byte
    · obtain ⟨l, byte, rfl⟩ := hb
      rcases ends_of_byte (S := { S with pending := rest }) h with he | ⟨bytes, code, tag, payload, -, -, he⟩
      · exact .inr ⟨_, he⟩
      · exact .inr ⟨_, he⟩
    · simp only [not_exists] at hb
      exact .inr ⟨c, ends_of_exec (S := { S with pending := rest }) hb h⟩

end Sys2Proof.Machine
end

section
/-!
The resets: what a warm restart makes of every block before its faults and loads, and the block after power-on.
-/

namespace Sys2Proof.Machine

variable {sc : Scope} {b x y z : Block} {p : Panto}

/-! ## What a fault, or a result of the self-test, leaves -/

/-- The two blocks differ in the Fault Record and the self-test's results alone. -/
def Noted (x y : Block) : Prop := ∃ f t, y = { x with cond := { x.cond with faults := f, selfTest := t } }

theorem Noted.refl (x : Block) : Noted x x := ⟨_, _, rfl⟩

theorem Noted.trans (h : Noted x y) (h' : Noted y z) : Noted x z := by
  obtain ⟨f, t, rfl⟩ := h
  obtain ⟨f', t', rfl⟩ := h'
  exact ⟨f', t', rfl⟩

theorem noted_failureIf (v : Bool) (w : SwId) (b : Block) : Noted b (failureIf v w b) := by
  cases v
  case false => exact .refl b
  case true => exact ⟨_, _, rfl⟩

theorem noted_eachPanto {f : Panto → Block → Block} (h : ∀ p b, Noted b (f p b)) (b : Block) : Noted b (eachPanto f b) :=
  (((h .p1 b).trans (h .p2 _)).trans (h .p3 _)).trans (h .p4 _)

/-! ## Warm restart -/

/-- The switches of a warm restart. -/
def Switches.atRestart (c : Contacts) (w : Switches) : Switches :=
  ⟨(breakerAtRestart c.breaker w.breaker).1, (w.selector.atRestart c.selector).1,
    .ofFun fun p => ((w.iso.get p).atRestart false (c.iso.get p)).1, (w.earth.atRestart false c.earth).1⟩

/-- The blocks at a warm restart, before its faults are recorded and its records loaded. -/
def restartBase (c : Contacts) (b : Block) : Block :=
  { b with
    plan := { b.plan with lead := none }
    sensors := Block.initial.sensors
    lift := .ofFun fun p => (b.lc p).atRestart
    line := LineMon.initial
    sw := b.sw.atRestart c
    queue := b.queue.atRestart
    seq := b.seq.atRestart
    ice := b.ice.atRestart
    links := ⟨b.links.a.atRestart, b.links.b.atRestart, b.links.p.atRestart⟩
    cond := { b.cond with
      mode := .waking, standbyLowering := false, modeTimer := 0, heldWake := false, returnMode := .standby
      selfTest := SelfTest.cleared, testStep := .notBegun
      restart := some ⟨b.plan.lead, b.plan.roles, liftStates b, b.cond.mode, b.cond.standbyLowering⟩
      reloadPending := true, newMaxUp := none } }

/-- The faults that a warm restart records of its switches. -/
def restartFaults (c : Contacts) (w : Switches) (b : Block) : Block :=
  failureIf (w.earth.atRestart false c.earth).2 .earth
    (eachPanto (fun p => failureIf ((w.iso.get p).atRestart false (c.iso.get p)).2 (.iso p))
      (failureIf (w.selector.atRestart c.selector).2 .selector
        (failureIf (breakerAtRestart c.breaker w.breaker).2 .breaker b)))

theorem restartBlocks_eq (c : Contacts) (b : Block) :
    restartBlocks c b = setTest { (restartFaults c b.sw (restartBase c b)).cond.selfTest with
      switches := switchResults (restartFaults c b.sw (restartBase c b)) } (restartFaults c b.sw (restartBase c b)) := by
  unfold restartBlocks switchesAtRestart
  rfl

theorem prims_restartBlocks (c : Contacts) (b : Block) : Prims sc (restartBase c b) (restartBlocks c b) := by
  rw [restartBlocks_eq]
  refine Prims.trans ?_ (prims_setTest _ _)
  exact (((prims_failureIf _ _ _).trans (prims_failureIf _ _ _)).trans
    (.eachPanto (fun _ => prims_failureIf _ _) _)).trans (prims_failureIf _ _ _)

theorem noted_restartBlocks (c : Contacts) (b : Block) : Noted (restartBase c b) (restartBlocks c b) := by
  rw [restartBlocks_eq]
  refine Noted.trans ?_ ⟨_, _, rfl⟩
  exact (((noted_failureIf _ _ _).trans (noted_failureIf _ _ _)).trans
    (noted_eachPanto (fun _ => noted_failureIf _ _) _)).trans (noted_failureIf _ _ _)

/-- From the blocks of a warm restart on, its faults, its loads and the guard are moves. -/
theorem moves_warmRestart (c : Contacts) (b : Block) : Moves sc (restartBase c b) (warmRestart c b) :=
  ((prims_restartBlocks c b).moves.trans (moves_reloadIfIdle _)).prims (prims_guardBreaker _)

/-! ## Power-on -/

/-- The switches at power-on. -/
def Switches.powered (c : Contacts) : Switches :=
  ⟨(breakerAtPowerOn c.breaker TwoSw.initial).1, (SelSw.initial.fromPattern c.selector).1,
    .ofFun fun p => (TwoSw.initial.fromPattern (c.iso.get p)).1, (TwoSw.initial.fromPattern c.earth).1⟩

/-- The faults that power-on records of its switches. -/
def powerFaults (c : Contacts) (b : Block) : Block :=
  failureIf (TwoSw.initial.fromPattern c.earth).2 .earth
    (eachPanto (fun p => failureIf (TwoSw.initial.fromPattern (c.iso.get p)).2 (.iso p))
      (failureIf (SelSw.initial.fromPattern c.selector).2 .selector
        (failureIf (breakerAtPowerOn c.breaker TwoSw.initial).2 .breaker b)))

/-- The block with the records of a memory image loaded. -/
def loadedBlock (m : MemImage) : Block := loadEntries (loadConfig { Block.initial with mem := ⟨m, none, [], false⟩ })

theorem powerOn_eq (c : Contacts) (m : MemImage) :
    powerOn c m = enterWaking .standby (powerFaults c { loadedBlock m with sw := Switches.powered c }) := rfl

theorem noted_powerFaults (c : Contacts) (b : Block) : Noted b (powerFaults c b) :=
  (((noted_failureIf _ _ _).trans (noted_failureIf _ _ _)).trans
    (noted_eachPanto (fun _ => noted_failureIf _ _) _)).trans (noted_failureIf _ _ _)

theorem prims_powerFaults (c : Contacts) (b : Block) : Prims sc b (powerFaults c b) :=
  (((prims_failureIf _ _ _).trans (prims_failureIf _ _ _)).trans
    (.eachPanto (fun _ => prims_failureIf _ _) _)).trans (prims_failureIf _ _ _)

theorem prims_powerOn (c : Contacts) (m : MemImage) :
    Prims sc { loadedBlock m with sw := Switches.powered c } (powerOn c m) := by
  rw [powerOn_eq]
  exact (prims_powerFaults c _).trans (prims_enterWaking _ _)

theorem loadedBlock_frame (m : MemImage) :
    ∃ cal cond, loadedBlock m = { Block.initial with mem := ⟨m, none, [], false⟩, cal := cal, cond := cond } ∧
      cond.cfg = loadedCfg m ∧ cond.restart = none ∧ cond.mode = .waking ∧ cond.standbyLowering = false ∧
      cond.reloadPending = false ∧ cond.newMaxUp = none := by
  unfold loadedBlock loadConfig
  cases hc : m.config with
  | some k => exact ⟨_, _, rfl, by simp [loadedCfg, hc], rfl, rfl, rfl, rfl, rfl⟩
  | none => exact ⟨_, _, rfl, by simp [loadedCfg, hc, recordFault], rfl, rfl, rfl, rfl, rfl⟩

theorem faultLaw_loadedBlock (m : MemImage) : FaultLaw (loadedBlock m) := by
  have h := (loadConfig_frame { Block.initial with mem := ⟨m, none, [], false⟩ }).2.2.2.2.2
    (faultLaw_empty (b := { Block.initial with mem := ⟨m, none, [], false⟩ }) Block.initial.cond)
  exact h

/-- The block after power-on: its first values, but for the memory and what it loads, the switches, and the records. -/
theorem powerOn_frame (c : Contacts) (m : MemImage) :
    ∃ cal cond, powerOn c m = { Block.initial with
        mem := ⟨m, none, [], false⟩, cal := cal, cond := cond, sw := Switches.powered c } ∧
      cond.cfg = loadedCfg m ∧ cond.restart = none ∧ cond.mode = .waking ∧ cond.standbyLowering = false ∧
      cond.reloadPending = false ∧ cond.newMaxUp = none := by
  obtain ⟨cal, cond, heq, hcfg, hrestart, -, -, hreload, hmax⟩ := loadedBlock_frame m
  obtain ⟨f, t, hnoted⟩ := noted_powerFaults c { loadedBlock m with sw := Switches.powered c }
  rw [powerOn_eq, hnoted, heq]
  exact ⟨cal, _, rfl, hcfg, hrestart, rfl, rfl, hreload, hmax⟩

end Sys2Proof.Machine
end

section
/-!
What every step keeps, from what every move keeps; and the laws that each change keeps by itself.
-/

namespace Sys2Proof.Machine

variable {sc : Scope} {b x y z s t : Block} {p : Panto} {c : Instr}

/-! ## From moves to steps -/

/-- The scope of everything a step may do. -/
def Scope.free (calm : Prop) : Scope := ⟨True, True, True, False, False, True, True, True, True, True, calm, True, True⟩

/-- A property that does not speak of the epoch, and that each move keeps. -/
structure KeptByMoves (P : Block → Prop) (sc : Scope) : Prop where
  move    : ∀ a b, Move sc a b → P a → P b
  epoch   : ∀ a n, P a → P { a with plan := { a.plan with epoch := n } }

theorem KeptByMoves.moves {P : Block → Prop} (h : KeptByMoves P sc) (hm : Moves sc b x) (hb : P b) : P x :=
  hm.keep h.move hb

theorem KeptByMoves.close {P : Block → Prop} (h : KeptByMoves P sc) (s : Block) (hb : P b) : P (close s b) := by
  have hepoch : P (advanceEpoch s b) := by
    unfold advanceEpoch
    split
    · exact hb
    · exact h.epoch _ _ hb
  exact h.moves (Moves.of (.prim (.mark _))) hepoch

/-- The scope permits whatever the other blocks' answers may do. -/
structure Scope.Answers (sc : Scope) : Prop where
  grants    : sc.grants
  estimates : sc.estimates
  advises   : sc.advises
  forgets   : sc.forgets
  closes    : sc.closes

/-- A property that each move keeps is kept by every command, where the resets give it. -/
theorem Ends.keep {P : Block → Prop} (h : KeptByMoves P sc) (hpermits : ∀ y, Permits sc c s y) (hall : sc.Answers)
    (restart : ∀ k x, P x → P (restartBase k x))
    (start : ∀ k m, c = .powerOn k m → P { powerOn k m with freeCount := s.freeCount }) (he : Ends c s t) (hs : P s) : P t := by
  have hlink (a : Block) (l : Link) (r : LinkRec) (hp : (a.links.get l).present = true → r.present = true) (ha : P a) :
      P (setLink l r a) := h.moves (Moves.of (.prim (.link l r hp (.inl hall.forgets)))) ha
  cases he
  case settled judge y moves =>
    have hy := moves _ (hpermits y)
    rw [settle_eq]
    refine h.close s (h.moves (hy.prims (prims_answers (sc := sc.still) hall.grants (fun _ => hall.closes) hall.estimates
      hall.advises s judge
      fun hc => ?_)) hs)
    exact hy.mid ((hpermits y).calm hc)
  case aside y moves own => exact h.close s (h.moves (moves _ (hpermits y)) hs)
  case replied l r =>
    exact h.moves (prims_pushReply _ _ _).moves (h.close s (h.moves (prims_refresh _ _).moves hs))
  case digest q r is =>
    exact hlink _ _ _ id (h.moves (prims_pushReply _ _ _).moves (h.close s (h.moves (prims_refresh _ _).moves hs)))
  case silent l r present mask is => exact hlink _ _ _ (fun hp => present.trans hp) hs
  case restarted k x from' is =>
    refine h.moves (moves_warmRestart k x) (restart k x ?_)
    rcases from' with rfl | ⟨l, r, hp, rfl⟩
    · exact hs
    · exact hlink _ _ _ (fun hq => hp.trans hq) hs
  case started k m is => exact start k m is

theorem Scope.free_answers (calm : Prop) : (Scope.free calm).Answers := ⟨trivial, trivial, trivial, trivial, trivial⟩

theorem permits_free {calm : Prop} (hcalm : calm → RestartMid s) (y : Block) : Permits (Scope.free calm) c s y :=
  ⟨trivial, trivial, trivial, fun _ => trivial, fun _ _ => trivial, fun _ => trivial, fun _ => trivial, hcalm, fun _ => trivial⟩

/-- A property that each move keeps is kept by every step, where the resets give it. -/
theorem step_keeps {P : Block → Prop} {calm : Prop} (h : KeptByMoves P (Scope.free calm))
    (restart : ∀ k x, P x → P (restartBase k x)) (start : ∀ k m n, P { powerOn k m with freeCount := n })
    {S T : State} (hcalm : calm → RestartMid S.block) (hstep : step S = .next T) (hs : P S.block) : P T.block := by
  rcases step_ends hstep with he | ⟨c, he⟩
  · rw [he]
    exact hs
  · exact he.keep h (permits_free hcalm) (Scope.free_answers calm) restart (fun k m _ => start k m _) hs

/-- A property that each change keeps, whatever the scope. -/
theorem KeptByMoves.of_prim {P : Block → Prop} (prim : ∀ (sc : Scope) (a b : Block), Prim sc a b → P a → P b)
    (epoch : ∀ a n, P a → P { a with plan := { a.plan with epoch := n } }) : KeptByMoves P sc where
  move a b hm ha := by
    cases hm
    case prim change => exact prim _ _ _ change ha
    case start run _ _ => exact run.keep (prim _) ha
    case load run _ _ _ _ _ => exact run.keep (prim _) ha
  epoch := epoch

/-! ## The lead (R3) -/

theorem present_markAll (m : Mask) (b : Block) (l : Link) : ((markAll m b).links.get l).present = (b.links.get l).present := by
  cases l <;> rfl

theorem present_setLink {l : Link} {r : LinkRec} (h : (b.links.get l).present = true → r.present = true) (k : Link)
    (hk : (b.links.get k).present = true) : ((setLink l r b).links.get k).present = true := by
  by_cases hkl : k = l
  · subst hkl
    simpa [setLink] using h hk
  · rw [setLink_get_ne _ _ hkl]
    exact hk

theorem prim_leadLaw (sc : Scope) (a b : Block) (h : Prim sc a b) (ha : LeadLaw a) : LeadLaw b := by
  cases h
  case lead m law => exact law ha
  case link l r present mask => exact fun k hk hlead => present_setLink present k (ha k hk hlead)
  case mark m =>
    intro k hk hlead
    rw [present_markAll]
    exact ha k hk hlead
  case lose l =>
    intro k hk hlead
    rw [linkLost_eq] at hlead ⊢
    rw [readyLapses_lead, leadLapses_lead] at hlead
    rw [readyLapses_links, leadLapses_links]
    split at hlead
    next => simp [hlead] at hk
    next hother =>
      have hkl : k ≠ l := fun hkl => hother ⟨hkl ▸ hk, hkl ▸ hlead⟩
      unfold goesAbsent
      rw [setLink_get_ne _ _ hkl]
      exact ha k hk hlead
  all_goals exact ha

theorem leadLaw_of_none (h : b.plan.lead = none) : LeadLaw b := by
  intro l hl hlead
  rw [hlead, h] at hl
  cases hl

/-- Settles O12: each change keeps the law, and a reset leaves no lead. -/
theorem leadIsHeldByAPresentLink : Obligations.LeadIsHeldByAPresentLink := by
  unfold Obligations.LeadIsHeldByAPresentLink
  intro S T hs hstep
  refine step_keeps (calm := False) (.of_prim prim_leadLaw fun _ _ h => h) (fun _ _ _ => leadLaw_of_none rfl)
    (fun k m n => leadLaw_of_none ?_) False.elim hstep hs
  obtain ⟨cal, cond, heq, -⟩ := powerOn_frame k m
  rw [heq]
  rfl

/-! ## Roles (R8, R12) -/

theorem role_lose (l : Link) (b : Block) (p : Panto) : (linkLost l b).role p = b.role p := by
  obtain ⟨-, -, -, hroles, -⟩ := linkLost_frame l b
  rw [Block.role, hroles, Block.role]

theorem role_setRole (p x : Panto) (r : Role) (o : Origin) (b : Block) :
    (setRole p r o b).role x = if x = p then r else b.role x := by
  by_cases h : x = p
  · rw [if_pos h, h, role_setRole_self]
  · rw [if_neg h, role_setRole_ne _ _ _ h]

theorem role_clearRole (p x : Panto) (b : Block) : (clearRole p b).role x = if x = p then .none else b.role x := by
  by_cases h : x = p
  · rw [if_pos h, h, role_clearRole_self]
  · rw [if_neg h, role_clearRole_ne _ h]

theorem prim_oneCollector (sc : Scope) (a b : Block) (h : Prim sc a b) (ha : OneCollector a) : OneCollector b := by
  cases h
  case clear p _ =>
    intro x y hx hy
    rw [role_clearRole] at hx hy
    split at hx
    next => cases hx
    split at hy
    next => cases hy
    next => exact ha x y hx hy
  case grant p r o may one isolator idle held =>
    intro x y hx hy
    rw [role_setRole] at hx hy
    by_cases hxp : x = p <;> by_cases hyp : y = p
    · exact hxp.trans hyp.symm
    · rw [if_pos hxp] at hx
      rw [if_neg hyp] at hy
      exact absurd hy (one hx y hyp)
    · rw [if_neg hxp] at hx
      rw [if_pos hyp] at hy
      exact absurd hx (one hy x hxp)
    · rw [if_neg hxp] at hx
      rw [if_neg hyp] at hy
      exact ha x y hx hy
  case succeed p c may collects held =>
    have only (x : Panto) (hx : (setRole c .collecting .internal (clearRole p a)).role x = .collecting) : x = c := by
      rw [role_setRole, role_clearRole] at hx
      by_contra hxc
      rw [if_neg hxc] at hx
      split at hx
      next => cases hx
      next hxp => exact hxp (ha x p hx collects)
    exact fun x y hx hy => (only x hx).trans (only y hy).symm
  case lose l =>
    intro x y hx hy
    rw [role_lose] at hx hy
    exact ha x y hx hy
  all_goals exact ha

theorem prim_isolatorLaw (sc : Scope) (a b : Block) (h : Prim sc a b) (ha : IsolatorLaw a) : IsolatorLaw b := by
  cases h
  case clear p _ =>
    intro x hx
    rw [role_clearRole] at hx
    split at hx
    next => simp at hx
    next => exact ha x hx
  case grant p r o may one isolator idle held =>
    intro x hx
    rw [role_setRole] at hx
    split at hx
    next h => exact h ▸ isolator hx
    next => exact ha x hx
  case succeed p c may collects held =>
    intro x hx
    rw [role_setRole, role_clearRole] at hx
    split at hx
    next => simp at hx
    next =>
      split at hx
      next => simp at hx
      next => exact ha x hx
  case iso p w opened =>
    intro x hx
    by_cases hxp : x = p
    · subst hxp
      have hopened : w.state = .opened := by
        rcases opened (ha x hx) with hw | hc
        · exact hw
        · have hrole : (a.setIso x w).role x = a.role x := rfl
          rw [hrole, hc] at hx
          simp at hx
      simpa [Block.setIso] using hopened
    · have hsame : (a.setIso p w).sw.iso.get x = a.sw.iso.get x := PerP.get_set_ne _ _ hxp
      rw [hsame]
      exact ha x hx
  case lose l =>
    intro x hx
    rw [role_lose] at hx
    obtain ⟨-, -, -, -, -, -, hsw, -⟩ := linkLost_frame l a
    rw [hsw]
    exact ha x hx
  all_goals exact ha

/-- The part of `EarthLaw` that speaks of the pantographs. -/
def EarthedDown (b : Block) : Prop := b.sw.earth.state ≠ .opened → ∀ p, (b.lc p).state.raised = false

theorem prim_earthedDown (sc : Scope) (a b : Block) (h : Prim sc a b) (ha : EarthedDown a) : EarthedDown b := by
  cases h
  case lift p l h =>
    intro he x
    rw [lc_setLift]
    split
    next =>
      by_contra hup
      have hup' : l.state.raised = true := by simpa using hup
      rcases h.raised hup' with hr | ho
      · rw [ha he p] at hr
        cases hr
      · exact he ho
    next => exact ha he x
  case earth w opened =>
    intro he x
    by_cases ho : a.sw.earth.state = .opened
    · exact (opened ho he).1 x
    · exact ha ho x
  case lose l =>
    intro he x
    obtain ⟨-, -, hlift, -, -, -, hsw, -⟩ := linkLost_frame l a
    rw [hsw] at he
    rw [Block.lc, hlift]
    exact ha he x
  all_goals exact ha

/-! ## Queue, run, faults and configuration (R88, R119, R175, R177) -/

theorem prim_queueLaw (sc : Scope) (a b : Block) (h : Prim sc a b) (ha : QueueLaw a.queue) : QueueLaw b.queue := by
  cases h
  case entries l order => exact order ha
  case motion q same =>
    obtain ⟨length, ascending, ids, apart, active⟩ := ha
    rw [← same] at length ascending ids apart active
    exact ⟨length, ascending, ids, apart, active⟩
  case lose l =>
    obtain ⟨-, -, -, -, -, -, -, -, -, hqueue, -⟩ := linkLost_frame l a
    rw [hqueue]
    exact ha
  all_goals exact ha

theorem queueLaw_initial : QueueLaw Queue.initial := ⟨by decide, .nil, .nil, .nil, .nil⟩

theorem queueLaw_atRestart {q : Queue} (h : QueueLaw q) : QueueLaw q.atRestart := by
  obtain ⟨length, ascending, ids, apart, active⟩ :=
    h.map (fun e => { e with active := false, served := false }) (fun _ => ⟨rfl, rfl, rfl, rfl⟩) nofun
  exact ⟨length, ascending, ids, apart, active⟩

/-- Settles O44: each change keeps the order of the queue, and power-on empties it. -/
theorem queueStaysInOrder : Obligations.QueueStaysInOrder := by
  unfold Obligations.QueueStaysInOrder
  intro S T hs hstep
  refine step_keeps (P := fun b => QueueLaw b.queue) (calm := False) (.of_prim prim_queueLaw fun _ _ h => h)
    (fun _ _ => queueLaw_atRestart) (fun k m n => ?_) False.elim hstep hs
  obtain ⟨cal, cond, heq, -⟩ := powerOn_frame k m
  rw [heq]
  exact queueLaw_initial

theorem prim_runLaw (sc : Scope) (a b : Block) (h : Prim sc a b) (ha : RunLaw a.line) : RunLaw b.line := by
  cases h
  case line l run => exact run ha
  case lose l =>
    obtain ⟨-, -, -, -, -, -, -, -, -, -, hline, -⟩ := linkLost_frame l a
    rw [hline]
    exact ha
  all_goals exact ha

theorem runLaw_initial : RunLaw LineMon.initial := nofun

theorem prim_faultLaw (sc : Scope) (a b : Block) (h : Prim sc a b) (ha : FaultLaw a) : FaultLaw b := by
  cases h
  case cond c fixed config faults strict mid => exact faults ha
  case lose l =>
    obtain ⟨-, hcond, -⟩ := linkLost_frame l a
    intro k
    rw [hcond]
    exact ha k
  all_goals exact ha

theorem prim_configLaw (sc : Scope) (a b : Block) (h : Prim sc a b) (ha : ConfigLaw a) : ConfigLaw b := by
  cases h
  case cond c fixed config faults strict mid => exact config ha
  case lose l =>
    obtain ⟨-, hcond, -⟩ := linkLost_frame l a
    unfold ConfigLaw
    rw [hcond]
    exact ha
  all_goals exact ha

/-- Settles O36: a write, a load and the end of an adoption each leave every item in its range, and nothing else writes
one. -/
theorem configurationStaysInRange : Obligations.ConfigurationStaysInRange := by
  unfold Obligations.ConfigurationStaysInRange
  intro S T hs hstep
  refine step_keeps (calm := False) (.of_prim prim_configLaw fun _ _ h => h) (fun _ _ h => ⟨h.1, nofun⟩)
    (fun k m n => ?_) False.elim hstep hs
  obtain ⟨cal, cond, heq, hcfg, -, -, -, -, hmax⟩ := powerOn_frame k m
  rw [heq]
  refine ⟨?_, fun v hv => ?_⟩
  · change InRange cond.cfg
    rw [hcfg]
    exact inRange_loadedCfg m
  · change cond.newMaxUp = some v at hv
    rw [hmax] at hv
    cases hv

/-! ## Halts (R141, R142) -/

/-- HALTED stays, where the scope does not permit that it is left. -/
theorem prim_halted {a b : Block} (hu : ¬sc.unhalts) (h : Prim sc a b) (ha : a.seq.phase = .halted) :
    b.seq.phase = .halted := by
  cases h
  case seq q halted idle strict mid => exact (halted ha).resolve_right hu
  case lose l =>
    obtain ⟨hseq, -⟩ := linkLost_frame l a
    rw [hseq]
    exact ha
  all_goals exact ha

theorem keptByMoves_halted (hu : ¬sc.unhalts) : KeptByMoves (fun b => b.seq.phase = .halted) sc where
  move a b hm ha := by
    cases hm
    case prim change => exact prim_halted (sc := sc.still) hu change ha
    case start run _ _ => exact run.keep (fun _ _ => prim_halted (sc := sc.starting) hu) ha
    case load run _ _ _ _ _ => exact run.keep (fun _ _ => prim_halted (sc := sc.loading) hu) ha
  epoch _ _ h := h

theorem atRestart_halted {q : Seq} (h : q.phase = .halted) : q.atRestart.phase = .halted := by
  simp [Seq.atRestart, h]

/-- A halt is left by the two requests that clear it, and by power-on. -/
theorem Ends.halted (he : Ends c s t) (hu : ¬Unhalts c) (hs : s.seq.phase = .halted) :
    t.seq.phase = .halted ∨ ∃ k m, c = .powerOn k m := by
  by_cases hpower : ∃ k m, c = .powerOn k m
  · exact .inr hpower
  · refine .inl (he.keep (sc := { Scope.free False with unhalts := False }) (keptByMoves_halted id)
      (fun _ => ⟨trivial, trivial, trivial, hu, fun _ _ => trivial, fun _ => trivial, fun _ => trivial, False.elim,
        fun _ => trivial⟩)
      ⟨trivial, trivial, trivial, trivial, trivial⟩ (fun _ _ => atRestart_halted)
      (fun k m hc => absurd ⟨k, m, hc⟩ hpower) hs)

/-! ### The requests that a frame can carry -/

/-- The commands that a frame can carry, the two that clear a halt under their codes alone. -/
def Carried (code : Nat) : Instr → Prop
  | .selectSystem _ _ => code = 0x07
  | .clearHalt _ => code = 0x08
  | .powerOn _ _ => False
  | .warmRestart _ => False
  | .replySent _ _ => False
  | .scanComplete _ => False
  | .samplePair _ => False
  | .windowClose _ => False
  | .frameOpened _ _ => False
  | _ => True

theorem carried_fielded {α : Type} {code : Nat} {l : Link} {tag : Nat} {v : Option α} {good : Req → α → Instr}
    {bad : Req → Instr} (hgood : ∀ q x, Carried code (good q x)) (hbad : ∀ q, Carried code (bad q)) :
    Carried code (fielded l tag v good bad) := by
  unfold fielded
  split
  · exact hgood _ _
  · exact hbad _

theorem carried_switchRequest (code : Nat) (l : Link) (tag : Nat) (payload : List Nat) :
    Carried code (switchRequest l tag payload) := by
  unfold switchRequest
  split
  next w pos =>
    cases hs : switchCommand ⟨l, tag, true⟩ w pos with
    | none => trivial
    | some i =>
      unfold switchCommand at hs
      change Carried code i
      split at hs
      case h_5 => cases hs
      all_goals
        obtain ⟨a, -, rfl⟩ := Option.map_eq_some_iff.mp hs
      case h_1 => cases a <;> trivial
      all_goals trivial
  next => trivial

theorem carried_parseRequest (l : Link) (code tag : Nat) (payload : List Nat) :
    Carried code (parseRequest l code tag payload) := by
  unfold parseRequest
  split
  case h_5 =>
    refine carried_fielded (fun q x => ?_) fun q => trivial
    split <;> trivial
  case h_7 => exact carried_fielded (fun _ _ => rfl) fun _ => rfl
  case h_8 => exact rfl
  case h_17 => exact carried_switchRequest _ l tag payload
  case h_3 | h_6 | h_9 | h_12 | h_13 | h_14 | h_15 | h_16 | h_18 | h_20 | h_23 | h_24 | h_25 | h_30 | h_35 | h_36 | h_40 =>
    exact carried_fielded (fun _ _ => trivial) fun _ => trivial
  all_goals trivial

theorem Carried.code_of_unhalts {code : Nat} (h : Carried code c) (hu : Unhalts c) : code = 0x07 ∨ code = 0x08 := by
  cases c
  case selectSystem => exact .inl h
  case clearHalt => exact .inr h
  all_goals exact hu.elim

/-- Settles O46: no change that the other commands permit leaves HALTED, and a frame that leaves it carries one of the two
requests. -/
theorem haltStandsUntilCleared : Obligations.HaltStandsUntilCleared := by
  unfold Obligations.HaltStandsUntilCleared
  intro c rest S T hpending hhalted hstep hleft
  have hexec : exec c { S with pending := rest } = .next T := by
    unfold step at hstep
    rw [hpending] at hstep
    exact hstep
  by_cases hu : Unhalts c
  · cases c
    case clearHalt q => exact .inr (.inl ⟨q, rfl⟩)
    case selectSystem q sys => exact .inr (.inr (.inl ⟨q, sys, rfl⟩))
    all_goals exact hu.elim
  by_cases hb : ∃ l byte, c = .frameOpened l byte
  · obtain ⟨l, byte, rfl⟩ := hb
    rcases ends_of_byte hexec with he | ⟨bytes, code, tag, payload, hframe, hvalid, he⟩
    · rcases he.halted hu hhalted with h | ⟨k, m, h⟩
      · exact absurd h hleft
      · cases h
    · have hcarried := carried_parseRequest l code tag payload
      by_cases hun : Unhalts (parseRequest l code tag payload)
      · exact .inr (.inr (.inr ⟨l, byte, bytes, code, tag, payload, rfl, hframe, hvalid, hcarried.code_of_unhalts hun⟩))
      · rcases he.halted hun hhalted with h | ⟨k, m, h⟩
        · exact absurd h hleft
        · rw [h] at hcarried
          exact hcarried.elim
  · simp only [not_exists] at hb
    rcases (ends_of_exec hb hexec).halted hu hhalted with h | hpower
    · exact absurd h hleft
    · exact .inl hpower

end Sys2Proof.Machine
end

section
/-!
The wait for an adoption, and the counts of the Roof Plan (R8, R178).
-/

namespace Sys2Proof.Machine

variable {sc : Scope} {b x y z s t : Block} {p : Panto} {c : Instr}

/-! ## The wait for an adoption -/

theorem prim_restartLaw (hs : ¬sc.starts) (h : Prim sc b x) (hb : RestartLaw b) : RestartLaw x := by
  cases h
  case seq q halted idle strict mid => exact strict.resolve_left hs hb
  case cond c fixed config faults strict mid => exact strict hb
  case lose l =>
    obtain ⟨hseq, hcond, -⟩ := linkLost_frame l b
    unfold RestartLaw
    rw [hseq, hcond]
    exact hb
  all_goals exact hb

theorem Prims.restartLaw (hs : ¬sc.starts) (h : Prims sc b x) (hb : RestartLaw b) : RestartLaw x :=
  h.keep (fun _ _ => prim_restartLaw hs) hb

theorem keptByMoves_restartLaw (hst : ¬sc.stands) : KeptByMoves RestartLaw sc where
  move a b hm ha := by
    cases hm
    case prim change => exact prim_restartLaw (sc := sc.still) id change ha
    case start run released rests => exact rests.resolve_left hst ha
    case load run _ _ _ _ _ => exact run.restartLaw (sc := sc.loading) id ha
  epoch _ _ h := h

theorem Seq.rests_atRestart (q : Seq) : q.atRestart.Rests := by
  left
  unfold Seq.atRestart
  dsimp only
  split
  next h => rcases h with h | h <;> simp [h]
  next => simp

theorem restartLaw_restartBase (k : Contacts) (b : Block) : RestartLaw (restartBase k b) :=
  fun _ => ⟨rfl, rfl, b.seq.rests_atRestart⟩

theorem restartLaw_of_awake (h : b.cond.restart = none) : RestartLaw b := fun hr => by simp [h] at hr

/-- A wrong system found while a restart waits: the path waits, or its candidate stands in CONTACT and is passed on at
once. -/
def Standing (b : Block) : Prop :=
  b.cond.restart.isSome = true → b.cond.mode = .waking ∧ b.cond.standbyLowering = false ∧
    (b.seq.Rests ∨ b.seq.phase = .probe ∧ b.seq.work = .raising ∧ ∃ c, b.seq.candidate = some c ∧ (b.lc c).state = .contact)

theorem RestartLaw.standing (h : RestartLaw b) : Standing b := fun hr =>
  ⟨(h hr).1, (h hr).2.1, .inl (h hr).2.2⟩

theorem collectorInContact_state (h : collectorInContact b = some p) : (b.lc p).state = .contact := by
  have hfound := List.find?_some h
  simp only [Bool.and_eq_true, beq_iff_eq] at hfound
  exact hfound.2

theorem setCandidate_frame (c : Option Panto) (b : Block) :
    (setCandidate c b).seq = { b.seq with candidate := c } ∧ (setCandidate c b).lift = b.lift := by
  unfold setCandidate
  dsimp only
  split <;> exact ⟨rfl, rfl⟩

theorem standing_startWrongSystem (sys : LineSystem) (hb : RestartMid b) (hp : b.seq.phase ≠ .halted) :
    Standing (startWrongSystem sys b) := by
  have hmid : RestartMid (startWrongSystem sys b) :=
    (moves_startWrongSystem (sc := Scope.free False) trivial sys hp).mid hb
  intro hr
  obtain ⟨hmode, hlow, -⟩ := hmid hr
  refine ⟨hmode, hlow, ?_⟩
  unfold startWrongSystem
  dsimp only
  generalize hx : setPreheat none (setTractionOff true (openBreaker .internal
    (recordFault .wrongSystem (collectorSubject b) b))) = x
  generalize hz : startPath .identify none false (some sys) none .probe x = z
  have hbegun : Begun .probe x z := ⟨_, _, _, _, _, hz.symm⟩
  have hphase := hbegun.phase_eq (by simp [BeginsPath])
  split
  next c hc =>
    split
    next =>
      obtain ⟨hseq, hlift⟩ := setCandidate_frame (some c) z
      refine .inr ⟨?_, rfl, c, ?_, ?_⟩
      · exact (setCandidate_phase _ _).trans hphase
      · exact congrArg Seq.candidate hseq
      · change ((setCandidate (some c) z).lc c).state = _
        rw [Block.lc, hlift]
        exact collectorInContact_state hc
    next => exact .inl (.inr ⟨hphase, .inl rfl⟩)
  next => exact .inl (.inr ⟨hphase, .inl rfl⟩)

theorem standing_of_prims (h : Prims (Scope.free False) b x) (hb : RestartLaw b) : Standing x :=
  (h.restartLaw id hb).standing

theorem standing_takeWindow (r : WindowResult) (hb : RestartLaw b) : Standing (takeWindow r b) := by
  have hx : RestartLaw { b with record := { b.record with measured := r.cls } } := hb
  unfold takeWindow
  dsimp only
  generalize hy : { b with record := { b.record with measured := r.cls } } = x at hx
  have hseq : b.seq = x.seq := by rw [← hy]
  rw [hseq]
  have away (sys : LineSystem) (hp : x.seq.phase ≠ .halted) : Standing (startWrongSystem sys x) :=
    standing_startWrongSystem sys hx.mid hp
  split
  next hp =>
    split
    next sys _ => exact away sys (by simp [hp])
    next => exact standing_of_prims (prims_lostLine _) hx
  next hp =>
    split
    next sys _ => exact away sys (by simp [hp])
    next => exact hx.standing
  next hp =>
    split
    next sys _ => exact away sys (by simp [hp])
    next =>
      split
      · exact standing_of_prims (prims_enterBreakerOpen (awake_of_phase (by simp [hp])) (by simp [hp]) (by simp [hp])) hx
      · exact hx.standing
  next hp => exact standing_of_prims (prims_confirmStep hp) hx
  next => exact hx.standing

theorem standing_closeWindow (hb : RestartLaw b) : Standing (closeWindow b) := by
  unfold closeWindow
  dsimp only
  refine standing_takeWindow _ ?_
  split
  · exact hb
  · exact hb

/-! ### The first answer passes a candidate that stands -/

theorem releasePending_waits (hr : b.cond.restart.isSome = true) : releasePending b = b := by
  have hone (p : Panto) : releasePendingOf p b = b := if_neg fun h => by simp [adoptionWaits, hr] at h
  unfold releasePending eachPanto
  rw [hone, hone, hone, hone]

theorem Standing.congr (h : Standing b) (hseq : x.seq = b.seq) (hcond : x.cond = b.cond) (hlift : x.lift = b.lift) :
    Standing x := by
  unfold Standing Block.lc at h ⊢
  rw [hseq, hcond, hlift]
  exact h

theorem guardBreaker_frame (b : Block) :
    (guardBreaker b).seq = b.seq ∧ (guardBreaker b).cond = b.cond ∧ (guardBreaker b).lift = b.lift := by
  unfold guardBreaker
  split
  · exact ⟨openBreaker_seq _ _, openBreaker_cond _ _, openBreaker_lift _ _⟩
  · exact ⟨rfl, rfl, rfl⟩

theorem seqStep_of_standing (h : Standing b) : RestartLaw (seqStep b) := by
  have hprims : Prims (Scope.free False) b (seqStep b) := prims_seqStep trivial (fun _ => trivial) False.elim
  intro hr
  have hr' : b.cond.restart.isSome = true := by rwa [hprims.restart (sc := Scope.free False) id] at hr
  obtain ⟨hmode, hlow, hrests | ⟨hphase, hwork, c, hc, hcon⟩⟩ := h hr'
  · exact hprims.restartLaw id (fun _ => ⟨hmode, hlow, hrests⟩) hr
  · have heq : seqStep b = enterConfirm b := by
      unfold seqStep probeStep
      simp only [hphase, hwork, hc, hcon]
    rw [heq]
    exact ⟨hmode, hlow, .inl (by simp [enterConfirm])⟩

theorem round_of_standing (h : Standing b) : RestartLaw (round b) := by
  unfold round
  have hfirst : Standing (releasePending (guardBreaker b)) := by
    by_cases hr : b.cond.restart.isSome = true
    · obtain ⟨hseq, hcond, hlift⟩ := guardBreaker_frame b
      rw [releasePending_waits (by rwa [hcond])]
      exact h.congr hseq hcond hlift
    · have hawake : (releasePending (guardBreaker b)).cond.restart = b.cond.restart :=
        ((prims_guardBreaker b).trans (prims_releasePending _)).restart (sc := Scope.free False) id
      intro hs
      rw [hawake] at hs
      exact absurd hs hr
  exact ((prims_wakingCheck _).trans (prims_standbyCheck _)).restartLaw (sc := Scope.free False) id
    (seqStep_of_standing hfirst)

theorem answers_of_standing (h : Standing b) (judge : Bool) : RestartLaw (answers s judge b) := by
  have hrest : Prims (Scope.free False) (round b) (answers s judge b) :=
    (((prims_rounds trivial 11 (fun _ => trivial) False.elim).trans (prims_iceSettle trivial trivial trivial s judge _)).trans
      (prims_standbyCheck _)).trans (prims_guardBreaker _)
  exact hrest.restartLaw id (round_of_standing h)

theorem settle_of_standing (h : Standing b) (judge : Bool) : RestartLaw (settle s judge b) := by
  rw [settle_eq]
  exact (keptByMoves_restartLaw (sc := { Scope.free False with stands := False }) id).close _ (answers_of_standing h judge)

/-! ## Steps, the windows apart -/

/-- The commands that can close a window. -/
def Windowed (c : Instr) : Prop := ∃ i, c = .samplePair i ∨ c = .windowClose i

theorem Carried.not_windowed {code : Nat} (h : Carried code c) : ¬Windowed c := by
  rintro ⟨i, rfl | rfl⟩ <;> exact h

/-- A step closes a window, or comes to what another command makes of the block. -/
theorem step_ends_windows {S T : State} (h : step S = .next T) :
    T.block = S.block ∨ (∃ c, Ends c S.block T.block ∧ ¬Windowed c) ∨
      ∃ i, T.block = settle S.block false (closeWindow (takeSlot i S.block)) ∨ T.block = close S.block (takeSlot i S.block) := by
  unfold step at h
  split at h
  next =>
    cases h
    exact .inl rfl
  next c rest _ =>
    by_cases hw : Windowed c
    · refine .inr (.inr ?_)
      obtain ⟨i, hi⟩ := hw
      refine ⟨i, ?_⟩
      rcases hi with rfl | rfl
      · change execSamplePair i _ = _ at h
        unfold execSamplePair at h
        split at h <;> cases h
        · exact .inl rfl
        · exact .inr rfl
      · change execWindowClose i _ = _ at h
        unfold execWindowClose at h
        split at h <;> cases h
        · exact .inl rfl
        · exact .inr rfl
    · refine .inr (.inl ?_)
      by_cases hb : ∃ l byte, c = .frameOpened l byte
      · obtain ⟨l, byte, rfl⟩ := hb
        rcases ends_of_byte (S := { S with pending := rest }) h with he | ⟨bytes, code, tag, payload, -, -, he⟩
        · exact ⟨_, he, hw⟩
        · exact ⟨_, he, (carried_parseRequest l code tag payload).not_windowed⟩
      · simp only [not_exists] at hb
        exact ⟨c, ends_of_exec (S := { S with pending := rest }) hb h, hw⟩

theorem step_restartLaw {S T : State} (hstep : step S = .next T) (hs : RestartLaw S.block) : RestartLaw T.block := by
  rcases step_ends_windows hstep with he | ⟨c, he, hw⟩ | ⟨i, he | he⟩
  · rw [he]
    exact hs
  · refine he.keep (sc := { Scope.free False with stands := False }) (keptByMoves_restartLaw id)
      (fun _ => ⟨trivial, trivial, trivial, fun _ => trivial, fun _ _ => trivial, fun _ => trivial, hw, False.elim,
        fun _ => trivial⟩)
      ⟨trivial, trivial, trivial, trivial, trivial⟩ (fun k x _ => restartLaw_restartBase k x) (fun k m _ => ?_) hs
    obtain ⟨cal, cond, heq, -, hr, -⟩ := powerOn_frame k m
    refine restartLaw_of_awake ?_
    rw [heq]
    exact hr
  · have hline : RestartLaw (takeSlot i S.block) := hs
    have hstands := standing_closeWindow hline
    generalize closeWindow (takeSlot i S.block) = y at he hstands
    rw [he]
    exact settle_of_standing hstands false
  · have hline : RestartLaw (takeSlot i S.block) := hs
    generalize takeSlot i S.block = y at he hline
    rw [he]
    exact (keptByMoves_restartLaw (sc := { Scope.free False with stands := False }) id).close _ hline

end Sys2Proof.Machine
end

section
/-!
The committed count and the held raises (R8, R29, R67), and what the limits of the force law are kept by (R61).
-/

namespace Sys2Proof.Machine

variable {sc : Scope} {b x y z s t : Block} {p : Panto} {c : Instr}

/-! ## Counts -/

theorem countP_mono {f g : Panto → Bool} (h : ∀ p, f p = true → g p = true) : countP f ≤ countP g :=
  List.countP_mono_left fun p _ => h p

/-- What `AirLaw` asks, after a change of one pantograph's record. -/
theorem AirLaw.setLift {l : Lift} (h : AirLaw b) (ha : AirAt b p l) : AirLaw (b.setLift p l) where
  count := by
    have hmax : (b.setLift p l).nat .maxUp = b.nat .maxUp := rfl
    rw [committedCount, hmax]
    have hother (x : Panto) (hx : x ≠ p) : committed (b.setLift p l) x = committed b x := by
      rw [committed, lc_setLift_ne b l hx]
      rfl
    have hself : committed (b.setLift p l) p = (l.state.raised || (b.role p != .none && l.held != .none)) := by
      rw [committed, lc_setLift_self]
      rfl
    by_cases hl : committed (b.setLift p l) p = true
    · rcases ha.count (hself ▸ hl) with hc | hallow
      · refine (countP_mono fun x hx => ?_).trans h.count
        by_cases hxp : x = p
        · rwa [hxp]
        · rwa [hother x hxp] at hx
      · simp only [airAllows, decide_eq_true_eq] at hallow
        refine (countP_mono fun x hx => ?_).trans hallow
        by_cases hxp : x = p
        · simp [hxp]
        · rw [hother x hxp] at hx
          simp [hx]
    · refine (countP_mono fun x hx => ?_).trans h.count
      by_cases hxp : x = p
      · rw [hxp] at hx
        exact absurd hx hl
      · rwa [hother x hxp] at hx
  held x := by
    rw [lc_setLift]
    split
    next hx => subst hx; exact ha.held
    next => exact h.held x
  search x := by
    rw [lc_setLift]
    split
    next hx => subst hx; exact ha.search
    next => exact h.search x
  adoption := h.adoption

/-- A change of roles keeps the law where no raise is held of a pantograph whose role changes. -/
theorem AirLaw.of_roles (h : AirLaw b) (hlift : x.lift = b.lift) (hcond : x.cond = b.cond)
    (hrole : ∀ p, x.role p = b.role p ∨ (b.lc p).held = .none) : AirLaw x := by
  have hlc (p : Panto) : x.lc p = b.lc p := by rw [Block.lc, hlift, Block.lc]
  have hsame (p : Panto) (hh : (b.lc p).held ≠ .none) : x.role p = b.role p := (hrole p).resolve_right hh
  refine ⟨?_, fun p hh => ?_, fun p hs => ?_, ?_⟩
  · have hcommitted : committed x = committed b := by
      funext p
      rw [committed, committed, hlc]
      by_cases hh : (b.lc p).held = .none
      · simp [hh]
      · rw [hsame p hh]
    rw [committedCount, hcommitted, Block.nat, hcond]
    exact h.count
  · rw [hlc] at hh ⊢
    rw [hsame p hh, hcond]
    exact h.held p hh
  · rw [hlc] at hs ⊢
    rw [hsame p (h.search p hs).1]
    exact h.search p hs
  · unfold AdoptionLaw
    rw [hcond]
    exact h.adoption

theorem AirLaw.of_cond {k : Cond} (h : AirLaw b) (hcfg : k.cfg = b.cond.cfg) (hr : k.restart = b.cond.restart)
    (hreload : k.reloadPending = b.cond.reloadPending) (hmax : k.newMaxUp = b.cond.newMaxUp) :
    AirLaw { b with cond := k } where
  count := by
    rw [Block.nat, hcfg]
    exact h.count
  held p hh := by
    rw [hr]
    exact h.held p hh
  search := h.search
  adoption := by
    unfold AdoptionLaw
    rw [hr, hreload, hmax]
    exact h.adoption

theorem prim_airLaw (hl : ¬sc.loads) (hcalm : sc.calm) (h : Prim sc b x) (hb : AirLaw b) : AirLaw x := by
  cases h
  case lift p l h => exact hb.setLift ((h.air.resolve_left hl) hcalm hb)
  case clear p held =>
    refine hb.of_roles rfl rfl fun q => ?_
    by_cases hq : q = p
    · exact .inr (hq ▸ held.resolve_left hl hb)
    · exact .inl (role_clearRole_ne b hq)
  case grant p r o may one isolator idle held =>
    refine hb.of_roles rfl rfl fun q => ?_
    by_cases hq : q = p
    · exact .inr (hq ▸ held hb)
    · exact .inl (role_setRole_ne r o b hq)
  case succeed p c may collects held =>
    refine hb.of_roles rfl rfl fun q => ?_
    obtain ⟨hp, hc⟩ := held hb
    by_cases hqc : q = c
    · exact .inr (hqc ▸ hc)
    · by_cases hqp : q = p
      · exact .inr (hqp ▸ hp)
      · exact .inl ((role_setRole_ne _ _ _ hqc).trans (role_clearRole_ne b hqp))
  case cond k fixed config faults strict mid =>
    obtain ⟨hcfg, hr, hreload, hmax⟩ := fixed.resolve_left hl
    exact hb.of_cond hcfg hr hreload hmax
  case lose l =>
    obtain ⟨-, hcond, hlift, hroles, -⟩ := linkLost_frame l b
    exact hb.of_roles hlift hcond fun q => .inl (role_lose l b q)
  case seq | breaker | selector | iso | earth | entries | motion | record | ready | hold | lead | ice | mem | cal | sensors
      | line | link | mark | free =>
    obtain ⟨count, held, search, adoption⟩ := hb
    exact ⟨count, held, search, adoption⟩

/-- The law of the count, with the ranges that a write and a load need. -/
theorem keptByMoves_airLaw (hcalm : sc.calm) : KeptByMoves (fun b => ConfigLaw b ∧ AirLaw b) sc where
  move a b hm ha := by
    obtain ⟨hconfig, hair⟩ := ha
    cases hm
    case prim change => exact ⟨prim_configLaw _ _ _ change hconfig, prim_airLaw (sc := sc.still) id hcalm change hair⟩
    case start run released rests =>
      exact ⟨run.keep (prim_configLaw _) hconfig, run.keep (fun _ _ => prim_airLaw (sc := sc.starting) id hcalm) hair⟩
    case load run awake air limits pends advised => exact ⟨run.keep (prim_configLaw _) hconfig, air hconfig hair⟩
  epoch a n h := by
    obtain ⟨hconfig, count, held, search, adoption⟩ := h
    exact ⟨hconfig, count, held, search, adoption⟩

theorem airLaw_restartBase (k : Contacts) (h : AirLaw b) : AirLaw (restartBase k b) := by
  have hlc (p : Panto) : (restartBase k b).lc p = (b.lc p).atRestart := PerP.get_ofFun _ p
  refine ⟨(countP_mono fun p hp => ?_).trans h.count, fun p hh => ?_, fun p hs => ?_, nofun⟩
  · rw [committed, hlc] at hp
    have hup : (b.lc p).state.raised = true := by simpa [Lift.atRestart, Lift.initial] using hp
    simp [committed, hup]
  · rw [hlc] at hh
    exact absurd rfl hh
  · rw [hlc] at hs
    cases hs

theorem configLaw_powerOn (k : Contacts) (m : MemImage) (n : Nat) : ConfigLaw { powerOn k m with freeCount := n } := by
  obtain ⟨cal, cond, heq, hcfg, -, -, -, -, hmax⟩ := powerOn_frame k m
  rw [heq]
  refine ⟨?_, fun v hv => ?_⟩
  · change InRange cond.cfg
    rw [hcfg]
    exact inRange_loadedCfg m
  · change cond.newMaxUp = some v at hv
    rw [hmax] at hv
    cases hv

theorem initial_lc (p : Panto) : Block.initial.lc p = Lift.initial := PerP.get_const _ p

theorem airLaw_powerOn (k : Contacts) (m : MemImage) (n : Nat) : AirLaw { powerOn k m with freeCount := n } := by
  obtain ⟨cal, cond, heq, -, hr, -, -, hreload, hmax⟩ := powerOn_frame k m
  rw [heq]
  refine ⟨?_, fun p hh => ?_, fun p hs => ?_, fun _ => ⟨hreload, hmax⟩⟩
  · exact (Nat.le_of_eq rfl).trans (Nat.zero_le _)
  · have hlc := initial_lc p
    exact absurd (congrArg Lift.held hlc) hh
  · have hlc := congrArg Lift.heldSearch (initial_lc p)
    exact absurd (hs.symm.trans hlc) (by decide)

theorem raised_le_committed (b : Block) :
    (Panto.all.filter fun p => (b.lc p).state.raised).length ≤ committedCount b := by
  rw [← List.countP_eq_length_filter]
  exact countP_mono fun p hp => by simp [committed, hp]

/-- Settles O18: one collector by the grants, the wait for an adoption by what a start and a window leave, and the count by
what each raise is examined for. -/
theorem onePantographCollects : Obligations.OnePantographCollects := by
  unfold Obligations.OnePantographCollects
  intro S T hstep
  refine ⟨fun hs => ?_, step_restartLaw hstep, fun hconfig hrestart hair => ?_⟩
  · refine step_keeps (calm := False) (.of_prim prim_oneCollector fun _ _ h => h) (fun _ _ h => h) (fun k m n => ?_)
      False.elim hstep hs
    obtain ⟨cal, cond, heq, -⟩ := powerOn_frame k m
    rw [heq]
    intro p x hp
    have hnone : Block.initial.role p = .none := by cases p <;> rfl
    exact absurd (hnone.symm.trans hp) (by decide)
  · obtain ⟨-, h⟩ := step_keeps (calm := True) (keptByMoves_airLaw trivial)
      (fun k x hx => ⟨⟨hx.1.1, nofun⟩, airLaw_restartBase k hx.2⟩)
      (fun k m n => ⟨configLaw_powerOn k m n, airLaw_powerOn k m n⟩) (fun _ => hrestart.mid) hstep ⟨hconfig, hair⟩
    exact ⟨h, (raised_le_committed _).trans h.count⟩

/-! ## The limits of the force law (R49, R61) -/

theorem LimitsLaw.of_same (h : LimitsLaw b) (hlift : x.lift = b.lift) (hcfg : x.cond.cfg = b.cond.cfg)
    (hr : x.cond.restart = b.cond.restart) (hreload : x.cond.reloadPending = b.cond.reloadPending)
    (hmax : x.cond.newMaxUp = b.cond.newMaxUp) : LimitsLaw x := by
  have hlc (p : Panto) : x.lc p = b.lc p := by rw [Block.lc, hlift, Block.lc]
  refine ⟨fun p => ?_, fun hnone p hcon => ?_, fun hd => ?_, ?_⟩
  · rw [hlc, Block.nat, hcfg]
    exact h.pressure p
  · rw [hlc] at hcon ⊢
    rw [head_congr hcfg, forceItems_congr hcfg]
    exact h.force (hr.symm.trans hnone) p hcon
  · rw [forceItems_congr hcfg]
    exact h.ordered hd
  · unfold AdoptionLaw
    rw [hr, hreload, hmax]
    exact h.adoption

theorem prim_limitsLaw (hl : ¬sc.loads) (h : Prim sc b x) (hc : ConfigLaw b) (hb : LimitsLaw b) : LimitsLaw x := by
  cases h
  case lift p l h =>
    refine ⟨fun q => ?_, fun hr q => ?_, hb.ordered, hb.adoption⟩
    · rw [lc_setLift]
      split
      · exact h.pressure hc (hb.pressure p)
      · exact hb.pressure q
    · rw [lc_setLift]
      split
      next hq =>
        subst hq
        intro hcon
        rcases h.force hcon with ⟨hwas, hf⟩ | hf
        · rw [hf]
          exact hb.force hr q hwas
        · exact ⟨_, hf, targetForceOf_between hb.ordered q⟩
      next => exact hb.force hr q
  case cond k fixed config faults strict mid =>
    obtain ⟨hcfg, hr, hreload, hmax⟩ := fixed.resolve_left hl
    exact hb.of_same rfl hcfg hr hreload hmax
  case lose l =>
    obtain ⟨-, hcond, hlift, -⟩ := linkLost_frame l b
    exact hb.of_same hlift (by rw [hcond]) (by rw [hcond]) (by rw [hcond]) (by rw [hcond])
  all_goals exact hb.of_same rfl rfl rfl rfl rfl

theorem Prims.limitsLaw (hl : ¬sc.loads) (h : Prims sc b x) (hc : ConfigLaw b) (hb : LimitsLaw b) : LimitsLaw x :=
  (h.keep (P := fun b => ConfigLaw b ∧ LimitsLaw b) (fun _ _ hstep ha =>
    ⟨prim_configLaw _ _ _ hstep ha.1, prim_limitsLaw hl hstep ha.1 ha.2⟩) ⟨hc, hb⟩).2

theorem keptByMoves_limitsLaw : KeptByMoves (fun b => ConfigLaw b ∧ LimitsLaw b) sc where
  move a b hm ha := by
    obtain ⟨hconfig, hlimits⟩ := ha
    cases hm
    case prim change => exact ⟨prim_configLaw _ _ _ change hconfig, prim_limitsLaw (sc := sc.still) id change hconfig hlimits⟩
    case start run released rests =>
      exact ⟨run.keep (prim_configLaw _) hconfig, run.limitsLaw (sc := sc.starting) id hconfig hlimits⟩
    case load run awake air limits pends advised => exact ⟨run.keep (prim_configLaw _) hconfig, limits hconfig hlimits⟩
  epoch a n h := ⟨h.1, h.2.of_same rfl rfl rfl rfl rfl⟩

theorem limitsLaw_restartBase (k : Contacts) (h : LimitsLaw b) : LimitsLaw (restartBase k b) := by
  have hlc (p : Panto) : (restartBase k b).lc p = (b.lc p).atRestart := PerP.get_ofFun _ p
  refine ⟨fun p => ?_, nofun, h.ordered, nofun⟩
  rw [hlc]
  exact h.pressure p

theorem limitsLaw_powerOn (k : Contacts) (m : MemImage) (n : Nat) : LimitsLaw { powerOn k m with freeCount := n } := by
  obtain ⟨cal, cond, heq, hcfg, hr, -, -, hreload, hmax⟩ := powerOn_frame k m
  rw [heq]
  refine ⟨fun p => ?_, fun _ p hcon => ?_, fun hd => forceItems_ordered (fun q hq => ?_) hd, fun _ => ⟨hreload, hmax⟩⟩
  · have hlc := congrArg Lift.commanded (initial_lc p)
    exact (Nat.le_of_eq hlc).trans (Nat.zero_le _)
  · have hlc := congrArg Lift.state (initial_lc p)
    exact absurd (hlc.symm.trans hcon) (by decide)
  · change cfgGet cond.cfg q.1 ≤ cfgGet cond.cfg q.2
    rw [hcfg]
    exact loadedCfg_ordered m q hq

/-- Settles O60: each change of a pressure or a target is made within its limits, and each load or write brings them within
the new ones. -/
theorem limitsAreKept : Obligations.LimitsAreKept := by
  unfold Obligations.LimitsAreKept
  intro S T hconfig hlimits hstep
  exact (step_keeps (calm := False) keptByMoves_limitsLaw
    (fun k x hx => ⟨⟨hx.1.1, nofun⟩, limitsLaw_restartBase k hx.2⟩)
    (fun k m n => ⟨configLaw_powerOn k m n, limitsLaw_powerOn k m n⟩) False.elim hstep ⟨hconfig, hlimits⟩).2

end Sys2Proof.Machine
end

section
/-!
The change masks and the plan epoch over a step (R19, R184).
-/

namespace Sys2Proof.Machine

variable {sc : Scope} {b x y z s t : Block} {p : Panto} {c : Instr}

/-! ## No change but a digest read clears a bit -/

/-- No bit that is set in a mask of `b` is clear in `x`. -/
def MasksGrow (b x : Block) : Prop :=
  ∀ l k, (b.links.get l).mask.getLsbD k = true → (x.links.get l).mask.getLsbD k = true

theorem MasksGrow.refl (b : Block) : MasksGrow b b := fun _ _ h => h

theorem MasksGrow.trans (h : MasksGrow b x) (h' : MasksGrow x y) : MasksGrow b y := fun l k hk => h' l k (h l k hk)

theorem masksGrow_markAll (m : Mask) (b : Block) : MasksGrow b (markAll m b) := by
  intro l k hk
  rw [mask_markAll, BitVec.getLsbD_or, hk]
  rfl

theorem masksGrow_setLink {l : Link} {r : LinkRec}
    (h : ∀ k, (b.links.get l).mask.getLsbD k = true → r.mask.getLsbD k = true) : MasksGrow b (setLink l r b) := by
  intro m k hk
  by_cases hm : m = l
  · subst hm
    simpa using h k hk
  · rwa [setLink_get_ne _ _ hm]

theorem prim_masksGrow (hf : ¬sc.forgets) (h : Prim sc b x) : MasksGrow b x := by
  cases h
  case link l r present mask => exact masksGrow_setLink (mask.resolve_left hf)
  case mark m => exact masksGrow_markAll m b
  case lose l =>
    have hlinks : (linkLost l b).links = (goesAbsent l b).links := by
      rw [linkLost_eq, readyLapses_links, leadLapses_links]
    intro m k hk
    rw [hlinks]
    exact masksGrow_setLink (r := { b.links.get l with present := false, age := (b.links.get l).age.map (max 500) })
      (fun _ h => h) m k hk
  all_goals exact .refl b

theorem Prims.masksGrow (hf : ¬sc.forgets) (h : Prims sc b x) : MasksGrow b x :=
  h.keep (P := MasksGrow b) (fun _ _ hs ha => ha.trans (prim_masksGrow hf hs)) (.refl b)

theorem Moves.masksGrow (hf : ¬sc.forgets) (h : Moves sc b x) : MasksGrow b x :=
  h.keepPrim (P := MasksGrow b) (fun _ _ hs ha => ha.trans (prim_masksGrow (sc := sc.still) hf hs))
    (fun _ _ hs ha => ha.trans (prim_masksGrow (sc := sc.starting) hf hs))
    (fun _ _ hs ha => ha.trans (prim_masksGrow (sc := sc.loading) hf hs)) (.refl b)

/-! ## The close of an event -/

theorem getLsbD_fieldDiff {xs ys : List (List Nat)} {n k : Nat} (hlen : xs.length = ys.length) (hk : n + k < 16)
    (h : xs[k]? ≠ ys[k]?) : (fieldDiff n xs ys).getLsbD (n + k) = true := by
  induction xs generalizing ys n k with
  | nil =>
    cases ys with
    | nil => exact absurd rfl h
    | cons y ys => cases hlen
  | cons x xs ih =>
    cases ys with
    | nil => cases hlen
    | cons y ys =>
      rw [fieldDiff, BitVec.getLsbD_or]
      cases k with
      | zero =>
        have hxy : x ≠ y := fun hxy => h (by simp [hxy])
        simp only [if_neg hxy, Nat.add_zero, BitVec.getLsbD_twoPow]
        simp [show n < 16 by omega]
      | succ k =>
        have hrest := ih (ys := ys) (n := n + 1) (k := k) (by simpa using hlen) (by omega) (by simpa using h)
        rw [show n + 1 + k = n + (k + 1) by omega] at hrest
        simp [hrest]

/-- Fields, bits and contents as a step brings them. -/
structure Marked (s t : Block) : Prop where
  bits  : ∀ k l, k < 16 → (digestFields s)[k]? ≠ (digestFields t)[k]? → (t.links.get l).mask.getLsbD k = true
  grow  : MasksGrow s t

theorem digestFields_markAll (m : Mask) (b : Block) : digestFields (markAll m b) = digestFields b := rfl

theorem links_advanceEpoch (s b : Block) : (advanceEpoch s b).links = b.links := by
  unfold advanceEpoch
  split <;> rfl

theorem length_digestFields (b : Block) : (digestFields b).length = 16 := rfl

theorem bit_of_changed {k : Nat} (hk : k < 16) (h : (digestFields s)[k]? ≠ (digestFields x)[k]?) (l : Link) :
    ((markChanges s x).links.get l).mask.getLsbD k = true := by
  have hdiff := getLsbD_fieldDiff (n := 0) ((length_digestFields s).trans (length_digestFields x).symm) (by omega) h
  rw [Nat.zero_add] at hdiff
  rw [markChanges, mask_markAll, changed, BitVec.getLsbD_or, BitVec.getLsbD_or, hdiff]
  simp

theorem masksGrow_close (s x : Block) : MasksGrow x (close s x) := by
  have hepoch : MasksGrow x (advanceEpoch s x) := by
    unfold MasksGrow
    rw [links_advanceEpoch]
    exact fun _ _ hk => hk
  exact hepoch.trans (masksGrow_markAll _ _)

theorem digestFields_close (s x : Block) : digestFields (close s x) = digestFields (advanceEpoch s x) :=
  digestFields_markAll _ _

theorem marked_close (h : MasksGrow s x) : Marked s (close s x) where
  bits k l hk hne := by
    rw [digestFields_close] at hne
    exact bit_of_changed hk hne l
  grow := h.trans (masksGrow_close s x)

theorem Marked.of_same (h : Marked s x) (hfields : digestFields y = digestFields x) (hmasks : MasksGrow x y) :
    Marked s y where
  bits k l hk hne := hmasks l k (h.bits k l hk (by rwa [← hfields]))
  grow := h.grow.trans hmasks

theorem marked_of_full (h : ∀ l, (t.links.get l).mask = 0xFFFF) : Marked s t := by
  have hbit (l : Link) {k : Nat} (hk : k < 16) : (t.links.get l).mask.getLsbD k = true := by
    rw [h]
    have hall : ∀ k : Fin 16, (0xFFFF : Mask).getLsbD k = true := by decide
    exact hall ⟨k, hk⟩
  exact ⟨fun k l hk _ => hbit l hk, fun l k hk => hbit l (BitVec.lt_of_getLsbD hk)⟩

theorem full_of_grow (h : MasksGrow b x) (hb : ∀ l, (b.links.get l).mask = 0xFFFF) (l : Link) :
    (x.links.get l).mask = 0xFFFF := by
  apply BitVec.eq_of_getLsbD_eq
  intro k hk
  have hall : ∀ k : Fin 16, (0xFFFF : Mask).getLsbD k = true := by decide
  rw [hall ⟨k, hk⟩]
  exact h l k (by rw [hb]; exact hall ⟨k, hk⟩)

/-! ## The masks over a step (R184) -/

/-- The scope of everything but the clearing of a mask. -/
def Scope.remembers : Scope := { Scope.free False with forgets := False }

theorem permits_remembers (s y : Block) : Permits Scope.remembers c s y :=
  ⟨trivial, trivial, trivial, fun _ => trivial, fun _ _ => trivial, fun _ => trivial, fun _ => trivial, False.elim,
    fun _ => trivial⟩

theorem masksGrow_answers (judge : Bool) (hy : Moves Scope.remembers s y) : MasksGrow s (answers s judge y) :=
  (hy.masksGrow id).trans
    ((prims_answers (sc := Scope.remembers) trivial (fun _ => trivial) trivial trivial s judge False.elim).masksGrow id)

theorem digestFields_setLink {l : Link} {r : LinkRec} (h : r.present = (b.links.get l).present) :
    digestFields (setLink l r b) = digestFields b := by
  have hset : digestFields (setLink l r b) = (digestFields b).set 13 [linksByte (b.links.set l r)] := rfl
  have hbyte : linksByte (b.links.set l r) = linksByte b.links := by
    cases l <;> simp only [PerL.get] at h <;> simp only [linksByte, PerL.set, h]
  rw [hset, hbyte]
  rfl

theorem Ends.marked (he : Ends c s t) (hc : ∀ q, c ≠ .readStatusDigest q) : Marked s t := by
  cases he
  case settled judge y moves =>
    rw [settle_eq]
    exact marked_close (masksGrow_answers judge (moves _ (permits_remembers s y)))
  case aside y moves own => exact marked_close ((moves _ (permits_remembers s y)).masksGrow id)
  case replied l r =>
    have hrefresh : MasksGrow s (refresh l s) := fun m k hk => by rwa [mask_refresh]
    refine (marked_close hrefresh).of_same (digestFields_setLink rfl) fun m k hk => ?_
    rwa [mask_pushReply]
  case digest q r is => exact absurd is (hc q)
  case silent l r present mask is =>
    have hsame : Marked s s := ⟨fun k l _ hne => absurd rfl hne, .refl s⟩
    refine hsame.of_same (digestFields_setLink present) (masksGrow_setLink fun k hk => ?_)
    rwa [mask]
  case restarted k x from' is =>
    have hgrow := (moves_warmRestart (sc := Scope.remembers) k x).masksGrow id
    exact marked_of_full (full_of_grow hgrow fun l => by cases l <;> rfl)
  case started k m is =>
    obtain ⟨cal, cond, heq, -⟩ := powerOn_frame k m
    refine marked_of_full fun l => ?_
    rw [heq]
    cases l <;> rfl

/-- Settles O58: the close of an event sets the bits of the fields that differ, no change clears one, and a reset sets
all. -/
theorem changesRaiseAttention : Obligations.ChangesRaiseAttention := by
  unfold Obligations.ChangesRaiseAttention
  intro c rest S T hpending hread hbyte hstep k l hk
  have hexec : exec c { S with pending := rest } = .next T := by
    unfold step at hstep
    rw [hpending] at hstep
    exact hstep
  have hmarked := (ends_of_exec hbyte hexec).marked hread
  exact ⟨hmarked.bits k l hk, hmarked.grow l k⟩

/-! ## The epoch over a step (R19) -/

theorem prim_epoch (h : Prim sc b x) : x.plan.epoch = b.plan.epoch := by
  cases h
  case lose l =>
    obtain ⟨-, -, -, -, -, hepoch, -⟩ := linkLost_frame l b
    exact hepoch
  all_goals rfl

theorem Prims.epoch (h : Prims sc b x) : x.plan.epoch = b.plan.epoch :=
  h.keep (P := fun y => y.plan.epoch = b.plan.epoch) (fun _ _ hs ha => (prim_epoch hs).trans ha) rfl

theorem Moves.epoch (h : Moves sc b x) : x.plan.epoch = b.plan.epoch :=
  h.keepPrim (P := fun y => y.plan.epoch = b.plan.epoch) (fun _ _ hs ha => (prim_epoch hs).trans ha)
    (fun _ _ hs ha => (prim_epoch hs).trans ha) (fun _ _ hs ha => (prim_epoch hs).trans ha) rfl

/-- The epoch has advanced once where the principal contents differ. -/
def Advanced (s t : Block) : Prop :=
  t.plan.epoch = if principal s = principal t then s.plan.epoch else (s.plan.epoch + 1) % 65536

theorem advanced_close (hr : s.cond.restart = none) (h : x.plan.epoch = s.plan.epoch) : Advanced s (close s x) := by
  have hreference : reference s x = principal s := by
    unfold reference
    rw [hr]
  have hprincipal : principal (close s x) = principal x := by
    unfold close markChanges advanceEpoch
    split <;> rfl
  unfold Advanced
  rw [hprincipal]
  change (advanceEpoch s x).plan.epoch = _
  unfold advanceEpoch
  rw [hreference, ← h]
  split <;> rfl

theorem advanced_same (he : x.plan.epoch = s.plan.epoch) (hp : principal x = principal s) : Advanced s x := by
  unfold Advanced
  rw [hp, if_pos rfl, he]

theorem Advanced.of_same (h : Advanced s x) (he : y.plan.epoch = x.plan.epoch) (hp : principal y = principal x) :
    Advanced s y := by
  unfold Advanced at h ⊢
  rw [hp, he]
  exact h

theorem Ends.advanced (he : Ends c s t) (hr : s.cond.restart = none) (hpower : ∀ k m, c ≠ .powerOn k m)
    (hwarm : ∀ k, c ≠ .warmRestart k) (hsent : ∀ l k, c ≠ .replySent l k) : Advanced s t := by
  cases he
  case settled judge y moves =>
    rw [settle_eq]
    have hanswers : Prims Scope.remembers y (answers s judge y) :=
      prims_answers trivial (fun _ => trivial) trivial trivial s judge False.elim
    exact advanced_close hr (hanswers.epoch.trans (moves _ (permits_remembers s y)).epoch)
  case aside y moves own => exact advanced_close hr (moves _ (permits_remembers s y)).epoch
  case replied l r => exact (advanced_close hr (x := refresh l s) rfl).of_same rfl rfl
  case digest q r is => exact (advanced_close hr (x := refresh q.link s) rfl).of_same rfl rfl
  case silent l r present mask is => exact advanced_same rfl rfl
  case restarted k x from' is =>
    rcases is with is | ⟨l, is⟩
    · exact absurd is (hwarm k)
    · exact absurd is (hsent l k)
  case started k m is => exact absurd is (hpower k m)

theorem Carried.advanced {code : Nat} (h : Carried code c) (he : Ends c s t) (hr : s.cond.restart = none) :
    Advanced s t := by
  refine he.advanced hr ?_ ?_ ?_
  · rintro k m rfl
    exact h
  · rintro k rfl
    exact h
  · rintro l k rfl
    exact h

/-- Settles O59: no change writes the epoch, and the close of an event judges the principal contents. -/
theorem epochCountsChanges : Obligations.EpochCountsChanges := by
  unfold Obligations.EpochCountsChanges
  intro c rest S T hpending hr hpower hwarm hsent hstep
  have hexec : exec c { S with pending := rest } = .next T := by
    unfold step at hstep
    rw [hpending] at hstep
    exact hstep
  by_cases hb : ∃ l byte, c = .frameOpened l byte
  · obtain ⟨l, byte, rfl⟩ := hb
    rcases ends_of_byte hexec with he | ⟨bytes, code, tag, payload, -, -, he⟩
    · exact he.advanced hr (by simp) (by simp) (by simp)
    · exact (carried_parseRequest l code tag payload).advanced he hr
  · simp only [not_exists] at hb
    exact (ends_of_exec hb hexec).advanced hr hpower hwarm hsent

end Sys2Proof.Machine
end

section
/-!
The laws of the switches over a step (R12, R103, R104, R107), of the scraper (R129) and of the pending lowers (R37).
-/

namespace Sys2Proof.Machine

variable {sc : Scope} {b x y z s t : Block} {p : Panto} {c : Instr}

/-! ## Properties that the answers of the blocks bring about anew -/

/-- A property that speaks of what the blocks answer on alone, the epoch left out. -/
structure Lasting (P : Block → Prop) : Prop where
  working : ∀ a b : Block, a.working = b.working → P a → P b
  epoch   : ∀ a n, P a → P { a with plan := { a.plan with epoch := n } }

theorem Lasting.close {P : Block → Prop} (h : Lasting P) (s : Block) (hb : P b) : P (close s b) := by
  have hepoch : P (advanceEpoch s b) := by
    unfold advanceEpoch
    split
    · exact hb
    · exact h.epoch _ _ hb
  exact h.working (advanceEpoch s b) _ rfl hepoch

/-- A property that the answers and the resets bring about is kept by every command. -/
theorem Ends.seal {P : Block → Prop} (h : Lasting P) (he : Ends c s t)
    (settled : ∀ judge y, (∀ sc, Permits sc c s y → Moves sc s y) → P (answers s judge y))
    (restarted : ∀ k x, P (warmRestart k x))
    (started : ∀ k m, c = .powerOn k m → P { powerOn k m with freeCount := s.freeCount }) (hs : P s) : P t := by
  cases he
  case settled judge y moves =>
    rw [settle_eq]
    exact h.close s (settled judge y moves)
  case aside y moves own => exact h.close s (h.working _ _ own.symm hs)
  case replied l r => exact h.working _ _ (working_pushReply _ _ _).symm (h.close s (h.working s _ (working_refresh _ _).symm hs))
  case digest q r is =>
    exact h.working _ _ ((working_setLink _ _ _).trans (working_pushReply _ _ _)).symm
      (h.close s (h.working s _ (working_refresh _ _).symm hs))
  case silent l r present mask is => exact h.working s _ (working_setLink _ _ _).symm hs
  case restarted k x from' is => exact restarted k x
  case started k m is => exact started k m is

/-- A property that the answers and the resets bring about is kept by every step. -/
theorem step_seals {P : Block → Prop} (h : Lasting P)
    (settled : ∀ s judge y, Moves (Scope.free False) s y → P s → P (answers s judge y))
    (restarted : ∀ k x, P (warmRestart k x)) (started : ∀ k m n, P { powerOn k m with freeCount := n })
    {S T : State} (hstep : step S = .next T) (hs : P S.block) : P T.block := by
  rcases step_ends hstep with he | ⟨c, he⟩
  · rw [he]
    exact hs
  · exact he.seal h (fun judge y moves => settled _ _ _ (moves _ (permits_free False.elim y)) hs) restarted
      (fun k m _ => started k m _) hs

/-! ## The breaker (R103, R104) -/

theorem any_panto {f : Panto → Bool} (h : Panto.all.any f = true) : ∃ p, f p = true := by
  obtain ⟨p, -, hp⟩ := List.any_eq_true.mp h
  exact ⟨p, hp⟩

theorem all_panto {f : Panto → Bool} (h : Panto.all.all f = true) (p : Panto) : f p = true :=
  List.all_eq_true.mp h p (by cases p <;> decide)

theorem breakerLaw_of_closeConditions (h : closeConditions b = true) : BreakerLaw b := by
  intro _
  simp only [closeConditions, Bool.and_eq_true] at h
  obtain ⟨hearth, hany⟩ := h
  obtain ⟨p, hp⟩ := any_panto hany
  simp only [collectorFit, selectorAt, Bool.and_eq_true, beq_iff_eq] at hp
  obtain ⟨⟨hiso, hothers⟩, ⟨⟨hrole, hstate⟩, hselector⟩, hsystem⟩ := hp
  refine ⟨hearth, p, hiso, fun x hx => ?_, hrole, hstate, hselector, ?_⟩
  · have hopen := all_panto hothers x
    simpa [hx] using hopen
  · cases hd : b.record.determined with
    | none => simp [hd] at hsystem
    | some sys => exact ⟨sys, rfl, by simpa [hd] using hsystem⟩

theorem breakerEngaged_eq (b : Block) :
    breakerEngaged b = true ↔ b.sw.breaker.state = .closing ∨ b.sw.breaker.state = .closed := by
  simp only [breakerEngaged, Bool.or_eq_true, beq_iff_eq]

theorem openBreaker_disengages (x : Source) (b : Block) : breakerEngaged (openBreaker x b) = false := by
  unfold openBreaker
  cases h : b.sw.breaker.state <;>
    simp [breakerEngaged, Block.setBreaker, TwoSw.move, TwoPos.travel, h]

/-- The guard leaves the breaker engaged with its conditions alone. -/
theorem breakerLaw_guardBreaker (b : Block) : BreakerLaw (guardBreaker b) := by
  unfold guardBreaker
  split
  next => exact fun h => absurd h (by rw [openBreaker_disengages]; decide)
  next h =>
    by_cases hengaged : breakerEngaged b = true
    · refine breakerLaw_of_closeConditions ?_
      simpa [hengaged] using h
    · exact fun h => absurd h hengaged

theorem lasting_breakerLaw : Lasting BreakerLaw where
  working a b h ha := by
    obtain ⟨hsw, hrecord, hlift⟩ : a.sw = b.sw ∧ a.record = b.record ∧ a.lift = b.lift :=
      ⟨(congrArg (fun v : Block => v.sw) h :), (congrArg (fun v : Block => v.record) h :), (congrArg (fun v : Block => v.lift) h :)⟩
    have hroles : a.plan.roles = b.plan.roles := (congrArg (fun v : Block => v.plan.roles) h :)
    have hcfg : a.cond.cfg = b.cond.cfg := (congrArg (fun v : Block => v.cond.cfg) h :)
    unfold BreakerLaw breakerEngaged earthOpen isoOpen Block.role Block.lc at ha ⊢
    rw [← hsw, ← hrecord, ← hlift, ← hroles]
    simp only [head_congr hcfg] at ha
    exact ha
  epoch _ _ h := h

theorem breakerAtPowerOn_rests (r : TwoPattern) (w : TwoSw) :
    (breakerAtPowerOn r w).1.state ≠ .closing ∧ (breakerAtPowerOn r w).1.state ≠ .closed := by
  unfold breakerAtPowerOn TwoSw.fromPattern TwoPattern.position
  split
  next => exact ⟨nofun, nofun⟩
  next =>
    cases hopen : r.shows .opened with
    | true => exact ⟨nofun, nofun⟩
    | false => exact ⟨nofun, nofun⟩

theorem powerOn_breaker (k : Contacts) (m : MemImage) :
    (powerOn k m).sw.breaker.state ≠ .closing ∧ (powerOn k m).sw.breaker.state ≠ .closed := by
  obtain ⟨cal, cond, heq, -⟩ := powerOn_frame k m
  rw [heq]
  exact breakerAtPowerOn_rests _ _

theorem powerOn_disengaged (k : Contacts) (m : MemImage) (n : Nat) :
    breakerEngaged { powerOn k m with freeCount := n } = false := by
  obtain ⟨hclosing, hclosed⟩ := powerOn_breaker k m
  rw [Bool.eq_false_iff]
  intro h
  rcases (breakerEngaged_eq _).mp h with h | h
  · exact hclosing h
  · exact hclosed h

theorem step_breakerLaw {S T : State} (hstep : step S = .next T) (hs : BreakerLaw S.block) : BreakerLaw T.block :=
  step_seals lasting_breakerLaw (fun _ _ _ _ _ => breakerLaw_guardBreaker _) (fun _ _ => breakerLaw_guardBreaker _)
    (fun k m n h => absurd h (by rw [powerOn_disengaged]; decide)) hstep hs

/-! ### The entry into CLOSING -/

/-- The breaker comes to CLOSING where the scope lets it alone. -/
def ClosesOnly (sc : Scope) (s b : Block) : Prop :=
  b.sw.breaker.state = .closing → s.sw.breaker.state = .closing ∨ sc.closes

theorem prim_closesOnly (h : Prim sc b x) (hb : ClosesOnly sc s b) : ClosesOnly sc s x := by
  cases h
  case breaker w closing holds => exact fun hw => (closing hw).elim hb .inr
  case lose l =>
    obtain ⟨-, -, -, -, -, -, hsw, -⟩ := linkLost_frame l b
    unfold ClosesOnly
    rw [hsw]
    exact hb
  all_goals exact hb

theorem Moves.closesOnly (h : Moves sc b x) : ClosesOnly sc b x :=
  h.keepPrim (P := ClosesOnly sc b) (fun _ _ hs ha => prim_closesOnly (sc := sc.still) hs ha)
    (fun _ _ hs ha => prim_closesOnly (sc := sc.starting) hs ha)
    (fun _ _ hs ha => prim_closesOnly (sc := sc.loading) hs ha) .inl

theorem sw_close (s b : Block) : (close s b).sw = b.sw := by
  unfold close markChanges advanceEpoch
  split <;> rfl

theorem atRestart_breaker (r : TwoPattern) (w : TwoSw) : (breakerAtRestart r w).1.state ≠ .closing := by
  unfold breakerAtRestart TwoSw.atRestart
  dsimp only
  split
  next => nofun
  next hclosing =>
    split
    next h => exact absurd h hclosing
    next h => simp [h]
    next h => simp [h]
    all_goals
      split
      next pos _ => cases pos <;> nofun
      next => nofun

theorem warmRestart_breaker (k : Contacts) (x : Block) : (warmRestart k x).sw.breaker.state ≠ .closing := by
  intro h
  have hclosing := (moves_warmRestart (sc := { Scope.free False with closes := False }) k x).closesOnly h
  exact atRestart_breaker k.breaker x.sw.breaker (hclosing.resolve_right id)

theorem Ends.readiness (he : Ends c s t) (hs : s.sw.breaker.state ≠ .closing) (ht : t.sw.breaker.state = .closing) :
    readinessMet t = true := by
  cases he
  case settled judge y moves =>
    have hy : Moves { Scope.free False with closes := readinessMet y = true } s y :=
      moves _ ⟨trivial, trivial, trivial, fun _ => trivial, fun _ => id, fun _ => trivial, fun _ => trivial, False.elim, fun _ => trivial⟩
    have hz := hy.prims (prims_answers (sc := Scope.still { Scope.free False with closes := readinessMet y = true })
      trivial id trivial trivial s judge False.elim)
    rw [settle_eq, sw_close] at ht
    rw [readinessMet_of_kept (kept_settle s judge y)]
    exact (hz.closesOnly ht).resolve_left hs
  case aside y moves own =>
    rw [sw_close, show y.sw = s.sw from (congrArg (fun v : Block => v.sw) own :)] at ht
    exact absurd ht hs
  case replied l r =>
    have hsw : (pushReply l r (close s (refresh l s))).sw = s.sw := sw_close s (refresh l s)
    rw [hsw] at ht
    exact absurd ht hs
  case digest q r is =>
    have hsw : (emptyMask q.link (pushReply q.link r (close s (refresh q.link s)))).sw = s.sw :=
      sw_close s (refresh q.link s)
    rw [hsw] at ht
    exact absurd ht hs
  case silent l r present mask is => exact absurd ht hs
  case restarted k x from' is => exact absurd ht (warmRestart_breaker k x)
  case started k m is => exact absurd ht (powerOn_breaker k m).1

/-- Settles O51: each event ends with the guard of the breaker, and a close is examined against the readiness that the event
leaves. -/
theorem breakerIsGuarded : Obligations.BreakerIsGuarded := by
  unfold Obligations.BreakerIsGuarded
  intro S T hstep
  refine ⟨step_breakerLaw hstep, fun hs ht => ?_⟩
  rcases step_ends hstep with he | ⟨c, he⟩
  · rw [he] at ht
    exact absurd ht hs
  · exact he.readiness hs ht

/-! ## The isolators (R12) and the earthing switch (R107) -/

theorem atRestart_opened {v : Bool} {r : TwoPattern} {w : TwoSw} (h : w.state = .opened) :
    (w.atRestart v r).1.state = .opened := by
  unfold TwoSw.atRestart
  dsimp only
  rw [h]

theorem isolatorLaw_restartBase (k : Contacts) (h : IsolatorLaw b) : IsolatorLaw (restartBase k b) := by
  intro p hp
  have hiso : (restartBase k b).sw.iso.get p = ((b.sw.iso.get p).atRestart false (k.iso.get p)).1 := PerP.get_ofFun _ p
  rw [hiso]
  exact atRestart_opened (h p hp)

theorem role_powerOn (k : Contacts) (m : MemImage) (n : Nat) (p : Panto) :
    ({ powerOn k m with freeCount := n } : Block).role p = .none := by
  obtain ⟨cal, cond, heq, -⟩ := powerOn_frame k m
  rw [heq]
  cases p <;> rfl

theorem lc_powerOn (k : Contacts) (m : MemImage) (n : Nat) (p : Panto) :
    ({ powerOn k m with freeCount := n } : Block).lc p = Lift.initial := by
  obtain ⟨cal, cond, heq, -⟩ := powerOn_frame k m
  rw [heq]
  exact initial_lc p

theorem step_isolatorLaw {S T : State} (hstep : step S = .next T) (hs : IsolatorLaw S.block) : IsolatorLaw T.block :=
  step_keeps (calm := False) (.of_prim prim_isolatorLaw fun _ _ h => h) (fun k _ => isolatorLaw_restartBase k)
    (fun k m n p hp => by simp [role_powerOn] at hp) False.elim hstep hs

theorem earthedDown_restartBase (k : Contacts) (h : EarthedDown b) : EarthedDown (restartBase k b) := by
  intro he p
  have hlc : (restartBase k b).lc p = (b.lc p).atRestart := PerP.get_ofFun _ p
  rw [hlc]
  exact h (fun ho => he (atRestart_opened ho)) p

theorem step_earthedDown {S T : State} (hstep : step S = .next T) (hs : EarthedDown S.block) : EarthedDown T.block :=
  step_keeps (calm := False) (.of_prim prim_earthedDown fun _ _ h => h) (fun k _ => earthedDown_restartBase k)
    (fun k m n _ p => by rw [lc_powerOn]; rfl) False.elim hstep hs

/-- The part of `EarthLaw` that speaks of the breaker. -/
def EarthedApart (b : Block) : Prop := b.sw.earth.state ≠ .opened → breakerEngaged b = false

theorem lasting_earthedApart : Lasting EarthedApart where
  working a b h ha := by
    have hsw : a.sw = b.sw := (congrArg (fun v : Block => v.sw) h :)
    unfold EarthedApart breakerEngaged at ha ⊢
    rwa [← hsw]
  epoch _ _ h := h

theorem BreakerLaw.earthedApart (h : BreakerLaw b) : EarthedApart b := by
  intro he
  rw [Bool.eq_false_iff]
  intro hengaged
  obtain ⟨hearth, -⟩ := h hengaged
  exact he (earthOpen_state hearth)

theorem step_earthedApart {S T : State} (hstep : step S = .next T) (hs : EarthedApart S.block) : EarthedApart T.block :=
  step_seals lasting_earthedApart (fun _ _ _ _ _ => (breakerLaw_guardBreaker _).earthedApart)
    (fun _ _ => (breakerLaw_guardBreaker _).earthedApart) (fun k m n _ => powerOn_disengaged k m n) hstep hs

/-! ## The scraper (R129) -/

theorem prim_scraperLaw (hs : ¬sc.starts) (h : Prim sc b x) (hb : ScraperLaw b) : ScraperLaw x := by
  cases h
  case clear p _ =>
    intro hphase q
    rw [role_clearRole]
    split
    · nofun
    · exact hb hphase q
  case grant p r o may one isolator idle held =>
    intro hphase q
    rw [role_setRole]
    split
    · exact fun hr => hphase (idle hr)
    · exact hb hphase q
  case succeed p k may collects held =>
    intro hphase q
    rw [role_setRole, role_clearRole]
    split
    · nofun
    · split
      · nofun
      · exact hb hphase q
  case seq q halted idle strict mid => exact fun hphase => hb ((idle hphase).resolve_right hs)
  case lose l =>
    obtain ⟨hseq, -⟩ := linkLost_frame l b
    intro hphase q
    rw [hseq] at hphase
    rw [role_lose]
    exact hb hphase q
  all_goals exact hb

theorem keptByMoves_scraperLaw : KeptByMoves ScraperLaw sc where
  move a b hm ha := by
    cases hm
    case prim change => exact prim_scraperLaw (sc := sc.still) id change ha
    case start run released rests => exact fun _ => released
    case load run awake air limits pends advised =>
      exact run.keep (fun _ _ => prim_scraperLaw (sc := sc.loading) id) ha
  epoch _ _ h := h

theorem scraperLaw_restartBase (k : Contacts) (h : ScraperLaw b) : ScraperLaw (restartBase k b) := by
  intro hphase
  refine h fun hidle => hphase ?_
  change b.seq.atRestart.phase = .idle
  simp [Seq.atRestart, hidle]

theorem step_scraperLaw {S T : State} (hstep : step S = .next T) (hs : ScraperLaw S.block) : ScraperLaw T.block :=
  step_keeps (calm := False) keptByMoves_scraperLaw (fun k _ => scraperLaw_restartBase k)
    (fun k m n _ p hp => by simp [role_powerOn] at hp) False.elim hstep hs

/-! ## The pending lowers (R37) -/

/-- The part of `PendingLaw` that speaks of the breaker, for one pantograph. -/
def PendHolds (p : Panto) (b : Block) : Prop :=
  b.cond.restart = none → (b.lc p).lowerPending = true → holdsLower b = true

theorem pendingLaw_of_parts (hc : PendContact b) (hh : ∀ p, PendHolds p b) : PendingLaw b :=
  fun hr p hp => ⟨hc hr p hp, hh p hr hp⟩

theorem holdsLower_congr (h : x.sw.breaker = b.sw.breaker) : holdsLower x = holdsLower b := by
  unfold holdsLower
  rw [h]

theorem prim_pendContact (hl : ¬sc.loads) (h : Prim sc b x) (hb : PendContact b) : PendContact x := by
  cases h
  case lift p l h =>
    intro hr q
    rw [lc_setLift]
    split
    next =>
      intro hp
      rcases h.pending hp with ⟨hwas, hstays⟩ | ⟨hcon, -⟩
      · exact hstays (hb hr p hwas)
      · exact hcon
    next => exact hb hr q
  case cond k fixed config faults strict mid =>
    obtain ⟨-, hr, -⟩ := fixed.resolve_left hl
    exact fun hnone => hb (hr.symm.trans hnone)
  case lose l =>
    obtain ⟨-, hcond, hlift, -⟩ := linkLost_frame l b
    unfold PendContact Block.lc
    rw [hcond, hlift]
    exact hb
  all_goals exact hb

theorem prim_pendHolds (hr : ¬sc.reads) (hl : ¬sc.loads) (h : Prim sc b x) (hb : PendHolds p b) : PendHolds p x := by
  cases h
  case lift q l h =>
    intro hnone
    rw [lc_setLift]
    split
    next hq =>
      subst hq
      intro hp
      rcases h.pending hp with ⟨hwas, -⟩ | ⟨-, hholds⟩
      · exact hb hnone hwas
      · exact hholds
    next => exact hb hnone
  case breaker w closing holds => exact fun hnone hp => (holds (hb hnone hp)).resolve_right hr
  case cond k fixed config faults strict mid =>
    obtain ⟨-, hrestart, -⟩ := fixed.resolve_left hl
    exact fun hnone => hb (hrestart.symm.trans hnone)
  case lose l =>
    obtain ⟨-, hcond, hlift, -, -, -, hsw, -⟩ := linkLost_frame l b
    unfold PendHolds Block.lc
    rw [hcond, hlift, holdsLower_congr (congrArg Switches.breaker hsw)]
    exact hb
  all_goals exact hb

theorem Moves.pendContact (h : Moves sc b x) (hb : PendContact b) : PendContact x := by
  refine h.keep (fun a c hm ha => ?_) hb
  cases hm
  case prim change => exact prim_pendContact (sc := sc.still) id change ha
  case start run released rests => exact run.keep (fun _ _ => prim_pendContact (sc := sc.starting) id) ha
  case load run awake air limits pends advised => exact pends ha

theorem prims_releasePendingOf (p : Panto) (b : Block) : Prims sc b (releasePendingOf p b) := by
  unfold releasePendingOf
  split
  · exact prims_beginLowering p b
  · exact Prims.refl _ _

theorem releasePendingOf_holds (hb : PendContact b) : PendHolds p (releasePendingOf p b) := by
  intro hr hp
  unfold releasePendingOf at hp hr ⊢
  split at hp
  next =>
    rw [beginLowering, leaveContact_lc, lc_setLift_self] at hp
    cases hp
  next h =>
    rw [if_neg h] at hr ⊢
    by_contra hholds
    exact h ⟨hp, hb hr p hp, by simpa using hholds, by simp [adoptionWaits, hr]⟩

/-- A scope in which the breaker stays where it holds a lower, and no restart ends. -/
def Scope.holding : Scope := { Scope.free False with reads := False }

theorem releasePending_law (hb : PendContact b) : PendingLaw (releasePending b) := by
  obtain ⟨hc, hh⟩ := eachPanto_settles_of (f := releasePendingOf) (Q := PendContact) (P := PendHolds)
    (fun p b => (prims_releasePendingOf (sc := Scope.holding) p b).keep fun _ _ => prim_pendContact id)
    (fun p b => releasePendingOf_holds)
    (fun p q b _ => (prims_releasePendingOf (sc := Scope.holding) q b).keep fun _ _ => prim_pendHolds id id) hb
  exact pendingLaw_of_parts hc hh

theorem Prims.pendingLaw (hr : ¬sc.reads) (hl : ¬sc.loads) (h : Prims sc b x) (hb : PendingLaw b) : PendingLaw x :=
  pendingLaw_of_parts (h.keep (fun _ _ => prim_pendContact hl) fun hn p hp => (hb hn p hp).1)
    fun _ => h.keep (fun _ _ => prim_pendHolds hr hl) fun hn hp => (hb hn _ hp).2

theorem answers_pendingLaw (judge : Bool) (hb : PendContact b) : PendingLaw (answers s judge b) := by
  have hguard : PendContact (guardBreaker b) :=
    (prims_guardBreaker (sc := Scope.holding) b).keep (fun _ _ => prim_pendContact id) hb
  have hround : Prims Scope.holding (releasePending (guardBreaker b)) (round b) :=
    ((prims_seqStep trivial (fun _ => trivial) False.elim).trans (prims_wakingCheck _)).trans (prims_standbyCheck _)
  have hrest : Prims Scope.holding (round b) (answers s judge b) :=
    (((prims_rounds trivial 11 (fun _ => trivial) False.elim).trans (prims_iceSettle trivial trivial trivial s judge _)).trans
      (prims_standbyCheck _)).trans (prims_guardBreaker _)
  exact (hround.trans hrest).pendingLaw id id (releasePending_law hguard)

theorem lasting_pendingLaw : Lasting PendingLaw where
  working a b h ha := by
    have hlift : a.lift = b.lift := (congrArg (fun v : Block => v.lift) h :)
    have hsw : a.sw = b.sw := (congrArg (fun v : Block => v.sw) h :)
    have hr : a.cond.restart = b.cond.restart := (congrArg (fun v : Block => v.cond.restart) h :)
    unfold PendingLaw Block.lc at ha ⊢
    rwa [← hlift, ← hr, ← holdsLower_congr (congrArg Switches.breaker hsw)]
  epoch _ _ h := h

theorem restart_warmRestart (k : Contacts) (x : Block) : (warmRestart k x).cond.restart.isSome = true := by
  obtain ⟨-, hcond, -⟩ := guardBreaker_frame (reloadIfIdle (restartBlocks k x))
  have hreload : (reloadIfIdle (restartBlocks k x)).cond.restart = (restartBlocks k x).cond.restart := by
    unfold reloadIfIdle
    split
    · rw [(reload_frame _).2.1, (reloaded_frame _).2.1]
    · rfl
  obtain ⟨f, u, hnoted⟩ := noted_restartBlocks k x
  rw [warmRestart, hcond, hreload, hnoted]
  rfl

theorem step_pendingLaw {S T : State} (hstep : step S = .next T) (hs : PendingLaw S.block) : PendingLaw T.block :=
  step_seals lasting_pendingLaw
    (fun s judge y moves hlaw => answers_pendingLaw judge (moves.pendContact fun hr p hp => (hlaw hr p hp).1))
    (fun k x hr => absurd (restart_warmRestart k x) (by simp [hr]))
    (fun k m n _ p hp => by
      rw [lc_powerOn] at hp
      cases hp) hstep hs

/-- Settles O52: the changes keep the laws of isolators, pantographs and scraper, and the guard and the release of pending
lowers stand at the end of each event. -/
theorem roofLawsAreKept : Obligations.RoofLawsAreKept := by
  unfold Obligations.RoofLawsAreKept
  intro S T hstep
  refine ⟨step_isolatorLaw hstep, fun hs he => ?_, step_scraperLaw hstep, step_pendingLaw hstep⟩
  exact ⟨step_earthedDown hstep (fun h => (hs h).1) he, step_earthedApart hstep (fun h => (hs h).2) he⟩

end Sys2Proof.Machine
end

section
/-!
The laws of the heater shares (R160, R161), of the final level (R157), of the run (R88) and of the current-limit advisory
(R158) over a step.
-/

namespace Sys2Proof.Machine

variable {sc : Scope} {b x y z s t : Block} {p : Panto} {c : Instr}

theorem Lasting.of_working {P : Block → Prop} (h : ∀ b : Block, P b.working ↔ P b)
    (epoch : ∀ a n, P a → P { a with plan := { a.plan with epoch := n } }) : Lasting P where
  working a b hw ha := (h b).mp (hw ▸ (h a).mpr ha)
  epoch := epoch

/-! ## What only a scan, an estimate or a change of the level writes -/

theorem prim_sensors (hs : ¬sc.senses) (h : Prim sc b x) : x.sensors = b.sensors := by
  cases h
  case sensors v may => exact absurd may hs
  case lose l =>
    obtain ⟨-, -, -, -, -, -, -, -, -, -, -, hsensors⟩ := linkLost_frame l b
    exact hsensors
  all_goals rfl

theorem Moves.sensors (hs : ¬sc.senses) (h : Moves sc b x) : x.sensors = b.sensors :=
  h.keepPrim (P := fun y => y.sensors = b.sensors) (fun _ _ hstep ha => (prim_sensors (sc := sc.still) hs hstep).trans ha)
    (fun _ _ hstep ha => (prim_sensors (sc := sc.starting) hs hstep).trans ha)
    (fun _ _ hstep ha => (prim_sensors (sc := sc.loading) hs hstep).trans ha) rfl

/-- Level, advisory, configuration and what waits stay. -/
structure Unadvised (b x : Block) : Prop where
  level    : x.ice.level = b.ice.level
  advisory : x.record.advisory = b.record.advisory
  cfg      : x.cond.cfg = b.cond.cfg
  restart  : x.cond.restart = b.cond.restart
  reload   : x.cond.reloadPending = b.cond.reloadPending

theorem Unadvised.refl (b : Block) : Unadvised b b := ⟨rfl, rfl, rfl, rfl, rfl⟩

theorem Unadvised.trans (h : Unadvised b x) (h' : Unadvised x y) : Unadvised b y :=
  ⟨h'.level.trans h.level, h'.advisory.trans h.advisory, h'.cfg.trans h.cfg, h'.restart.trans h.restart,
    h'.reload.trans h.reload⟩

theorem prim_unadvised (ha : ¬sc.advises) (hl : ¬sc.loads) (h : Prim sc b x) : Unadvised b x := by
  cases h
  case record r advisory => exact ⟨rfl, advisory.resolve_right ha, rfl, rfl, rfl⟩
  case ice i level parts => exact ⟨level.resolve_right ha, rfl, rfl, rfl, rfl⟩
  case cond k fixed config faults strict mid =>
    obtain ⟨hcfg, hr, hreload, -⟩ := fixed.resolve_left hl
    exact ⟨rfl, rfl, hcfg, hr, hreload⟩
  case lose l =>
    obtain ⟨-, hcond, -, -, -, -, -, hrecord, hice, -⟩ := linkLost_frame l b
    exact ⟨by rw [hice], by rw [hrecord], by rw [hcond], by rw [hcond], by rw [hcond]⟩
  all_goals exact ⟨rfl, rfl, rfl, rfl, rfl⟩

theorem Prims.unadvised (ha : ¬sc.advises) (hl : ¬sc.loads) (h : Prims sc b x) : Unadvised b x :=
  h.keep (P := Unadvised b) (fun _ _ hs hp => hp.trans (prim_unadvised ha hl hs)) (.refl b)

/-- What an event's own effect makes of level and advisory, where nothing waits. -/
def FollowsLimit (sc : Scope) (b x : Block) : Prop :=
  Loaded b → Loaded x ∧ Advised b x ∧ (sc.writes ∨ x.record.advisory = b.record.advisory)

theorem Unadvised.follows (h : Unadvised b x) : FollowsLimit sc b x := fun hb =>
  ⟨⟨h.restart.trans hb.1, h.reload.trans hb.2⟩, ⟨h.level, fun hne => absurd (by rw [h.cfg]) hne, .inl h.advisory⟩,
    .inr h.advisory⟩

theorem Advised.trans (h : Advised b x) (h' : Advised x y) : Advised b y := by
  have hnat (hsame : cfgGet y.cond.cfg .currentLimit = cfgGet x.cond.cfg .currentLimit) :
      y.nat .currentLimit = x.nat .currentLimit := congrArg Int.toNat hsame
  have hset (h3 : b.ice.level = 3) (hx : x.record.advisory = some (x.nat .currentLimit)) :
      y.record.advisory = some (y.nat .currentLimit) := by
    by_cases hy : cfgGet y.cond.cfg .currentLimit = cfgGet x.cond.cfg .currentLimit
    · rcases h'.advisory with hs | ⟨-, hs⟩
      · rw [hs, hx, hnat hy]
      · exact hs
    · exact h'.changed hy (h.level.trans h3)
  refine ⟨h'.level.trans h.level, fun hne h3 => ?_, ?_⟩
  · by_cases hx : cfgGet x.cond.cfg .currentLimit = cfgGet b.cond.cfg .currentLimit
    · exact h'.changed (fun hy => hne (hy.trans hx)) (h.level.trans h3)
    · exact hset h3 (h.changed hx h3)
  · rcases h.advisory with hx | ⟨h3, hx⟩
    · rcases h'.advisory with hy | ⟨h3, hy⟩
      · exact .inl (hy.trans hx)
      · exact .inr ⟨h.level.symm.trans h3, hy⟩
    · exact .inr ⟨h3, hset h3 hx⟩

theorem FollowsLimit.trans (h : FollowsLimit sc b x) (h' : FollowsLimit sc x y) : FollowsLimit sc b y := by
  intro hb
  obtain ⟨hx, hadvised, hsame⟩ := h hb
  obtain ⟨hy, hadvised', hsame'⟩ := h' hx
  refine ⟨hy, hadvised.trans hadvised', ?_⟩
  rcases hsame with hw | hsame
  · exact .inl hw
  · exact hsame'.imp id fun hs => hs.trans hsame

theorem Moves.follows (ha : ¬sc.advises) (h : Moves sc b x) : FollowsLimit sc b x := by
  refine h.keep (P := FollowsLimit sc b) (fun a k hm hp => hp.trans ?_) (Unadvised.refl b).follows
  cases hm
  case prim change => exact (prim_unadvised (sc := sc.still) ha id change).follows
  case start run released rests => exact (run.unadvised (sc := sc.starting) ha id).follows
  case load run awake air limits pends advised => exact advised

/-! ## The shape of the end of an event -/

/-- Everything but a change of level and advisory. -/
def Scope.unadvised : Scope := { Scope.free False with advises := False }

/-- Everything but a change of the estimate, the shares and the advisory. -/
def Scope.ungraded : Scope := { Scope.free False with advises := False, estimates := False }

theorem iceSettle_shape (s : Block) (judge : Bool) (z : Block) :
    ∃ w v, iceSettle s judge z = shareBudget v ∧ Prims Scope.unadvised z w ∧ w.kept = z.kept ∧
      Prims Scope.ungraded (followLevel s w) v ∧ v.kept = w.kept := by
  have hfollow : Prims Scope.unadvised z (followEntries s (followCollector s z)) :=
    (prims_followCollector trivial s z).trans (prims_followEntries trivial s _)
  unfold iceSettle
  dsimp only
  split
  · exact ⟨_, _, rfl, hfollow.trans (prims_followReleased _), by simp, prims_endPreheat _, by simp⟩
  next hw =>
    refine ⟨_, _, rfl, hfollow.trans (prims_followScraper _), by simp, ?_, by split <;> simp⟩
    refine Prims.trans ?_ (prims_endPreheat _)
    split
    · refine prims_judgeScraper trivial ?_
      simp only [Bool.or_eq_true, not_or, Bool.not_eq_true] at hw
      exact (restart_of_kept (by simp)).trans (restart_of_adopted hw.1)
    · exact Prims.refl _ _

/-- What the blocks do at the end of an event, about the following of the level and the sharing of the budget. -/
theorem answers_shape (s : Block) (judge : Bool) (y : Block) :
    ∃ w v, answers s judge y = guardBreaker (standbyCheck (shareBudget v)) ∧ Unadvised y w ∧ w.kept = y.kept ∧
      Prims Scope.ungraded (followLevel s w) v ∧ v.kept = w.kept := by
  obtain ⟨w, v, hshare, hw, hkept, hv, hkept'⟩ := iceSettle_shape s judge (rounds roundLimit y)
  have hrounds : Prims Scope.unadvised y (rounds roundLimit y) :=
    prims_rounds trivial _ (fun _ => trivial) False.elim
  refine ⟨w, v, by rw [answers, hshare], (hrounds.trans hw).unadvised id id, ?_, hv, hkept'⟩
  rw [hkept, kept_rounds]

theorem prims_closing (v : Block) : Prims sc (shareBudget v) (guardBreaker (standbyCheck (shareBudget v))) :=
  (prims_standbyCheck _).trans (prims_guardBreaker _)

/-! ## The final level (R157) -/

/-- The parts of the final level, and the level. -/
def Ice.grades (i : Ice) : Nat × Nat × Nat × Nat × Bool := (i.level, i.cap, i.hysteresis, i.forced, i.watch)

theorem LevelLaw.of_grades (h : LevelLaw b) (hi : x.ice.grades = b.ice.grades) (hs : x.sensors = b.sensors)
    (hcfg : x.cond.cfg = b.cond.cfg) : LevelLaw x := by
  simp only [Ice.grades, Prod.mk.injEq] at hi
  obtain ⟨hlevel, hcap, hhyst, hforced, hwatch⟩ := hi
  refine ⟨?_, ?_, fun v hv => ?_⟩
  · rw [hlevel, hcap, hhyst, hforced, hwatch]
    exact h.parts
  · rw [hlevel]
    exact h.range
  · rw [hs] at hv ⊢
    rw [hlevel, Block.cfg, hcfg]
    exact h.warm v hv

theorem prim_grades (ha : ¬sc.advises) (he : ¬sc.estimates) (h : Prim sc b x) : x.ice.grades = b.ice.grades := by
  cases h
  case ice i level parts =>
    have hparts := parts.resolve_right he
    simp only [Ice.levelParts, Prod.mk.injEq] at hparts
    obtain ⟨hcap, hhyst, hforced, hwatch, -⟩ := hparts
    simp only [Ice.grades, level.resolve_right ha, hcap, hhyst, hforced, hwatch]
  case lose l =>
    obtain ⟨-, -, -, -, -, -, -, -, hice, -⟩ := linkLost_frame l b
    rw [hice]
  all_goals rfl

theorem Prims.grades (ha : ¬sc.advises) (he : ¬sc.estimates) (h : Prims sc b x) : x.ice.grades = b.ice.grades :=
  h.keep (P := fun y => y.ice.grades = b.ice.grades) (fun _ _ hs hp => (prim_grades ha he hs).trans hp) rfl

theorem capOf_range (b : Block) : capOf b ≤ 3 := by
  unfold capOf
  split
  · split <;> decide
  · decide

theorem levelLaw_takeLevel (b : Block) : LevelLaw (takeLevel b) where
  parts := rfl
  range := (Nat.min_le_left _ _).trans (capOf_range b)
  warm v hvalid hv hwarm := by
    refine (Nat.min_le_left _ _).trans ?_
    have hcap : capOf b = 1 := by
      have hheld : b.sensors.ambient.heldValue = some v := (if_neg hvalid).trans hv
      unfold capOf
      rw [hheld]
      exact if_pos hwarm
    exact le_of_eq hcap

theorem levelLaw_followLevel (s b : Block) : LevelLaw (followLevel s b) := by
  have hset (v : Option Nat) (a : Block) (h : LevelLaw a) : LevelLaw (setAdvisory v a) := h.of_grades rfl rfl rfl
  have h := levelLaw_takeLevel b
  unfold followLevel
  split
  · unfold adviseAfterRestart
    split
    · split
      · exact hset _ _ h
      · exact h
    · exact hset _ _ h
  · unfold adviseOn
    split
    · split
      · exact h
      · exact hset _ _ h
    · split
      · exact hset _ _ h
      · exact h

theorem grades_shareBudget (b : Block) : (shareBudget b).ice.grades = b.ice.grades := by
  unfold shareBudget
  split <;> rfl

theorem sensors_of_kept (h : x.kept = b.kept) : x.sensors = b.sensors := congrArg Kept.sensors h

theorem cfg_of_kept (h : x.kept = b.kept) : x.cond.cfg = b.cond.cfg := congrArg Kept.cfg h

theorem answers_levelLaw (s : Block) (judge : Bool) (y : Block) : LevelLaw (answers s judge y) := by
  obtain ⟨w, v, heq, -, -, hv, hkept⟩ := answers_shape s judge y
  have hkept' : (guardBreaker (standbyCheck (shareBudget v))).kept = (followLevel s w).kept := by simp [hkept]
  rw [heq]
  refine (levelLaw_followLevel s w).of_grades ?_ (sensors_of_kept hkept') (cfg_of_kept hkept')
  rw [(prims_closing (sc := Scope.ungraded) v).grades id id, grades_shareBudget, hv.grades id id]

theorem lasting_levelLaw : Lasting LevelLaw :=
  .of_working (fun _ => ⟨fun ⟨parts, range, warm⟩ => ⟨parts, range, warm⟩, fun ⟨parts, range, warm⟩ => ⟨parts, range, warm⟩⟩)
    fun _ _ ⟨parts, range, warm⟩ => ⟨parts, range, warm⟩

theorem sensors_warmRestart (k : Contacts) (b : Block) : (warmRestart k b).sensors = Block.initial.sensors :=
  Moves.sensors (sc := Scope.plain) (b := restartBase k b) id (moves_warmRestart k b)

theorem levelLaw_warmRestart (k : Contacts) (b : Block) : LevelLaw (warmRestart k b) where
  parts := by
    rw [warmRestart_ice]
    rfl
  range := by
    rw [warmRestart_ice]
    exact Nat.min_le_left _ _
  warm v hvalid := by
    rw [sensors_warmRestart] at hvalid
    exact absurd rfl hvalid

theorem powerOn_ice_free (k : Contacts) (m : MemImage) (n : Nat) :
    ({ powerOn k m with freeCount := n } : Block).ice = Ice.initial := powerOn_ice k m

theorem levelLaw_powerOn (k : Contacts) (m : MemImage) (n : Nat) : LevelLaw { powerOn k m with freeCount := n } where
  parts := by rw [powerOn_ice_free]; rfl
  range := by rw [powerOn_ice_free]; decide
  warm _ _ _ _ := by rw [powerOn_ice_free]; decide

theorem step_levelLaw {S T : State} (hstep : step S = .next T) (hs : LevelLaw S.block) : LevelLaw T.block :=
  step_seals lasting_levelLaw (fun s judge y _ _ => answers_levelLaw s judge y) levelLaw_warmRestart levelLaw_powerOn hstep hs

/-! ## The heater shares (R160, R161) -/

/-- The demands and duties are those of the claimants as they stand. -/
def Shared (b : Block) : Prop := shareBudget b = b

theorem shared_shareBudget (b : Block) : Shared (shareBudget b) := by
  unfold Shared shareBudget
  by_cases h : adoptionWaits b = true
  · simp only [h, if_true]
    rw [if_pos (by exact h)]
  · simp only [h]
    rw [if_neg (by exact h)]
    rfl

theorem shared_iff (b : Block) : Shared b ↔
    b.ice.demand = (if adoptionWaits b then .const 0 else .ofFun (demandOf b)) ∧
      b.ice.duty = (if adoptionWaits b then .const 0 else .ofFun (dutyOf b)) := by
  have hset (i : PerP Nat) (j : PerP Nat) : { b with ice := { b.ice with demand := i, duty := j } } = b ↔
      b.ice.demand = i ∧ b.ice.duty = j := by
    refine ⟨fun h => ?_, fun ⟨hi, hj⟩ => ?_⟩
    · have hice : { b.ice with demand := i, duty := j } = b.ice := congrArg Block.ice h
      exact ⟨(congrArg Ice.demand hice).symm, (congrArg Ice.duty hice).symm⟩
    · subst hi hj
      rfl
  unfold Shared shareBudget
  split
  · exact hset _ _
  · exact hset _ _

/-- The claims on the budget are the same in both blocks, and so is the budget. -/
structure SameClaims (b x : Block) : Prop where
  ice       : x.ice = b.ice
  heated    : ∀ r, heated x r = heated b r
  preheated : preheated x = preheated b
  kept      : x.kept = b.kept

theorem SameClaims.shared (h : SameClaims b x) (hb : Shared b) : Shared x := by
  have hnat (i : Item) : x.nat i = b.nat i := by rw [Block.nat, cfg_of_kept h.kept, Block.nat]
  have hlevel : levelDuty x = levelDuty b := by simp only [levelDuty, h.ice, hnat]
  have hdemand : demandOf x = demandOf b := by
    funext p
    simp only [demandOf, h.heated, h.preheated, hlevel, hnat]
  have hduty : dutyOf x = dutyOf b := by
    funext p
    simp only [dutyOf, collectorShare, preheatShare, scraperShare, claim, h.heated, h.preheated, hdemand, hnat]
  have hwaits : adoptionWaits x = adoptionWaits b := by rw [adoptionWaits, restart_of_kept h.kept, adoptionWaits]
  rw [shared_iff] at hb ⊢
  rw [h.ice, hwaits, hdemand, hduty]
  exact hb

theorem sameClaims_guardBreaker (b : Block) : SameClaims b (guardBreaker b) := by
  have hlift := (guardBreaker_frame b).2.2
  have hplan : (guardBreaker b).plan = b.plan := by
    unfold guardBreaker
    split
    · exact openBreaker_plan _ _
    · rfl
  have hlc (p : Panto) : (guardBreaker b).lc p = b.lc p := by rw [Block.lc, hlift, Block.lc]
  have hrole (p : Panto) : (guardBreaker b).role p = b.role p := by rw [Block.role, hplan, Block.role]
  refine ⟨ice_guardBreaker b, fun r => ?_, ?_, kept_guardBreaker b⟩
  · simp only [Machine.heated, hlc, hrole]
  · simp only [Machine.preheated, hlc, ice_guardBreaker]

theorem offerWrite_ice (j : MemJob) (b : Block) : (offerWrite j b).ice = b.ice := by
  unfold offerWrite
  split
  · cases j <;> rfl
  · split <;> rfl

theorem discardHeld_rests (p x : Panto) (b : Block) :
    ((discardHeld p b).lc x).state = (b.lc x).state ∧ (discardHeld p b).ice = b.ice := by
  rw [discardHeld_eq]
  refine ⟨?_, ?_⟩
  · rw [clearRole_lc, lc_setLift]
    split
    next h => rw [h]; rfl
    next => rw [lc_abortHeld]
  · change (abortHeld (b.lc p).heldSearch p b).ice = b.ice
    cases (b.lc p).heldSearch
    case false => rfl
    case true => exact offerWrite_ice (.entry p) _

/-- A mode entered with the roof at rest leaves lift states and the Ice Unit. -/
theorem setMode_rests (m : Mode) (h : roofAtRest b = true) :
    (∀ p, ((setMode m b).lc p).state = (b.lc p).state) ∧ (setMode m b).ice = b.ice := by
  have hrest (p : Panto) : (b.lc p).state ≠ .searching := by
    intro hs
    have := all_panto h p
    simp [hs, LiftState.atRest] at this
  unfold setMode abortSearches onceAdopted
  split
  · exact ⟨fun _ => rfl, rfl⟩
  · obtain ⟨hkeep, -⟩ := eachPanto_settles_of (P := fun _ _ => True)
      (Q := fun x => (∀ p, (x.lc p).state = (b.lc p).state) ∧ x.ice = b.ice)
      (f := fun p b => if (b.lc p).state = .searching then abortSearch p b
        else if (b.lc p).heldSearch then discardHeld p b else b)
      (b := { b with cond := { b.cond with mode := m, modeTimer := 0, standbyLowering := false, heldWake := false } })
      (fun p x hx => by
        obtain ⟨hstate, hice⟩ := hx
        rw [if_neg (by rw [hstate]; exact hrest p)]
        split
        · exact ⟨fun q => (discardHeld_rests p q x).1.trans (hstate q), (discardHeld_rests p p x).2.trans hice⟩
        · exact ⟨hstate, hice⟩) (fun _ _ _ => trivial) (fun _ _ _ _ _ => trivial) ⟨fun _ => rfl, rfl⟩
    exact hkeep

theorem heated_of_rest (h : ∀ p, (b.lc p).state.up = false) (r : Role) : heated b r = none := by
  unfold heated
  rw [List.find?_eq_none]
  intro p _
  simp [h p]

theorem up_of_rest (h : roofAtRest b = true) (p : Panto) : (b.lc p).state.up = false := by
  have := all_panto h p
  revert this
  cases (b.lc p).state <;> simp [LiftState.atRest, LiftState.up]

theorem sameClaims_standbyCheck (b : Block) : SameClaims b (standbyCheck b) := by
  unfold standbyCheck
  split
  next h =>
    simp only [Bool.and_eq_true] at h
    obtain ⟨⟨-, hrest⟩, -⟩ := h
    obtain ⟨hstate, hice⟩ := setMode_rests .standby hrest
    have hup := up_of_rest hrest
    refine ⟨hice, fun r => ?_, ?_, by simp⟩
    · rw [heated_of_rest (fun p => by rw [hstate]; exact hup p), heated_of_rest hup]
    · simp only [Machine.preheated, hice, hstate]
  next => exact ⟨rfl, fun _ => rfl, rfl, rfl⟩

theorem answers_shared (s : Block) (judge : Bool) (y : Block) : Shared (answers s judge y) := by
  obtain ⟨w, v, heq, -⟩ := answers_shape s judge y
  rw [heq]
  exact (sameClaims_guardBreaker _).shared ((sameClaims_standbyCheck _).shared (shared_shareBudget v))

/-! ### The budget is not exceeded -/

/-- A share counts for its claimant alone. -/
def shareAt (o : Option Panto) (n : Nat) (p : Panto) : Nat := if o = some p then n else 0

theorem shareAt_sum (o : Option Panto) (n : Nat) :
    shareAt o n .p1 + shareAt o n .p2 + shareAt o n .p3 + shareAt o n .p4 ≤ n := by
  unfold shareAt
  rcases o with _ | p
  · simp
  · cases p <;> simp

theorem dutyOf_le (b : Block) (p : Panto) :
    dutyOf b p ≤ shareAt (heated b .collecting) (collectorShare b) p + shareAt (preheated b) (preheatShare b) p +
      shareAt (heated b .scraping) (scraperShare b) p := by
  unfold dutyOf shareAt
  split
  · omega
  · split
    · omega
    · split
      · omega
      · omega

theorem shares_le (b : Block) : collectorShare b + preheatShare b + scraperShare b ≤ b.nat .heatBudget := by
  unfold scraperShare preheatShare collectorShare
  omega

theorem Shared.heaterLaw (h : Shared b) : HeaterLaw b := by
  have hduty := ((shared_iff b).mp h).2
  unfold HeaterLaw dutySum
  split at hduty
  · rw [hduty]
    exact Nat.zero_le _
  · rw [hduty]
    change dutyOf b .p1 + dutyOf b .p2 + dutyOf b .p3 + dutyOf b .p4 ≤ _
    have hsum := shares_le b
    have h1 := shareAt_sum (heated b .collecting) (collectorShare b)
    have h2 := shareAt_sum (preheated b) (preheatShare b)
    have h3 := shareAt_sum (heated b .scraping) (scraperShare b)
    have d1 := dutyOf_le b .p1
    have d2 := dutyOf_le b .p2
    have d3 := dutyOf_le b .p3
    have d4 := dutyOf_le b .p4
    omega

theorem duty_warmRestart (k : Contacts) (b : Block) (p : Panto) :
    (warmRestart k b).ice.demand.get p = 0 ∧ (warmRestart k b).ice.duty.get p = 0 := by
  rw [warmRestart_ice]
  cases p <;> exact ⟨rfl, rfl⟩

theorem step_heaterLaw {S T : State} (hstep : step S = .next T) (hs : HeaterLaw S.block) : HeaterLaw T.block :=
  step_seals (.of_working (fun _ => Iff.rfl) fun _ _ h => h) (fun s judge y _ _ => (answers_shared s judge y).heaterLaw)
    (fun k b => by
      unfold HeaterLaw dutySum
      rw [warmRestart_ice]
      exact Nat.zero_le _)
    (fun k m n => by
      unfold HeaterLaw dutySum
      rw [powerOn_ice_free]
      exact Nat.zero_le _) hstep hs

/-! ### Each claimant has its share -/

theorem claims_up (r : Role) (b : Block) (p : Panto) : claims r b p = (b.role p == r && (b.lc p).state.up) := by
  unfold claims
  cases (b.lc p).state <;> rfl

/-- The claimant of a role that one pantograph holds. -/
theorem heated_iff {r : Role} (one : ∀ p x, b.role p = r → b.role x = r → p = x) (p : Panto) :
    heated b r = some p ↔ claims r b p = true := by
  rw [claims_up]
  unfold heated
  refine ⟨fun h => List.find?_some (p := fun p => b.role p == r && (b.lc p).state.up) h, fun h => ?_⟩
  cases hf : Panto.all.find? (fun p => b.role p == r && (b.lc p).state.up) with
  | none => exact absurd h (List.find?_eq_none.mp hf p (by cases p <;> decide))
  | some x =>
    have hx := List.find?_some hf
    simp only [Bool.and_eq_true, beq_iff_eq] at hx h
    rw [one x p hx.1 h.1]

theorem preheated_iff (b : Block) (p : Panto) : preheated b = some p ↔ preheats b p = true := by
  unfold preheated preheats
  rw [Option.filter_eq_some_iff]
  simp only [Bool.and_eq_true, beq_iff_eq]

/-- What is given to the one claimant. -/
theorem given_of {claim : Panto → Bool} {o : Option Panto} (h : ∀ p, o = some p ↔ claim p = true) (b : Block) :
    given claim b = o.elim 0 fun p => b.ice.duty.get p := by
  unfold given
  cases o with
  | none =>
    have hnone : Panto.all.filter claim = [] := by
      rw [List.filter_eq_nil_iff]
      intro p _ hp
      cases (h p).mpr hp
    rw [hnone]
    rfl
  | some p =>
    have hone : claim = fun x => x == p := by
      funext x
      rw [Bool.eq_iff_iff, ← h x, beq_iff_eq]
      exact ⟨fun hx => (Option.some.inj hx).symm, fun hx => by rw [hx]⟩
    rw [hone]
    cases p <;> rfl

theorem heatOf_eq (b : Block) : heatOf b = levelDuty b := by
  unfold heatOf levelDuty
  split
  next h => simp only [h]
  next h0 =>
    split
    next h => simp only [h]
    next h1 =>
      split
      next h => simp only [h]
      next h2 =>
        split
        next h => exact absurd h h0
        next h => exact absurd h h1
        next h => exact absurd h h2
        next => rfl

theorem Shared.sharesHeat (h : Shared b) (hone : OneCollector b) (hscraper : OneScraper b) (hr : b.cond.restart = none) :
    SharesHeat b := by
  obtain ⟨hdemand, hduty⟩ := (shared_iff b).mp h
  have hwaits : ¬adoptionWaits b = true := by simp [adoptionWaits, hr]
  rw [if_neg hwaits] at hdemand hduty
  have demand (p : Panto) : b.ice.demand.get p = demandOf b p := by rw [hdemand, PerP.get_ofFun]
  have duty (p : Panto) : b.ice.duty.get p = dutyOf b p := by rw [hduty, PerP.get_ofFun]
  have hc := heated_iff hone
  have hs := heated_iff hscraper
  have hp := preheated_iff b
  have hnotboth (p : Panto) (hpre : preheated b = some p) (r : Role) : heated b r ≠ some p := by
    intro hh
    have hup := List.find?_some hh
    have hst := (hp p).mp hpre
    simp only [preheats, Bool.and_eq_true, beq_iff_eq] at hup hst
    rw [hst.2] at hup
    cases hup.2
  have hroles (p : Panto) (hh : heated b .scraping = some p) : heated b .collecting ≠ some p := by
    intro hh'
    have h1 := List.find?_some hh
    have h2 := List.find?_some hh'
    simp only [Bool.and_eq_true, beq_iff_eq] at h1 h2
    rw [h1.1] at h2
    cases h2.1
  have hcshare : given (claims .collecting b) b = collectorShare b := by
    rw [given_of hc b]
    cases hh : heated b .collecting with
    | none => simp [collectorShare, claim, hh]
    | some p => exact (duty p).trans (if_pos hh)
  have hpshare : given (preheats b) b = preheatShare b := by
    rw [given_of hp b]
    cases hh : preheated b with
    | none => simp [preheatShare, claim, hh]
    | some p => exact (duty p).trans ((if_neg (hnotboth p hh .collecting)).trans (if_pos hh))
  refine ⟨fun p hcl => ?_, fun p hcl => ?_, fun p hcl => ?_, fun p h1 h2 h3 => ?_⟩
  · have hh := (hc p).mpr hcl
    have hd : demandOf b p = levelDuty b := if_pos hh
    rw [demand, duty, hd, heatOf_eq]
    refine ⟨rfl, (if_pos hh).trans ?_⟩
    rw [collectorShare, hh, claim, hd]
  · have hh := (hp p).mpr hcl
    have hn := hnotboth p hh .collecting
    have hd : demandOf b p = b.nat .preDuty := (if_neg hn).trans (if_pos hh)
    rw [demand, duty, hd, hcshare]
    refine ⟨rfl, ((if_neg hn).trans (if_pos hh)).trans ?_⟩
    rw [preheatShare, hh, claim, hd]
  · have hh := (hs p).mpr hcl
    have hn := hroles p hh
    have hn' : preheated b ≠ some p := fun hpre => hnotboth p hpre .scraping hh
    have hd : demandOf b p = levelDuty b := (if_neg hn).trans ((if_neg hn').trans (if_pos hh))
    rw [demand, duty, hd, heatOf_eq, hcshare, hpshare]
    refine ⟨rfl, ((if_neg hn).trans ((if_neg hn').trans (if_pos hh))).trans ?_⟩
    rw [scraperShare, hh, claim, hd]
  · have n1 : heated b .collecting ≠ some p := fun hh => by simp [(hc p).mp hh] at h1
    have n2 : preheated b ≠ some p := fun hh => by simp [(hp p).mp hh] at h2
    have n3 : heated b .scraping ≠ some p := fun hh => by simp [(hs p).mp hh] at h3
    rw [demand, duty]
    exact ⟨(if_neg n1).trans ((if_neg n2).trans (if_neg n3)), (if_neg n1).trans ((if_neg n2).trans (if_neg n3))⟩

/-- The law of the shares where one pantograph collects and one scrapes. -/
def ShareLawOfOne (b : Block) : Prop := OneCollector b → OneScraper b → ShareLaw b

theorem Shared.law (h : Shared b) : ShareLawOfOne b := by
  intro hone hscraper
  refine ⟨h.sharesHeat hone hscraper, fun hr p => ?_⟩
  obtain ⟨hdemand, hduty⟩ := (shared_iff b).mp h
  have hwaits : adoptionWaits b = true := hr
  rw [if_pos hwaits] at hdemand hduty
  rw [hdemand, hduty, PerP.get_const]
  exact ⟨rfl, rfl⟩

theorem lasting_shareLaw : Lasting ShareLawOfOne := by
  have same {a b : Block} (hs : SharesHeat a → SharesHeat b) (hr : b.cond.restart = a.cond.restart) (hi : b.ice.demand = a.ice.demand)
      (hd : b.ice.duty = a.ice.duty) (hroles : b.plan.roles = a.plan.roles) (ha : ShareLawOfOne a) : ShareLawOfOne b := by
    intro hone hscraper
    have hrole (p : Panto) : b.role p = a.role p := by rw [Block.role, hroles, Block.role]
    obtain ⟨shares, waits⟩ := ha (fun p x => by simpa only [hrole] using hone p x)
      (fun p x => by simpa only [hrole] using hscraper p x)
    refine ⟨fun hn => hs (shares (hr ▸ hn)), fun hw p => ?_⟩
    rw [hi, hd]
    exact waits (hr ▸ hw) p
  refine .of_working (fun b => ⟨same ?_ rfl rfl rfl rfl, same ?_ rfl rfl rfl rfl⟩) fun a n => same ?_ rfl rfl rfl rfl
  · exact fun ⟨collector, preheat, scraper, others⟩ => ⟨collector, preheat, scraper, others⟩
  · exact fun ⟨collector, preheat, scraper, others⟩ => ⟨collector, preheat, scraper, others⟩
  · exact fun ⟨collector, preheat, scraper, others⟩ => ⟨collector, preheat, scraper, others⟩

theorem shareLaw_warmRestart (k : Contacts) (b : Block) : ShareLawOfOne (warmRestart k b) := fun _ _ =>
  ⟨fun h => absurd (restart_warmRestart k b) (by simp [h]), fun _ => duty_warmRestart k b⟩

theorem shareLaw_powerOn (k : Contacts) (m : MemImage) (n : Nat) : ShareLawOfOne { powerOn k m with freeCount := n } := by
  have hclaims (r : Role) (p : Panto) : claims r { powerOn k m with freeCount := n } p = false := by
    rw [claims_up, lc_powerOn]
    simp [Lift.initial, LiftState.up]
  have hpre (p : Panto) : preheats { powerOn k m with freeCount := n } p = false := by
    unfold preheats
    rw [powerOn_ice_free]
    rfl
  refine fun _ _ => ⟨fun _ => ⟨fun p h => ?_, fun p h => ?_, fun p h => ?_, fun p _ _ _ => ?_⟩, fun h => ?_⟩
  · rw [hclaims] at h
    cases h
  · rw [hpre] at h
    cases h
  · rw [hclaims] at h
    cases h
  · rw [powerOn_ice_free]
    cases p <;> exact ⟨rfl, rfl⟩
  · obtain ⟨cal, cond, heq, -, hr, -⟩ := powerOn_frame k m
    rw [heq] at h
    change cond.restart.isSome = true at h
    rw [hr] at h
    cases h

theorem step_shareLaw {S T : State} (hstep : step S = .next T) (hs : ShareLawOfOne S.block) : ShareLawOfOne T.block :=
  step_seals lasting_shareLaw (fun s judge y _ _ => (answers_shared s judge y).law) shareLaw_warmRestart shareLaw_powerOn
    hstep hs

/-! ## The run (R88) -/

theorem step_runLaw {S T : State} (hstep : step S = .next T) (hs : RunLaw S.block.line) : RunLaw T.block.line := by
  refine step_keeps (P := fun b => RunLaw b.line) (calm := False) (.of_prim prim_runLaw fun _ _ h => h)
    (fun _ _ _ => runLaw_initial) (fun k m n => ?_) False.elim hstep hs
  obtain ⟨cal, cond, heq, -⟩ := powerOn_frame k m
  rw [heq]
  exact runLaw_initial

/-! ## The advisory (R158) -/

/-- The advisory at the end of an event: that of CurrentLimit as the level becomes 3, absent as it falls below 3, and as the
event's own effect left it otherwise. -/
def advisoryAt (s y : Block) (level : Nat) : Option Nat :=
  if level = 3 then (if s.ice.level = 3 then y.record.advisory else some (y.nat .currentLimit))
  else if s.ice.level = 3 then none
  else y.record.advisory

theorem advisory_adviseOn (n : Nat) (b : Block) :
    (adviseOn n b).ice.level = b.ice.level ∧
      (adviseOn n b).record.advisory = (if b.ice.level = 3 then (if n = 3 then b.record.advisory else some (b.nat .currentLimit))
        else if n = 3 then none else b.record.advisory) := by
  unfold adviseOn
  split
  · split
    · exact ⟨rfl, rfl⟩
    · exact ⟨rfl, rfl⟩
  · split
    · exact ⟨rfl, rfl⟩
    · exact ⟨rfl, rfl⟩

theorem answers_advisory (judge : Bool) (h : s.sensors.ambient.validity ≠ .unknown ∨ y.sensors = s.sensors) :
    (answers s judge y).record.advisory = advisoryAt s y (answers s judge y).ice.level ∧
      (answers s judge y).cond.cfg = y.cond.cfg := by
  obtain ⟨w, v, heq, hw, hkept, hv, hkept'⟩ := answers_shape s judge y
  have hfirst : firstScan s w = false := by
    unfold firstScan
    rw [sensors_of_kept hkept]
    rcases h with h | h
    · simp [h]
    · rw [h]
      cases s.sensors.ambient.validity <;> rfl
  have hfollow : followLevel s w = adviseOn s.ice.level (takeLevel w) := by rw [followLevel, hfirst]; rfl
  obtain ⟨hlevel, hadvisory⟩ := advisory_adviseOn s.ice.level (takeLevel w)
  rw [hfollow] at hv
  have hshare : Unadvised v (shareBudget v) := by
    unfold shareBudget
    split <;> exact ⟨rfl, rfl, rfl, rfl, rfl⟩
  have hend := ((hv.unadvised id id).trans hshare).trans ((prims_closing (sc := Scope.ungraded) v).unadvised id id)
  have hcfg : (adviseOn s.ice.level (takeLevel w)).cond.cfg = w.cond.cfg :=
    congrArg Kept.cfg ((congrArg Block.kept hfollow).symm.trans (kept_followLevel s w))
  have hnat : w.nat .currentLimit = y.nat .currentLimit := by rw [Block.nat, hw.cfg, Block.nat]
  rw [heq]
  refine ⟨?_, hend.cfg.trans (hcfg.trans hw.cfg)⟩
  rw [hend.advisory, hend.level, hlevel, hadvisory]
  change (if _ then (if s.ice.level = 3 then w.record.advisory else some (w.nat .currentLimit)) else
    if s.ice.level = 3 then none else w.record.advisory) = _
  rw [hnat, hw.advisory]
  rfl

theorem advisesLimit_of_same (hice : t.ice.level = s.ice.level) (hadvisory : t.record.advisory = s.record.advisory)
    (hcfg : t.cond.cfg = s.cond.cfg) : AdvisesLimit s t where
  rises hs ht := absurd (hice ▸ ht) hs
  falls hs ht := absurd (hice.trans hs) ht
  written _ _ hne := absurd (by rw [Block.cfg, Block.cfg, hcfg]) hne
  stays _ _ := hadvisory
  holds _ _ _ := .inl hadvisory

/-- What a step is to make of the advisory; `written` where CurrentLimit may be written. -/
def AdvisesStep (written : Prop) (s t : Block) : Prop :=
  AdvisesLimit s t ∧ (¬written → s.ice.level = 3 → t.ice.level = 3 → t.record.advisory = s.record.advisory)

theorem advisesStep_of_same {written : Prop} (hice : t.ice.level = s.ice.level)
    (hadvisory : t.record.advisory = s.record.advisory) (hcfg : t.cond.cfg = s.cond.cfg) : AdvisesStep written s t :=
  ⟨advisesLimit_of_same hice hadvisory hcfg, fun _ _ _ => hadvisory⟩

theorem advisesStep_of_working {written : Prop} (h : x.working = s.working) : AdvisesStep written s x :=
  advisesStep_of_same (congrArg (fun v : Block => v.ice.level) h :) (congrArg (fun v : Block => v.record.advisory) h :)
    (congrArg (fun v : Block => v.cond.cfg) h :)

theorem AdvisesStep.of_same {written : Prop} (h : AdvisesStep written s x) (hice : y.ice = x.ice)
    (hrecord : y.record = x.record) (hcfg : y.cond.cfg = x.cond.cfg) : AdvisesStep written s y := by
  obtain ⟨⟨rises, falls, changed, stays, holds⟩, hsame⟩ := h
  have hget : y.cfg .currentLimit = x.cfg .currentLimit := by rw [Block.cfg, hcfg, Block.cfg]
  have hnat : y.nat .currentLimit = x.nat .currentLimit := by rw [Block.nat, hcfg, Block.nat]
  refine ⟨⟨?_, ?_, ?_, ?_, ?_⟩, ?_⟩
  · rwa [hice, hrecord, hnat]
  · rwa [hice, hrecord]
  · rwa [hice, hrecord, hget, hnat]
  · rwa [hice, hrecord]
  · rwa [hice, hrecord, hget, hnat]
  · rwa [hice, hrecord]

theorem close_frame (s b : Block) :
    (close s b).ice = b.ice ∧ (close s b).record = b.record ∧ (close s b).cond = b.cond := by
  unfold close markChanges advanceEpoch
  split <;> exact ⟨rfl, rfl, rfl⟩

theorem AdvisesStep.close {written : Prop} (h : AdvisesStep written s x) (r : Block) : AdvisesStep written s (close r x) := by
  obtain ⟨hice, hrecord, hcond⟩ := close_frame r x
  exact h.of_same hice hrecord (by rw [hcond])

/-- The scope of an event whose level the end of the event alone changes. -/
def Scope.advised (c : Instr) : Scope :=
  { Scope.free False with advises := False, senses := ∃ r, c = .scanComplete r, writes := WritesLimit c }

theorem advisesStep_settle (judge : Bool) (hl : Loaded s)
    (hscan : s.sensors.ambient.validity ≠ .unknown ∨ ∀ r, c ≠ .scanComplete r) (hy : Moves (Scope.advised c) s y) :
    AdvisesStep (WritesLimit c) s (answers s judge y) := by
  obtain ⟨-, ⟨hlevel, hchanged, hkeeps⟩, hsame⟩ := hy.follows id hl
  have hsensors : s.sensors.ambient.validity ≠ .unknown ∨ y.sensors = s.sensors :=
    hscan.imp id fun hn => hy.sensors (sc := Scope.advised c) fun h => h.elim hn
  obtain ⟨hadvisory, hcfg⟩ := answers_advisory judge hsensors
  have hget : (answers s judge y).cfg .currentLimit = cfgGet y.cond.cfg .currentLimit := by rw [Block.cfg, hcfg]
  have hnat : (answers s judge y).nat .currentLimit = y.nat .currentLimit := by rw [Block.nat, hcfg, Block.nat]
  generalize answers s judge y = t at *
  unfold advisoryAt at hadvisory
  refine ⟨⟨fun hs ht => ?_, fun hs ht => ?_, fun hs ht hne => ?_, fun hs ht => ?_, fun hs ht _ => ?_⟩, fun hw hs ht => ?_⟩
  · rw [hadvisory, if_pos ht, if_neg hs, hnat]
  · rw [hadvisory, if_neg ht, if_pos hs]
  · rw [hadvisory, if_pos ht, if_pos hs, hnat]
    rw [hget] at hne
    exact hchanged hne hs
  · rw [hadvisory, if_neg ht, if_neg hs]
    exact hkeeps.resolve_right fun h => hs h.1
  · rw [hadvisory, if_pos ht, if_pos hs, hnat]
    exact hkeeps.imp id And.right
  · rw [hadvisory, if_pos ht, if_pos hs]
    exact hsame.resolve_left hw

theorem permits_advised (s y : Block) : Permits (Scope.advised c) c s y :=
  ⟨trivial, trivial, trivial, fun _ => trivial, fun _ _ => trivial, id, fun _ => trivial, False.elim, id⟩

theorem Ends.advises (he : Ends c s t) (hl : Loaded s)
    (hscan : s.sensors.ambient.validity ≠ .unknown ∨ ∀ r, c ≠ .scanComplete r) (hpower : ∀ k m, c ≠ .powerOn k m)
    (hwarm : ∀ k, c ≠ .warmRestart k) (hsent : ∀ l k, c ≠ .replySent l k) : AdvisesStep (WritesLimit c) s t := by
  cases he
  case settled judge y moves =>
    rw [settle_eq]
    exact (advisesStep_settle judge hl hscan (moves _ (permits_advised s y))).close s
  case aside y moves own => exact (advisesStep_of_working own).close s
  case replied l r => exact ((advisesStep_of_working (working_refresh l s)).close s).of_same rfl rfl rfl
  case digest q r is => exact ((advisesStep_of_working (working_refresh q.link s)).close s).of_same rfl rfl rfl
  case silent l r present mask is => exact advisesStep_of_same rfl rfl rfl
  case restarted k x from' is =>
    rcases is with is | ⟨l, is⟩
    · exact absurd is (hwarm k)
    · exact absurd is (hsent l k)
  case started k m is => exact absurd is (hpower k m)

theorem Carried.advises {code : Nat} (h : Carried code c) (he : Ends c s t) (hl : Loaded s) :
    AdvisesStep (WritesLimit c) s t := by
  refine he.advises hl (.inr ?_) ?_ ?_ ?_
  · rintro r rfl
    exact h
  · rintro k m rfl
    exact h
  · rintro k rfl
    exact h
  · rintro l k rfl
    exact h

theorem WritesLimit.is (h : WritesLimit c) : ∃ q v, c = .writeConfigurationItem q (some .currentLimit) v := by
  cases c
  case writeConfigurationItem q i v =>
    cases h
    exact ⟨q, v, rfl⟩
  all_goals exact h.elim

/-- The advisory over every step but the resets (R158). -/
theorem step_advises {S T : State} {rest : List Instr} (hpending : S.pending = c :: rest)
    (hpower : ∀ k m, c ≠ .powerOn k m) (hwarm : ∀ k, c ≠ .warmRestart k) (hsent : ∀ l k, c ≠ .replySent l k)
    (hl : Loaded S.block) (hscan : S.block.sensors.ambient.validity ≠ .unknown ∨ ∀ r, c ≠ .scanComplete r)
    (hstep : step S = .next T) :
    AdvisesStep ((∃ q v, c = .writeConfigurationItem q (some .currentLimit) v) ∨ ∃ l byte, c = .frameOpened l byte)
      S.block T.block := by
  have hexec : exec c { S with pending := rest } = .next T := by
    unfold step at hstep
    rw [hpending] at hstep
    exact hstep
  by_cases hb : ∃ l byte, c = .frameOpened l byte
  · obtain ⟨l, byte, rfl⟩ := hb
    refine ⟨?_, fun hn => absurd (.inr ⟨l, byte, rfl⟩) hn⟩
    rcases ends_of_byte hexec with he | ⟨bytes, code, tag, payload, -, -, he⟩
    · exact (he.advises hl hscan hpower hwarm hsent).1
    · exact ((carried_parseRequest l code tag payload).advises he hl).1
  · simp only [not_exists] at hb
    obtain ⟨hadvises, hsame⟩ := (ends_of_exec hb hexec).advises hl hscan hpower hwarm hsent
    exact ⟨hadvises, fun hn => hsame fun hw => hn (.inl hw.is)⟩

/-! ### A write of CurrentLimit -/

theorem writeConfigurationItem_limit {v : Int} (hmode : b.cond.mode = .workshop) :
    (writeConfigurationItem (some .currentLimit) v b).block = itemWritten .currentLimit v b ∧
      (writeConfigurationItem (some .currentLimit) v b).reach = .others := by
  have hbusy : writeBusy b .currentLimit v = false := rfl
  unfold writeConfigurationItem
  rw [if_neg (not_not.mpr hmode)]
  simp only [hbusy]
  exact ⟨rfl, rfl⟩

theorem write_currentLimit {q : Req} {v : Int} {S : State} (hq : Leads q S.block) (hmode : S.block.cond.mode = .workshop) :
    ∃ T, exec (.writeConfigurationItem q (some .currentLimit) v) S = .next T ∧
      (S.block.ice.level = 3 → T.block.ice.level = 3 →
        T.block.record.advisory = some (T.block.nat .currentLimit)) := by
  refine ⟨_, rfl, ?_⟩
  have hmode' : (refresh q.link S.block).cond.mode = .workshop := hmode
  obtain ⟨hblock, hreach⟩ := writeConfigurationItem_limit (v := v) hmode'
  have hanswer : answer q .leader (writeConfigurationItem (some .currentLimit) v) S.block =
      writeConfigurationItem (some .currentLimit) v (refresh q.link S.block) := by
    rw [answer, examine_leader hq]
  rw [hanswer, hreach, hblock]
  generalize (⟨0x14, q.tag, _, _⟩ : Reply) = r
  intro hs ht
  obtain ⟨-, hrecord⟩ := itemWritten_advisory .currentLimit v (refresh q.link S.block)
  rw [if_pos ⟨rfl, hs⟩] at hrecord
  have hsensors : (pushReply q.link r (itemWritten .currentLimit v (refresh q.link S.block))).sensors = S.block.sensors := by
    have hmoves : Moves { Scope.free False with senses := False } (refresh q.link S.block)
        (itemWritten .currentLimit v (refresh q.link S.block)) := moves_write trivial (fun _ => trivial) rfl
    have hsame := hmoves.sensors id
    exact hsame
  obtain ⟨hadvisory, hcfg⟩ := answers_advisory (s := S.block) false (.inr hsensors)
  obtain ⟨hice, hrec, hcond⟩ := close_frame S.block (answers S.block false
    (pushReply q.link r (itemWritten .currentLimit v (refresh q.link S.block))))
  change (close S.block (answers S.block false _)).ice.level = 3 at ht
  change (close S.block (answers S.block false _)).record.advisory = some ((close S.block (answers S.block false _)).nat _)
  rw [hice] at ht
  rw [hrec, Block.nat, hcond, hcfg, hadvisory, advisoryAt, if_pos ht, if_pos hs]
  change (itemWritten .currentLimit v (refresh q.link S.block)).record.advisory = _
  rw [hrecord]
  rfl

/-- Settles O55: shares and level are taken anew at the end of each event, no other change writes them or the advisory but a
write of CurrentLimit, and each change keeps the run. -/
theorem heatLevelAndRunLawsAreKept : Obligations.HeatLevelAndRunLawsAreKept := by
  unfold Obligations.HeatLevelAndRunLawsAreKept
  refine ⟨fun S T hstep => ?_, fun c rest S T hpending hpower hwarm hsent hr hdone hscan hstep => ?_, fun q v S hq hmode => ?_⟩
  · exact ⟨step_heaterLaw hstep, step_levelLaw hstep, step_runLaw hstep,
      fun hs hone hscraper => step_shareLaw hstep (fun _ _ => hs) hone hscraper⟩
  · obtain ⟨hadvises, hsame⟩ := step_advises hpending hpower hwarm hsent ⟨hr, (hdone hr).1⟩ hscan hstep
    refine ⟨hadvises, fun hwrite hbyte => hsame ?_⟩
    rintro (⟨q, v, h⟩ | ⟨l, byte, h⟩)
    · exact hwrite q v h
    · exact hbyte l byte h
  · exact write_currentLimit hq hmode

end Sys2Proof.Machine
end

section
/-!
What a request does that passes its examination: it is answered as its owner decides, and its event ends as far as the
answer reaches. The statements about single requests are read off the lemmas of this file.
-/

namespace Sys2Proof.Machine

variable {q : Req} {code : Nat} {g : Gate} {owner : Block → Answer} {s t : State} {x : Block} {o : ReplyOutcome}

/-- A command has one end, so what holds of some end of it holds of that one. -/
theorem holds_at {r : Result} {P : State → Prop} (ht : r = .next t) (h : ∃ t', r = .next t' ∧ P t') : P t := by
  obtain ⟨t', ht', hp⟩ := h
  have heq : Host.Outcome.next t = .next t' := ht.symm.trans ht'
  injection heq with heq
  exact heq ▸ hp

/-- The one end of a command. -/
theorem exec_ends (c : Instr) (s : State) : ∃ t, exec c s = .next t := by
  obtain ⟨t, ht, -⟩ := everyCommandCompletes c s
  exact ⟨t, ht⟩

/-- The end of a request whose owner has answered `a`. -/
structure EndsAs (s t : State) (q : Req) (code : Nat) (a : Answer) : Prop where
  answered : Answered s t q.link ⟨code, q.tag, a.outcome, a.data⟩
  block    : t.block = finish s.block a.reach (pushReply q.link ⟨code, q.tag, a.outcome, a.data⟩ a.block)

theorem request_ends (hex : examine q g (refresh q.link s.block) = none)
    (hl : (owner (refresh q.link s.block)).block.kept.links = (refresh q.link s.block).kept.links) :
    ∃ t, request q code g owner s = .next t ∧ EndsAs s t q code (owner (refresh q.link s.block)) := by
  have ha : answer q g owner s.block = owner (refresh q.link s.block) := by simp [answer, hex]
  have hr := request_replies q code g owner s (ha ▸ hl) q.link
  refine ⟨_, rfl, ?_, ?_⟩
  · rw [ha, if_pos rfl] at hr
    simpa only [Answered, ha] using hr
  · simp only [ha]

/-- The end of a request, its answer being known. -/
theorem request_ends_as {a : Answer} (hex : examine q g (refresh q.link s.block) = none)
    (ha : owner (refresh q.link s.block) = a) (hl : a.block.kept.links = (refresh q.link s.block).kept.links) :
    ∃ t, request q code g owner s = .next t ∧ EndsAs s t q code a := by
  obtain ⟨t, ht, he⟩ := request_ends (code := code) hex (owner := owner) (ha.symm ▸ hl)
  exact ⟨t, ht, ha ▸ he⟩

/-- A request that its owner answers with no change. -/
theorem request_unchanged {d : ReplyData} (hex : examine q g (refresh q.link s.block) = none)
    (ha : owner (refresh q.link s.block) = ⟨refresh q.link s.block, o, d, .own⟩) :
    ∃ t, request q code g owner s = .next t ∧ OnlyLinks s t ∧ Answered s t q.link ⟨code, q.tag, o, d⟩ :=
  own_request (by simp [answer, hex, ha])

/-- A request that its owner refuses. -/
theorem request_refused {c : RefCode} (hex : examine q g (refresh q.link s.block) = none)
    (ha : owner (refresh q.link s.block) = refuse c (refresh q.link s.block)) :
    ∃ t, request q code g owner s = .next t ∧ OnlyLinks s t ∧ Answered s t q.link (plainReply code q (.refused c)) :=
  request_unchanged hex ha

/-! ## What the end keeps -/

theorem EndsAs.kept {a : Answer} (h : EndsAs s t q code a) (l : PerL LinkRec) :
    { t.block.kept with links := l } = { a.block.kept with links := l } := by
  rw [h.block, kept_finish]
  rfl

/-- Whatever an owner keeps but for the links, its request keeps. -/
theorem EndsAs.keepsRest {a : Answer} (h : EndsAs s t q code a)
    (ha : { a.block.kept with links := s.block.kept.links } = s.block.kept) : KeepsRest s t :=
  (h.kept _).trans ha

/-- An owner that keeps what `Block.kept` holds. -/
theorem keeps_of_kept {l : Link} {b : Block} (h : x.kept = (refresh l b).kept) :
    { x.kept with links := b.kept.links } = b.kept := by
  rw [h]
  rfl

theorem EndsAs.keepsRest_of_kept {a : Answer} (h : EndsAs s t q code a)
    (ha : a.block.kept = (refresh q.link s.block).kept) : KeepsRest s t :=
  h.keepsRest (keeps_of_kept ha)

/-- The end of a request that settles the other blocks. -/
theorem EndsAs.settles (h : EndsAs s t q code (effect o x)) :
    t.block = settle s.block false (pushReply q.link (plainReply code q o) x) := h.block

theorem EndsAs.plain (h : EndsAs s t q code (effect o x)) : Answered s t q.link (plainReply code q o) := h.answered

/-- The end of a request whose effect is its owner's alone. -/
theorem EndsAs.closes (h : EndsAs s t q code (ownEffect o x)) :
    t.block = close s.block (pushReply q.link (plainReply code q o) x) := h.block

/-- An owner's own effect that moves nothing the epoch counts changes what it says, and the links. -/
theorem close_eq_of_principal {s x : Block} (h : reference s x = principal x) : close s x = { x with links := (close s x).links } := by
  simp only [close, advanceEpoch, h, if_true, markChanges, markAll]

/-! ## Declare Ready (R17) -/

theorem declareReady_accepts {l : Link} {m : Master} {sys : LineSystem} {serial : Nat} {b : Block} (hm : masterOf l = some m)
    (hd : b.record.determined = some sys) (hs : b.record.serial = serial) :
    declareReady l sys serial b = effect .done (setReady m (some ⟨sys, serial⟩) b) := by
  simp [declareReady, hm, hd, hs]

theorem declareReady_stale {l : Link} {sys : LineSystem} {serial : Nat} {b : Block} (hm : (masterOf l).isSome = true)
    (h : ¬(b.record.determined = some sys ∧ b.record.serial = serial)) :
    declareReady l sys serial b = refuse .staleReady b := by
  obtain ⟨m, hm⟩ := Option.isSome_iff_exists.mp hm
  simp only [declareReady, hm, if_neg h]

/-- Settles O15, by what a settled request keeps. -/
theorem declareReadyIsDecided : Obligations.DeclareReadyIsDecided := by
  unfold Obligations.DeclareReadyIsDecided
  intro q sys serial s hq
  have hex := examine_masters hq
  obtain ⟨t, ht⟩ := exec_ends (.declareReady q sys serial) s
  refine ⟨t, ht, fun hd hs => ?_, fun h => ?_⟩
  · obtain ⟨m, hm⟩ := Option.isSome_iff_exists.mp hq.master
    have ha := declareReady_accepts (b := refresh q.link s.block) hm hd hs
    have he := holds_at ht (request_ends_as (code := 0x09) hex ha (by rw [← ha]; simp))
    have hkept := he.kept s.block.kept.links
    have hready : t.block.plan.readyA = (setReady m (some ⟨sys, serial⟩) (refresh q.link s.block)).plan.readyA ∧
        t.block.plan.readyB = (setReady m (some ⟨sys, serial⟩) (refresh q.link s.block)).plan.readyB :=
      ⟨congrArg Kept.readyA hkept, congrArg Kept.readyB hkept⟩
    have hrest : { t.block.kept with
        links := s.block.kept.links, readyA := s.block.kept.readyA, readyB := s.block.kept.readyB } =
        { (setReady m (some ⟨sys, serial⟩) (refresh q.link s.block)).kept with
          links := s.block.kept.links, readyA := s.block.kept.readyA, readyB := s.block.kept.readyB } :=
      congrArg (fun k : Kept => { k with readyA := s.block.kept.readyA, readyB := s.block.kept.readyB }) hkept
    rw [hready.1, hready.2, hrest]
    refine ⟨?_, ?_, ?_, he.plain⟩ <;> revert hm <;> cases m <;> cases q.link <;> simp [masterOf, setReady] <;> rfl
  · exact holds_at ht (request_refused hex (declareReady_stale hq.master h))

end Sys2Proof.Machine
end

section
/-!
The Fault Record (R177) and the memory port (R77, R176): what a report and a write do, said once.
-/

namespace Sys2Proof.Machine

variable {b x : Block} {k : FaultKind}

/-! ## The Fault Record -/

theorem faultKind_ext {k j : FaultKind} (h : k.ctorIdx = j.ctorIdx) : k = j := by
  have all (i : FaultKind) : faultList[i.ctorIdx]? = some i := by cases i <;> rfl
  have hj := all j
  rw [← h, all k] at hj
  exact Option.some.inj hj

/-- Equal Fault Records count alike. -/
theorem faultCount_of_faults (h : x.cond.faults = b.cond.faults) (k : FaultKind) : faultCount k x = faultCount k b := by
  simp only [faultCount, h]

theorem faultCount_recordFault_self (k : FaultKind) (v : Subject) (b : Block) :
    faultCount k (recordFault k v b) = oneMore k b := by
  simp only [faultCount, recordFault, oneMore, satAdd, Vector.getElem_set_self]

theorem faultCount_recordFault_ne {k j : FaultKind} (h : j ≠ k) (v : Subject) (b : Block) :
    faultCount j (recordFault k v b) = faultCount j b :=
  Vector.getElem_set_ne k.ctorIdx_lt j.ctorIdx_lt fun heq => h (faultKind_ext heq).symm

theorem severe_iff (k : FaultKind) : k.severe = true ↔ k ∈ severeKinds := by cases k <;> simp [FaultKind.severe, severeKinds]

theorem captureFilter_iff (b : Block) : b.on .captureFilter = true ↔ b.cfg .captureFilter = 1 := decide_eq_true_iff

/-- A first fault stands; an absent one is filled where the kind passes the capture filter. -/
theorem first_recordFault (k : FaultKind) (v : Subject) (b : Block) :
    (recordFault k v b).cond.faults.first =
      match b.cond.faults.first with
      | some r => some r
      | none =>
        if b.on .captureFilter && !k.severe then none
        else some ⟨k, v, b.queue.position, b.queue.speed, b.seq.phase, b.cond.mode⟩ := rfl

theorem reportsFault (k : FaultKind) (v : Subject) (b : Block) : ReportsFault k v b (recordFault k v b) where
  only := rfl
  count := faultCount_recordFault_self k v b
  others _ h := faultCount_recordFault_ne h v b
  present := rfl
  stands r h := by rw [first_recordFault, h]
  fills h hpass := by
    rw [first_recordFault, h]
    refine if_neg fun hfilter => ?_
    simp only [Bool.and_eq_true, Bool.not_eq_true'] at hfilter
    rcases hpass with hp | hp
    · exact hp ((captureFilter_iff b).mp hfilter.1)
    · rw [(severe_iff k).mpr hp] at hfilter
      exact Bool.noConfusion hfilter.2
  filters h hf hk := by
    rw [first_recordFault, h]
    refine if_pos ?_
    simp only [(captureFilter_iff b).mpr hf, Bool.eq_false_iff.mpr (mt (severe_iff k).mp hk), Bool.not_false, Bool.and_self]

theorem faultLaw_restartBase (c : Contacts) (h : FaultLaw b) : FaultLaw (restartBase c b) := h

theorem faultLaw_powerOn (c : Contacts) (m : MemImage) (n : Nat) : FaultLaw { powerOn c m with freeCount := n } :=
  (prims_powerOn (sc := Scope.plain) c m).keep (P := FaultLaw) (prim_faultLaw Scope.plain) (faultLaw_loadedBlock m)

theorem step_faultLaw {S T : State} (hstep : step S = .next T) (hs : FaultLaw S.block) : FaultLaw T.block :=
  step_keeps (calm := False) (.of_prim prim_faultLaw fun _ _ h => h) (fun k _ => faultLaw_restartBase k)
    faultLaw_powerOn False.elim hstep hs

theorem faultRecord_empty : FaultRecord.empty = ⟨none, Vector.replicate 18 0, false⟩ := rfl

theorem clearFaultsOf_awake (h : awakeMode b = true) :
    clearFaultsOf b = ownEffect .done { b with cond := { b.cond with faults := FaultRecord.empty } } := by
  unfold awakeMode at h
  unfold clearFaultsOf
  cases hm : b.cond.mode <;> rw [hm] at h <;> first | rfl | exact Bool.noConfusion h

theorem clearFaultsOf_waking (h : b.cond.mode = .waking) : clearFaultsOf b = refuse .wrongMode b := by
  simp [clearFaultsOf, h]

end Sys2Proof.Machine
end

section
/-!
The requests and completions whose effect lies in the records: Clear Faults (R177), Store Configuration and its
read-back (R176).
-/

namespace Sys2Proof.Machine

variable {q : Req} {code : Nat} {s t : State} {b x : Block} {o : ReplyOutcome}

/-- An event that moves nothing the epoch counts closes with its effect and the links. -/
theorem close_frame_of_same {s x : Block} (hp : principal x = principal s) (hr : x.cond.restart = s.cond.restart) :
    close s x = { x with links := (close s x).links } := by
  refine close_eq_of_principal ?_
  unfold reference
  rw [hp, hr]
  cases s.cond.restart <;> rfl

/-- The end of a request whose effect is its owner's alone and moves nothing the epoch counts. -/
theorem EndsAs.block_of_same (h : EndsAs s t q code (ownEffect o x)) (hp : principal x = principal s.block)
    (hr : x.cond.restart = s.block.cond.restart) : t.block = { x with links := t.block.links } := by
  have hc := h.closes
  rw [hc]
  refine (close_frame_of_same (s := s.block) (x := pushReply q.link (plainReply code q o) x) hp hr).trans ?_
  rfl

/-- Settles O32, by what a report does and by the changes that a step is made of. -/
theorem clearFaultsEmptiesTheRecord : Obligations.ClearFaultsEmptiesTheRecord := by
  unfold Obligations.ClearFaultsEmptiesTheRecord
  refine ⟨reportsFault, fun s t hs hstep => step_faultLaw hstep hs, fun q s hq => ?_⟩
  have hex := examine_leader hq
  obtain ⟨t, ht⟩ := exec_ends (.clearFaults q) s
  refine ⟨t, ht, fun hm => ?_, fun hm => ?_⟩
  · have he := holds_at ht (request_ends_as (code := 0x13) hex (clearFaultsOf_awake hm) rfl)
    exact ⟨he.block_of_same rfl rfl, he.answered⟩
  · exact holds_at ht (request_refused hex (clearFaultsOf_waking hm))

/-! ## Stores (R176) -/

theorem storeConfiguration_offers (hm : b.cond.mode = .workshop) (hs : storing b = false) :
    storeConfiguration b = ownEffect .accepted (offerWrite .store b) := by
  simp [storeConfiguration, hm, hs]

theorem storeConfiguration_busy (hm : b.cond.mode = .workshop) (hs : storing b = true) :
    storeConfiguration b = refuse .busy b := by
  simp [storeConfiguration, hm, hs]

theorem storeConfiguration_wrongMode (hm : b.cond.mode ≠ .workshop) : storeConfiguration b = refuse .wrongMode b := by
  simp [storeConfiguration, hm]

/-- Equal memory ports store alike. -/
theorem storing_of_mem (h : x.mem = b.mem) : storing x = storing b := by simp only [storing, h]

theorem storing_offerWrite (b : Block) : storing (offerWrite .store b) = true := by
  unfold offerWrite
  split
  · simp [storing, beginWrite]
  · split
    next h => simp only [storing, h, Bool.true_or]
    next h => simp [storing]

theorem inFlight_offerWrite (h : b.mem.inFlight = none) :
    (offerWrite .store b).mem.inFlight = some (.store b.cond.cfg) := by
  simp [offerWrite, h, beginWrite]

@[simp] theorem kept_nextWrite (b : Block) : (nextWrite b).kept = b.kept := by
  unfold nextWrite
  split
  · rfl
  · rw [kept_beginWrite]
    rfl

theorem reloadIfIdle_of_no_reload (h : b.cond.reloadPending = false) : reloadIfIdle b = b := by simp [reloadIfIdle, h]

theorem storeDone_store {c : CfgRec} {ok : Bool} (hf : b.mem.inFlight = some (.store c)) (hr : b.cond.reloadPending = false) :
    storeDone ok b = nextWrite (storeWritten c ok b) := by
  have hkept := congrArg Kept.reload (kept_nextWrite (storeWritten c ok b))
  have hwritten : (storeWritten c ok b).cond.reloadPending = b.cond.reloadPending := by
    unfold storeWritten
    split <;> rfl
  simp only [storeDone, hf]
  exact reloadIfIdle_of_no_reload (hkept.trans (hwritten.trans hr))

theorem storeWritten_facts (c : CfgRec) (ok : Bool) (b : Block) :
    (storeWritten c ok b).mem.image = { b.mem.image with config := if ok then some c else none } ∧
      (storeWritten c ok b).cond.configGood = ok ∧
      (storeWritten c ok b).cond.configSaved = (ok && !b.mem.storeDirty) ∧
      (storeWritten c ok b).cond.cfg = b.cond.cfg := by
  cases ok <;> exact ⟨rfl, rfl, rfl, rfl⟩

/-- The block at the end of an event that settles. -/
theorem event_ends (s : State) (judge : Bool) (f : Block → Block) :
    ∃ t, event s judge f = .next t ∧ t.block = settle s.block judge (f s.block) := ⟨_, rfl, rfl⟩

/-- Settles O34, by what an offered write and its read-back do to the memory port. -/
theorem configurationIsStored : Obligations.ConfigurationIsStored := by
  unfold Obligations.ConfigurationIsStored
  refine ⟨fun q s hq => ?_, fun ok c s hf hr => ?_⟩
  · have hex := examine_leader hq
    obtain ⟨t, ht⟩ := exec_ends (.storeConfiguration q) s
    refine ⟨t, ht, fun hm hs => ?_, fun hm hs => ?_, fun hm => ?_⟩
    · have he := holds_at ht (request_ends_as (code := 0x15) hex
        (storeConfiguration_offers (b := refresh q.link s.block) hm hs) (by simp [ownEffect]))
      have hmem : t.block.mem = (offerWrite .store (refresh q.link s.block)).mem := by rw [he.closes, close_mem]; rfl
      refine ⟨he.answered, (storing_of_mem hmem).trans (storing_offerWrite _), he.keepsRest_of_kept (kept_offerWrite _ _),
        fun hn => ?_⟩
      rw [hmem]
      exact inFlight_offerWrite (b := refresh q.link s.block) hn
    · exact holds_at ht (request_refused hex (storeConfiguration_busy (b := refresh q.link s.block) hm hs))
    · exact holds_at ht (request_refused hex (storeConfiguration_wrongMode (b := refresh q.link s.block) hm))
  · obtain ⟨t, ht, hblock⟩ := event_ends s false (storeDone ok)
    have hkept : t.block.kept = (storeWritten c ok s.block).kept := by
      rw [hblock, kept_settle, storeDone_store hf hr, kept_nextWrite]
    obtain ⟨himage, hgood, hsaved, hcfg⟩ := storeWritten_facts c ok s.block
    exact ⟨t, ht, (congrArg Kept.image hkept).trans himage, (congrArg Kept.configGood hkept).trans hgood,
      (congrArg Kept.configSaved hkept).trans hsaved, (congrArg Kept.cfg hkept).trans hcfg⟩

end Sys2Proof.Machine
end

section
/-!
Write Configuration Item (R176): the refusals, the value an item takes, and what stays.
-/

namespace Sys2Proof.Machine

variable {q : Req} {s t : State} {b : Block} {i : Item} {v : Int}

/-! ## The value an item takes -/

theorem orderedPairs_low {y z : Item × Item} (hy : y ∈ orderedPairs) (hz : z ∈ orderedPairs) (h : z.1 = y.1) : z = y := by
  have hall : ∀ y ∈ orderedPairs, ∀ z ∈ orderedPairs, z.1 = y.1 → z = y := by decide +kernel
  exact hall y hy z hz h

theorem orderedPairs_high {y z : Item × Item} (hy : y ∈ orderedPairs) (hz : z ∈ orderedPairs) (h : z.2 = y.2) : z = y := by
  have hall : ∀ y ∈ orderedPairs, ∀ z ∈ orderedPairs, z.2 = y.2 → z = y := by decide +kernel
  exact hall y hy z hz h

/-- A value in its range and in the order of its neighbours is taken as it is. -/
theorem clampItem_fits {c : CfgRec} {w : Int} (hw : w = max i.lo (min i.hi v))
    (h : ∀ y ∈ orderedPairs, (y.1 = i → w ≤ cfgGet c y.2) ∧ (y.2 = i → cfgGet c y.1 ≤ w)) : clampItem c i v = w := by
  rw [clampItem_eq, ← hw]
  obtain ⟨hle, -, hlow⟩ := lowerTo_spec c i orderedPairs w
  have hsame : lowerTo c i orderedPairs w = w := by
    rcases hlow with hlow | ⟨y, hy, hi, hlow⟩
    · exact hlow
    · have := (h y hy).1 hi
      omega
  rw [hsame]
  obtain ⟨hge, -, hhigh⟩ := raiseTo_spec c i orderedPairs w
  rcases hhigh with hhigh | ⟨y, hy, hi, hhigh⟩
  · exact hhigh
  · have := (h y hy).2 hi
    omega

/-- A low item that would exceed its high item is set to it. -/
theorem clampItem_above {c : CfgRec} {y : Item × Item} (hy : y ∈ orderedPairs) (hi : y.1 = i)
    (hlt : cfgGet c y.2 < max i.lo (min i.hi v)) (hz : ∀ z ∈ orderedPairs, z.2 = i → cfgGet c z.1 ≤ cfgGet c y.2) :
    clampItem c i v = cfgGet c y.2 := by
  rw [clampItem_eq]
  obtain ⟨-, hle, hlow⟩ := lowerTo_spec c i orderedPairs (max i.lo (min i.hi v))
  have hset : lowerTo c i orderedPairs (max i.lo (min i.hi v)) = cfgGet c y.2 := by
    have := hle y hy hi
    rcases hlow with hlow | ⟨z, hzm, hzi, hlow⟩
    · omega
    · rw [hlow, orderedPairs_low hy hzm (hzi.trans hi.symm)]
  rw [hset]
  obtain ⟨hge, -, hhigh⟩ := raiseTo_spec c i orderedPairs (cfgGet c y.2)
  rcases hhigh with hhigh | ⟨z, hzm, hzi, hhigh⟩
  · exact hhigh
  · have := hz z hzm hzi
    omega

/-- A high item that would fall below its low item is set to it. -/
theorem clampItem_below {c : CfgRec} {y : Item × Item} (hy : y ∈ orderedPairs) (hi : y.2 = i)
    (hlt : max i.lo (min i.hi v) < cfgGet c y.1) : clampItem c i v = cfgGet c y.1 := by
  rw [clampItem_eq]
  obtain ⟨hle, -, -⟩ := lowerTo_spec c i orderedPairs (max i.lo (min i.hi v))
  obtain ⟨-, hge, hhigh⟩ := raiseTo_spec c i orderedPairs (lowerTo c i orderedPairs (max i.lo (min i.hi v)))
  have := hge y hy hi
  rcases hhigh with hhigh | ⟨z, hzm, hzi, hhigh⟩
  · omega
  · rw [hhigh, orderedPairs_high hy hzm (hzi.trans hi.symm)]

/-! ## The refusals -/

theorem installed_eq (i : Item) (p : Panto) : installed i = some p ↔ i = headItem p ∨ i = endItem p := by
  cases p <;> cases i <;> simp [installed, headItem, endItem]

/-- An installation item is of no ordered pair: it takes its value within its range. -/
theorem clampItem_installed {p : Panto} (h : i = headItem p ∨ i = endItem p) (c : CfgRec) (v : Int) :
    clampItem c i v = max i.lo (min i.hi v) := by
  have hout : ∀ p, ∀ y ∈ orderedPairs, y.1 ≠ headItem p ∧ y.2 ≠ headItem p ∧ y.1 ≠ endItem p ∧ y.2 ≠ endItem p := by
    intro p
    cases p <;> decide +kernel
  refine clampItem_fits rfl fun y hy => ?_
  obtain ⟨h1, h2, h3, h4⟩ := hout p y hy
  rcases h with rfl | rfl
  · exact ⟨fun hy => absurd hy h1, fun hy => absurd hy h2⟩
  · exact ⟨fun hy => absurd hy h3, fun hy => absurd hy h4⟩

theorem inMotion_iff (b : Block) (p : Panto) :
    inMotion b p = true ↔ (b.lc p).state ∈ [.raising, .contact, .searching, .lowering] := by
  unfold inMotion
  cases (b.lc p).state <;> simp [LiftState.raised]

theorem writeBusy_iff (b : Block) (i : Item) (v : Int) : writeBusy b i v = true ↔
    (i = .maxUp ∧ v < (committedCount b : Int)) ∨
      ∃ p, (i = headItem p ∨ i = endItem p) ∧ (b.lc p).state ∈ [.raising, .contact, .searching, .lowering] ∧
        max i.lo (min i.hi v) ≠ b.cfg i := by
  unfold writeBusy
  rw [Bool.or_eq_true, Bool.and_eq_true, beq_iff_eq, decide_eq_true_iff]
  refine or_congr Iff.rfl ?_
  split
  next p hp =>
    have hi := (installed_eq i p).mp hp
    rw [Bool.and_eq_true, inMotion_iff, bne_iff_ne, clampItem_installed hi]
    refine ⟨fun h => ⟨p, hi, h⟩, fun ⟨r, hr, h⟩ => ?_⟩
    obtain rfl := Option.some.inj (hp.symm.trans ((installed_eq i r).mpr hr))
    exact h
  next hn =>
    refine ⟨fun h => Bool.noConfusion h, fun ⟨p, hp, _⟩ => ?_⟩
    exact absurd ((installed_eq i p).mpr hp) (hn ▸ nofun)

theorem writeConfigurationItem_wrongMode {item : Option Item} (h : b.cond.mode ≠ .workshop) :
    writeConfigurationItem item v b = refuse .wrongMode b := if_pos h

theorem writeConfigurationItem_unknown (h : b.cond.mode = .workshop) :
    writeConfigurationItem none v b = refuse .outOfRange b := if_neg (not_not.mpr h)

theorem writeConfigurationItem_busy (h : b.cond.mode = .workshop) (hb : writeBusy b i v = true) :
    writeConfigurationItem (some i) v b = refuse .busy b :=
  (if_neg (not_not.mpr h)).trans (if_pos hb)

theorem writeConfigurationItem_writes (h : b.cond.mode = .workshop) (hb : writeBusy b i v = false) :
    writeConfigurationItem (some i) v b =
      effect (if clampItem b.cond.cfg i v = v then .done else .clamped)
        (afterWrite i (writeItem i (clampItem b.cond.cfg i v) b)) :=
  (if_neg (not_not.mpr h)).trans (if_neg (Bool.eq_false_iff.mp hb))

/-! ## What a write keeps -/

@[simp] theorem kept_evaluateUp (b : Block) : (evaluateUp b).kept = b.kept := by
  unfold evaluateUp
  apply kept_eachPanto
  intro p b
  split <;> simp

@[simp] theorem kept_retakeRaw (b : Block) : (retakeRaw b).kept = b.kept := by simp [retakeRaw]

/-- What a write does beyond its value keeps what `Block.kept` holds. -/
@[simp] theorem kept_afterWrite (i : Item) (b : Block) : (afterWrite i b).kept = b.kept := by
  have hpmax : (if i = .pmax then clampCommanded b else b).kept = b.kept := by split <;> rfl
  unfold afterWrite
  dsimp only
  generalize (if i = .pmax then clampCommanded b else b) = x at hpmax ⊢
  have hlaw : (if forceLawItem i then evaluateUp x else x).kept = x.kept := by split <;> simp
  generalize (if forceLawItem i then evaluateUp x else x) = y at hlaw ⊢
  rw [← hpmax, ← hlaw]
  split
  · simp
  · simp
  · simp
  · simp
  · split <;> simp
  · rfl

/-- Settles O33, by the clamp of a written item and what the rest of the write keeps. -/
theorem configurationItemIsWritten : Obligations.ConfigurationItemIsWritten := by
  unfold Obligations.ConfigurationItemIsWritten
  intro q v s hq
  have hex := examine_leader hq
  have refused {item : Option Item} {c : RefCode}
      (h : writeConfigurationItem item v (refresh q.link s.block) = refuse c (refresh q.link s.block)) :=
    request_refused (code := 0x14) hex h
  refine ⟨fun item => ?_, fun i hm hmax hinst => ?_⟩
  · obtain ⟨t, ht⟩ := exec_ends (.writeConfigurationItem q item v) s
    refine ⟨t, ht, fun hm => ?_, fun hm hi => ?_, fun hm hi hv => ?_, fun hm i p hi hp hs hv => ?_⟩
    · exact holds_at ht (refused (writeConfigurationItem_wrongMode hm))
    · subst hi
      exact holds_at ht (refused (writeConfigurationItem_unknown hm))
    · subst hi
      exact holds_at ht (refused (writeConfigurationItem_busy hm ((writeBusy_iff _ _ _).mpr (.inl ⟨rfl, hv⟩))))
    · subst hi
      exact holds_at ht (refused (writeConfigurationItem_busy hm ((writeBusy_iff _ _ _).mpr (.inr ⟨p, hp, hs, hv⟩))))
  · have hfree : writeBusy (refresh q.link s.block) i v = false := by
      rw [Bool.eq_false_iff]
      intro hb
      rcases (writeBusy_iff _ _ _).mp hb with ⟨hi, hv⟩ | ⟨p, hp, hs, hv⟩
      · exact absurd (hmax hi) (not_le.mpr hv)
      · rcases hinst p hp with hrest | hsame
        · rw [refresh_lc] at hs
          revert hs hrest
          cases (s.block.lc p).state <;> simp
        · exact hv hsame
    obtain ⟨t, ht, he⟩ := request_ends_as (code := 0x14) hex (writeConfigurationItem_writes hm hfree) (by simp [effect])
    have hkept := he.kept s.block.kept.links
    rw [effect, kept_afterWrite] at hkept
    have hcfg : t.block.cond.cfg = cfgSet s.block.cond.cfg i (clampItem s.block.cond.cfg i v) := congrArg Kept.cfg hkept
    have hself : t.block.cfg i = clampItem s.block.cond.cfg i v := by rw [Block.cfg, hcfg, cfgGet_cfgSet_self]
    refine ⟨t, ht, fun h => ?_, fun y hy hi hlt hz => ?_, fun y hy hi hlt => ?_, fun h => ?_, fun x hx => ?_,
      congrArg Kept.configSaved hkept, ?_, ?_⟩
    · rw [hself, clampItem_fits rfl h]
    · rw [hself, clampItem_above hy hi hlt hz]
      rfl
    · rw [hself, clampItem_below hy hi hlt]
      rfl
    · rw [hself]
      exact clampItem_range h i v
    · rw [Block.cfg, hcfg, cfgGet_cfgSet_ne _ _ hx]
      rfl
    · exact congrArg (fun k : Kept => { k with cfg := s.block.kept.cfg, configSaved := s.block.kept.configSaved }) hkept
    · rw [hself]
      exact he.plain

end Sys2Proof.Machine
end

section
/-!
How the blocks answer one another at the end of an event, as a run of single reactions. What every reaction keeps, the
settling keeps; while no path runs and the mode is settled, few reactions are possible.
-/

namespace Sys2Proof.Machine

variable {b x y s : Block} {p : Panto}

/-! ## The changes of the Ice Unit to its own state -/

/-- Only the Ice Unit's state changes, the enable of the masters apart, with the advisory and the masks. -/
structure IceOnly (b x : Block) : Prop where
  frame   : x = { b with ice := x.ice, record := { b.record with advisory := x.record.advisory }, links := x.links }
  enable  : x.ice.enable = b.ice.enable
  preheat : b.ice.preheat = none → x.ice.preheat = none

theorem IceOnly.refl (b : Block) : IceOnly b b := ⟨rfl, rfl, id⟩

theorem IceOnly.trans (h : IceOnly b x) (h' : IceOnly x y) : IceOnly b y := by
  refine ⟨?_, h'.enable.trans h.enable, h'.preheat ∘ h.preheat⟩
  rw [h'.frame, h.frame]

theorem iceOnly_handOver (b : Block) : IceOnly b (handOver b) := ⟨rfl, rfl, id⟩
theorem iceOnly_endScraper (b : Block) : IceOnly b (endScraper b) := ⟨rfl, rfl, id⟩
theorem iceOnly_setScraper (v : Option Panto) (b : Block) : IceOnly b (setScraper v b) := ⟨rfl, rfl, id⟩
theorem iceOnly_setPreheat {v : Option Panto} (b : Block) (h : b.ice.preheat = none → v = none) :
    IceOnly b (setPreheat v b) := ⟨rfl, rfl, h⟩
theorem iceOnly_takeLevel (b : Block) : IceOnly b (takeLevel b) := ⟨rfl, rfl, id⟩
theorem iceOnly_setAdvisory (v : Option Nat) (b : Block) : IceOnly b (setAdvisory v b) := ⟨rfl, rfl, id⟩

theorem iceOnly_judgeLevel (fall : Bool) (raw : Nat) (b : Block) : IceOnly b (judgeLevel fall raw b) := by
  unfold judgeLevel
  dsimp only
  split
  · exact ⟨rfl, rfl, id⟩
  · split
    · exact ⟨rfl, rfl, id⟩
    · split
      · exact ⟨rfl, rfl, id⟩
      · split <;> exact ⟨rfl, rfl, id⟩

theorem iceOnly_evaluateScore (fall : Bool) (b : Block) : IceOnly b (evaluateScore fall b) :=
  IceOnly.trans (x := { b with ice := { b.ice with score := scoreOf b } }) ⟨rfl, rfl, id⟩ (iceOnly_judgeLevel fall _ _)

theorem iceOnly_followEntries (s b : Block) : IceOnly b (followEntries s b) := by
  unfold followEntries
  split
  · exact .refl b
  · exact iceOnly_handOver b

theorem iceOnly_followCollector (s b : Block) : IceOnly b (followCollector s b) := by
  unfold followCollector
  split
  · exact .refl b
  · exact iceOnly_evaluateScore false b

theorem iceOnly_followReleased (b : Block) : IceOnly b (followReleased b) := by
  unfold followReleased
  split
  · split
    · exact iceOnly_endScraper b
    · exact .refl b
  · exact .refl b

theorem iceOnly_followScraper (b : Block) : IceOnly b (followScraper b) := by
  unfold followScraper
  split
  · exact .refl b
  · split
    · exact iceOnly_setScraper none b
    · split
      · exact iceOnly_endScraper b
      · exact .refl b

theorem iceOnly_followLevel (s b : Block) : IceOnly b (followLevel s b) := by
  refine (iceOnly_takeLevel b).trans ?_
  unfold followLevel adviseAfterRestart adviseOn
  split
  · split
    · split
      · exact iceOnly_setAdvisory _ _
      · exact .refl _
    · exact iceOnly_setAdvisory _ _
  · split
    · split
      · exact .refl _
      · exact iceOnly_setAdvisory _ _
    · split
      · exact iceOnly_setAdvisory _ _
      · exact .refl _

theorem iceOnly_endPreheat (b : Block) : IceOnly b (endPreheat b) := by
  unfold endPreheat
  split
  · split
    · exact .refl b
    · exact iceOnly_setPreheat b fun _ => rfl
  · exact .refl b

theorem iceOnly_shareBudget (b : Block) : IceOnly b (shareBudget b) := by
  unfold shareBudget
  split <;> exact ⟨rfl, rfl, id⟩

/-! ## Reactions -/

/-- One answer of a block to what the others have done, with the condition under which it is given. -/
inductive Reaction (b : Block) : Block → Prop
  | guard (engaged : breakerEngaged b = true) (unmet : closeConditions b = false) : Reaction b (openBreaker .internal b)
  | release (p : Panto) (pending : (b.lc p).lowerPending = true) (contact : (b.lc p).state = .contact)
      (free : holdsLower b = false) (adopted : b.cond.restart = none) : Reaction b (beginLowering p b)
  | advance : Reaction b (seqStep b)
  | wake (x : Block) (waking : b.cond.mode = .waking) (adopted : b.cond.restart = none) (due : 2000 ≤ b.cond.modeTimer)
      (ends : x = completeWaking b ∨ x = timeoutWaking b) : Reaction b x
  | lowered (standby : b.cond.standbyLowering = true) (rest : roofAtRest b = true) (held : noHeldRaise b = true) :
      Reaction b (setMode .standby b)
  | ice (x : Block) (only : IceOnly b x) : Reaction b x
  | ask (p : Panto) (want : wantsScraper b p = true) (granted : scrapingRefusal b p = none) (alone : scraping b = none)
      (adopted : b.cond.restart = none) : Reaction b (takeRaise p false (setScraper (some p) (setRole p .scraping .internal b)))
  | scrape (p : Panto) (holds : b.role p = .scraping) (adopted : b.cond.restart = none) :
      Reaction b (takeLower false p (clearRole p b))

/-- A run of reactions. -/
def Reactions : Block → Block → Prop := Relation.ReflTransGen Reaction

theorem Reactions.refl (b : Block) : Reactions b b := Relation.ReflTransGen.refl

theorem Reactions.trans (h : Reactions b x) (h' : Reactions x y) : Reactions b y := Relation.ReflTransGen.trans h h'

theorem Reaction.run (h : Reaction b x) : Reactions b x := Relation.ReflTransGen.single h

/-- What every reaction keeps, a run keeps. -/
theorem Reactions.keep {P : Block → Prop} (h : Reactions b x) (step : ∀ a c, Reaction a c → P a → P c) (hb : P b) : P x := by
  induction h with
  | refl => exact hb
  | tail _ hs ih => exact step _ _ hs ih

theorem IceOnly.run (h : IceOnly b x) : Reactions b x := (Reaction.ice x h).run

theorem adoptionWaits_eq_false (b : Block) : adoptionWaits b = false ↔ b.cond.restart = none := by
  rw [adoptionWaits, Option.isSome_eq_false_iff, Option.isNone_iff_eq_none]

theorem reactions_guardBreaker (b : Block) : Reactions b (guardBreaker b) := by
  unfold guardBreaker
  split
  next h =>
    simp only [Bool.and_eq_true, Bool.not_eq_true'] at h
    exact (Reaction.guard h.1 h.2).run
  next => exact .refl b

theorem reactions_releasePendingOf (p : Panto) (b : Block) : Reactions b (releasePendingOf p b) := by
  unfold releasePendingOf
  split
  next h =>
    obtain ⟨hpending, hcontact, hfree, hadopted⟩ := h
    exact (Reaction.release p hpending hcontact hfree ((adoptionWaits_eq_false b).mp hadopted)).run
  next => exact .refl b

theorem reactions_eachPanto {f : Panto → Block → Block} (h : ∀ p b, Reactions b (f p b)) (b : Block) :
    Reactions b (eachPanto f b) :=
  (((h .p1 b).trans (h .p2 _)).trans (h .p3 _)).trans (h .p4 _)

theorem reactions_wakingCheck (b : Block) : Reactions b (wakingCheck b) := by
  unfold wakingCheck
  split
  next h =>
    have hadopted := (adoptionWaits_eq_false b).mp h.2
    split
    · split
      next hdue => exact (Reaction.wake _ h.1 hadopted hdue (.inl rfl)).run
      next => exact .refl b
    · split
      next hdue => exact (Reaction.wake _ h.1 hadopted (by omega) (.inr rfl)).run
      next => exact .refl b
  next => exact .refl b

theorem reactions_standbyCheck (b : Block) : Reactions b (standbyCheck b) := by
  unfold standbyCheck
  split
  next h =>
    simp only [Bool.and_eq_true] at h
    exact (Reaction.lowered h.1.1 h.1.2 h.2).run
  next => exact .refl b

theorem reactions_round (b : Block) : Reactions b (round b) :=
  ((((reactions_guardBreaker b).trans (reactions_eachPanto reactions_releasePendingOf _)).trans
    Reaction.advance.run).trans (reactions_wakingCheck _)).trans (reactions_standbyCheck _)

theorem reactions_rounds (n : Nat) (b : Block) : Reactions b (rounds n b) := by
  induction n generalizing b with
  | zero => exact .refl b
  | succ n ih => exact (reactions_round b).trans (ih _)

theorem role_of_scraping {p : Panto} (h : scraping b = some p) : b.role p = .scraping := by
  have := List.find?_some h
  simpa using this

theorem reactions_judgeScraper (hw : b.cond.restart = none) : Reactions b (judgeScraper b) := by
  unfold judgeScraper
  split
  next p hp =>
    split
    · exact (Reaction.scrape p (role_of_scraping hp) hw).run.trans (iceOnly_endScraper _).run
    · exact .refl b
  next hnone =>
    split
    next p _ =>
      split
      next hwant =>
        unfold askScraper
        split
        next => exact .refl b
        next hgrant => exact (Reaction.ask p hwant hgrant hnone hw).run
      next => exact .refl b
    next => exact .refl b

theorem reactions_iceSettle (s : Block) (judge : Bool) (b : Block) : Reactions b (iceSettle s judge b) := by
  have hfollow : IceOnly b (followEntries s (followCollector s b)) :=
    (iceOnly_followCollector s b).trans (iceOnly_followEntries s _)
  have hend (z : Block) : IceOnly z (shareBudget (endPreheat z)) := (iceOnly_endPreheat z).trans (iceOnly_shareBudget _)
  unfold iceSettle
  dsimp only
  split
  next => exact (((hfollow.trans (iceOnly_followReleased _)).trans (iceOnly_followLevel s _)).trans (hend _)).run
  next hw =>
    have hlevel := (hfollow.trans (iceOnly_followScraper _)).trans (iceOnly_followLevel s _)
    simp only [Bool.or_eq_true, not_or, Bool.not_eq_true] at hw
    have hrest : (followLevel s (followScraper (followEntries s (followCollector s b)))).cond.restart = none := by
      rw [hlevel.frame]
      have := (adoptionWaits_eq_false _).mp hw.1
      rwa [hfollow.frame] at this
    refine Reactions.trans ?_ (hend _).run
    split
    · exact hlevel.run.trans (reactions_judgeScraper hrest)
    · exact hlevel.run

/-- The blocks' answers to one another are a run of reactions. -/
theorem reactions_answers (s : Block) (judge : Bool) (b : Block) : Reactions b (answers s judge b) :=
  (((reactions_rounds roundLimit b).trans (reactions_iceSettle s judge _)).trans (reactions_standbyCheck _)).trans
    (reactions_guardBreaker _)

/-- What every reaction keeps, and the close of an event, the settling keeps. -/
theorem settle_keeps {P : Block → Prop} {judge : Bool} (step : ∀ a c, Reaction a c → P a → P c)
    (close : ∀ c, P c → P (close s c)) (hb : P b) : P (settle s judge b) :=
  close _ ((reactions_answers s judge b).keep step hb)

end Sys2Proof.Machine
end

section
/-!
What the operations on one pantograph leave alone: the other pantographs, the Sequencer and the Section Queue, the Line
Record, the Condition Unit but for a VALVES step that they end, and the switches but for a breaker that they open.
-/

namespace Sys2Proof.Machine

variable {b x y : Block} {p r : Panto}

/-- `x` comes of `b` by operations on the pantograph `p` alone. -/
structure Touches (p : Panto) (b x : Block) : Prop where
  seq      : x.seq = b.seq
  queue    : x.queue = b.queue
  record   : x.record = b.record
  ice      : x.ice = b.ice
  cond     : x.cond = { b.cond with testStep := x.cond.testStep, selfTest := x.cond.selfTest }
  switches : x.sw = { b.sw with breaker := x.sw.breaker }
  breaker  : x.sw.breaker = b.sw.breaker ∨ breakerEngaged x = false
  plan     : x.plan = { b.plan with roles := x.plan.roles }
  sensors  : x.sensors = b.sensors
  roles    : ∀ r, r ≠ p → x.plan.roles.get r = b.plan.roles.get r
  entries  : ∀ r, r ≠ p → x.cal.get r = b.cal.get r
  others   : ∀ r, r ≠ p → ∃ n, x.lc r = { b.lc r with commanded := n } ∧
    ((b.lc r).state ≠ .stowed → n = (b.lc r).commanded)
  steady   : (∀ n, b.cond.testStep ≠ .valves p n) → x.cond = b.cond ∧ ∀ r, r ≠ p → x.lc r = b.lc r

theorem Touches.refl (p : Panto) (b : Block) : Touches p b b where
  seq := rfl
  queue := rfl
  record := rfl
  ice := rfl
  cond := rfl
  switches := rfl
  breaker := .inl rfl
  plan := rfl
  sensors := rfl
  roles _ _ := rfl
  entries _ _ := rfl
  others _ _ := ⟨_, rfl, fun _ => rfl⟩
  steady _ := ⟨rfl, fun _ _ => rfl⟩

theorem breakerEngaged_of_breaker (h : x.sw.breaker = b.sw.breaker) : breakerEngaged x = breakerEngaged b := by
  simp only [breakerEngaged, h]

theorem Touches.trans (h : Touches p b x) (h' : Touches p x y) : Touches p b y where
  seq := h'.seq.trans h.seq
  queue := h'.queue.trans h.queue
  record := h'.record.trans h.record
  ice := h'.ice.trans h.ice
  cond := by rw [h'.cond, h.cond]
  switches := by rw [h'.switches, h.switches]
  breaker := by
    rcases h'.breaker with hb' | hb'
    · rcases h.breaker with hb | hb
      · exact .inl (hb'.trans hb)
      · exact .inr ((breakerEngaged_of_breaker hb').trans hb)
    · exact .inr hb'
  plan := by rw [h'.plan, h.plan]
  sensors := h'.sensors.trans h.sensors
  roles r hr := (h'.roles r hr).trans (h.roles r hr)
  entries r hr := (h'.entries r hr).trans (h.entries r hr)
  others r hr := by
    obtain ⟨n, hn, hsame⟩ := h.others r hr
    obtain ⟨m, hm, hsame'⟩ := h'.others r hr
    rw [hn] at hm hsame'
    exact ⟨m, hm, fun hs => (hsame' hs).trans (hsame hs)⟩
  steady hv := by
    obtain ⟨hcond, hlc⟩ := h.steady hv
    obtain ⟨hcond', hlc'⟩ := h'.steady (hcond ▸ hv)
    exact ⟨hcond'.trans hcond, fun r hr => (hlc' r hr).trans (hlc r hr)⟩

theorem Touches.of_frame (hseq : x.seq = b.seq) (hqueue : x.queue = b.queue) (hrecord : x.record = b.record)
    (hice : x.ice = b.ice) (hcond : x.cond = b.cond) (hsw : x.sw = b.sw)
    (hplan : x.plan = { b.plan with roles := x.plan.roles }) (hsensors : x.sensors = b.sensors)
    (hroles : ∀ r, r ≠ p → x.plan.roles.get r = b.plan.roles.get r) (hcal : ∀ r, r ≠ p → x.cal.get r = b.cal.get r)
    (hlc : ∀ r, r ≠ p → x.lc r = b.lc r) : Touches p b x where
  seq := hseq
  queue := hqueue
  record := hrecord
  ice := hice
  cond := by rw [hcond]
  switches := by rw [hsw]
  breaker := .inl (by rw [hsw])
  plan := hplan
  sensors := hsensors
  roles := hroles
  entries := hcal
  others r hr := ⟨_, hlc r hr, fun _ => rfl⟩
  steady _ := ⟨hcond, hlc⟩

/-! ## What is left alone, read off -/

theorem Touches.role (h : Touches p b x) (hr : r ≠ p) : x.role r = b.role r := by
  rw [Block.role, h.roles r hr, Block.role]

theorem Touches.state (h : Touches p b x) (hr : r ≠ p) : (x.lc r).state = (b.lc r).state := by
  obtain ⟨n, hn, -⟩ := h.others r hr
  rw [hn]

theorem Touches.mode (h : Touches p b x) : x.cond.mode = b.cond.mode := by rw [h.cond]
theorem Touches.standby (h : Touches p b x) : x.cond.standbyLowering = b.cond.standbyLowering := by rw [h.cond]
theorem Touches.restart (h : Touches p b x) : x.cond.restart = b.cond.restart := by rw [h.cond]
theorem Touches.faults (h : Touches p b x) : x.cond.faults = b.cond.faults := by rw [h.cond]
theorem Touches.cfg (h : Touches p b x) : x.cond.cfg = b.cond.cfg := by rw [h.cond]

/-! ## The operations -/

theorem touches_setLift (p : Panto) (l : Lift) (b : Block) : Touches p b (b.setLift p l) :=
  .of_frame rfl rfl rfl rfl rfl rfl rfl rfl (fun _ _ => rfl) (fun _ _ => rfl) fun _ hr => lc_setLift_ne _ _ hr

theorem touches_setRole (p : Panto) (r : Role) (o : Origin) (b : Block) : Touches p b (setRole p r o b) :=
  .of_frame rfl rfl rfl rfl rfl rfl rfl rfl (fun _ hr => PerP.get_set_ne _ _ hr) (fun _ _ => rfl) fun _ _ => rfl

theorem touches_clearRole (p : Panto) (b : Block) : Touches p b (clearRole p b) :=
  .of_frame rfl rfl rfl rfl rfl rfl rfl rfl (fun _ hr => PerP.get_set_ne _ _ hr) (fun _ _ => rfl) fun _ _ => rfl

theorem openBreaker_frame (v : Source) (b : Block) :
    openBreaker v b = { b with sw := { b.sw with breaker := (openBreaker v b).sw.breaker } } := by
  unfold openBreaker
  split <;> rfl

theorem touches_openBreaker (p : Panto) (v : Source) (b : Block) : Touches p b (openBreaker v b) := by
  have hengaged := openBreaker_disengages v b
  rw [openBreaker_frame] at hengaged ⊢
  exact {
    seq := rfl, queue := rfl, record := rfl, ice := rfl, cond := rfl, switches := rfl
    breaker := .inr hengaged
    plan := rfl, sensors := rfl, roles := fun _ _ => rfl, entries := fun _ _ => rfl
    others := fun _ _ => ⟨_, rfl, fun _ => rfl⟩
    steady := fun _ => ⟨rfl, fun _ _ => rfl⟩ }

theorem offerWrite_frame (j : MemJob) (b : Block) : offerWrite j b = { b with mem := (offerWrite j b).mem } := by
  unfold offerWrite
  split
  · cases j <;> rfl
  · split <;> rfl

theorem changeEntry_frame (p : Panto) (f : CalFields → CalFields) (b : Block) :
    changeEntry p f b = { b with
      cal := b.cal.set p ⟨f (b.cal.get p).fields, false⟩, mem := (changeEntry p f b).mem, links := (changeEntry p f b).links } := by
  unfold changeEntry report markAll
  rw [offerWrite_frame]

theorem touches_changeEntry (p : Panto) (f : CalFields → CalFields) (b : Block) : Touches p b (changeEntry p f b) := by
  rw [changeEntry_frame]
  exact .of_frame rfl rfl rfl rfl rfl rfl rfl rfl (fun _ _ => rfl) (fun _ hr => PerP.get_set_ne _ _ hr) fun _ _ => rfl

theorem touches_abortEntry (p : Panto) (b : Block) : Touches p b (abortEntry p b) := touches_changeEntry _ _ _

/-- The VALVES steps that begin or are skipped: pressures of STOWED pantographs and the self-test alone. -/
structure ValvesOnly (b x : Block) : Prop where
  frame : x = { b with lift := x.lift, cond := { b.cond with testStep := x.cond.testStep, selfTest := x.cond.selfTest } }
  lifts : ∀ r, ∃ n, x.lc r = { b.lc r with commanded := n } ∧ ((b.lc r).state ≠ .stowed → n = (b.lc r).commanded)

theorem ValvesOnly.trans (h : ValvesOnly b x) (h' : ValvesOnly x y) : ValvesOnly b y where
  frame := by rw [h'.frame, h.frame]
  lifts r := by
    obtain ⟨n, hn, hsame⟩ := h.lifts r
    obtain ⟨m, hm, hsame'⟩ := h'.lifts r
    rw [hn] at hm hsame'
    exact ⟨m, hm, fun hs => (hsame' hs).trans (hsame hs)⟩

theorem valvesOnly_valvesFrom (l : List Panto) (b : Block) : ValvesOnly b (valvesFrom l b) := by
  induction l generalizing b with
  | nil => exact ⟨rfl, fun _ => ⟨_, rfl, fun _ => rfl⟩⟩
  | cons x xs ih =>
    unfold valvesFrom
    split
    next htest =>
      have hstowed : (b.lc x).state = .stowed := by
        simp only [valveTestable, Bool.and_eq_true, beq_iff_eq] at htest
        exact htest.1.1
      refine ⟨rfl, fun r => ?_⟩
      by_cases hr : r = x
      · subst hr
        exact ⟨valveTestPressure, lc_setLift_self _ _ _, fun h => absurd hstowed h⟩
      · exact ⟨_, lc_setLift_ne _ _ hr, fun _ => rfl⟩
    next =>
      refine ValvesOnly.trans (x := setStrips x .skipped (setValves x .skipped b)) ?_ (ih _)
      exact ⟨rfl, fun _ => ⟨_, rfl, fun _ => rfl⟩⟩

theorem ValvesOnly.touches (h : ValvesOnly b x) (hv : ∃ n, b.cond.testStep = .valves p n) : Touches p b x := by
  have hlifts := h.lifts
  rw [h.frame] at hlifts ⊢
  exact {
    seq := rfl, queue := rfl, record := rfl, ice := rfl, cond := rfl, switches := rfl, breaker := .inl rfl
    plan := rfl, sensors := rfl, roles := fun _ _ => rfl, entries := fun _ _ => rfl
    others := fun r _ => hlifts r
    steady := fun hn => absurd hv (not_exists.mpr hn) }

theorem skipValves_of_other (h : ∀ n, b.cond.testStep ≠ .valves p n) : skipValves p b = b := by
  unfold skipValves
  split
  next q n hq =>
    refine if_neg fun hqp => ?_
    exact h n (hqp ▸ hq)
  next => rfl

theorem touches_skipValves (p : Panto) (b : Block) : Touches p b (skipValves p b) := by
  by_cases h : ∃ n, b.cond.testStep = .valves p n
  · obtain ⟨n, hn⟩ := h
    have heq : skipValves p b = valvesFrom (Panto.after p)
        (setStrips p .skipped (setValves p .skipped (b.setLift p { b.lc p with commanded := 0 }))) := by
      simp only [skipValves, hn, if_true]
    rw [heq]
    refine (touches_setLift p { b.lc p with commanded := 0 } b).trans (ValvesOnly.touches ?_ ⟨n, hn⟩)
    refine ValvesOnly.trans ?_ (valvesOnly_valvesFrom _ _)
    exact ⟨rfl, fun _ => ⟨_, rfl, fun _ => rfl⟩⟩
  · rw [skipValves_of_other (not_exists.mp h)]
    exact .refl p b

theorem leaveContact_of_calm {l : Lift} (h : ¬b.seq.NeedsContact) : leaveContact p l b = b.setLift p l :=
  if_neg fun hc => h hc.2.2

theorem beginLowering_of_calm (h : ¬b.seq.NeedsContact) : beginLowering p b = b.setLift p (b.lc p).toLowering :=
  leaveContact_of_calm h

theorem touches_beginLowering (h : ¬b.seq.NeedsContact) : Touches p b (beginLowering p b) := by
  rw [beginLowering_of_calm h]
  exact touches_setLift _ _ _

theorem touches_abortSearch (h : ¬b.seq.NeedsContact) : Touches p b (abortSearch p b) := by
  have habort := touches_abortEntry p b
  exact habort.trans (touches_beginLowering (by rwa [habort.seq]))

theorem touches_abortHeld (s : Bool) (p : Panto) (b : Block) : Touches p b (abortHeld s p b) := by
  cases s
  case false => exact .refl p b
  case true => exact touches_abortEntry p b

theorem touches_discardHeld (p : Panto) (b : Block) : Touches p b (discardHeld p b) := by
  rw [discardHeld_eq]
  exact ((touches_abortHeld _ p b).trans (touches_setLift p _ _)).trans (touches_clearRole p _)

theorem touches_pendLower (p : Panto) (b : Block) : Touches p b (pendLower p b) := by
  unfold pendLower
  split
  · exact .refl p b
  · exact (touches_setLift p _ b).trans (touches_openBreaker p _ _)

theorem touches_actOnLower {i : Bool} (h : ¬b.seq.NeedsContact) : Touches p b (actOnLower i p b) := by
  unfold actOnLower
  split
  case h_1 =>
    split
    · exact (touches_skipValves p b).trans (touches_discardHeld p _)
    · exact touches_skipValves p b
  case h_2 => exact touches_beginLowering h
  case h_3 =>
    split
    · exact touches_pendLower p b
    · exact touches_beginLowering h
  case h_4 =>
    split
    · exact touches_discardHeld p b
    · exact .refl p b
  case h_5 => exact touches_abortSearch h
  case h_6 => exact .refl p b
  case h_7 => exact .refl p b

theorem touches_takeLower {i : Bool} (h : ¬b.seq.NeedsContact) : Touches p b (takeLower i p b) := by
  unfold takeLower
  split
  · split
    · exact touches_pendLower p b
    · exact touches_setLift p _ b
  · exact touches_actOnLower h

theorem touches_evaluate (p : Panto) (b : Block) : Touches p b (evaluate p b) := touches_setLift p _ b

theorem touches_commandStep (p : Panto) (v : SearchRec) (n : Nat) (b : Block) : Touches p b (commandStep p v n b) :=
  touches_setLift p _ b

theorem touches_beginWork (p : Panto) (search : Bool) (b : Block) : Touches p b (beginWork p search b) := by
  have hskip := touches_skipValves p b
  cases search
  case false => exact (hskip.trans (touches_setLift p _ _)).trans (touches_evaluate p _)
  case true => exact (hskip.trans (touches_setLift p _ _)).trans (touches_commandStep p _ _ _)

theorem touches_heldDue (p : Panto) (b : Block) : Touches p b (heldDue p b) := by
  unfold heldDue
  split
  · exact touches_beginWork p _ b
  · exact touches_discardHeld p b

theorem touches_holdRaise (p : Panto) (k : Held) (search : Bool) (b : Block) : Touches p b (holdRaise p k search b) :=
  touches_setLift p _ b

theorem touches_takeRaise (p : Panto) (search : Bool) (b : Block) : Touches p b (takeRaise p search b) := by
  unfold takeRaise
  dsimp only
  split
  case h_1 =>
    split
    · exact .refl p b
    · split
      · exact touches_holdRaise p _ _ b
      · split
        · exact touches_holdRaise p _ _ b
        · split
          · exact touches_beginWork p search b
          · exact (touches_holdRaise p _ _ b).trans (touches_discardHeld p _)
  case h_2 =>
    split
    · exact .refl p b
    · exact touches_holdRaise p _ _ b
  all_goals exact .refl p b

theorem touches_arriveStowed (p : Panto) (b : Block) : Touches p b (arriveStowed p b) := by
  unfold arriveStowed
  dsimp only
  split
  · exact (touches_setLift p _ b).trans (touches_clearRole p _)
  · exact touches_setLift p _ b

end Sys2Proof.Machine
end

section
/-!
The settling while no path runs, WAKING is over and no standby lowering is under way: the few reactions that remain, and
what of them is left where no lower waits and no scraper is asked for.
-/

namespace Sys2Proof.Machine

variable {b x y s : Block} {p : Panto}

/-- No path runs, no self-test, and no standby lowering. -/
structure Still (b : Block) : Prop where
  phase   : b.seq.phase = .idle ∨ b.seq.phase = .halted
  mode    : b.cond.mode ≠ .waking
  standby : b.cond.standbyLowering = false

theorem not_needsContact_of_stopped (h : b.seq.phase = .idle ∨ b.seq.phase = .halted) : ¬b.seq.NeedsContact := by
  unfold Seq.NeedsContact
  rcases h with h | h <;> simp [h]

theorem Still.calm (h : Still b) : ¬b.seq.NeedsContact := not_needsContact_of_stopped h.phase

theorem Still.of_same (h : Still b) (hseq : x.seq = b.seq) (hmode : x.cond.mode = b.cond.mode)
    (hstandby : x.cond.standbyLowering = b.cond.standbyLowering) : Still x :=
  ⟨hseq ▸ h.phase, hmode ▸ h.mode, hstandby ▸ h.standby⟩

theorem Still.touches (h : Still b) (ht : Touches p b x) : Still x := h.of_same ht.seq ht.mode ht.standby

theorem Resting.still (h : Resting b) : Still b := ⟨h.phase, h.mode, h.standby⟩

/-- A reaction while the block is still. -/
inductive StillReaction (b : Block) : Block → Prop
  | guard (engaged : breakerEngaged b = true) (unmet : closeConditions b = false) :
      StillReaction b (openBreaker .internal b)
  | release (p : Panto) (pending : (b.lc p).lowerPending = true) (contact : (b.lc p).state = .contact)
      (free : holdsLower b = false) (adopted : b.cond.restart = none) : StillReaction b (b.setLift p (b.lc p).toLowering)
  | withdraw (halted : b.seq.phase = .halted) : StillReaction b (setTractionOff false b)
  | ice (x : Block) (only : IceOnly b x) : StillReaction b x
  | ask (p : Panto) (want : wantsScraper b p = true) (granted : scrapingRefusal b p = none) (alone : scraping b = none) :
      StillReaction b (takeRaise p false (setScraper (some p) (setRole p .scraping .internal b)))
  | scrape (p : Panto) (holds : b.role p = .scraping) (adopted : b.cond.restart = none) :
      StillReaction b (takeLower false p (clearRole p b))

theorem touches_ask (p : Panto) (b : Block) : Touches p (setScraper (some p) b)
    (takeRaise p false (setScraper (some p) (setRole p .scraping .internal b))) :=
  (touches_setRole p .scraping .internal (setScraper (some p) b)).trans (touches_takeRaise p false _)

theorem touches_scrape (h : ¬b.seq.NeedsContact) : Touches p b (takeLower false p (clearRole p b)) :=
  (touches_clearRole p b).trans (touches_takeLower h)

theorem Still.iceOnly (h : Still b) (hi : IceOnly b x) : Still x := by
  rw [hi.frame]
  exact h.of_same rfl rfl rfl

/-- Of the reactions a still block has those of `StillReaction`, and it stays still. -/
theorem Reaction.still (h : Reaction b x) (hb : Still b) : Still x ∧ (x = b ∨ StillReaction b x) := by
  cases h
  case guard engaged unmet => exact ⟨hb.touches (touches_openBreaker .p1 _ _), .inr (.guard engaged unmet)⟩
  case release p pending contact free adopted =>
    rw [beginLowering_of_calm hb.calm]
    exact ⟨hb.touches (touches_setLift p _ _), .inr (.release p pending contact free adopted)⟩
  case advance =>
    rcases hb.phase with hp | hp
    · have heq : seqStep b = b := by simp only [seqStep, hp]
      exact ⟨heq.symm ▸ hb, .inl heq⟩
    · have heq : seqStep b = withdrawInHalt b := by simp only [seqStep, hp]
      rw [heq]
      unfold withdrawInHalt
      split
      · exact ⟨hb.of_same rfl rfl rfl, .inr (.withdraw hp)⟩
      · exact ⟨hb, .inl rfl⟩
  case wake waking _ _ _ => exact absurd waking hb.mode
  case lowered standby _ _ => exact absurd (hb.standby.symm.trans standby) (by decide)
  case ice only => exact ⟨hb.iceOnly only, .inr (.ice x only)⟩
  case ask p want granted alone _ =>
    exact ⟨(hb.iceOnly (iceOnly_setScraper _ b)).touches (touches_ask p b), .inr (.ask p want granted alone)⟩
  case scrape p holds adopted => exact ⟨hb.touches (touches_scrape hb.calm), .inr (.scrape p holds adopted)⟩

/-- What every reaction of a still block keeps, a run of them keeps. -/
theorem Reactions.keep_still {P : Block → Prop} (h : Reactions b x) (hb : Still b)
    (step : ∀ a c, Still a → StillReaction a c → P a → P c) (hp : P b) : Still x ∧ P x := by
  refine h.keep (P := fun a => Still a ∧ P a) (fun a c hs ⟨ha, hpa⟩ => ?_) ⟨hb, hp⟩
  obtain ⟨hc, heq | hs⟩ := hs.still ha
  · exact heq ▸ ⟨ha, hpa⟩
  · exact ⟨hc, step a c ha hs hpa⟩

/-! ## Nothing waits -/

/-- The settling has found nothing to do but to guard the breaker and to follow the ice. -/
structure Unmoved (b x : Block) : Prop where
  lift     : x.lift = b.lift
  plan     : x.plan = b.plan
  cal      : x.cal = b.cal
  mem      : x.mem = b.mem
  seq      : x.seq = b.seq
  queue    : x.queue = b.queue
  cond     : x.cond = b.cond
  switches : x.sw = { b.sw with breaker := x.sw.breaker }
  breaker  : x.sw.breaker = b.sw.breaker ∨ breakerEngaged b = true ∧ closeConditions b = false ∧
    x.sw.breaker = (openBreaker .internal b).sw.breaker ∧ breakerEngaged x = false
  record   : x.record = { b.record with tractionOff := x.record.tractionOff, advisory := x.record.advisory }
  enable   : x.ice.enable = b.ice.enable

theorem Unmoved.refl (b : Block) : Unmoved b b :=
  ⟨rfl, rfl, rfl, rfl, rfl, rfl, rfl, rfl, .inl rfl, rfl, rfl⟩

/-- Nothing but the Ice Unit's own changes. -/
theorem Unmoved.iceOnly (h : Unmoved b x) (hi : IceOnly x y) : Unmoved b y := by
  obtain ⟨hframe, henable⟩ := hi
  rw [hframe]
  refine ⟨h.lift, h.plan, h.cal, h.mem, h.seq, h.queue, h.cond, h.switches, h.breaker, ?_, henable.trans h.enable⟩
  rw [h.record]

theorem Unmoved.withdraw (h : Unmoved b x) : Unmoved b (setTractionOff false x) :=
  ⟨h.lift, h.plan, h.cal, h.mem, h.seq, h.queue, h.cond, h.switches, h.breaker, by rw [setTractionOff, h.record], h.enable⟩

theorem closeConditions_congr (hlift : x.lift = b.lift) (hroles : x.plan.roles = b.plan.roles)
    (hdet : x.record.determined = b.record.determined) (hcfg : x.cond.cfg = b.cond.cfg)
    (hearth : x.sw.earth = b.sw.earth) (hiso : x.sw.iso = b.sw.iso) (hsel : x.sw.selector = b.sw.selector) :
    closeConditions x = closeConditions b := by
  unfold closeConditions earthOpen othersOpen isoOpen collectorFit selectorAt Block.role Block.lc Block.head Block.cfg
  rw [hlift, hroles, hdet, hcfg, hearth, hiso, hsel]

theorem Unmoved.closeConditions (h : Unmoved b x) : closeConditions x = closeConditions b := by
  have hearth := congrArg Switches.earth h.switches
  have hiso := congrArg Switches.iso h.switches
  have hsel := congrArg Switches.selector h.switches
  exact closeConditions_congr h.lift (congrArg _ h.plan) (by rw [h.record]) (congrArg _ h.cond) hearth hiso hsel

theorem openBreaker_breaker_congr (v : Source) (h : x.sw.breaker = b.sw.breaker) :
    (openBreaker v x).sw.breaker = (openBreaker v b).sw.breaker := by
  unfold openBreaker
  rw [h]
  split <;> simp_all

theorem Unmoved.guard (h : Unmoved b x) (engaged : breakerEngaged x = true)
    (unmet : Sys2Proof.Machine.closeConditions x = false) : Unmoved b (openBreaker .internal x) := by
  have hdis := openBreaker_disengages .internal x
  have hframe := openBreaker_frame .internal x
  have hsame : x.sw.breaker = b.sw.breaker := by
    rcases h.breaker with hb | ⟨-, -, -, hb⟩
    · exact hb
    · exact absurd (engaged.symm.trans hb) (by decide)
  have hbreaker := openBreaker_breaker_congr .internal hsame
  rw [hframe] at hdis hbreaker ⊢
  refine ⟨h.lift, h.plan, h.cal, h.mem, h.seq, h.queue, h.cond, ?_, .inr ⟨?_, ?_, hbreaker, hdis⟩, h.record, h.enable⟩
  · rw [h.switches]
  · exact (breakerEngaged_of_breaker hsame).symm.trans engaged
  · exact h.closeConditions.symm.trans unmet

/-- Nothing waits for an answer of another block but the breaker for its guard. -/
structure Quiet (b : Block) : Prop extends Still b where
  lowers   : ∀ p, (b.lc p).lowerPending = true → (b.lc p).state = .contact → holdsLower b = true
  adopted  : b.cond.restart = none
  scrapers : ∀ p, b.role p ≠ .scraping
  enable   : b.ice.enable = false

theorem Unmoved.role (h : Unmoved b x) (p : Panto) : x.role p = b.role p := by rw [Block.role, h.plan, Block.role]
theorem Unmoved.lc (h : Unmoved b x) (p : Panto) : x.lc p = b.lc p := by rw [Block.lc, h.lift, Block.lc]

theorem holdsLower_openBreaker (v : Source) (b : Block) : holdsLower b = true → holdsLower (openBreaker v b) = true := by
  unfold holdsLower openBreaker
  split <;> split <;> simp_all [TwoSw.move, TwoPos.travel]

theorem holdsLower_of_engaged (h : breakerEngaged b = true) : holdsLower b = true := by
  unfold breakerEngaged at h
  unfold holdsLower
  split <;> simp_all

theorem Unmoved.holdsLower (h : Unmoved b x) (hb : Sys2Proof.Machine.holdsLower b = true) :
    Sys2Proof.Machine.holdsLower x = true := by
  rcases h.breaker with hs | ⟨engaged, -, hs, -⟩
  · rwa [holdsLower_congr hs]
  · rw [holdsLower_congr hs]
    exact holdsLower_openBreaker _ _ (holdsLower_of_engaged engaged)

/-- Where nothing waits, the settling guards the breaker and follows the ice, and that is all. -/
theorem Reactions.unmoved (h : Reactions b x) (hb : Quiet b) : Unmoved b x := by
  refine (h.keep_still hb.toStill (P := Unmoved b) (fun a c _ hs ha => ?_) (.refl b)).2
  cases hs
  case guard engaged unmet => exact ha.guard engaged unmet
  case release p pending contact free adopted =>
    rw [ha.lc p] at pending contact
    exact absurd (free.symm.trans (ha.holdsLower (hb.lowers p pending contact))) (by decide)
  case withdraw halted => exact ha.withdraw
  case ice only => exact ha.iceOnly only
  case ask p want granted alone =>
    have : a.ice.enable = true := by
      simp only [wantsScraper, Bool.and_eq_true] at want
      exact want.1.1.1.1.1.1.2
    exact absurd (this.symm.trans (ha.enable.trans hb.enable)) (by decide)
  case scrape p holds adopted => exact absurd ((ha.role p).symm.trans holds) (hb.scrapers p)

theorem answers_unmoved (s : Block) (judge : Bool) (hb : Quiet b) : Unmoved b (answers s judge b) :=
  (reactions_answers s judge b).unmoved hb

/-- A block that the reactions leave as it is, at the end of its event. -/
structure SettlesAs (b t : Block) : Prop where
  lift     : t.lift = b.lift
  roles    : t.plan.roles = b.plan.roles
  cal      : t.cal = b.cal
  mem      : t.mem = b.mem
  seq      : t.seq = b.seq
  queue    : t.queue = b.queue
  cond     : t.cond = b.cond
  switches : t.sw = { b.sw with breaker := t.sw.breaker }
  breaker  : t.sw.breaker = b.sw.breaker ∨ breakerEngaged b = true ∧ closeConditions b = false ∧
    t.sw.breaker = (openBreaker .internal b).sw.breaker ∧ breakerEngaged t = false
  kept     : t.kept = b.kept

theorem settle_quiet (s : Block) (judge : Bool) (hb : Quiet b) : SettlesAs b (settle s judge b) := by
  have h := answers_unmoved s judge hb
  have hkept := kept_settle s judge b
  rw [settle_eq] at hkept ⊢
  obtain ⟨hlift, hcal, hsw, hqueue, -, hseq, -, hcond, hmem, hroles⟩ := close_parts s (answers s judge b)
  refine ⟨hlift.trans h.lift, hroles.trans (congrArg _ h.plan), hcal.trans h.cal, hmem.trans h.mem, hseq.trans h.seq,
    hqueue.trans h.queue, hcond.trans h.cond, ?_, ?_, hkept⟩
  · rw [hsw]
    exact h.switches
  · rw [breakerEngaged_of_breaker (congrArg _ hsw), hsw]
    exact h.breaker

theorem SettlesAs.lc {t : Block} (h : SettlesAs b t) (p : Panto) : t.lc p = b.lc p := by rw [Block.lc, h.lift, Block.lc]

/-- The breaker stays where its conditions hold or it is not engaged. -/
theorem SettlesAs.breaker_same {t : Block} (h : SettlesAs b t) (hb : breakerEngaged b = false ∨ closeConditions b = true) :
    t.sw.breaker = b.sw.breaker := by
  rcases h.breaker with hs | ⟨engaged, unmet, -⟩
  · exact hs
  · rcases hb with hb | hb
    · exact absurd (engaged.symm.trans hb) (by decide)
    · exact absurd (hb.symm.trans unmet) (by decide)

end Sys2Proof.Machine
end

section
/-!
The read-back of an entry's write (R77): the completion touches the memory port and the one entry, and a resting part
answers it with nothing more.
-/

namespace Sys2Proof.Machine

variable {b x : Block} {p : Panto}

/-- A resting part with no scraper is quiet. -/
theorem Resting.quiet (h : Resting b) (hn : NoScraper b) : Quiet b where
  toStill := h.still
  lowers p hp := absurd ((h.lowers p).symm.trans hp) (by decide)
  adopted := h.restart
  scrapers := hn.roles
  enable := hn.enable

/-- Quiet rests on the lift states, the roles, the Sequencer, the mode and the breaker. -/
theorem Quiet.of_same (h : Quiet b) (hlift : x.lift = b.lift) (hplan : x.plan.roles = b.plan.roles) (hseq : x.seq = b.seq)
    (hcond : x.cond = b.cond) (hbreaker : x.sw.breaker = b.sw.breaker) (henable : x.ice.enable = b.ice.enable) :
    Quiet x where
  toStill := h.toStill.of_same hseq (by rw [hcond]) (by rw [hcond])
  lowers p := by
    rw [Block.lc, hlift, holdsLower_congr hbreaker]
    exact h.lowers p
  adopted := by rw [hcond]; exact h.adopted
  scrapers p := by rw [Block.role, hplan]; exact h.scrapers p
  enable := henable.trans h.enable

theorem nextWrite_frame (b : Block) : nextWrite b = { b with mem := (nextWrite b).mem } := by
  unfold nextWrite
  split
  · rfl
  next j js _ => cases j <;> rfl

theorem entryWritten_frame (p : Panto) (f : CalFields) (r : EntryReadBack) (b : Block) :
    entryWritten p f r b =
      { b with cal := (entryWritten p f r b).cal, mem := (entryWritten p f r b).mem } := by
  cases r
  case matched =>
    simp only [entryWritten, saveEntry]
    split <;> rfl
  case mismatchOldKept => rfl
  case mismatchBad => rfl

theorem entryWriteDone_entry {f : CalFields} {r : EntryReadBack} (hf : b.mem.inFlight = some (.entry p f))
    (hr : b.cond.reloadPending = false) : entryWriteDone r b = nextWrite (entryWritten p f r b) := by
  simp only [entryWriteDone, hf]
  rw [nextWrite_frame, entryWritten_frame]
  exact reloadIfIdle_of_no_reload hr

/-- The other entries, working and stored, and the stored configuration stay at a read-back. -/
theorem entryWritten_others (p : Panto) (f : CalFields) (r : EntryReadBack) (b : Block) :
    (entryWritten p f r b).mem.image.config = b.mem.image.config ∧
      ∀ x, x ≠ p → (entryWritten p f r b).mem.image.entries.get x = b.mem.image.entries.get x ∧
        (entryWritten p f r b).cal.get x = b.cal.get x := by
  have hset (v : Option CalFields) (x : Panto) (hx : x ≠ p) :
      (b.mem.image.entries.set p v).get x = b.mem.image.entries.get x := PerP.get_set_ne _ _ hx
  cases r
  case matched =>
    simp only [entryWritten, saveEntry]
    split
    · exact ⟨rfl, fun x hx => ⟨hset _ x hx, PerP.get_set_ne _ _ hx⟩⟩
    · exact ⟨rfl, fun x hx => ⟨hset _ x hx, rfl⟩⟩
  case mismatchOldKept => exact ⟨rfl, fun _ _ => ⟨rfl, rfl⟩⟩
  case mismatchBad => exact ⟨rfl, fun x hx => ⟨hset _ x hx, rfl⟩⟩

theorem entryWritten_matched (p : Panto) (f : CalFields) (b : Block) :
    (entryWritten p f .matched b).mem.image.entries.get p = some f ∧
      ((b.cal.get p).fields = f → b.mem.waiting.contains (.entry p) = false →
        (entryWritten p f .matched b).cal.get p = ⟨f, true⟩) := by
  simp only [entryWritten, saveEntry]
  split
  next => exact ⟨PerP.get_set_self _ _ _, fun _ _ => PerP.get_set_self _ _ _⟩
  next h => exact ⟨PerP.get_set_self _ _ _, fun hf hw => absurd ⟨hf, hw⟩ h⟩

/-- Settles O35, by the frame of the read-back and the rest of the other blocks. -/
theorem calibrationEntryIsStored : Obligations.CalibrationEntryIsStored := by
  unfold Obligations.CalibrationEntryIsStored
  intro p f r s hs hn hf hr
  obtain ⟨t, ht, hblock⟩ := event_ends s false (entryWriteDone r)
  have hdone := entryWriteDone_entry (r := r) hf hr
  have hframe : entryWriteDone r s.block = { s.block with
      cal := (entryWritten p f r s.block).cal, mem := (nextWrite (entryWritten p f r s.block)).mem } := by
    rw [hdone, nextWrite_frame, entryWritten_frame]
  have hquiet : Quiet (entryWriteDone r s.block) := by
    rw [hframe]
    exact (hs.quiet hn).of_same rfl rfl rfl rfl rfl rfl
  have hset := settle_quiet s.block false hquiet
  have himage : t.block.mem.image = (entryWritten p f r s.block).mem.image := by
    rw [hblock]
    have hkept := congrArg Kept.image hset.kept
    rw [hdone, kept_nextWrite, ← hdone] at hkept
    exact hkept
  have hcal : t.block.cal = (entryWritten p f r s.block).cal := by
    rw [hblock, hset.cal, hframe]
  obtain ⟨hconfig, hothers⟩ := entryWritten_others p f r s.block
  refine ⟨t, ht, ?_⟩
  rw [himage, hcal]
  refine ⟨hconfig, hothers, ?_, ?_, ?_⟩
  · rintro rfl
    exact entryWritten_matched p f s.block
  · rintro rfl
    exact ⟨rfl, rfl⟩
  · rintro rfl
    exact ⟨PerP.get_set_self _ _ _, rfl⟩

end Sys2Proof.Machine
end

section
/-!
The reactions taken apart: the single changes that the blocks make while they answer one another, each with the condition
under which it is made. What each of them keeps, the settling keeps, whatever path runs and whatever mode stands.
-/

namespace Sys2Proof.Machine

/-- What may end at an event: WAKING, or a standby lowering. -/
structure Ending where
  wakes  : Prop
  lowers : Prop

variable {w : Ending} {b x y s : Block} {p : Panto}

/-! ## The changes -/

/-- A path is under way in a phase that a reaction may halt: one past TRACTION_OFF, or any at the end of WAKING. -/
def MayHalt (w : Ending) (b : Block) : Prop :=
  b.seq.phase ∈ [.breakerOpen, .lowering, .coast, .probe, .confirm, .masterReady, .close] ∨
    w.wakes ∧ b.seq.phase ∈ [.armed, .tractionOff]

/-- A raise of `p` may be taken: the hold is clear, and it is that of a scraper or of a candidate in PROBE. -/
def RaiseTaken (b : Block) (p : Panto) : Prop :=
  b.plan.hold = false ∧ (b.role p = .scraping ∨ b.seq.phase = .probe)

/-- The record of `p` may become `l` in a reaction. -/
inductive LiftAct (w : Ending) (b : Block) (p : Panto) : Lift → Prop
  | lowers (raised : (b.lc p).state.raised = true) : LiftAct w b p (b.lc p).toLowering
  | pends (contact : (b.lc p).state = .contact) (collects : b.role p = .collecting) (waits : holdsLower b = true) :
      LiftAct w b p { b.lc p with lowerPending := true }
  | notes (waits : b.cond.restart.isSome = true) : LiftAct w b p { b.lc p with lowerNoted := true }
  | drops (had : (b.lc p).held ≠ .none ∨ (b.lc p).heldSearch = true) : LiftAct w b p (b.lc p).discarded
  | holds (k : Held) (taken : RaiseTaken b p) (kind : k ≠ .none) (free : (b.lc p).held = .none)
      (stands : (b.lc p).state = .stowed ∨ (b.lc p).state = .lowering) :
      LiftAct w b p { b.lc p with held := k, heldSearch := false, airTimer := if k = .air then some 0 else none }
  | raises (taken : RaiseTaken b p) (stowed : (b.lc p).state = .stowed) (free : (b.lc p).held = .none)
      (rested : (b.lc p).dwellTimer = none) :
      LiftAct w b p ((beginRaise p b).lc p)
  | vents (n : Nat) (step : b.cond.testStep = .valves p n) (stowed : (b.lc p).state = .stowed ∨ w.wakes) :
      LiftAct w b p { b.lc p with commanded := 0 }
  | tests (q : Panto) (n : Nat) (step : b.cond.testStep = .valves q n) (testable : valveTestable b p = true) :
      LiftAct w b p { b.lc p with commanded := valveTestPressure }

/-- The ways from phase to phase that need no window, report or request. -/
def phaseSteps : List (Phase × Phase) := [
  (.breakerOpen, .lowering), (.breakerOpen, .coast), (.lowering, .coast), (.coast, .probe), (.coast, .confirm),
  (.probe, .confirm), (.masterReady, .close)]

/-- A running path goes on: to its next phase, with its work, or with the candidate chosen. -/
structure SeqAct (b : Block) (q : Seq) : Prop where
  frame     : q = { b.seq with phase := q.phase, candidate := q.candidate, work := q.work, timer := q.timer }
  runs      : b.seq.phase ∈ [.breakerOpen, .lowering, .coast, .probe, .masterReady]
  phase     : q.phase = b.seq.phase ∨ (b.seq.phase, q.phase) ∈ phaseSteps
  candidate : q.candidate = b.seq.candidate ∨ b.seq.phase ∈ [.coast, .probe] ∧
    ∀ c, q.candidate = some c → collectorQualifies b c = true ∨ stowedQualifies b c = true
  probes    : b.seq.phase = .coast → q.phase = .probe →
    b.seq.retry = true ∨ b.seq.path ≠ some .neutral ∧ b.seq.path ≠ some .substitute

/-- One change made while the blocks answer one another. -/
inductive Act (w : Ending) (b : Block) : Block → Prop
  | opens : Act w b (openBreaker .internal b)
  | closes (phase : b.seq.phase = .masterReady) (hold : b.plan.hold = false) (isOpen : b.sw.breaker.isOpen = true)
      (met : closeConditions b = true) : Act w b (b.setBreaker (b.sw.breaker.move .closed .internal))
  | selects (pos : SelPos) (work : b.seq.phase ∈ [.coast, .probe]) (isOpen : b.sw.breaker.isOpen = true) :
      Act w b (b.setSelector (b.sw.selector.move pos .internal))
  | isolates (p : Panto) (pos : TwoPos) (work : b.seq.phase ∈ [.coast, .probe]) (isOpen : b.sw.breaker.isOpen = true) :
      Act w b (b.setIso p ((b.sw.iso.get p).move pos .internal))
  | lift (p : Panto) (l : Lift) (may : LiftAct w b p l) : Act w b (b.setLift p l)
  | clears (p : Panto) (had : b.role p = .scraping ∨ (b.lc p).held ≠ .none ∨ (b.lc p).heldSearch = true) :
      Act w b (clearRole p b)
  | grants (c : Panto) (work : b.seq.phase ∈ [.coast, .probe]) (candidate : b.seq.candidate = some c)
      (free : b.role c = .none) (hold : b.plan.hold = false) (alone : ∀ x, b.role x ≠ .collecting) :
      Act w b (setRole c .collecting .internal b)
  | scrapes (p : Panto) (want : wantsScraper b p = true) (granted : scrapingRefusal b p = none) :
      Act w b (setScraper (some p) (setRole p .scraping .internal b))
  | records (k : FaultKind) (v : Subject) (runs : MayHalt w b)
      (kind : k ∈ [.positionLost, .noPantograph] ∨ k = .masterNotReady ∧ b.seq.phase = .masterReady) :
      Act w b (recordFault k v b)
  | serves (i : Option Nat) (runs : MayHalt w b) : Act w b (serveEntry i b)
  | halts (r : HaltReason) (runs : MayHalt w b) :
      Act w b { b with seq := { b.seq with phase := .halted, haltReason := some r, timer := none, work := .none } }
  | moves (q : Seq) (may : SeqAct b q) : Act w b { b with seq := q }
  | finishes (phase : b.seq.phase = .coast ∧ zoneWithoutSystem b = true ∨
        b.seq.phase = .close ∧ b.sw.breaker.state = .closed) :
      Act w b { b with seq := { b.seq with
        phase := .idle, path := none, activeEntry := none, work := .none, timer := none } }
  | withdraws (phase : b.seq.phase ∈ [.coast, .close, .halted]) : Act w b (setTractionOff false b)
  | tests (c : Cond) (may : w.wakes ∨ w.lowers)
      (mode : c.mode = b.cond.mode ∨ c.mode ∈ [.standby, .service, .workshop]) (only : c = { b.cond with
        mode := c.mode, modeTimer := c.modeTimer, standbyLowering := c.standbyLowering, heldWake := c.heldWake
        testStep := c.testStep, selfTest := c.selfTest }) : Act w b { b with cond := c }
  | tries (c : Cond) (q : Panto) (n : Nat) (step : b.cond.testStep = .valves q n)
      (only : c = { b.cond with testStep := c.testStep, selfTest := c.selfTest }) : Act w b { b with cond := c }
  | stores (x : Block) (only : x = { b with cal := x.cal, mem := x.mem, links := x.links }) : Act w b x
  | ice (x : Block) (only : IceOnly b x) : Act w b x

/-- A run of such changes. -/
def Acts (w : Ending) : Block → Block → Prop := Relation.ReflTransGen (Act w)

theorem Acts.refl (b : Block) : Acts w b b := Relation.ReflTransGen.refl

theorem Acts.trans (h : Acts w b x) (h' : Acts w x y) : Acts w b y := Relation.ReflTransGen.trans h h'

theorem Act.run (h : Act w b x) : Acts w b x := Relation.ReflTransGen.single h

theorem Acts.of_eq (h : x = b) : Acts w b x := by rw [h]; exact .refl b

/-- What each change keeps, a run of them keeps. -/
theorem Acts.keep {P : Block → Prop} (h : Acts w b x) (step : ∀ a c, Act w a c → P a → P c) (hb : P b) : P x := by
  induction h with
  | refl => exact hb
  | tail _ hs ih => exact step _ _ hs ih

theorem IceOnly.acts (h : IceOnly b x) : Acts w b x := (Act.ice x h).run

theorem acts_eachPanto {f : Panto → Block → Block} (h : ∀ p b, Acts w b (f p b)) (b : Block) :
    Acts w b (eachPanto f b) :=
  (((h .p1 b).trans (h .p2 _)).trans (h .p3 _)).trans (h .p4 _)

theorem acts_setLift {l : Lift} (h : LiftAct w b p l) : Acts w b (b.setLift p l) := (Act.lift p l h).run

/-! ## Halts and lowers -/

/-- The reasons for which a reaction halts a path. -/
def Answering (b : Block) (r : HaltReason) : Prop :=
  r ∈ [.raise, .noPantograph, .positionLost, .switch, .breaker, .masterLower] ∨ r = .noMaster ∧ b.seq.phase = .masterReady

theorem acts_haltFault {r : HaltReason} (hr : Answering b r) (hruns : MayHalt w b) : Acts w b (haltFault r b) := by
  rcases hr with hr | ⟨rfl, hphase⟩
  · cases r
    case positionLost => exact (Act.records .positionLost _ hruns (.inl (by decide))).run
    case noPantograph => exact (Act.records .noPantograph _ hruns (.inl (by decide))).run
    case mismatch | noLine | masterNotReady | noMaster => exact absurd hr (by decide)
    all_goals exact .refl b
  · exact (Act.records .masterNotReady _ hruns (.inr ⟨rfl, hphase⟩)).run

theorem enterHalt_eq {r : HaltReason} (h : r ≠ .mismatch) (b : Block) : enterHalt r b =
    openBreaker .internal (setPreheat none { serveEntry b.seq.activeEntry (haltFault r b) with
      seq := { (serveEntry b.seq.activeEntry (haltFault r b)).seq with
        phase := .halted, haltReason := some r, timer := none, work := .none } }) := by
  simp only [enterHalt, if_neg h]

theorem acts_enterHalt {r : HaltReason} (hr : Answering b r) (hruns : MayHalt w b) : Acts w b (enterHalt r b) := by
  have hreason : r ≠ .mismatch := by
    rintro rfl
    rcases hr with hr | ⟨hr, -⟩
    · exact absurd hr (by decide)
    · exact absurd hr (by decide)
  have hfault := seq_haltFault r b
  have hserve := (seq_serveEntry b.seq.activeEntry (haltFault r b)).trans hfault
  have hruns1 : MayHalt w (haltFault r b) := by rwa [MayHalt, hfault]
  have hruns2 : MayHalt w (serveEntry b.seq.activeEntry (haltFault r b)) := by rwa [MayHalt, hserve]
  rw [enterHalt_eq hreason]
  refine (acts_haltFault hr hruns).trans (((Act.serves _ hruns1).run.trans (Act.halts r hruns2).run).trans ?_)
  exact (iceOnly_setPreheat _ fun _ => rfl).acts.trans Act.opens.run

/-- The path is past ARMED and TRACTION_OFF, where a halt is asked in answer to nothing but the end of WAKING. -/
def Past (b : Block) : Prop := b.seq.phase ∉ [.armed, .tractionOff]

theorem mayHalt_of_past (h : Past b ∨ w.wakes) (hidle : b.seq.phase ≠ .idle) (hhalted : b.seq.phase ≠ .halted) :
    MayHalt w b := by
  unfold MayHalt
  unfold Past at h
  revert h hidle hhalted
  cases b.seq.phase <;> simp

theorem acts_halt {r : HaltReason} (hr : Answering b r) (hpast : Past b ∨ w.wakes) : Acts w b (halt r b) := by
  unfold halt
  split
  next => exact .refl b
  next =>
    split
    next he =>
      subst he
      rcases hr with hr | ⟨hr, -⟩
      · exact absurd hr (by decide)
      · exact absurd hr (by decide)
    next => exact .refl b
  next hidle hhalted => exact acts_enterHalt hr (mayHalt_of_past hpast hidle hhalted)

theorem acts_leaveContact {l : Lift} (h : LiftAct w b p l) : Acts w b (leaveContact p l b) := by
  unfold leaveContact
  dsimp only
  split
  next hc =>
    refine (acts_setLift h).trans (acts_halt (.inl (by decide)) (.inl ?_))
    obtain ⟨-, -, hphase⟩ := hc
    unfold Past
    rcases hphase with hphase | hphase | hphase <;> simp [hphase]
  · exact acts_setLift h

theorem acts_beginLowering (h : (b.lc p).state.raised = true) : Acts w b (beginLowering p b) :=
  acts_leaveContact (.lowers h)

theorem changeEntry_only (p : Panto) (f : CalFields → CalFields) (b : Block) : changeEntry p f b =
    { b with cal := (changeEntry p f b).cal, mem := (changeEntry p f b).mem, links := (changeEntry p f b).links } := by
  unfold changeEntry report markAll
  rw [offerWrite_frame]

theorem acts_changeEntry (p : Panto) (f : CalFields → CalFields) (b : Block) : Acts w b (changeEntry p f b) :=
  (Act.stores _ (changeEntry_only p f b)).run

theorem acts_abortSearch (h : (b.lc p).state = .searching) : Acts w b (abortSearch p b) := by
  refine (acts_changeEntry p _ b).trans (acts_beginLowering ?_)
  have := lc_abortEntry p p b
  rw [abortEntry] at this
  rw [this, h]
  rfl

theorem abortHeld_frame (s : Bool) (p : Panto) (b : Block) : abortHeld s p b =
    { b with cal := (abortHeld s p b).cal, mem := (abortHeld s p b).mem, links := (abortHeld s p b).links } := by
  cases s
  case false => rfl
  case true =>
    exact changeEntry_only p (fun f => { f with lastResult := some .aborted }) b

theorem acts_discardHeld (h : (b.lc p).held ≠ .none ∨ (b.lc p).heldSearch = true) : Acts w b (discardHeld p b) := by
  have heq : discardHeld p b =
      (clearRole p (abortHeld (b.lc p).heldSearch p b)).setLift p (b.lc p).discarded := by
    rw [discardHeld_eq]
    rfl
  have hlc := lc_abortHeld (b.lc p).heldSearch p p b
  rw [heq]
  refine (Act.stores _ (abortHeld_frame (b.lc p).heldSearch p b)).run.trans
    ((Act.clears p (.inr (by rwa [hlc]))).run.trans ?_)
  have hdrop := LiftAct.drops (w := w) (b := clearRole p (abortHeld (b.lc p).heldSearch p b)) (p := p)
    (by rwa [clearRole_lc, hlc])
  rw [clearRole_lc, hlc] at hdrop
  exact acts_setLift hdrop

/-! ## VALVES steps -/

theorem valvesFrom_setLift_frame (l : List Panto) (b : Block) :
    (∃ c, valvesFrom l b = { b with cond := c } ∧ c = { b.cond with testStep := c.testStep, selfTest := c.selfTest }) ∨
      ∃ x c, valveTestable b x = true ∧
        valvesFrom l b = { b.setLift x { b.lc x with commanded := valveTestPressure } with cond := c } ∧
        c = { b.cond with testStep := c.testStep, selfTest := c.selfTest } := by
  induction l generalizing b with
  | nil => exact .inl ⟨_, rfl, rfl⟩
  | cons x xs ih =>
    unfold valvesFrom
    split
    next htest => exact .inr ⟨x, _, htest, rfl, rfl⟩
    next =>
      rcases ih (setStrips x .skipped (setValves x .skipped b)) with ⟨c, heq, honly⟩ | ⟨y, c, htest, heq, honly⟩
      · exact .inl ⟨c, heq, honly⟩
      · exact .inr ⟨y, c, htest, heq, honly⟩

theorem acts_valvesFrom {q : Panto} {n : Nat} {t : SelfTest} (l : List Panto) (h : b.cond.testStep = .valves q n) :
    Acts w b (valvesFrom l { b with cond := { b.cond with selfTest := t } }) := by
  rcases valvesFrom_setLift_frame l { b with cond := { b.cond with selfTest := t } } with
    ⟨c, heq, honly⟩ | ⟨x, c, htest, heq, honly⟩
  · rw [heq]
    exact (Act.tries c q n h honly).run
  · rw [heq]
    exact (acts_setLift (.tests q n h htest)).trans (Act.tries (b := b.setLift x _) c q n h honly).run

theorem acts_skipValves (h : (b.lc p).state = .stowed) : Acts w b (skipValves p b) := by
  by_cases hv : ∃ n, b.cond.testStep = .valves p n
  · obtain ⟨n, hn⟩ := hv
    have heq : skipValves p b = valvesFrom (Panto.after p)
        (setStrips p .skipped (setValves p .skipped (b.setLift p { b.lc p with commanded := 0 }))) := by
      simp only [skipValves, hn, if_true]
    rw [heq]
    exact (acts_setLift (.vents n hn (.inl h))).trans (acts_valvesFrom (b := b.setLift p _) _ hn)
  · exact .of_eq (skipValves_of_other (not_exists.mp hv))

/-! ## Lowers and raises taken -/

theorem acts_pendLower (hc : (b.lc p).state = .contact) (hr : b.role p = .collecting) (hh : holdsLower b = true) :
    Acts w b (pendLower p b) := by
  unfold pendLower
  split
  · exact .refl b
  · exact (acts_setLift (.pends hc hr hh)).trans Act.opens.run

theorem acts_actOnLower (i : Bool) (p : Panto) (b : Block) : Acts w b (actOnLower i p b) := by
  unfold actOnLower
  split
  next hs =>
    split
    next hheld =>
      refine (acts_skipValves hs).trans (acts_discardHeld (.inl ?_))
      obtain ⟨n, hn⟩ := skipValves_lc p p b
      rwa [hn]
    next => exact acts_skipValves hs
  next hs => exact acts_beginLowering (by rw [hs]; rfl)
  next hs =>
    split
    next hw =>
      obtain ⟨hc, -, hr, hh⟩ := waitsForBreaker_iff.mp hw
      exact acts_pendLower hc hr hh
    next => exact acts_beginLowering (by rw [hs]; rfl)
  next hs =>
    split
    next hheld => exact acts_discardHeld (.inl hheld)
    next => exact .refl b
  next hs => exact acts_abortSearch hs
  next => exact .refl b
  next => exact .refl b

theorem acts_takeLower (i : Bool) (p : Panto) (b : Block) : Acts w b (takeLower i p b) := by
  unfold takeLower
  split
  next hadopt =>
    split
    next hw =>
      obtain ⟨hc, -, hr, hh⟩ := waitsForBreaker_iff.mp hw
      exact acts_pendLower hc hr hh
    next => exact acts_setLift (.notes hadopt)
  next => exact acts_actOnLower i p b

theorem acts_lowerUp (i : Bool) (b : Block) : Acts w b (lowerUp i b) := by
  refine acts_eachPanto (fun p b => ?_) b
  split
  · exact acts_takeLower i p b
  · exact .refl b

theorem beginRaise_eq (p : Panto) (b : Block) : beginRaise p b = b.setLift p ((beginRaise p b).lc p) := by
  obtain ⟨l, hl⟩ : ∃ l, beginRaise p b = b.setLift p l := ⟨_, setLift_setLift _ _ _ _⟩
  rw [hl, lc_setLift_self]

theorem raiseTaken_skipValves (h : RaiseTaken b p) : RaiseTaken (skipValves p b) p := by
  have ht := touches_skipValves p b
  have hrole : (skipValves p b).role p = b.role p := by
    rw [Block.role, skipValves_plan, Block.role]
  rw [RaiseTaken, ht.plan, hrole, ht.seq]
  exact h

theorem acts_beginRaise (ht : RaiseTaken b p) (hs : (b.lc p).state = .stowed) (hfree : (b.lc p).held = .none)
    (hrest : (b.lc p).dwellTimer = none) : Acts w b (beginRaise p (skipValves p b)) := by
  obtain ⟨n, hn⟩ := skipValves_lc p p b
  rw [beginRaise_eq]
  refine (acts_skipValves hs).trans (acts_setLift (.raises (raiseTaken_skipValves ht) ?_ ?_ ?_))
  · rwa [hn]
  · rwa [hn]
  · rwa [hn]

theorem acts_holdRaise (k : Held) (ht : RaiseTaken b p) (kind : k ≠ .none) (free : (b.lc p).held = .none)
    (stands : (b.lc p).state = .stowed ∨ (b.lc p).state = .lowering) : Acts w b (holdRaise p k false b) :=
  acts_setLift (.holds k ht kind free stands)

theorem acts_takeRaise (ht : RaiseTaken b p) : Acts w b (takeRaise p false b) := by
  unfold takeRaise
  dsimp only
  split
  next hs =>
    split
    next => exact .refl b
    next hfree =>
      have hheld : (b.lc p).held = .none := not_not.mp hfree
      split
      next => exact acts_holdRaise _ ht (by decide) hheld (.inl hs)
      next hdwell =>
        have hrest : (b.lc p).dwellTimer = none := by simpa using hdwell
        split
        next => exact acts_holdRaise _ ht (by decide) hheld (.inl hs)
        next =>
          split
          next => exact acts_beginRaise ht hs hheld hrest
          next =>
            refine (acts_holdRaise .dwell ht (by decide) hheld (.inl hs)).trans (acts_discardHeld (.inl ?_))
            simp [holdRaise]
  next hs =>
    split
    next => exact .refl b
    next hfree => exact acts_holdRaise _ ht (by decide) (not_not.mp hfree) (.inr hs)
  all_goals exact .refl b

/-! ## Modes -/

theorem acts_abortSearches (b : Block) : Acts w b (abortSearches b) := by
  unfold abortSearches onceAdopted
  split
  · exact .refl b
  · refine acts_eachPanto (fun p b => ?_) b
    split
    next hs => exact acts_abortSearch hs
    next =>
      split
      next hh => exact acts_discardHeld (.inr hh)
      next => exact .refl b

theorem acts_setMode {m : Mode} (b : Block) (hw : w.wakes ∨ w.lowers) (hm : m ∈ [.standby, .service, .workshop]) :
    Acts w b (setMode m b) :=
  (Act.tests _ hw (.inr hm) rfl).run.trans (acts_abortSearches _)

theorem acts_setTest (t : SelfTest) (b : Block) (hw : w.wakes) : Acts w b (setTest t b) :=
  (Act.tests { b.cond with selfTest := t } (.inl hw) (.inl rfl) rfl).run

theorem acts_setTestStep (t : TestStep) (b : Block) (hw : w.wakes) : Acts w b (setTestStep t b) :=
  (Act.tests { b.cond with testStep := t } (.inl hw) (.inl rfl) rfl).run

theorem acts_lowerRoof (i : Bool) (b : Block) : Acts w b (lowerRoof i b) := by
  refine acts_eachPanto (fun p b => ?_) b
  split
  next hr =>
    simp only [raisedScraper, Bool.and_eq_true, beq_iff_eq] at hr
    exact (Act.clears p (.inl hr.1.1)).run.trans (acts_takeLower i p _)
  next => exact acts_takeLower i p b

theorem acts_beginStandbyLowering (b : Block) (hw : w.wakes) : Acts w b (beginStandbyLowering b) :=
  (((Act.tests { b.cond with standbyLowering := true } (.inl hw) (.inl rfl) rfl).run.trans
    (acts_halt (.inl (by decide)) (.inr hw))).trans Act.opens.run).trans (acts_lowerRoof _ _)

theorem acts_enterStandby (b : Block) (hw : w.wakes) : Acts w b (enterStandby b) := by
  unfold enterStandby
  split
  · exact (acts_setMode b (.inl hw) (by decide)).trans (acts_beginStandbyLowering _ hw)
  · exact acts_setMode b (.inl hw) (by decide)

theorem acts_endWaking (b : Block) (hw : w.wakes) : Acts w b (endWaking b) := by
  unfold endWaking
  split
  case h_1 => exact acts_setMode b (.inl hw) (by decide)
  case h_2 =>
    split
    · exact acts_setMode b (.inl hw) (by decide)
    · exact acts_enterStandby b hw
  all_goals exact acts_enterStandby b hw

theorem acts_completeWaking (b : Block) (hw : w.wakes) : Acts w b (completeWaking b) :=
  (acts_setTest _ b hw).trans (acts_endWaking _ hw)

theorem acts_stopValves (b : Block) (hw : w.wakes) : Acts w b (stopValves b) := by
  unfold stopValves
  split
  next p n hn => exact (acts_setLift (.vents n hn (.inr hw))).trans (acts_setTestStep _ _ hw)
  next => exact acts_setTestStep _ b hw

theorem acts_timeoutWaking (b : Block) (hw : w.wakes) : Acts w b (timeoutWaking b) :=
  ((acts_stopValves b hw).trans (acts_setTest _ _ hw)).trans (acts_endWaking _ hw)

end Sys2Proof.Machine
end

section
/-!
The progress of a path, and every other reaction, as runs of single changes.
-/

namespace Sys2Proof.Machine

variable {w : Ending} {b x y s : Block} {p : Panto}

/-! ## The phases -/

theorem SeqAct.past {q : Seq} (h : SeqAct b q) : q.phase ∉ [.armed, .tractionOff] := by
  have hruns := h.runs
  have hphase := h.phase
  intro hq
  rcases hphase with hsame | hstep
  · rw [hsame] at hq
    revert hq hruns
    cases b.seq.phase <;> simp
  · revert hq hstep
    cases q.phase <;> simp [phaseSteps]

theorem Act.past (h : Act w b x) (hb : Past b) : Past x := by
  cases h
  case opens =>
    rw [Past, openBreaker_seq]
    exact hb
  case serves i _ =>
    rw [Past, seq_serveEntry]
    exact hb
  case halts => simp [Past]
  case moves q may => exact may.past
  case finishes => simp [Past]
  case stores only => rw [only]; exact hb
  case ice only => rw [only.frame]; exact hb
  all_goals exact hb

theorem Acts.past (h : Acts w b x) (hb : Past b) : Past x := h.keep (fun _ _ hs => hs.past) hb

theorem past_of_work (h : b.seq.phase ∈ [.coast, .probe]) : Past b := by
  simp only [List.mem_cons, List.not_mem_nil, or_false] at h
  rcases h with h | h <;> simp [Past, h]

/-- The path goes on in its phase, with its work and timer. -/
theorem acts_seq {q : Seq} (runs : b.seq.phase ∈ [.breakerOpen, .lowering, .coast, .probe, .masterReady])
    (phase : q.phase = b.seq.phase ∨ (b.seq.phase, q.phase) ∈ phaseSteps)
    (frame : q = { b.seq with phase := q.phase, work := q.work, timer := q.timer })
    (probes : b.seq.phase = .coast → q.phase = .probe →
      b.seq.retry = true ∨ b.seq.path ≠ some .neutral ∧ b.seq.path ≠ some .substitute) : Acts w b { b with seq := q } := by
  have hcand : q.candidate = b.seq.candidate := by rw [frame]
  refine (Act.moves q ⟨?_, runs, phase, .inl hcand, probes⟩).run
  rw [hcand]
  exact frame

theorem acts_setWork (v : Work) (h : b.seq.phase ∈ [.coast, .probe]) : Acts w b (setWork v b) :=
  acts_seq (List.mem_append_right [_, _] (List.mem_append_left [_] h)) (.inl rfl) rfl
    fun hc hp => absurd (hc.symm.trans hp) (by decide)

theorem acts_setCandidate {c : Option Panto} (h : b.seq.phase ∈ [.coast, .probe])
    (hc : ∀ x, c = some x → collectorQualifies b x = true ∨ stowedQualifies b x = true) :
    Acts w b (setCandidate c b) := by
  have hmove : Acts w b { b with seq := { b.seq with candidate := c } } :=
    (Act.moves { b.seq with candidate := c }
      ⟨rfl, List.mem_append_right [_, _] (List.mem_append_left [_] h), .inl rfl, .inr ⟨h, hc⟩,
        fun hc hp => absurd (hc.symm.trans hp) (by decide)⟩).run
  unfold setCandidate
  dsimp only
  split
  next hp =>
    have hsome (hn : b.ice.preheat = none) : c = none := by
      rw [hn] at hp
      cases hp
    exact hmove.trans (IceOnly.acts (b := { b with seq := { b.seq with candidate := c } }) (iceOnly_setPreheat _ hsome))
  next => exact hmove

theorem seq_setCandidate (c : Option Panto) (b : Block) :
    (setCandidate c b).seq = { b.seq with candidate := c } := by
  unfold setCandidate
  dsimp only
  split <;> rfl

theorem chooseCandidate_qualifies {c : Panto} (h : chooseCandidate b = some c) :
    collectorQualifies b c = true ∨ stowedQualifies b c = true := by
  unfold chooseCandidate at h
  dsimp only at h
  split at h
  next q hq =>
    cases h
    have := Option.eq_some_of_filter_eq_some hq
    have hq' := (Option.filter_eq_some_iff.mp hq).2
    simpa using hq'
  next =>
    split at h
    next q hq =>
      cases h
      exact .inl (List.find?_some hq)
    next => exact .inr (List.find?_some h)

theorem acts_workCommand {f : Block → Block × ReplyOutcome} (h : Acts w b (f b).1) (hb : Past b) :
    Acts w b (workCommand f b) := by
  unfold workCommand
  dsimp only
  split
  · exact h.trans (acts_halt (.inl (by decide)) (.inl (h.past hb)))
  · exact h

theorem acts_moveIsolator (p : Panto) (pos : TwoPos) (h : b.seq.phase ∈ [.coast, .probe]) :
    Acts w b (moveIsolator p pos .internal b).1 := by
  unfold moveIsolator
  split
  · exact .refl b
  · split
    next hi =>
      have hopen : b.sw.breaker.isOpen = true := by
        cases pos
        case opened => exact hi
        case closed =>
          simp only [isolatorInterlock, Bool.and_eq_true] at hi
          exact hi.1.1
      exact (Act.isolates p pos h hopen).run
    · exact .refl b

theorem acts_moveSelector (pos : SelPos) (h : b.seq.phase ∈ [.coast, .probe]) :
    Acts w b (moveSelector pos .internal b).1 := by
  unfold moveSelector
  split
  · exact .refl b
  · split
    next hopen => exact (Act.selects pos h hopen).run
    · exact .refl b

theorem seq_moveIsolator (p : Panto) (pos : TwoPos) (v : Source) (b : Block) : (moveIsolator p pos v b).1.seq = b.seq := by
  unfold moveIsolator
  split
  · rfl
  · split <;> rfl

/-- A command of the switch work leaves the path in its phase, or halted. -/
theorem phase_workCommand {f : Block → Block × ReplyOutcome} (hf : (f b).1.seq = b.seq) :
    (workCommand f b).seq.phase = b.seq.phase ∨ (workCommand f b).seq.phase = .halted := by
  unfold workCommand
  dsimp only
  split
  · unfold halt
    split
    next h => exact .inl (h.trans (by rw [← hf, h]))
    next h =>
      split
      · exact .inr h
      · exact .inr h
    next =>
      right
      rw [enterHalt_eq (by decide)]
      exact congrArg Seq.phase (openBreaker_seq _ _)
  · exact .inl (by rw [hf])

theorem acts_askIsolator (c p : Panto) (h : b.seq.phase ∈ [.coast, .probe] ∨ b.seq.phase = .halted) :
    Acts w b (if b.seq.phase = .halted then b else if p = c ∨ isoOpen b p = true then b
      else workCommand (moveIsolator p .opened .internal) b) := by
  split
  next => exact .refl b
  next hn =>
    split
    next => exact .refl b
    next => exact acts_workCommand (acts_moveIsolator p .opened (h.resolve_right hn)) (past_of_work (h.resolve_right hn))

theorem phase_askIsolator (c p : Panto) (h : b.seq.phase ∈ [.coast, .probe] ∨ b.seq.phase = .halted) :
    let x := if b.seq.phase = .halted then b else if p = c ∨ isoOpen b p = true then b
      else workCommand (moveIsolator p .opened .internal) b
    x.seq.phase ∈ [.coast, .probe] ∨ x.seq.phase = .halted := by
  dsimp only
  split
  next => exact h
  next hn =>
    split
    next => exact h
    next =>
      have hp := h.resolve_right hn
      rcases phase_workCommand (seq_moveIsolator p .opened .internal b) with heq | heq
      · exact .inl (by rw [heq]; exact hp)
      · exact .inr heq

theorem acts_startWork (c : Panto) (h : b.seq.phase ∈ [.coast, .probe]) : Acts w b (startWork c b) := by
  unfold startWork
  dsimp only
  have hgo : ∀ (f : Panto → Block → Block),
      (∀ p a, a.seq.phase ∈ [.coast, .probe] ∨ a.seq.phase = .halted → Acts w a (f p a) ∧
        ((f p a).seq.phase ∈ [.coast, .probe] ∨ (f p a).seq.phase = .halted)) →
      ∀ a, a.seq.phase ∈ [.coast, .probe] ∨ a.seq.phase = .halted → Acts w a (eachPanto f a) ∧
        ((eachPanto f a).seq.phase ∈ [.coast, .probe] ∨ (eachPanto f a).seq.phase = .halted) := by
    intro f hf a ha
    obtain ⟨h1, hp1⟩ := hf .p1 a ha
    obtain ⟨h2, hp2⟩ := hf .p2 _ hp1
    obtain ⟨h3, hp3⟩ := hf .p3 _ hp2
    obtain ⟨h4, hp4⟩ := hf .p4 _ hp3
    exact ⟨((h1.trans h2).trans h3).trans h4, hp4⟩
  obtain ⟨hask, hphase⟩ := hgo _ (fun p a ha => ⟨acts_askIsolator c p ha, phase_askIsolator c p ha⟩)
    (setWork .switches b) (.inl h)
  refine ((acts_setWork .switches h).trans hask).trans ?_
  split
  next => exact .refl _
  next hn => exact acts_workCommand (acts_moveSelector _ (hphase.resolve_right hn)) (past_of_work (hphase.resolve_right hn))

theorem acts_coastWork (h : b.seq.phase ∈ [.coast, .probe]) : Acts w b (coastWork b) := by
  unfold coastWork
  split
  next =>
    refine (acts_setCandidate (c := none) h (by simp)).trans (acts_setWork .ready ?_)
    rwa [seq_setCandidate]
  next =>
    split
    next => exact acts_halt (.inl (by decide)) (.inl (past_of_work h))
    next c hc =>
      have hset : Acts w b (setCandidate (some c) b) :=
        acts_setCandidate h fun x hx => by cases hx; exact chooseCandidate_qualifies hc
      have hphase : (setCandidate (some c) b).seq.phase ∈ [.coast, .probe] := by rwa [seq_setCandidate]
      dsimp only
      split
      next => exact hset.trans (acts_setWork .ready hphase)
      next => exact hset.trans (acts_startWork c hphase)

theorem acts_enterCoast (h : b.seq.phase ∈ [.breakerOpen, .lowering]) : Acts w b (enterCoast b) := by
  have hcoast : Acts w b { b with seq := { b.seq with phase := .coast, timer := none } } := by
    refine acts_seq (List.mem_append_left [_, _, _] h) (.inr ?_) rfl fun _ hp => nomatch hp
    simp only [List.mem_cons, List.not_mem_nil, or_false] at h
    rcases h with h | h <;> simp [h, phaseSteps]
  unfold enterCoast
  dsimp only
  have hwork := hcoast.trans (acts_coastWork (b := { b with seq := { b.seq with phase := .coast, timer := none } })
    (by simp))
  refine hwork.trans ?_
  split
  next hc => exact acts_halt (.inl (by decide)) (.inl (past_of_work (by simp [hc.1])))
  next => exact .refl _

theorem grantCollecting_cases {c : Panto} (h : grantCollecting c b = some x) :
    x = b ∨ x = setRole c .collecting .internal b ∧ b.role c = .none ∧ b.plan.hold = false ∧
      ∀ r, b.role r ≠ .collecting := by
  unfold grantCollecting at h
  split at h
  next => exact .inl (Option.some.inj h).symm
  next hc =>
    split at h
    next => cases h
    next hany =>
      split at h
      next => cases h
      next hhold =>
        split at h
        next hnone =>
          refine .inr ⟨(Option.some.inj h).symm, hnone, by simpa using hhold, fun r hr => hany ?_⟩
          refine List.any_eq_true.mpr ⟨r, Panto.mem_all r, ?_⟩
          simp only [Bool.and_eq_true, bne_iff_ne, ne_eq, beq_iff_eq]
          exact ⟨fun hrc => hc (hrc ▸ hr), hr⟩
        next => cases h

theorem acts_grantCollecting {c : Panto} (h : grantCollecting c b = some x) (hphase : b.seq.phase ∈ [.coast, .probe])
    (hc : b.seq.candidate = some c) : Acts w b x ∧ x.seq = b.seq := by
  rcases grantCollecting_cases h with rfl | ⟨rfl, hfree, hhold, halone⟩
  · exact ⟨.refl _, rfl⟩
  · exact ⟨(Act.grants c hphase hc hfree hhold halone).run, rfl⟩

theorem acts_passRaise (hprobe : b.seq.phase = .probe) : Acts w b (passRaise b) := by
  have h : b.seq.phase ∈ [.coast, .probe] := by simp [hprobe]
  unfold passRaise
  split
  next => exact acts_halt (.inl (by decide)) (.inl (past_of_work h))
  next c hc =>
    split
    next => exact acts_halt (.inl (by decide)) (.inl (past_of_work h))
    next =>
      split
      next => exact acts_halt (.inl (by decide)) (.inl (past_of_work h))
      next hclear =>
        split
        next => exact acts_halt (.inl (by decide)) (.inl (past_of_work h))
        next y hy =>
          obtain ⟨hgrant, hseq⟩ := acts_grantCollecting (w := w) hy h hc
          have hhold : y.plan.hold = b.plan.hold := by
            rcases grantCollecting_cases hy with rfl | ⟨rfl, -⟩ <;> rfl
          simp only [Bool.or_eq_true, not_or, Bool.not_eq_true] at hclear
          exact (hgrant.trans (acts_setWork .raising (by rwa [hseq]))).trans
            (acts_takeRaise (b := setWork .raising y) ⟨hhold.trans hclear.1, .inr ((congrArg Seq.phase hseq).trans hprobe)⟩)

theorem acts_enterProbe (h : b.seq.phase = .coast)
    (hp : b.seq.retry = true ∨ b.seq.path ≠ some .neutral ∧ b.seq.path ≠ some .substitute) :
    Acts w b (enterProbe b) := by
  have hprobe : Acts w b { b with seq := { b.seq with phase := .probe, timer := none } } :=
    acts_seq (by simp [h]) (.inr (by simp [h, phaseSteps])) rfl fun _ _ => hp
  exact hprobe.trans (acts_passRaise (b := { b with seq := { b.seq with phase := .probe, timer := none } }) rfl)

theorem acts_enterConfirm (h : b.seq.phase ∈ [.coast, .probe]) : Acts w b (enterConfirm b) := by
  refine acts_seq (List.mem_append_right [_, _] (List.mem_append_left [_] h)) (.inr ?_) rfl
    fun _ hp => nomatch hp
  simp only [List.mem_cons, List.not_mem_nil, or_false] at h
  rcases h with h | h <;> simp [h, phaseSteps]

theorem finishPath_eq (b : Block) : finishPath b =
    { setTractionOff false (serveEntry b.seq.activeEntry b) with seq := { b.seq with
        phase := .idle, path := none, activeEntry := none, work := .none, timer := none } } := by
  unfold finishPath
  cases b.seq.activeEntry <;> rfl

theorem frame_serveEntry (i : Option Nat) (b : Block) :
    serveEntry i b = { b with queue := (serveEntry i b).queue } := by cases i <;> rfl

theorem acts_finishPath (phase : b.seq.phase = .coast ∧ zoneWithoutSystem b = true ∨
    b.seq.phase = .close ∧ b.sw.breaker.state = .closed) : Acts w b (finishPath b) := by
  have hruns : MayHalt w b := by rcases phase with ⟨h, -⟩ | ⟨h, -⟩ <;> simp [MayHalt, h]
  have hframe := frame_serveEntry b.seq.activeEntry b
  have hserve : Acts w b (serveEntry b.seq.activeEntry b) := (Act.serves _ hruns).run
  rw [finishPath_eq]
  rw [hframe] at hserve ⊢
  generalize (serveEntry b.seq.activeEntry b).queue = q at hserve ⊢
  have hwithdraw : Acts w ({ b with queue := q } : Block) (setTractionOff false { b with queue := q }) := by
    refine (Act.withdraws ?_).run
    rcases phase with ⟨h, -⟩ | ⟨h, -⟩ <;> simp [h]
  exact (hserve.trans hwithdraw).trans (Act.finishes (b := setTractionOff false { b with queue := q }) phase).run

theorem acts_enterClose (h : b.seq.phase = .masterReady) : Acts w b (enterClose b) := by
  have hmoves (a : Block) (ha : a.seq.phase = .masterReady) :
      Acts w a { a with seq := { a.seq with phase := .close, timer := none } } :=
    acts_seq (by simp [ha]) (.inr (by simp [ha, phaseSteps])) rfl fun _ hp => nomatch hp
  unfold enterClose
  dsimp only
  split
  next => exact (hmoves b h).trans (acts_halt (.inl (by decide)) (.inl (by simp [Past])))
  next hhold =>
    have hcommand : Acts w b (closeBreaker .internal { b with seq := { b.seq with phase := .close, timer := none } }).1 := by
      unfold closeBreaker
      split
      next => exact hmoves b h
      next hexam =>
        split
        next hmet =>
          simp only [Bool.and_eq_true] at hmet
          refine (Act.closes h (by simpa using hhold) ?_ hmet.1).run.trans
            (hmoves (b.setBreaker (b.sw.breaker.move .closed .internal)) h)
          unfold TwoSw.examine at hexam
          simp only [TwoSw.isOpen]
          split at hexam <;> simp_all
        next => exact hmoves b h
    have hpast : Past (closeBreaker .internal { b with seq := { b.seq with phase := .close, timer := none } }).1 := by
      have hseq : (closeBreaker .internal { b with seq := { b.seq with phase := .close, timer := none } }).1.seq.phase =
          .close := by
        unfold closeBreaker
        split
        · rfl
        · split <;> rfl
      rw [Past, hseq]
      decide
    split
    · exact hcommand.trans (acts_halt (.inl (by decide)) (.inl hpast))
    · exact hcommand

theorem acts_advanceWork (h : b.seq.phase ∈ [.coast, .probe]) : Acts w b (advanceWork b) := by
  unfold advanceWork
  split
  next => exact .refl b
  next c hc =>
    split
    next =>
      split
      next =>
        split
        next => exact acts_halt (.inl (by decide)) (.inl (past_of_work h))
        next y hy =>
          obtain ⟨hgrant, hseq⟩ := acts_grantCollecting (w := w) hy h hc
          have hphase : y.seq.phase ∈ [.coast, .probe] := by rwa [hseq]
          exact (hgrant.trans (acts_setWork .isolator hphase)).trans
            (acts_workCommand (acts_moveIsolator c .closed (b := setWork .isolator y) hphase) (past_of_work (b := setWork .isolator y) hphase))
      next => exact .refl b
    next =>
      split
      · exact acts_setWork .ready h
      · exact .refl b
    all_goals exact .refl b

theorem acts_leaveCoast (h : b.seq.phase = .coast) : Acts w b (leaveCoast b) := by
  have hmem : b.seq.phase ∈ [.coast, .probe] := by simp [h]
  unfold leaveCoast
  split
  next hz => exact acts_finishPath (.inl ⟨h, hz⟩)
  next =>
    split
    next hretry => exact acts_enterProbe h (.inl hretry)
    next =>
      split
      · exact acts_enterConfirm hmem
      · exact acts_enterConfirm hmem
      next hn hs => exact acts_enterProbe h (.inr ⟨hn, hs⟩)

theorem acts_coastStep (h : b.seq.phase = .coast) : Acts w b (coastStep b) := by
  unfold coastStep
  dsimp only
  refine (acts_advanceWork (by simp [h])).trans ?_
  split
  next hc => exact acts_leaveCoast hc.1
  next => exact .refl _

theorem acts_breakerFailedHalt (h : Past b) : Acts w b (breakerFailedHalt b) :=
  have hlower := acts_lowerUp true b
  hlower.trans (acts_halt (.inl (by decide)) (.inl (hlower.past h)))

theorem acts_probeStep (h : b.seq.phase = .probe) : Acts w b (probeStep b) := by
  have hmem : b.seq.phase ∈ [.coast, .probe] := by simp [h]
  unfold probeStep
  split
  next =>
    split
    · exact (acts_setWork .awaitDown hmem).trans (acts_lowerUp false _)
    · split
      · exact acts_breakerFailedHalt (by simp [Past, h])
      · exact .refl b
  next =>
    split
    next =>
      split
      next => exact acts_halt (.inl (by decide)) (.inl (by simp [Past, h]))
      next c hc =>
        refine (acts_setCandidate hmem fun x hx => ?_).trans (acts_startWork c (by rwa [seq_setCandidate]))
        cases hx
        exact chooseCandidate_qualifies hc
    next => exact .refl b
  next => exact acts_advanceWork hmem
  next => exact acts_advanceWork hmem
  next => exact acts_passRaise h
  next =>
    split
    next => exact acts_halt (.inl (by decide)) (.inl (by simp [Past, h]))
    next c hc =>
      split
      next => exact acts_enterConfirm hmem
      next => exact .refl b
      next =>
        split
        · exact acts_halt (.inl (by decide)) (.inl (by simp [Past, h]))
        · exact .refl b
      next =>
        split
        · exact acts_halt (.inl (by decide)) (.inl (by simp [Past, h]))
        · exact .refl b
      all_goals exact acts_halt (.inl (by decide)) (.inl (by simp [Past, h]))
  next => exact .refl b

theorem acts_seqStep (b : Block) : Acts w b (seqStep b) := by
  unfold seqStep
  split
  next => exact .refl b
  next => exact .refl b
  next => exact .refl b
  next h =>
    split
    next =>
      split
      next =>
        have hlower : Acts w b { b with seq := { b.seq with phase := .lowering, timer := none } } :=
          acts_seq (by simp [h]) (.inr (by simp [h, phaseSteps])) rfl fun _ hp => nomatch hp
        exact hlower.trans (acts_lowerUp false _)
      next => exact acts_enterCoast (by simp [h])
    next =>
      split
      · exact acts_breakerFailedHalt (by simp [Past, h])
      · exact .refl b
  next h =>
    split
    · exact acts_enterCoast (by simp [h])
    · exact .refl b
  next h => exact acts_coastStep h
  next h => exact acts_probeStep h
  next => exact .refl b
  next h =>
    split
    · exact acts_halt (.inr ⟨rfl, h⟩) (.inl (by simp [Past, h]))
    · split
      · exact acts_enterClose h
      · exact .refl b
  next h =>
    split
    next hb => exact acts_finishPath (.inr ⟨h, hb⟩)
    next => exact .refl b
    next => exact acts_halt (.inl (by decide)) (.inl (by simp [Past, h]))
  next h =>
    unfold withdrawInHalt
    split
    · exact (Act.withdraws (by simp [h])).run
    · exact .refl b

/-! ## The reactions -/

/-- WAKING may end at this event. -/
def MayWake (b : Block) : Prop := b.cond.mode = .waking ∧ b.cond.restart = none ∧ 2000 ≤ b.cond.modeTimer

/-- Every reaction is a run of changes, or the end of a standby lowering. -/
theorem Reaction.acts_or (h : Reaction b x) (hwakes : MayWake b → w.wakes) : Acts w b x ∨
    b.cond.standbyLowering = true ∧ roofAtRest b = true ∧ noHeldRaise b = true ∧ x = setMode .standby b := by
  cases h
  case guard => exact .inl Act.opens.run
  case release p _ contact _ _ => exact .inl (acts_beginLowering (by rw [contact]; rfl))
  case advance => exact .inl (acts_seqStep b)
  case wake waking adopted due ends =>
    rcases ends with rfl | rfl
    · exact .inl (acts_completeWaking b (hwakes ⟨waking, adopted, due⟩))
    · exact .inl (acts_timeoutWaking b (hwakes ⟨waking, adopted, due⟩))
  case lowered standby rest held => exact .inr ⟨standby, rest, held, rfl⟩
  case ice only => exact .inl only.acts
  case ask p want granted _ _ =>
    refine .inl ((Act.scrapes p want granted).run.trans (acts_takeRaise ⟨?_, .inl (role_setRole_self _ _ _ _)⟩))
    simp only [wantsScraper, Bool.and_eq_true, Bool.not_eq_true'] at want
    obtain ⟨⟨⟨⟨⟨⟨-, -, hhold⟩, -⟩, -⟩, -⟩, -⟩, -⟩ := want
    exact hhold
  case scrape p holds _ => exact .inl ((Act.clears p (.inl holds)).run.trans (acts_takeLower false p _))

theorem Reaction.acts (h : Reaction b x) (hwakes : MayWake b → w.wakes) (hlowers : b.cond.standbyLowering = true → w.lowers) :
    Acts w b x := by
  rcases h.acts_or hwakes with h | ⟨standby, -, -, rfl⟩
  · exact h
  · exact acts_setMode b (.inr (hlowers standby)) (by decide)

theorem Reactions.acts (h : Reactions b x) : Acts ⟨True, True⟩ b x := by
  induction h with
  | refl => exact .refl b
  | tail _ hs ih => exact ih.trans (hs.acts (fun _ => trivial) fun _ => trivial)

/-- What a change leaves of the mode. -/
structure SameMode (w : Ending) (b x : Block) : Prop where
  waking  : x.cond.mode = .waking → b.cond.mode = .waking
  restart : x.cond.restart = b.cond.restart
  fixed   : ¬(w.wakes ∨ w.lowers) → x.cond = { b.cond with
    testStep := x.cond.testStep, selfTest := x.cond.selfTest, faults := x.cond.faults }

theorem Act.sameMode (h : Act w b x) : SameMode w b x := by
  cases h
  case opens =>
    have := openBreaker_cond .internal b
    exact ⟨by rw [this]; exact id, by rw [this], fun _ => by rw [this]⟩
  case serves i _ => cases i <;> exact ⟨id, rfl, fun _ => rfl⟩
  case tests c may mode only =>
    refine ⟨fun hc => ?_, by rw [only], fun hn => absurd may hn⟩
    rcases mode with hm | hm
    · exact hm.symm.trans hc
    · have hc' : c.mode = .waking := hc
      rw [hc'] at hm
      exact absurd hm (by decide)
  case tries c _ _ _ only =>
    rw [only]
    exact ⟨id, rfl, fun _ => rfl⟩
  case stores only =>
    have := congrArg Block.cond only
    exact ⟨by rw [this]; exact id, by rw [this], fun _ => by rw [this]⟩
  case ice only =>
    have := congrArg Block.cond only.frame
    exact ⟨by rw [this]; exact id, by rw [this], fun _ => by rw [this]⟩
  all_goals exact ⟨id, rfl, fun _ => rfl⟩

theorem Acts.fixed (h : Acts w b x) (hw : ¬(w.wakes ∨ w.lowers)) :
    x.cond = { b.cond with testStep := x.cond.testStep, selfTest := x.cond.selfTest, faults := x.cond.faults } := by
  refine h.keep (P := fun y => y.cond = { b.cond with
    testStep := y.cond.testStep, selfTest := y.cond.selfTest, faults := y.cond.faults }) (fun a c hs ha => ?_) rfl
  rw [hs.sameMode.fixed hw, ha]

/-- The reactions where neither WAKING nor a standby lowering may end. -/
theorem Reactions.acts_calm (h : Reactions b x) (hwaking : ¬MayWake b) (hstandby : b.cond.standbyLowering = false) :
    Acts ⟨False, False⟩ b x := by
  induction h with
  | refl => exact .refl b
  | tail _ hs ih =>
    refine ih.trans (hs.acts (fun hm => ?_) fun hl => ?_)
    · rw [MayWake, ih.fixed (by simp)] at hm
      exact hwaking hm
    · rw [ih.fixed (by simp)] at hl
      exact absurd (hl.symm.trans hstandby) (by decide)

/-- The reactions out of WAKING. -/
theorem Reactions.acts_awake (h : Reactions b x) (hwaking : b.cond.mode ≠ .waking) : Acts ⟨False, True⟩ b x := by
  induction h with
  | refl => exact .refl b
  | tail _ hs ih =>
    refine ih.trans (hs.acts (fun hm => ?_) fun _ => trivial)
    have := ih.keep (P := fun y => y.cond.mode ≠ .waking) (fun a c hact ha hc => ha (hact.sameMode.waking hc)) hwaking
    exact this hm.1

/-! ## The end of an event -/

/-- What the close of an event leaves: all but the epoch and the masks. -/
structure Closed (y t : Block) : Prop where
  lift   : t.lift = y.lift
  cal    : t.cal = y.cal
  sw     : t.sw = y.sw
  queue  : t.queue = y.queue
  record : t.record = y.record
  seq    : t.seq = y.seq
  ice    : t.ice = y.ice
  cond   : t.cond = y.cond
  mem    : t.mem = y.mem
  roles  : t.plan.roles = y.plan.roles

theorem closed_close (s y : Block) : Closed y (close s y) := by
  obtain ⟨hlift, hcal, hsw, hqueue, hrecord, hseq, hice, hcond, hmem, hroles⟩ := close_parts s y
  exact ⟨hlift, hcal, hsw, hqueue, hrecord, hseq, hice, hcond, hmem, hroles⟩

theorem Closed.lc {t : Block} (h : Closed y t) (p : Panto) : t.lc p = y.lc p := by rw [Block.lc, h.lift, Block.lc]
theorem Closed.role {t : Block} (h : Closed y t) (p : Panto) : t.role p = y.role p := by
  rw [Block.role, h.roles, Block.role]
theorem Closed.faultCount {t : Block} (h : Closed y t) (k : FaultKind) :
    Sys2Proof.Machine.faultCount k t = Sys2Proof.Machine.faultCount k y := faultCount_of_faults (by rw [h.cond]) k
theorem Closed.engaged {t : Block} (h : Closed y t) : breakerEngaged t = breakerEngaged y :=
  breakerEngaged_of_breaker (by rw [h.sw])

theorem settle_acts (s : Block) (judge : Bool) (b : Block) :
    ∃ y, Acts ⟨True, True⟩ b y ∧ Closed y (settle s judge b) :=
  ⟨_, (reactions_answers s judge b).acts, closed_close s _⟩

theorem settle_acts_calm (s : Block) (judge : Bool) (hwaking : ¬MayWake b) (hstandby : b.cond.standbyLowering = false) :
    ∃ y, Acts ⟨False, False⟩ b y ∧ Closed y (settle s judge b) :=
  ⟨_, (reactions_answers s judge b).acts_calm hwaking hstandby, closed_close s _⟩

theorem settle_acts_awake (s : Block) (judge : Bool) (hwaking : b.cond.mode ≠ .waking) :
    ∃ y, Acts ⟨False, True⟩ b y ∧ Closed y (settle s judge b) :=
  ⟨_, (reactions_answers s judge b).acts_awake hwaking, closed_close s _⟩

end Sys2Proof.Machine
end

section
/-!
What the answers of the blocks leave alone: the faults they do not record, a Sequencer that stands, and a pantograph that
rests, comes down or has dropped.
-/

namespace Sys2Proof.Machine

variable {w : Ending} {b x y s : Block} {p c : Panto}

/-! ## Faults -/

/-- The faults recorded in an answer. -/
def answerKinds : List FaultKind := [.positionLost, .noPantograph, .masterNotReady]

theorem Act.faultCount {k : FaultKind} (h : Act w b x) (hk : k ∉ answerKinds) :
    faultCount k x = Sys2Proof.Machine.faultCount k b := by
  cases h
  case opens => exact faultCount_of_faults (by rw [openBreaker_cond]) k
  case serves i _ => cases i <;> rfl
  case records j v _ kind =>
    refine faultCount_recordFault_ne (fun hj => hk ?_) v b
    subst hj
    rcases kind with kind | ⟨rfl, -⟩
    · exact List.mem_append_left [.masterNotReady] kind
    · decide
  case tests d _ _ only => exact faultCount_of_faults (b := b) (x := { b with cond := d }) (by rw [only]) k
  case tries d _ _ _ only => exact faultCount_of_faults (b := b) (x := { b with cond := d }) (by rw [only]) k
  case stores only => exact faultCount_of_faults (by rw [only]) k
  case ice only => exact faultCount_of_faults (by rw [only.frame]) k
  all_goals rfl

theorem Acts.faultCount {k : FaultKind} (h : Acts w b x) (hk : k ∉ answerKinds) :
    faultCount k x = Sys2Proof.Machine.faultCount k b :=
  h.keep (P := fun y => Sys2Proof.Machine.faultCount k y = Sys2Proof.Machine.faultCount k b)
    (fun _ _ hs ha => (hs.faultCount hk).trans ha) rfl

theorem settle_faultCount {k : FaultKind} (s : Block) (judge : Bool) (b : Block) (hk : k ∉ answerKinds) :
    faultCount k (settle s judge b) = faultCount k b := by
  obtain ⟨y, hacts, hclosed⟩ := settle_acts s judge b
  exact (hclosed.faultCount k).trans (hacts.faultCount hk)

/-! ## A Sequencer that stands -/

/-- No path runs. -/
def Stopped (b : Block) : Prop := b.seq.phase = .idle ∨ b.seq.phase = .halted

/-- What an answer leaves where no path runs. -/
structure Stands (b x : Block) : Prop where
  seq     : x.seq = b.seq
  queue   : x.queue = b.queue
  faults  : x.cond.faults = b.cond.faults
  sw      : x.sw = { b.sw with breaker := x.sw.breaker }
  breaker : x.sw.breaker = b.sw.breaker ∨ breakerEngaged x = false
  record  : x.record = { b.record with tractionOff := x.record.tractionOff, advisory := x.record.advisory }
  request : x.record.tractionOff = b.record.tractionOff ∨ b.seq.phase = .halted ∧ x.record.tractionOff = false

theorem Stands.refl (b : Block) : Stands b b := ⟨rfl, rfl, rfl, rfl, .inl rfl, rfl, .inl rfl⟩

theorem Stands.trans (h : Stands b x) (h' : Stands x y) : Stands b y where
  seq := h'.seq.trans h.seq
  queue := h'.queue.trans h.queue
  faults := h'.faults.trans h.faults
  sw := by rw [h'.sw, h.sw]
  breaker := by
    rcases h'.breaker with hb' | hb'
    · rcases h.breaker with hb | hb
      · exact .inl (hb'.trans hb)
      · exact .inr ((breakerEngaged_of_breaker hb').trans hb)
    · exact .inr hb'
  record := by rw [h'.record, h.record]
  request := by
    rcases h'.request with hr' | ⟨hp, hr'⟩
    · rw [hr']
      exact h.request
    · exact .inr ⟨h.seq ▸ hp, hr'⟩

/-- The path waits in no phase that an answer moves: none runs, or it waits in ARMED or TRACTION_OFF, which nothing but
the end of WAKING ends without a request, a window or a report. -/
def Waits (w : Ending) (b : Block) : Prop := Stopped b ∨ ¬w.wakes ∧ b.seq.phase ∈ [.armed, .tractionOff]

theorem Waits.phase (h : Waits w b) : b.seq.phase ∈ [.idle, .halted, .armed, .tractionOff] := by
  rcases h with (h | h) | ⟨-, h⟩
  · simp [h]
  · simp [h]
  · revert h
    cases b.seq.phase <;> decide

theorem Waits.not_mayHalt (h : Waits w b) : ¬MayHalt w b := by
  rcases h with (h | h) | ⟨hw, h⟩
  · simp [MayHalt, h]
  · simp [MayHalt, h]
  · revert h
    cases hp : b.seq.phase <;> simp [MayHalt, hw, hp]

theorem Stands.of_same (hseq : x.seq = b.seq) (hqueue : x.queue = b.queue) (hfaults : x.cond.faults = b.cond.faults)
    (hsw : x.sw = b.sw) (hrecord : x.record = { b.record with advisory := x.record.advisory }) : Stands b x := by
  refine ⟨hseq, hqueue, hfaults, by rw [hsw], .inl (by rw [hsw]), ?_, .inl (by rw [hrecord])⟩
  have hreq : x.record.tractionOff = b.record.tractionOff := by rw [hrecord]
  rw [hreq]
  exact hrecord

theorem Act.stands (h : Act w b x) (hb : Waits w b) : Stands b x := by
  have hhalt := hb.not_mayHalt
  have hphase := hb.phase
  have hwork : b.seq.phase ∉ [.coast, .probe] := by
    revert hphase
    cases b.seq.phase <;> decide
  cases h
  case opens =>
    have hdis := openBreaker_disengages .internal b
    rw [openBreaker_frame] at hdis ⊢
    exact ⟨rfl, rfl, rfl, rfl, .inr hdis, rfl, .inl rfl⟩
  case closes phase _ _ _ => exact absurd (phase ▸ hphase) (by decide)
  case selects work _ => exact absurd work hwork
  case isolates work _ => exact absurd work hwork
  case grants work _ _ _ _ => exact absurd work hwork
  case records runs _ => exact absurd runs hhalt
  case serves runs => exact absurd runs hhalt
  case halts runs => exact absurd runs hhalt
  case moves q may =>
    have := may.runs
    revert this hphase
    cases b.seq.phase <;> simp
  case finishes phase =>
    rcases phase with ⟨hp, -⟩ | ⟨hp, -⟩
    · exact absurd (hp ▸ hphase) (by decide)
    · exact absurd (hp ▸ hphase) (by decide)
  case withdraws phase =>
    have hhalted : b.seq.phase = .halted := by
      revert phase hphase
      cases b.seq.phase <;> simp
    exact ⟨rfl, rfl, rfl, rfl, .inl rfl, rfl, .inr ⟨hhalted, rfl⟩⟩
  case tests d _ _ only => exact .of_same rfl rfl (by rw [only]) rfl rfl
  case tries d _ _ _ only => exact .of_same rfl rfl (by rw [only]) rfl rfl
  case stores only =>
    rw [only]
    exact .of_same rfl rfl rfl rfl rfl
  case ice only =>
    rw [only.frame]
    exact .of_same rfl rfl rfl rfl rfl
  all_goals exact .of_same rfl rfl rfl rfl rfl

theorem Stands.waits (h : Stands b x) (hb : Waits w b) : Waits w x := by
  rw [Waits, Stopped, h.seq]
  exact hb

theorem Acts.stands (h : Acts w b x) (hb : Waits w b) : Stands b x :=
  h.keep (P := fun y => Stands b y) (fun _ _ hs ha => ha.trans (hs.stands (ha.waits hb))) (.refl b)

theorem Stands.disengaged (h : Stands b x) (hb : breakerEngaged b = false) : breakerEngaged x = false := by
  rcases h.breaker with hs | hs
  · exact (breakerEngaged_of_breaker hs).trans hb
  · exact hs

theorem Stands.closed {t : Block} (h : Stands b y) (hc : Closed y t) : Stands b t where
  seq := hc.seq.trans h.seq
  queue := hc.queue.trans h.queue
  faults := by rw [hc.cond, h.faults]
  sw := by rw [hc.sw]; exact h.sw
  breaker := by rw [hc.sw, hc.engaged]; exact h.breaker
  record := by rw [hc.record]; exact h.record
  request := by rw [hc.record]; exact h.request

/-- A Sequencer that stands keeps its record at the end of the event. -/
theorem settle_stands (s : Block) (judge : Bool) (hb : Stopped b) : Stands b (settle s judge b) := by
  obtain ⟨y, hacts, hclosed⟩ := settle_acts s judge b
  exact (hacts.stands (.inl hb)).closed hclosed

/-- A Sequencer that waits in ARMED or TRACTION_OFF keeps its record at the end of an event outside WAKING. -/
theorem settle_stands_awake (s : Block) (judge : Bool) (hmode : b.cond.mode ≠ .waking)
    (hb : b.seq.phase ∈ [.armed, .tractionOff]) : Stands b (settle s judge b) := by
  obtain ⟨y, hacts, hclosed⟩ := settle_acts_awake s judge hmode
  exact (hacts.stands (.inr ⟨not_false, hb⟩)).closed hclosed

/-! ## A pantograph at rest or coming down -/

/-- The record of a pantograph that no answer moves: LOWERING, DROPPED, OUT_OF_SERVICE, or STOWED while its dwell runs. -/
def Lift.Settled (l : Lift) : Prop :=
  l.state ∈ [.lowering, .dropped, .outOfService] ∨ l.state = .stowed ∧ l.dwellTimer.isSome = true

/-- What an answer may change of such a record: a raise held or discarded, a lower noted, and the pressure of a VALVES
step. -/
structure RestsAs (w : Ending) (l m : Lift) : Prop where
  frame     : m = { l with
    commanded := m.commanded, held := m.held, heldSearch := m.heldSearch, airTimer := m.airTimer, search := m.search
    lowerNoted := m.lowerNoted }
  commanded : l.state ≠ .stowed → m.commanded = l.commanded ∨ w.wakes ∧ m.commanded = 0

theorem RestsAs.refl (l : Lift) : RestsAs w l l := ⟨rfl, fun _ => .inl rfl⟩

theorem RestsAs.state {l m : Lift} (h : RestsAs w l m) : m.state = l.state := by rw [h.frame]

theorem RestsAs.trans {l m n : Lift} (h : RestsAs w l m) (h' : RestsAs w m n) : RestsAs w l n where
  frame := by rw [h'.frame, h.frame]
  commanded hs := by
    rcases h'.commanded (h.state ▸ hs) with h1 | h1
    · rw [h1]
      exact h.commanded hs
    · exact .inr h1

theorem RestsAs.settled {l m : Lift} (h : RestsAs w l m) (hl : l.Settled) : m.Settled := by
  rw [h.frame]
  exact hl

theorem LiftAct.same {l : Lift} (h : LiftAct w b p l) (hp : (b.lc p).Settled) : RestsAs w (b.lc p) l := by
  have hraised : (b.lc p).state.raised = false := by
    rcases hp with hp | ⟨hp, -⟩
    · simp only [List.mem_cons, List.not_mem_nil, or_false] at hp
      rcases hp with hp | hp | hp <;> simp [hp, LiftState.raised]
    · simp [hp, LiftState.raised]
  cases h
  case lowers raised => exact absurd (hraised.symm.trans raised) (by decide)
  case pends contact _ _ => simp [contact, LiftState.raised] at hraised
  case notes => exact ⟨rfl, fun _ => .inl rfl⟩
  case drops => exact ⟨rfl, fun _ => .inl rfl⟩
  case holds => exact ⟨rfl, fun _ => .inl rfl⟩
  case raises stowed _ rested =>
    rcases hp with hp | ⟨-, hdwell⟩
    · simp [stowed] at hp
    · simp [rested] at hdwell
  case vents n step stowed => exact ⟨rfl, fun hs => .inr ⟨stowed.resolve_left hs, rfl⟩⟩
  case tests q n step testable =>
    refine ⟨rfl, fun hs => absurd ?_ hs⟩
    simp only [valveTestable, Bool.and_eq_true, beq_iff_eq] at testable
    exact testable.1.1

theorem Act.lc_eq_or (h : Act w b x) (p : Panto) : x.lc p = b.lc p ∨ LiftAct w b p (x.lc p) := by
  cases h
  case opens => exact .inl (congrArg (fun l => PerP.get l p) (openBreaker_lift .internal b))
  case lift r l may =>
    by_cases hpr : p = r
    · subst hpr
      rw [lc_setLift_self]
      exact .inr may
    · exact .inl (lc_setLift_ne _ _ hpr)
  case serves i _ => cases i <;> exact .inl rfl
  case stores only => exact .inl (by rw [only]; rfl)
  case ice only => exact .inl (by rw [only.frame]; rfl)
  all_goals exact .inl rfl

theorem Act.same (h : Act w b x) (hp : (b.lc p).Settled) : RestsAs w (b.lc p) (x.lc p) := by
  rcases h.lc_eq_or p with heq | hact
  · rw [heq]
    exact .refl _
  · exact hact.same hp

theorem Acts.same (h : Acts w b x) (hp : (b.lc p).Settled) : RestsAs w (b.lc p) (x.lc p) :=
  h.keep (P := fun y => RestsAs w (b.lc p) (y.lc p)) (fun _ _ hs ha => ha.trans (hs.same (ha.settled hp))) (.refl _)

/-! ## The role of a pantograph that is not up -/

/-- A pantograph out of use that no path has for its candidate. -/
structure OutOfUse (p : Panto) (b : Block) : Prop where
  state : (b.lc p).state = .dropped ∨ (b.lc p).state = .outOfService
  path  : Stopped b ∨ b.seq.candidate ≠ some p
  role  : b.role p = .none

theorem Act.role_eq_or (h : Act w b x) (p : Panto) : x.role p = b.role p ∨ x.role p = .none ∨
    x.role p = .collecting ∧ b.seq.candidate = some p ∧ b.seq.phase ∈ [.coast, .probe] ∧ b.role p = .none ∨
    x.role p = .scraping ∧ (b.lc p).state = .stowed ∧ b.role p = .none ∧ b.ice.enable = true := by
  cases h
  case opens => exact .inl (by rw [Block.role, openBreaker_plan, Block.role])
  case clears r _ =>
    by_cases hpr : p = r
    · exact .inr (.inl (hpr ▸ role_clearRole_self r b))
    · exact .inl (role_clearRole_ne b hpr)
  case grants c work candidate free _ _ =>
    by_cases hpc : p = c
    · subst hpc
      exact .inr (.inr (.inl ⟨role_setRole_self _ _ _ _, candidate, work, free⟩))
    · exact .inl (role_setRole_ne _ _ _ hpc)
  case scrapes r want _ =>
    by_cases hpr : p = r
    · subst hpr
      simp only [wantsScraper, Bool.and_eq_true, beq_iff_eq] at want
      obtain ⟨⟨⟨⟨⟨⟨⟨-, henable⟩, -⟩, -⟩, ⟨⟨⟨hstate, hrole⟩, -⟩, -⟩, -⟩, -⟩, -⟩, -⟩ := want
      exact .inr (.inr (.inr ⟨role_setRole_self _ _ _ _, hstate, hrole, henable⟩))
    · exact .inl (role_setRole_ne _ _ _ hpr)
  case serves i _ => cases i <;> exact .inl rfl
  case stores only => exact .inl (by rw [only]; rfl)
  case ice only => exact .inl (by rw [only.frame]; rfl)
  all_goals exact .inl rfl

theorem Act.candidate_eq_or (h : Act w b x) : x.seq.candidate = b.seq.candidate ∨
    ∀ c, x.seq.candidate = some c → collectorQualifies b c = true ∨ stowedQualifies b c = true := by
  cases h
  case opens => exact .inl (by rw [openBreaker_seq])
  case serves i _ => exact .inl (by rw [seq_serveEntry])
  case moves q may =>
    rcases may.candidate with hc | ⟨-, hc⟩
    · exact .inl hc
    · exact .inr hc
  case stores only => exact .inl (by rw [only])
  case ice only => exact .inl (by rw [only.frame])
  all_goals exact .inl rfl

theorem available_of_qualifies (h : collectorQualifies b c = true ∨ stowedQualifies b c = true) : available b c = true := by
  simp only [collectorQualifies, stowedQualifies, Bool.and_eq_true] at h
  rcases h with ⟨-, h⟩ | ⟨-, h⟩ <;> exact h

theorem Act.outOfUse (h : Act w b x) (hb : OutOfUse p b) : OutOfUse p x := by
  have hsettled : (b.lc p).Settled := by
    rcases hb.state with hs | hs <;> exact .inl (by simp [hs])
  refine ⟨by rw [(h.same hsettled).state]; exact hb.state, ?_, ?_⟩
  · rcases hb.path with hstop | hcand
    · exact .inl (by rw [Stopped, (h.stands (.inl hstop)).seq]; exact hstop)
    · right
      rcases h.candidate_eq_or with hc | hc
      · rwa [hc]
      · intro hp
        have havail := available_of_qualifies (hc p hp)
        simp only [available, Bool.and_eq_true, bne_iff_ne, ne_eq] at havail
        rcases hb.state with hs | hs
        · exact havail.1.1 hs
        · exact havail.1.2 hs
  · rcases h.role_eq_or p with hr | hr | ⟨-, hcand, hwork, -⟩ | ⟨-, hstowed, -⟩
    · rw [hr, hb.role]
    · exact hr
    · rcases hb.path with hstop | hne
      · rcases hstop with hs | hs <;> simp [hs] at hwork
      · exact absurd hcand hne
    · rcases hb.state with hs | hs <;> simp [hs] at hstowed

theorem Acts.outOfUse (h : Acts w b x) (hb : OutOfUse p b) : OutOfUse p x := h.keep (fun _ _ hs => hs.outOfUse) hb

end Sys2Proof.Machine
end

section
/-!
Raises and searches taken, held and come due (R29 to R32): the record of the pantograph after each, and the resting part
around it.
-/

namespace Sys2Proof.Machine

variable {b x : Block} {p r : Panto} {search : Bool}

/-! ## The record of a raise and of a search that begins -/

/-- RAISING has begun at pressure 0 (R33). -/
structure BeginsRaise (l m : Lift) : Prop where
  state      : m.state = .raising
  held       : m.held = .none
  air        : m.airTimer = none
  commanded  : m.commanded = 0
  raiseTimer : m.raiseTimer = some 0
  dwell      : m.dwellTimer = l.dwellTimer
  pending    : m.lowerPending = l.lowerPending

/-- A search has begun at step 1, at the pressure `n` (R67). -/
structure BeginsSearch (n : Nat) (l m : Lift) : Prop where
  state     : m.state = .searching
  held      : m.held = .none
  air       : m.airTimer = none
  commanded : m.commanded = n
  record    : ∃ v, m.search = some v ∧ v.phase = .rise ∧ v.step = 1 ∧ v.settle = some 0
  dwell     : m.dwellTimer = l.dwellTimer
  pending   : m.lowerPending = l.lowerPending

theorem beginsRaise_beginWork (p : Panto) (b : Block) : BeginsRaise (b.lc p) ((beginWork p false b).lc p) := by
  obtain ⟨n, hn⟩ := skipValves_lc p p b
  have heq : (beginWork p false b).lc p = (beginRaise p (skipValves p b)).lc p := rfl
  rw [heq, beginRaise, evaluate, setLift_setLift, lc_setLift_self, lc_setLift_self, hn]
  exact ⟨rfl, rfl, rfl, rfl, rfl, rfl, rfl⟩

theorem skipValves_nat (p : Panto) (b : Block) (i : Item) : (skipValves p b).nat i = b.nat i :=
  congrArg (fun c => cfgNat c i) (touches_skipValves p b).cfg

theorem beginsSearch_beginWork (p : Panto) (b : Block) :
    BeginsSearch (min (b.nat .searchStart) (b.nat .pmax)) (b.lc p) ((beginWork p true b).lc p) := by
  obtain ⟨n, hn⟩ := skipValves_lc p p b
  have heq : (beginWork p true b).lc p = (beginSearch p (skipValves p b)).lc p := rfl
  rw [heq, beginSearch, commandStep, lc_setLift_self, lc_setLift_self, setLift_nat, skipValves_nat, skipValves_nat, hn]
  exact ⟨rfl, rfl, rfl, rfl, ⟨_, rfl, rfl, rfl, rfl⟩, rfl, rfl⟩

theorem beginWork_plan (p : Panto) (search : Bool) (b : Block) : (beginWork p search b).plan = b.plan := by
  cases search <;> exact skipValves_plan p b

theorem beginWork_role (p r : Panto) (search : Bool) (b : Block) : (beginWork p search b).role r = b.role r := by
  rw [Block.role, beginWork_plan, Block.role]

/-! ## Where a raise taken goes (R29) -/

theorem takeRaise_dwell (hs : (b.lc p).state = .stowed) (hh : (b.lc p).held = .none)
    (hd : (b.lc p).dwellTimer.isSome = true) : takeRaise p search b = holdRaise p .dwell search b := by
  simp [takeRaise, hs, hh, hd]

theorem takeRaise_air (hs : (b.lc p).state = .stowed) (hh : (b.lc p).held = .none) (hd : (b.lc p).dwellTimer = none)
    (ha : airSufficient b = false) : takeRaise p search b = holdRaise p .air search b := by
  simp [takeRaise, hs, hh, hd, ha]

theorem takeRaise_begins (hs : (b.lc p).state = .stowed) (hh : (b.lc p).held = .none) (hd : (b.lc p).dwellTimer = none)
    (ha : airSufficient b = true) (he : earthOpen b = true) : takeRaise p search b = beginWork p search b := by
  simp [takeRaise, hs, hh, hd, ha, he]

theorem takeRaise_lowering (hs : (b.lc p).state = .lowering) (hh : (b.lc p).held = .none) :
    takeRaise p search b = holdRaise p .behindLowering search b := by
  simp [takeRaise, hs, hh]

theorem lc_holdRaise (p : Panto) (k : Held) (search : Bool) (b : Block) : (holdRaise p k search b).lc p =
    { b.lc p with
      held := k, heldSearch := search, airTimer := if k = .air then some 0 else none
      search := if search then some SearchRec.held else (b.lc p).search } := lc_setLift_self _ _ _

theorem role_discardHeld (p : Panto) (b : Block) : (discardHeld p b).role p = .none := by
  rw [discardHeld_eq]
  exact role_clearRole_self _ _

/-! ## A resting part around an operation on one pantograph -/

theorem Resting.phase_stopped (h : Resting b) : ¬b.seq.NeedsContact := not_needsContact_of_stopped h.phase

/-- The part stays quiet at an operation on one pantograph that leaves it no lower to begin and makes it no scraper. -/
theorem Resting.quiet_touches (h : Resting b) (hn : NoScraper b) (ht : Touches p b x)
    (hlower : (x.lc p).lowerPending = true → (x.lc p).state = .contact → holdsLower x = true)
    (hrole : x.role p ≠ .scraping) : Quiet x where
  toStill := h.still.touches ht
  lowers r hp hc := by
    by_cases hr : r = p
    · subst hr
      exact hlower hp hc
    · obtain ⟨n, hlc, -⟩ := ht.others r hr
      rw [hlc] at hp
      exact absurd ((h.lowers r).symm.trans hp) (by decide)
  adopted := ht.restart.trans h.restart
  scrapers r := by
    by_cases hr : r = p
    · exact hr ▸ hrole
    · rw [ht.role hr]
      exact hn.roles r
  enable := by rw [ht.ice]; exact hn.enable

/-- The others stay as they are at the end of an event that a quiet part settles. -/
theorem SettlesAs.othersStay {s t : State} (h : SettlesAs x t.block) (ht : Touches p s.block x) (hs : Resting s.block) :
    OthersStay p s t := by
  intro r hr
  rw [h.lc, h.roles]
  exact ⟨(ht.steady fun n => hs.valves p n).2 r hr, ht.roles r hr⟩

theorem SettlesAs.role {t : Block} (h : SettlesAs b t) (p : Panto) : t.role p = b.role p := by
  rw [Block.role, h.roles, Block.role]

theorem onceAdopted_of_adopted {f : Block → Block} (h : b.cond.restart = none) : onceAdopted f b = f b := by
  simp [onceAdopted, adoptionWaits, h]

/-! ## The dwell and the air hold (R30 to R32) -/

theorem touches_dwellExpiry (p : Panto) (b : Block) : Touches p b (dwellExpiry p b) := by
  unfold dwellExpiry
  dsimp only
  split
  · exact .refl p b
  · split
    · split
      · exact (touches_setLift p _ b).trans (touches_heldDue p _)
      · exact (touches_setLift p _ b).trans (touches_setLift p _ _)
    · exact touches_setLift p _ b

/-- The dwell is over. -/
def dwelt (p : Panto) (b : Block) : Block := b.setLift p { b.lc p with dwellTimer := none }

theorem lc_dwelt (p : Panto) (b : Block) : (dwelt p b).lc p = { b.lc p with dwellTimer := none } := lc_setLift_self _ _ _

theorem dwellExpiry_due (hd : (b.lc p).dwellTimer.isSome = true) (hs : (b.lc p).state = .stowed)
    (hh : (b.lc p).held = .dwell) (ha : airSufficient b = true) : dwellExpiry p b = heldDue p (dwelt p b) := by
  have hair : airSufficient (dwelt p b) = true := ha
  have hnone : (b.lc p).dwellTimer.isNone = false := by simpa using hd
  simp only [dwellExpiry, hnone, Bool.false_eq_true, if_false]
  change (if ((dwelt p b).lc p).state = .stowed ∧ ((dwelt p b).lc p).held = .dwell then
    if airSufficient (dwelt p b) = true then heldDue p (dwelt p b) else _ else _) = _
  rw [lc_dwelt, if_pos ⟨hs, hh⟩, if_pos hair]

theorem dwellExpiry_air (hd : (b.lc p).dwellTimer.isSome = true) (hs : (b.lc p).state = .stowed)
    (hh : (b.lc p).held = .dwell) (ha : airSufficient b = false) :
    dwellExpiry p b = (dwelt p b).setLift p { (dwelt p b).lc p with held := .air, airTimer := some 0 } := by
  have hair : airSufficient (dwelt p b) = false := ha
  have hnone : (b.lc p).dwellTimer.isNone = false := by simpa using hd
  simp only [dwellExpiry, hnone, Bool.false_eq_true, if_false]
  change (if ((dwelt p b).lc p).state = .stowed ∧ ((dwelt p b).lc p).held = .dwell then
    if airSufficient (dwelt p b) = true then _ else
      (dwelt p b).setLift p { (dwelt p b).lc p with held := .air, airTimer := some 0 } else _) = _
  rw [lc_dwelt, if_pos ⟨hs, hh⟩, if_neg (by simp [hair])]

theorem dwellExpiry_other (h : ¬((b.lc p).dwellTimer.isSome = true ∧ (b.lc p).state = .stowed ∧ (b.lc p).held = .dwell)) :
    dwellExpiry p b = b ∧ (b.lc p).dwellTimer = none ∨ dwellExpiry p b = dwelt p b := by
  cases hd : (b.lc p).dwellTimer
  case none => exact .inl ⟨by simp [dwellExpiry, hd], rfl⟩
  case some n =>
    right
    have hnone : (b.lc p).dwellTimer.isNone = false := by simp [hd]
    simp only [dwellExpiry, hnone, Bool.false_eq_true, if_false]
    change (if ((dwelt p b).lc p).state = .stowed ∧ ((dwelt p b).lc p).held = .dwell then _ else dwelt p b) = _
    rw [lc_dwelt]
    exact if_neg fun hc => h ⟨by simp [hd], hc⟩

/-- What a held raise or search that comes due becomes (R30 to R32). -/
structure ComesDue (p : Panto) (b x : Block) : Prop where
  dwell    : (x.lc p).dwellTimer = (b.lc p).dwellTimer
  pending  : (x.lc p).lowerPending = (b.lc p).lowerPending
  role     : x.role p = b.role p ∨ x.role p = .none
  raises   : earthOpen b = true → (b.lc p).heldSearch = false → BeginsRaise (b.lc p) (x.lc p) ∧ x.role p = b.role p
  searches : earthOpen b = true → (b.lc p).heldSearch = true →
    BeginsSearch (min (b.nat .searchStart) (b.nat .pmax)) (b.lc p) (x.lc p) ∧ x.role p = b.role p
  discards : earthOpen b = false → x.lc p = (b.lc p).discarded ∧ x.role p = .none

theorem comesDue_heldDue (p : Panto) (b : Block) : ComesDue p b (heldDue p b) := by
  have hrole := beginWork_role p p (b.lc p).heldSearch b
  unfold heldDue
  split
  next he =>
    cases hsearch : (b.lc p).heldSearch
    case false =>
      rw [hsearch] at hrole
      have h := beginsRaise_beginWork p b
      exact ⟨h.dwell, h.pending, .inl hrole, fun _ _ => ⟨h, hrole⟩, fun _ (hn : (b.lc p).heldSearch = _) => absurd (hsearch.symm.trans hn) (by decide),
        fun hn => absurd (hn.symm.trans he) (by decide)⟩
    case true =>
      rw [hsearch] at hrole
      have h := beginsSearch_beginWork p b
      exact ⟨h.dwell, h.pending, .inl hrole, fun _ (hn : (b.lc p).heldSearch = _) => absurd (hsearch.symm.trans hn) (by decide), fun _ _ => ⟨h, hrole⟩,
        fun hn => absurd (hn.symm.trans he) (by decide)⟩
  next he =>
    have hlc := lc_discardHeld_self p b
    have hnone := role_discardHeld p b
    exact ⟨by rw [hlc]; rfl, by rw [hlc]; rfl, .inr hnone, fun hn => absurd hn he, fun hn => absurd hn he,
      fun _ => ⟨hlc, hnone⟩⟩

/-- What the end of the dwell leaves of the pantograph, whatever it held. -/
theorem dwellExpiry_leaves (p : Panto) (b : Block) : ((dwellExpiry p b).lc p).dwellTimer = none ∧
    ((dwellExpiry p b).lc p).lowerPending = (b.lc p).lowerPending ∧
    ((dwellExpiry p b).role p = b.role p ∨ (dwellExpiry p b).role p = .none) := by
  by_cases h : (b.lc p).dwellTimer.isSome = true ∧ (b.lc p).state = .stowed ∧ (b.lc p).held = .dwell
  · obtain ⟨hd, hs, hh⟩ := h
    cases ha : airSufficient b
    case true =>
      have hdue := comesDue_heldDue p (dwelt p b)
      rw [dwellExpiry_due hd hs hh ha]
      have hlc := lc_dwelt p b
      exact ⟨hdue.dwell.trans (by rw [hlc]), hdue.pending.trans (by rw [hlc]), hdue.role⟩
    case false =>
      rw [dwellExpiry_air hd hs hh ha, lc_setLift_self, lc_dwelt]
      exact ⟨rfl, rfl, .inl rfl⟩
  · rcases dwellExpiry_other h with ⟨heq, hd⟩ | heq
    · rw [heq]
      exact ⟨hd, rfl, .inl rfl⟩
    · rw [heq, lc_dwelt]
      exact ⟨rfl, rfl, .inl rfl⟩

@[simp] theorem kept_dwellExpiry (p : Panto) (b : Block) : (dwellExpiry p b).kept = b.kept := by
  unfold dwellExpiry
  dsimp only
  split
  · rfl
  · split
    · split <;> simp
    · simp

theorem airHoldExpiry_air (h : (b.lc p).held = .air) :
    airHoldExpiry p b = discardHeld p (recordFault .airLow (.panto p) b) := if_pos h

theorem OthersStay.of_same {s t : State} (h : ∀ r, r ≠ p → t.block.lc r = x.lc r) (hr : t.block.plan.roles = x.plan.roles)
    (hx : ∀ r, r ≠ p → x.lc r = s.block.lc r ∧ x.plan.roles.get r = s.block.plan.roles.get r) : OthersStay p s t :=
  fun r hne => ⟨(h r hne).trans (hx r hne).1, by rw [hr]; exact (hx r hne).2⟩

/-- Settles O22, by the resting part around the expiry. -/
theorem heldRaisesComeDue : Obligations.HeldRaisesComeDue := by
  unfold Obligations.HeldRaisesComeDue
  intro p s hs hn
  constructor
  · obtain ⟨t, ht, hblock⟩ := event_ends s false (onceAdopted (dwellExpiry p))
    rw [onceAdopted_of_adopted hs.restart] at hblock
    have htouch := touches_dwellExpiry p s.block
    obtain ⟨hdwell, hpend, hrole⟩ := dwellExpiry_leaves p s.block
    have hquiet : Quiet (dwellExpiry p s.block) := by
      refine hs.quiet_touches hn htouch (fun hp => ?_) ?_
      · rw [hpend, hs.lowers] at hp
        cases hp
      · rcases hrole with hr | hr
        · rw [hr]
          exact hn.roles p
        · simp [hr]
    have hset : SettlesAs (dwellExpiry p s.block) t.block := hblock ▸ settle_quiet s.block false hquiet
    refine ⟨t, ht, hset.othersStay htouch hs, hset.kept.trans (kept_dwellExpiry p _), ?_, fun hd hst hh => ?_⟩
    · rw [hset.lc, hdwell]
    rw [hset.lc, hset.role]
    refine ⟨fun ha he hsearch => ?_, fun ha he hsearch => ?_, fun ha => ?_, fun ha he => ?_⟩
    · rw [dwellExpiry_due hd hst hh ha]
      have hb := ((comesDue_heldDue p (dwelt p s.block)).raises he (by rwa [lc_dwelt])).1
      exact ⟨hb.state, hb.held⟩
    · rw [dwellExpiry_due hd hst hh ha]
      have hb := ((comesDue_heldDue p (dwelt p s.block)).searches he (by rwa [lc_dwelt])).1
      exact ⟨hb.state, hb.held⟩
    · rw [dwellExpiry_air hd hst hh ha, lc_setLift_self, lc_dwelt]
      exact ⟨hst, rfl, rfl⟩
    · rw [dwellExpiry_due hd hst hh ha]
      obtain ⟨hlc, hnone⟩ := (comesDue_heldDue p (dwelt p s.block)).discards he
      rw [hlc, lc_dwelt]
      exact ⟨hst, rfl, hnone⟩
  · intro hheld
    obtain ⟨t, ht, hblock⟩ := event_ends s false (onceAdopted (airHoldExpiry p))
    rw [onceAdopted_of_adopted hs.restart, airHoldExpiry_air hheld] at hblock
    have hrec : Resting (recordFault .airLow (.panto p) s.block) :=
      ⟨hs.phase, hs.mode, hs.restart, hs.standby, hs.valves, hs.lowers⟩
    have hnrec : NoScraper (recordFault .airLow (.panto p) s.block) := ⟨hn.enable, hn.record, hn.roles⟩
    have htouch := touches_discardHeld p (recordFault .airLow (.panto p) s.block)
    have hlc := lc_discardHeld_self p (recordFault .airLow (.panto p) s.block)
    have hrole := role_discardHeld p (recordFault .airLow (.panto p) s.block)
    have hquiet : Quiet (discardHeld p (recordFault .airLow (.panto p) s.block)) := by
      refine hrec.quiet_touches hnrec htouch (fun hp => ?_) (by simp [hrole])
      rw [hlc] at hp
      exact absurd ((hs.lowers p).symm.trans hp) (by decide)
    have hset : SettlesAs (discardHeld p (recordFault .airLow (.panto p) s.block)) t.block :=
      hblock ▸ settle_quiet s.block false hquiet
    have hsteady := htouch.steady fun n => hs.valves p n
    refine ⟨t, ht, fun r hr => ?_, ?_, ?_, ?_, ?_, ?_, ?_⟩
    · rw [hset.lc, hset.roles]
      exact ⟨hsteady.2 r hr, htouch.roles r hr⟩
    · rw [hset.kept, kept_discardHeld, kept_recordFault]
    · rw [hset.lc, hlc]
      rfl
    · rw [hset.lc, hlc]
      rfl
    · rw [hset.lc, hlc]
      rfl
    · rw [hset.role, hrole]
    · have hfaults := (congrArg Cond.faults hset.cond).trans htouch.faults
      exact (faultCount_of_faults hfaults .airLow).trans (faultCount_recordFault_self _ _ _)

end Sys2Proof.Machine
end

section
/-!
Raise Pn and Raise AUTO (R6, R7): the nine conditions in their order, and the preferred pantograph.
-/

namespace Sys2Proof.Machine

variable {q : Req} {s t : State} {b x : Block} {p r : Panto} {l : Link}

/-! ## The conditions in their order -/

theorem firstUnmet_cons (c : Bool) (r : RefCode) (rows : List (Bool × RefCode)) :
    firstUnmet ((c, r) :: rows) = if c then firstUnmet rows else some r := by
  cases c <;> simp [firstUnmet]

theorem firstUnmet_nil : firstUnmet [] = none := rfl

/-- Conditions 1 to 4, which no pantograph enters. -/
theorem raiseRefusal_eq (p : Panto) (b : Block) : raiseRefusal b = firstUnmet ((raiseConditions p b).take 4) := by
  simp only [raiseConditions, List.take, firstUnmet_cons, firstUnmet_nil, raiseRefusal]
  have hservice : (b.cond.mode == .service && !b.cond.standbyLowering) = inService b := rfl
  have hearth : b.sw.earth.isOpen = earthOpen b := rfl
  rw [hservice, hearth]
  by_cases hp : b.seq.phase = .idle <;> cases inService b <;> cases b.plan.hold <;> cases earthOpen b <;> simp [hp]

theorem otherCollects_eq (b : Block) (p : Panto) :
    (!otherCollects b p) = Panto.all.all fun x => x == p || b.role x != .collecting := by
  rw [otherCollects, List.not_any_eq_all_not]
  congr 1
  funext x
  simp [bne]

/-- Conditions 6 to 9 in the words of the Roof Plan. -/
def laterConditions (p : Panto) (b : Block) : List (Bool × RefCode) := [
  (returning b p || ((b.role p == .none || b.role p == .collecting) && (b.lc p).state != .searching), .busy),
  (returning b p || determinedServed b p, .interlock),
  (returning b p || !otherCollects b p, .interlock),
  (airAllows b p, .airLimit)]

theorem raiseConditions_take5 (p : Panto) (b : Block) :
    (raiseConditions p b).take 5 = (raiseConditions p b).take 4 ++ [(available b p, .notAvailable)] := by
  simp only [raiseConditions, List.take, available, sensorsGood, Bool.and_assoc, List.cons_append, List.nil_append]

theorem raiseConditions_split (p : Panto) (b : Block) :
    raiseConditions p b = (raiseConditions p b).take 5 ++ laterConditions p b := by
  rw [laterConditions, otherCollects_eq]
  rfl

theorem firstUnmet_append (k m : List (Bool × RefCode)) : firstUnmet (k ++ m) = (firstUnmet k).or (firstUnmet m) := by
  induction k with
  | nil => simp [firstUnmet_nil]
  | cons y ys ih =>
    obtain ⟨c, r⟩ := y
    rw [List.cons_append, firstUnmet_cons, firstUnmet_cons, ih]
    cases c <;> simp

theorem alreadyRaised_iff : alreadyRaised b p = true ↔ Collects p b := by
  simp only [alreadyRaised, Collects, Bool.and_eq_true, Bool.or_eq_true, beq_iff_eq, bne_iff_ne, ne_eq]
  cases (b.lc p).state <;> simp [LiftState.up]

/-- The block with COLLECTING given to the pantograph, unless it collects and comes down. -/
def grantedRaise (l : Link) (p : Panto) (b : Block) : Block :=
  if returning b p then b else setRole p .collecting (originOf l) b

theorem raiseNamed_eq (hn : alreadyRaised b p = false) (ha : available b p = true) : raiseNamed l p b =
    match firstUnmet (laterConditions p b) with
    | some c => refuse c b
    | none => effect .accepted (takeRaise p false (grantedRaise l p b)) := by
  simp only [laterConditions, firstUnmet_cons, firstUnmet_nil]
  unfold raiseNamed grantedRaise
  simp only [ha, hn, Bool.not_true, Bool.false_eq_true, if_false]
  by_cases hret : returning b p = true
  · obtain ⟨hrole, hstate⟩ : b.role p = .collecting ∧ (b.lc p).state = .lowering := by
      simpa [returning] using hret
    rw [if_pos ⟨hrole, hstate⟩]
    simp only [hret, Bool.true_or, if_true]
    cases airAllows b p <;> rfl
  · have hret' : ¬(b.role p = .collecting ∧ (b.lc p).state = .lowering) := by simpa [returning] using hret
    rw [if_neg hret']
    simp only [Bool.not_eq_true] at hret
    simp only [hret, Bool.false_or, Bool.false_eq_true, if_false]
    have hbusy : ((b.role p ≠ .none ∧ b.role p ≠ .collecting) ∨ (b.lc p).state = .searching) ↔
        ((b.role p == .none || b.role p == .collecting) && (b.lc p).state != .searching) = false := by
      cases b.role p <;> cases (b.lc p).state <;> simp
    by_cases hb : (b.role p ≠ .none ∧ b.role p ≠ .collecting) ∨ (b.lc p).state = .searching
    · rw [if_pos hb, hbusy.mp hb]
      rfl
    · rw [if_neg hb, eq_true_of_ne_false (hb ∘ hbusy.mpr)]
      cases determinedServed b p <;> cases otherCollects b p <;> cases airAllows b p <;> rfl

/-- The Raise as R6 examines it: five conditions, the case of a pantograph that is up or has a raise held, and four
more. -/
theorem raisePanto_eq (l : Link) (p : Panto) (b : Block) : raisePanto l p b =
    match firstUnmet ((raiseConditions p b).take 5) with
    | some c => refuse c b
    | none =>
      if alreadyRaised b p then unchanged b
      else match firstUnmet (laterConditions p b) with
        | some c => refuse c b
        | none => effect .accepted (takeRaise p false (grantedRaise l p b)) := by
  rw [raiseConditions_take5, firstUnmet_append, ← raiseRefusal_eq, firstUnmet_cons, firstUnmet_nil]
  unfold raisePanto
  cases raiseRefusal b
  case some c => rfl
  case none =>
    cases ha : available b p
    case false => simp [raiseNamed, ha]
    case true =>
      simp only [if_true, Option.or_none]
      cases hn : alreadyRaised b p
      case true => simp [raiseNamed, ha, hn]
      case false => simp [raiseNamed_eq hn ha]

/-! ## A pantograph that the answers spare -/

/-- The pantograph keeps its role, and its record but for the pressure of a VALVES step. -/
structure Spared (p : Panto) (b x : Block) : Prop where
  role : x.plan.roles.get p = b.plan.roles.get p
  lift : ∃ n, x.lc p = { b.lc p with commanded := n } ∧ ((b.lc p).state ≠ .stowed → n = (b.lc p).commanded)

theorem Spared.refl (p : Panto) (b : Block) : Spared p b b := ⟨rfl, _, rfl, fun _ => rfl⟩

theorem Spared.trans {y : Block} (h : Spared p b x) (h' : Spared p x y) : Spared p b y := by
  obtain ⟨hrole, n, hn, hsame⟩ := h
  obtain ⟨hrole', m, hm, hsame'⟩ := h'
  rw [hn] at hm hsame'
  exact ⟨hrole'.trans hrole, m, hm, fun hs => (hsame' hs).trans (hsame hs)⟩

theorem Spared.of_same (hr : x.plan.roles = b.plan.roles) (hl : x.lc p = b.lc p) : Spared p b x :=
  ⟨by rw [hr], _, hl, fun _ => rfl⟩

theorem Touches.spared (h : Touches r b x) (hp : p ≠ r) : Spared p b x := ⟨h.roles p hp, h.others p hp⟩

theorem scrapingRefusal_role (h : scrapingRefusal b r = none) : b.role r = .none := by
  by_contra hne
  have hbusy : b.role r ≠ .none ∨ (b.lc r).state ≠ .stowed := .inl hne
  simp only [scrapingRefusal, if_pos hbusy] at h
  repeat' split at h
  all_goals cases h

/-- While no path runs, the answers spare a pantograph that collects or calibrates and has no lower to begin. -/
theorem Reactions.spares (h : Reactions b x) (hb : Still b) (hrole : b.role p ≠ .none) (hns : b.role p ≠ .scraping)
    (hlow : (b.lc p).lowerPending = true → (b.lc p).state ≠ .contact) : Spared p b x := by
  refine (h.keep_still hb (P := Spared p b) (fun a c ha hs hsp => ?_) (.refl p b)).2
  have harole : a.role p = b.role p := by rw [Block.role, hsp.role, Block.role]
  cases hs
  case guard => exact hsp.trans (.of_same (by rw [openBreaker_plan]) (openBreaker_lc _ _ _))
  case release r pending contact _ _ =>
    refine hsp.trans ((touches_setLift r _ a).spared fun hpr => ?_)
    subst hpr
    obtain ⟨-, n, hn, -⟩ := hsp
    rw [hn] at pending contact
    exact hlow pending contact
  case withdraw => exact hsp.trans (.of_same rfl rfl)
  case ice only => exact hsp.trans (.of_same (by rw [only.frame]) (by rw [only.frame]; rfl))
  case ask r want granted _ =>
    have hset : Spared p a (setScraper (some r) a) := .of_same rfl rfl
    refine hsp.trans (hset.trans ((touches_ask r a).spared fun hpr => ?_))
    subst hpr
    exact hrole (harole.symm.trans (scrapingRefusal_role granted))
  case scrape r holds _ =>
    refine hsp.trans ((touches_scrape ha.calm).spared fun hpr => ?_)
    subst hpr
    exact hns (harole.symm.trans holds)

theorem settle_spares (s : Block) (judge : Bool) (hb : Still b) (hrole : b.role p ≠ .none) (hns : b.role p ≠ .scraping)
    (hlow : (b.lc p).lowerPending = true → (b.lc p).state ≠ .contact) : Spared p b (settle s judge b) :=
  ((reactions_answers s judge b).spares hb hrole hns hlow).trans
    (.of_same (close_roles s (answers s judge b)) (close_lc s (answers s judge b) p))

/-! ## Raise Pn -/

theorem plan_setLift_roles (p : Panto) (k : Held) (search : Bool) (b : Block) :
    (holdRaise p k search b).plan = b.plan := rfl

/-- What a raise taken leaves of the pantograph, by where it stands (R29). -/
structure TakesRaise (p : Panto) (b x : Block) : Prop where
  role     : x.plan.roles.get p = b.plan.roles.get p
  calm     : (x.lc p).state ≠ .contact
  begins   : (b.lc p).state = .stowed → (b.lc p).dwellTimer = none → airSufficient b = true →
    BeginsRaise (b.lc p) (x.lc p)
  dwells   : (b.lc p).state = .stowed → (b.lc p).dwellTimer.isSome = true →
    (x.lc p).state = .stowed ∧ (x.lc p).held = .dwell
  airs     : (b.lc p).state = .stowed → (b.lc p).dwellTimer = none → airSufficient b = false →
    (x.lc p).state = .stowed ∧ (x.lc p).held = .air ∧ (x.lc p).airTimer = some 0
  follows  : (b.lc p).state = .lowering → (x.lc p).state = .lowering ∧ (x.lc p).held = .behindLowering

theorem takesRaise (he : earthOpen b = true) (hh : (b.lc p).held = .none)
    (hs : (b.lc p).state = .stowed ∨ (b.lc p).state = .lowering) : TakesRaise p b (takeRaise p false b) := by
  rcases hs with hs | hs
  · cases hd : (b.lc p).dwellTimer
    case some n =>
      rw [takeRaise_dwell hs hh (by simp [hd])]
      constructor <;> simp [lc_holdRaise, plan_setLift_roles, hs, hd]
    case none =>
      cases ha : airSufficient b
      case false =>
        rw [takeRaise_air hs hh hd ha]
        constructor <;> simp [lc_holdRaise, plan_setLift_roles, hs, hd, ha]
      case true =>
        rw [takeRaise_begins hs hh hd ha he]
        have h := beginsRaise_beginWork p b
        refine ⟨by rw [beginWork_plan], by simp [h.state], fun _ _ _ => h, ?_, ?_, ?_⟩ <;> simp [hs, hd, ha]
  · rw [takeRaise_lowering hs hh]
    constructor <;> simp [lc_holdRaise, plan_setLift_roles, hs]

theorem MayRaise.conditions (h : MayRaise p b) (hs : (b.lc p).state = .stowed ∨ (b.lc p).state = .lowering) :
    firstUnmet ((raiseConditions p b).take 5) = none ∧ firstUnmet (laterConditions p b) = none ∧
      returning b p = false := by
  obtain ⟨hmode, hstandby, hhold, hphase, hearth, havail, hfree, ⟨sys, hdet, hserves⟩, halone, hair⟩ := h
  have hret : returning b p = false := by simp [returning, hfree]
  have hother : otherCollects b p = false := by
    rw [otherCollects, List.any_eq_false]
    intro r _
    simp [halone r]
  have hserved : determinedServed b p = true := by simp [determinedServed, hdet, hserves]
  refine ⟨?_, ?_, hret⟩
  · rw [raiseConditions_take5, firstUnmet_append, ← raiseRefusal_eq, firstUnmet_cons, firstUnmet_nil, havail]
    simp [raiseRefusal, inService, hmode, hstandby, hhold, hphase, hearth]
  · rcases hs with hs | hs <;>
      simp [laterConditions, firstUnmet_cons, firstUnmet_nil, hret, hfree, hs, hserved, hother, hair]

/-! ## A running path after its start -/

/-- A path of a kind runs, or has halted, and has come to no phase at whose end it is over. -/
structure OnPath (k : Path) (b : Block) : Prop where
  path  : b.seq.path = some k
  phase : b.seq.phase ∉ [.idle, .masterReady, .close]

theorem Act.onPath {w : Ending} {k : Path} (hk : k ≠ .zone) (h : Act w b x) (hb : OnPath k b) : OnPath k x := by
  obtain ⟨hpath, hphase⟩ := hb
  cases h
  case opens => exact ⟨by rw [openBreaker_seq, hpath], by rwa [openBreaker_seq]⟩
  case serves i _ => exact ⟨by rw [seq_serveEntry, hpath], by rwa [seq_serveEntry]⟩
  case halts => exact ⟨hpath, by simp⟩
  case moves v may =>
    have hframe := congrArg Seq.path may.frame
    refine ⟨hframe.trans hpath, ?_⟩
    rcases may.phase with hsame | hstep
    · rwa [← hsame] at hphase
    · have hnot : b.seq.phase ≠ .masterReady := fun hm => hphase (by simp [hm])
      revert hstep hnot
      cases b.seq.phase <;> cases v.phase <;> simp [phaseSteps]
  case finishes phase =>
    rcases phase with ⟨-, hz⟩ | ⟨hc, -⟩
    · simp [zoneWithoutSystem, hpath, hk] at hz
    · simp [hc] at hphase
  case stores only =>
    have := congrArg Block.seq only
    exact ⟨by rw [this, hpath], by rwa [this]⟩
  case ice only =>
    have := congrArg Block.seq only.frame
    exact ⟨by rw [this, hpath], by rwa [this]⟩
  all_goals exact ⟨hpath, hphase⟩

theorem settle_onPath {k : Path} (hk : k ≠ .zone) (s : Block) (judge : Bool) (hb : OnPath k b) :
    OnPath k (settle s judge b) := by
  obtain ⟨y, hacts, hclosed⟩ := settle_acts s judge b
  have hy := hacts.keep (fun _ _ hs => hs.onPath hk) hb
  exact ⟨by rw [hclosed.seq, hy.path], by rw [hclosed.seq]; exact hy.phase⟩

end Sys2Proof.Machine
end

section
/-!
The start of a path (R128): the record it begins with, what it leaves alone, and the pantographs it does not touch.
-/

namespace Sys2Proof.Machine

variable {b x y : Block} {p r c : Panto}

/-! ## Operations on the pantographs that halt nothing -/

/-- `x` comes of `b` by operations on pantographs: the Sequencer, the queue and the records stay. -/
structure Around (b x : Block) : Prop where
  seq      : x.seq = b.seq
  queue    : x.queue = b.queue
  record   : x.record = b.record
  ice      : x.ice = b.ice
  cond     : x.cond = { b.cond with testStep := x.cond.testStep, selfTest := x.cond.selfTest }
  switches : x.sw = { b.sw with breaker := x.sw.breaker }
  breaker  : x.sw.breaker = b.sw.breaker ∨ breakerEngaged x = false
  plan     : x.plan = { b.plan with roles := x.plan.roles }
  sensors  : x.sensors = b.sensors

theorem Touches.around (h : Touches p b x) : Around b x :=
  ⟨h.seq, h.queue, h.record, h.ice, h.cond, h.switches, h.breaker, h.plan, h.sensors⟩

theorem Around.refl (b : Block) : Around b b := (Touches.refl .p1 b).around

theorem Around.trans (h : Around b x) (h' : Around x y) : Around b y where
  seq := h'.seq.trans h.seq
  queue := h'.queue.trans h.queue
  record := h'.record.trans h.record
  ice := h'.ice.trans h.ice
  cond := by rw [h'.cond, h.cond]
  switches := by rw [h'.switches, h.switches]
  breaker := by
    rcases h'.breaker with hb' | hb'
    · rcases h.breaker with hb | hb
      · exact .inl (hb'.trans hb)
      · exact .inr ((breakerEngaged_of_breaker hb').trans hb)
    · exact .inr hb'
  plan := by rw [h'.plan, h.plan]
  sensors := h'.sensors.trans h.sensors

theorem Around.faults (h : Around b x) : x.cond.faults = b.cond.faults := by rw [h.cond]
theorem Around.mode (h : Around b x) : x.cond.mode = b.cond.mode := by rw [h.cond]
theorem Around.disengaged (h : Around b x) (hb : breakerEngaged b = false) : breakerEngaged x = false := by
  rcases h.breaker with hs | hs
  · exact (breakerEngaged_of_breaker hs).trans hb
  · exact hs

theorem around_report (k : Nat) (b : Block) : Around b (report k b) :=
  ⟨rfl, rfl, rfl, rfl, rfl, rfl, .inl rfl, rfl, rfl⟩

/-- An operation on each pantograph in turn, while no candidate has to stay in CONTACT. -/
theorem around_eachPanto {f : Panto → Block → Block}
    (hf : ∀ p a, ¬a.seq.NeedsContact → Touches p a (f p a)) (h : ¬b.seq.NeedsContact) : Around b (eachPanto f b) := by
  have h1 := (hf .p1 b h).around
  have h2 := h1.trans (hf .p2 _ (by rwa [h1.seq])).around
  have h3 := h2.trans (hf .p3 _ (by rwa [h2.seq])).around
  exact h3.trans (hf .p4 (f .p3 (f .p2 (f .p1 b))) (by rwa [h3.seq])).around

/-- An operation on each pantograph that leaves one as it is. -/
theorem spared_eachPanto {f : Panto → Block → Block} {P : Block → Prop}
    (hf : ∀ r a, ¬a.seq.NeedsContact → Touches r a (f r a))
    (hp : ∀ a, P a → f p a = a) (hkeep : ∀ a c, Spared p a c → Around a c → P a → P c)
    (h : ¬b.seq.NeedsContact) (hb : P b) : Spared p b (eachPanto f b) ∧ P (eachPanto f b) := by
  have hone (r : Panto) (a : Block) (ha : ¬a.seq.NeedsContact) (hpa : P a) : Spared p a (f r a) ∧ P (f r a) ∧
      ¬(f r a).seq.NeedsContact := by
    have ht := hf r a ha
    by_cases hr : r = p
    · subst hr
      rw [hp a hpa]
      exact ⟨.refl _ _, hpa, ha⟩
    · have hs := ht.spared (p := p) (Ne.symm hr)
      exact ⟨hs, hkeep _ _ hs ht.around hpa, by rwa [ht.seq]⟩
  obtain ⟨h1, hp1, hc1⟩ := hone .p1 b h hb
  obtain ⟨h2, hp2, hc2⟩ := hone .p2 _ hc1 hp1
  obtain ⟨h3, hp3, hc3⟩ := hone .p3 _ hc2 hp2
  obtain ⟨h4, hp4, -⟩ := hone .p4 _ hc3 hp3
  exact ⟨((h1.trans h2).trans h3).trans h4, hp4⟩

/-! ## What the start of a path ends -/

theorem touches_abortOne (p : Panto) (h : ¬b.seq.NeedsContact) : Touches p b
    (if (b.lc p).state = .searching then abortSearch p b else if (b.lc p).heldSearch then discardHeld p b else b) := by
  split
  · exact touches_abortSearch h
  · split
    · exact touches_discardHeld p b
    · exact .refl p b

theorem touches_discardOne (p : Panto) (b : Block) :
    Touches p b (if (b.lc p).held ≠ .none then discardHeld p b else b) := by
  split
  · exact touches_discardHeld p b
  · exact .refl p b

theorem touches_lowerOne (p : Panto) (h : ¬b.seq.NeedsContact) :
    Touches p b (if b.role p = .scraping then takeLower false p (clearRole p b) else b) := by
  split
  · exact touches_scrape h
  · exact .refl p b

theorem around_abortSearches (h : ¬b.seq.NeedsContact) : Around b (abortSearches b) := by
  unfold abortSearches onceAdopted
  split
  · exact .refl b
  · exact around_eachPanto (fun p _ ha => touches_abortOne p ha) h

theorem around_discardAllHeld (h : ¬b.seq.NeedsContact) : Around b (discardAllHeld b) :=
  around_eachPanto (fun p a _ => touches_discardOne p a) h

theorem around_lowerScrapers (h : ¬b.seq.NeedsContact) : Around b (lowerScrapers b) :=
  around_eachPanto (fun p _ ha => touches_lowerOne p ha) h

theorem around_clearForPath (h : ¬b.seq.NeedsContact) : Around b (clearForPath b) := by
  have h1 := around_abortSearches h
  have h2 := h1.trans (around_discardAllHeld (by rwa [h1.seq]))
  have h3 := h2.trans (around_lowerScrapers (by rwa [h2.seq]))
  exact h3.trans (around_report 5 _)

/-- A pantograph with no raise, search or scraping to end. -/
structure Untouched (p : Panto) (b : Block) : Prop where
  state  : (b.lc p).state ≠ .searching
  held   : (b.lc p).held = .none
  search : (b.lc p).heldSearch = false
  role   : b.role p ≠ .scraping

theorem Untouched.spared (h : Untouched p b) (hs : Spared p b x) : Untouched p x := by
  obtain ⟨hrole, n, hn, -⟩ := hs
  refine ⟨by rw [hn]; exact h.state, by rw [hn]; exact h.held, by rw [hn]; exact h.search, ?_⟩
  rw [Block.role, hrole]
  exact h.role

theorem spared_clearForPath (h : ¬b.seq.NeedsContact) (hp : Untouched p b) : Spared p b (clearForPath b) := by
  have hkeep (a d : Block) (hs : Spared p a d) (_ : Around a d) (ha : Untouched p a) : Untouched p d := ha.spared hs
  have h1 : Spared p b (abortSearches b) ∧ Untouched p (abortSearches b) := by
    unfold abortSearches onceAdopted
    split
    · exact ⟨.refl p b, hp⟩
    · refine spared_eachPanto (P := Untouched p) (fun r _ ha => touches_abortOne r ha) (fun a ha => ?_) hkeep h hp
      rw [if_neg ha.state, ha.search]
      rfl
  have hseq1 := (around_abortSearches h).seq
  have hreport (a : Block) : Spared p a (report 5 a) := .of_same rfl rfl
  unfold clearForPath
  generalize abortSearches b = y at h1 hseq1 ⊢
  have hy : ¬y.seq.NeedsContact := by rwa [hseq1]
  have h2 : Spared p y (discardAllHeld y) ∧ Untouched p (discardAllHeld y) :=
    spared_eachPanto (P := Untouched p) (fun r a _ => touches_discardOne r a)
      (fun a ha => if_neg (not_not.mpr ha.held)) hkeep hy h1.2
  have hseq2 : (discardAllHeld y).seq = y.seq := (around_discardAllHeld hy).seq
  generalize discardAllHeld y = z at h2 hseq2 ⊢
  have hz : ¬z.seq.NeedsContact := by rwa [hseq2]
  have h3 : Spared p z (lowerScrapers z) ∧ Untouched p (lowerScrapers z) :=
    spared_eachPanto (P := Untouched p) (fun r a ha => touches_lowerOne r ha) (fun a ha => if_neg ha.role) hkeep hz h2.2
  exact (h1.1.trans h2.1).trans (h3.1.trans (hreport _))

@[simp] theorem kept_clearForPath (b : Block) : (clearForPath b).kept = b.kept := by simp [clearForPath]

/-! ## SELECT and IDENTIFY -/

theorem enterBreakerOpen_facts (b : Block) (hlate : b.seq.lateMark = false) :
    enterBreakerOpen b = openBreaker .internal { b with seq := { b.seq with phase := .breakerOpen, timer := none } } := by
  simp [enterBreakerOpen, hlate]

/-- The record that a selected or identifying path starts with. -/
def selectedSeq (k : Path) (expected : Option LineSystem) (expectedHead : Option Head) (engaged : Bool) : Seq where
  phase := if engaged then .tractionOff else .breakerOpen
  path := some k
  activeEntry := none
  lateMark := false
  expected := expected
  expectedHead := expectedHead
  candidate := none
  retry := false
  mismatch := false
  work := .none
  timer := if engaged then some 0 else none
  haltReason := none

/-- The start of a selected or identifying path (R128, R130). -/
structure StartsSelected (k : Path) (expected : Option LineSystem) (expectedHead : Option Head) (b x : Block) : Prop where
  seq     : x.seq = selectedSeq k expected expectedHead (breakerEngaged b)
  kept    : x.kept = { b.kept with serial := wrapSucc b.record.serial, readyA := none, readyB := none }
  request : breakerEngaged b = true → x.record.tractionOff = true
  mode    : x.cond.mode = b.cond.mode

theorem startsSelected {k : Path} (hk : Path.carries k = false) (expected : Option LineSystem)
    (expectedHead : Option Head) (b : Block) :
    StartsSelected k expected expectedHead b (startSelected k expected expectedHead b) := by
  have hcalm (phase : Phase) (hp : phase = .tractionOff ∨ phase = .breakerOpen) :
      ¬(pathRecords k none false expected expectedHead phase b).seq.NeedsContact := by
    rcases hp with rfl | rfl <;> simp [Seq.NeedsContact, pathRecords]
  have hkept (phase : Phase) : (startPath k none false expected expectedHead phase b).kept =
      { b.kept with serial := wrapSucc b.record.serial, readyA := none, readyB := none } := by
    rw [startPath_eq, kept_clearForPath]
    simp only [pathRecords, hk, Bool.false_eq_true, if_false]
    rfl
  have hstart (phase : Phase) (hp : phase = .tractionOff ∨ phase = .breakerOpen) :
      Around (pathRecords k none false expected expectedHead phase b)
        (startPath k none false expected expectedHead phase b) := by
    rw [startPath_eq]
    exact around_clearForPath (hcalm phase hp)
  unfold startSelected
  split
  next he =>
    have ha := hstart .tractionOff (.inl rfl)
    have hk' := hkept .tractionOff
    generalize startPath k none false expected expectedHead .tractionOff b = y at ha hk' ⊢
    refine ⟨?_, (kept_enterTractionOff y).trans hk', fun _ => rfl, ha.mode⟩
    simp only [enterTractionOff, setTractionOff, ha.seq, he]
    rfl
  next he =>
    simp only [Bool.not_eq_true] at he
    have ha := hstart .breakerOpen (.inr rfl)
    have hk' := hkept .breakerOpen
    generalize startPath k none false expected expectedHead .breakerOpen b = y at ha hk' ⊢
    have hlate : y.seq.lateMark = false := by
      rw [ha.seq]
      rfl
    rw [enterBreakerOpen_facts _ hlate]
    refine ⟨?_, (kept_openBreaker _ _).trans hk', fun hn => absurd (he.symm.trans hn) (by decide), ?_⟩
    · rw [openBreaker_seq, he]
      simp only [ha.seq]
      rfl
    · rw [openBreaker_cond]
      exact ha.mode

theorem StartsSelected.onPath {k : Path} {expected : Option LineSystem} {expectedHead : Option Head}
    (h : StartsSelected k expected expectedHead b x) : OnPath k x := by
  refine ⟨by rw [h.seq]; rfl, ?_⟩
  rw [h.seq]
  simp only [selectedSeq]
  split <;> decide

end Sys2Proof.Machine
end

section
/-!
Raise Pn and Raise AUTO settled (R6, R7, R29), Select System and Clear Halt (R128, R130, R142).
-/

namespace Sys2Proof.Machine

variable {q : Req} {s t : State} {b x : Block} {p r : Panto} {l : Link}

theorem touches_refresh (p : Panto) (l : Link) (b : Block) : Touches p b (refresh l b) :=
  .of_frame rfl rfl rfl rfl rfl rfl rfl rfl (fun _ _ => rfl) (fun _ _ => rfl) fun _ _ => rfl

theorem touches_pushReply (p : Panto) (l : Link) (v : Reply) (b : Block) : Touches p b (pushReply l v b) :=
  .of_frame rfl rfl rfl rfl rfl rfl rfl rfl (fun _ _ => rfl) (fun _ _ => rfl) fun _ _ => rfl

/-! ## Raise Pn -/

theorem raisePanto_unmet {c : RefCode} (h : firstUnmet ((raiseConditions p b).take 5) = some c) :
    raisePanto l p b = refuse c b := by rw [raisePanto_eq, h]

theorem raisePanto_collects (h : firstUnmet ((raiseConditions p b).take 5) = none) (hc : Collects p b) :
    raisePanto l p b = unchanged b := by
  rw [raisePanto_eq, h]
  exact if_pos (alreadyRaised_iff.mpr hc)

theorem raisePanto_refused {c : RefCode} (hc : ¬Collects p b) (h : firstUnmet (raiseConditions p b) = some c) :
    raisePanto l p b = refuse c b := by
  rw [raiseConditions_split, firstUnmet_append] at h
  rw [raisePanto_eq]
  cases h5 : firstUnmet ((raiseConditions p b).take 5)
  case some d =>
    rw [h5] at h
    cases h
    rfl
  case none =>
    rw [h5, Option.none_or] at h
    exact (if_neg (hc ∘ alreadyRaised_iff.mp)).trans (by rw [h])

theorem raisePanto_taken (hc : ¬Collects p b) (h : firstUnmet (raiseConditions p b) = none) :
    raisePanto l p b = effect .accepted (takeRaise p false (grantedRaise l p b)) := by
  rw [raiseConditions_split, firstUnmet_append, Option.or_eq_none_iff] at h
  rw [raisePanto_eq, h.1]
  exact (if_neg (hc ∘ alreadyRaised_iff.mp)).trans (by rw [h.2])

@[simp] theorem kept_grantedRaise (l : Link) (p : Panto) (b : Block) : (grantedRaise l p b).kept = b.kept := by
  unfold grantedRaise
  split <;> rfl

theorem airSufficient_of_kept (h : x.kept = b.kept) : airSufficient x = airSufficient b := by
  have hsensors : x.sensors = b.sensors := congrArg Kept.sensors h
  have hcfg : x.cond.cfg = b.cond.cfg := congrArg Kept.cfg h
  unfold airSufficient Block.cfg
  rw [hsensors, hcfg]

/-- The end of a Raise that is taken. -/
theorem raise_ends (hq : Leads q s.block) (hc : ¬Collects p s.block) (h : firstUnmet (raiseConditions p s.block) = none) :
    ∃ t, exec (.raise q p) s = .next t ∧ EndsAs s t q 0x05
      (effect .accepted (takeRaise p false (grantedRaise q.link p (refresh q.link s.block)))) :=
  request_ends_as (examine_leader hq) (raisePanto_taken (b := refresh q.link s.block) hc h) (by
    simp only [effect, kept_takeRaise, kept_grantedRaise])

theorem grantedRaise_role (l : Link) (p : Panto) (b : Block) : (grantedRaise l p b).role p = .collecting := by
  unfold grantedRaise
  split
  next h =>
    simp only [returning, Bool.and_eq_true, beq_iff_eq] at h
    exact h.1
  next => exact role_setRole_self _ _ _ _

theorem touches_grantedRaise (l : Link) (p : Panto) (b : Block) : Touches p b (grantedRaise l p b) := by
  unfold grantedRaise
  split
  · exact .refl p b
  · exact touches_setRole p _ _ b

theorem grantedRaise_lc (l : Link) (p r : Panto) (b : Block) : (grantedRaise l p b).lc r = b.lc r := by
  unfold grantedRaise
  split <;> rfl

theorem held_of_not_collects (hret : returning b p = true) (hc : ¬Collects p b) : (b.lc p).held = .none := by
  simp only [returning, Bool.and_eq_true, beq_iff_eq] at hret
  by_contra hh
  exact hc ⟨hret.1, .inr (.inr hh)⟩

/-- The conditions of a Raise on the part (R6). -/
theorem service_of_conditions (h : firstUnmet ((raiseConditions p b).take 4) = none) :
    b.cond.mode = .service ∧ b.cond.standbyLowering = false ∧ b.plan.hold = false ∧ b.seq.phase = .idle ∧
      earthOpen b = true := by
  rw [← raiseRefusal_eq] at h
  unfold raiseRefusal inService at h
  cases hm : b.cond.mode == .service <;> cases hs : b.cond.standbyLowering <;> cases hh : b.plan.hold <;>
    cases he : earthOpen b <;> by_cases hp : b.seq.phase = .idle <;> simp_all

theorem conditions_take4 (h : firstUnmet (raiseConditions p b) = none) :
    firstUnmet ((raiseConditions p b).take 4) = none := by
  rw [raiseConditions_split, firstUnmet_append, Option.or_eq_none_iff, raiseConditions_take5, firstUnmet_append,
    Option.or_eq_none_iff] at h
  exact h.1.1

/-- What a Raise taken leaves of a pantograph that is STOWED or in LOWERING with no raise held. -/
theorem takesRaise_granted (h4 : firstUnmet ((raiseConditions p b).take 4) = none)
    (hh : (b.lc p).held = .none) (hs : (b.lc p).state = .stowed ∨ (b.lc p).state = .lowering) :
    TakesRaise p (grantedRaise l p (refresh l b)) (takeRaise p false (grantedRaise l p (refresh l b))) := by
  obtain ⟨-, -, -, -, hearth⟩ := service_of_conditions h4
  have hgrant := touches_grantedRaise l p (refresh l b)
  have hlc : (grantedRaise l p (refresh l b)).lc p = b.lc p := grantedRaise_lc _ _ _ _
  generalize grantedRaise l p (refresh l b) = c at hgrant hlc
  have hearth' : earthOpen c = true := by
    have := congrArg Switches.earth hgrant.switches
    rw [earthOpen, this]
    exact hearth
  exact takesRaise hearth' (by rwa [hlc]) (by rwa [hlc])

/-- A Raise that is taken where the pantograph is STOWED or in LOWERING with no raise held, and its end. -/
theorem raise_spares (h4 : firstUnmet ((raiseConditions p s.block).take 4) = none)
    (hh : (s.block.lc p).held = .none) (hs : (s.block.lc p).state = .stowed ∨ (s.block.lc p).state = .lowering)
    (he : EndsAs s t q 0x05 (effect .accepted (takeRaise p false (grantedRaise q.link p (refresh q.link s.block))))) :
    Spared p (takeRaise p false (grantedRaise q.link p (refresh q.link s.block))) t.block := by
  obtain ⟨hmode, hstandby, -, hphase, -⟩ := service_of_conditions h4
  have hraise := takesRaise_granted (l := q.link) h4 hh hs
  have hgrant := touches_grantedRaise q.link p (refresh q.link s.block)
  have hgranted := grantedRaise_role q.link p (refresh q.link s.block)
  generalize grantedRaise q.link p (refresh q.link s.block) = c at hgrant hraise hgranted he ⊢
  have htouch := (touches_refresh p q.link s.block).trans (hgrant.trans (touches_takeRaise p false c))
  have hblock := he.settles
  generalize takeRaise p false c = x at hraise htouch hblock ⊢
  have hrole : (pushReply q.link (plainReply 0x05 q .accepted) x).role p = .collecting := by
    rw [pushReply_role, Block.role, hraise.role]
    exact hgranted
  have hstill : Still (pushReply q.link (plainReply 0x05 q .accepted) x) :=
    Still.touches ⟨.inl hphase, by simp [hmode], hstandby⟩ (htouch.trans (touches_pushReply p _ _ x))
  have hreply : Spared p x (pushReply q.link (plainReply 0x05 q .accepted) x) := .of_same rfl rfl
  rw [hblock]
  exact hreply.trans (settle_spares s.block false hstill (by rw [hrole]; decide) (by rw [hrole]; decide)
    fun _ => hraise.calm)

/-! ## Raise AUTO -/

theorem raiseAuto_unmet {c : RefCode} (h : raiseRefusal b = some c) : raiseAutoOf l b = refuse c b := by
  simp [raiseAutoOf, h]

theorem raiseAuto_identifies (h : raiseRefusal b = none) (hd : b.record.determined = none) :
    raiseAutoOf l b = effect .accepted (startIdentify b) := by
  simp [raiseAutoOf, h, hd]

theorem servedCollector_iff {sys : LineSystem} (hd : b.record.determined = some sys) :
    servedCollector b = true ↔ ∃ x, b.role x = .collecting ∧ serves (b.head x) sys = true := by
  simp [servedCollector, determinedServed, hd, Panto.mem_all]

theorem raiseAuto_served (h : raiseRefusal b = none) (hd : b.record.determined ≠ none) (hs : servedCollector b = true) :
    raiseAutoOf l b = unchanged b := by
  simp [raiseAutoOf, h, hd, hs]

theorem raiseAuto_none (h : raiseRefusal b = none) (hd : b.record.determined ≠ none) (hs : servedCollector b = false)
    (hp : preferredPanto b = none) : raiseAutoOf l b = refuse .notAvailable b := by
  simp [raiseAutoOf, h, hd, hs, hp]

theorem raiseAuto_preferred (hd : b.record.determined ≠ none) (hs : servedCollector b = false)
    (hp : preferredPanto b = some p) : raiseAutoOf l b = raisePanto l p b := by
  unfold raiseAutoOf raisePanto
  cases raiseRefusal b <;> simp [hd, hs, hp]

/-! ## The preferred pantograph (R7) -/

theorem mem_preferredOrder (b : Block) (p : Panto) : p ∈ preferredOrder b := by
  simp only [preferredOrder, List.mem_append, List.mem_filter, Panto.mem_all, true_and, beq_iff_eq, bne_iff_ne, ne_eq]
  exact em _

/-- In the order of R7 one pantograph stands before another. -/
def Before (b : Block) (p r : Panto) : Prop :=
  (b.roofEnd r = preferredEnd b → b.roofEnd p = preferredEnd b) ∧ (b.roofEnd r = b.roofEnd p → p.num ≤ r.num)

theorem before_of_filter {g : Panto → Bool} {p r : Panto} {us vs : List Panto}
    (h : Panto.all.filter g = us ++ p :: vs) (hr : r ∈ p :: vs) : p.num ≤ r.num := by
  have hsorted : (Panto.all.filter g).Pairwise fun a c => a.num < c.num :=
    List.Pairwise.filter g (by decide)
  rw [h] at hsorted
  have htail := (List.pairwise_append.mp hsorted).2.1
  rcases List.mem_cons.mp hr with rfl | hr
  · exact Nat.le_refl _
  · exact Nat.le_of_lt ((List.pairwise_cons.mp htail).1 r hr)

theorem preferredOrder_before {us vs : List Panto} (h : preferredOrder b = us ++ p :: vs) (hr : r ∈ p :: vs) :
    Before b p r := by
  have hend (x : Panto) (e : RoofEnd) (he : e ≠ preferredEnd b) (hx : b.roofEnd x ≠ preferredEnd b) : b.roofEnd x = e := by
    revert he hx
    cases b.roofEnd x <;> cases e <;> cases preferredEnd b <;> simp
  unfold preferredOrder at h
  rcases List.append_eq_append_iff.mp h with ⟨ws, hus, hsecond⟩ | ⟨ws, hfirst, hvs⟩
  · have hother (x : Panto) (hx : x ∈ p :: vs) : b.roofEnd x ≠ preferredEnd b := by
      have hmem : x ∈ Panto.all.filter fun p => b.roofEnd p != preferredEnd b := by
        rw [hsecond]
        exact List.mem_append_right _ hx
      simpa using (List.mem_filter.mp hmem).2
    exact ⟨fun hp => absurd hp (hother r hr), fun _ => before_of_filter hsecond hr⟩
  · cases ws with
    | nil =>
      rw [List.nil_append] at hvs
      have hsecond : (Panto.all.filter fun p => b.roofEnd p != preferredEnd b) = [] ++ p :: vs := hvs.symm
      have hother (x : Panto) (hx : x ∈ p :: vs) : b.roofEnd x ≠ preferredEnd b := by
        have hmem : x ∈ Panto.all.filter fun p => b.roofEnd p != preferredEnd b := by
          rw [hsecond]
          exact hx
        simpa using (List.mem_filter.mp hmem).2
      exact ⟨fun hp => absurd hp (hother r hr), fun _ => before_of_filter hsecond hr⟩
    | cons w ws =>
      rw [List.cons_append, List.cons.injEq] at hvs
      obtain ⟨rfl, rfl⟩ := hvs
      have hp : b.roofEnd p = preferredEnd b := by
        have hmem : p ∈ Panto.all.filter fun p => b.roofEnd p == preferredEnd b := by
          rw [hfirst]
          simp
        simpa using (List.mem_filter.mp hmem).2
      refine ⟨fun _ => hp, fun hsame => ?_⟩
      have hrend : b.roofEnd r = preferredEnd b := hsame.trans hp
      refine before_of_filter hfirst ?_
      rcases List.mem_cons.mp hr with rfl | hr
      · simp
      rcases List.mem_append.mp hr with hr | hr
      · exact List.mem_cons_of_mem _ hr
      · exact absurd hrend (by simpa using (List.mem_filter.mp hr).2)

theorem preferredPanto_iff : preferredPanto b = some p ↔
    (determinedServed b p = true ∧ available b p = true) ∧
      ∀ x, determinedServed b x = true → available b x = true → Before b p x := by
  constructor
  · intro h
    obtain ⟨hp, us, vs, hsplit, hus⟩ := List.find?_eq_some_iff_append.mp h
    simp only [Bool.and_eq_true] at hp
    refine ⟨hp, fun x hserved havail => preferredOrder_before hsplit ?_⟩
    have hx := mem_preferredOrder b x
    rw [hsplit] at hx
    refine (List.mem_append.mp hx).resolve_left fun hmem => ?_
    have := hus x hmem
    simp [hserved, havail] at this
  · rintro ⟨⟨hserved, havail⟩, hfirst⟩
    cases hfound : preferredPanto b
    case none =>
      have := List.find?_eq_none.mp hfound p (mem_preferredOrder b p)
      simp [hserved, havail] at this
    case some r =>
      obtain ⟨hr, us, vs, hsplit, hus⟩ := List.find?_eq_some_iff_append.mp hfound
      simp only [Bool.and_eq_true] at hr
      have hp := mem_preferredOrder b p
      rw [hsplit] at hp
      have hmem := (List.mem_append.mp hp).resolve_left fun hmem => by
        have := hus p hmem
        simp [hserved, havail] at this
      have hrp := preferredOrder_before hsplit hmem
      have hpr := hfirst r hr.1 hr.2
      have hends : b.roofEnd r = b.roofEnd p := by
        have h1 := hrp.1
        have h2 := hpr.1
        revert h1 h2
        cases b.roofEnd r <;> cases b.roofEnd p <;> cases preferredEnd b <;> simp
      have hnum : r.num = p.num := Nat.le_antisymm (hrp.2 hends.symm) (hpr.2 hends)
      congr 1
      revert hnum
      cases r <;> cases p <;> simp [Panto.num]

/-! ## The statement -/

theorem grantedRaise_fresh (h : returning b p = false) :
    (grantedRaise l p b).plan.roles.get p = ⟨.collecting, some (originOf l)⟩ := by
  unfold grantedRaise
  rw [if_neg (by simp [h])]
  exact PerP.get_set_self _ _ _

theorem grantedRaise_returning (h : returning b p = true) : grantedRaise l p b = b := if_pos h

theorem raisesStanding (hq : Leads q s.block) (hm : MayRaise p s.block) (hh : (s.block.lc p).held = .none)
    (hs : (s.block.lc p).state = .stowed ∨ (s.block.lc p).state = .lowering) :
    ∃ t, exec (.raise q p) s = .next t ∧ Answered s t q.link (plainReply 0x05 q .accepted) ∧ KeepsRest s t ∧
      t.block.plan.roles.get p = ⟨.collecting, some (originOf q.link)⟩ ∧
      ((s.block.lc p).state = .stowed → (s.block.lc p).dwellTimer = none → airSufficient s.block = true →
        (t.block.lc p).state = .raising ∧ (t.block.lc p).commanded = 0 ∧ (t.block.lc p).raiseTimer = some 0) ∧
      ((s.block.lc p).state = .stowed → (s.block.lc p).dwellTimer.isSome = true →
        (t.block.lc p).state = .stowed ∧ (t.block.lc p).held = .dwell) ∧
      ((s.block.lc p).state = .stowed → (s.block.lc p).dwellTimer = none → airSufficient s.block = false →
        (t.block.lc p).state = .stowed ∧ (t.block.lc p).held = .air ∧ (t.block.lc p).airTimer = some 0) ∧
      ((s.block.lc p).state = .lowering →
        (t.block.lc p).state = .lowering ∧ (t.block.lc p).held = .behindLowering) ∧
      (Resting s.block → NoScraper s.block → OthersStay p s t) := by
  obtain ⟨h5, hlater, hret⟩ := hm.conditions hs
  have hall : firstUnmet (raiseConditions p s.block) = none := by
    rw [raiseConditions_split, firstUnmet_append, h5, hlater]
    rfl
  have hcol : ¬Collects p s.block := fun hc => absurd (hm.free.symm.trans hc.1) (by decide)
  have h4 := conditions_take4 hall
  have hraise := takesRaise_granted (l := q.link) h4 hh hs
  have hgrant := touches_grantedRaise q.link p (refresh q.link s.block)
  have hfresh : (grantedRaise q.link p (refresh q.link s.block)).plan.roles.get p = _ := grantedRaise_fresh hret
  have hlc : (grantedRaise q.link p (refresh q.link s.block)).lc p = s.block.lc p := grantedRaise_lc _ _ _ _
  obtain ⟨t, ht, he⟩ := raise_ends hq hcol hall
  have hspared := raise_spares h4 hh hs he
  have hkept := (kept_takeRaise p false _).trans (kept_grantedRaise q.link p (refresh q.link s.block))
  refine ⟨t, ht, he.plain, he.keepsRest_of_kept hkept, ?_⟩
  have hblock := he.settles
  have hair : airSufficient (grantedRaise q.link p (refresh q.link s.block)) = airSufficient s.block :=
    (airSufficient_of_kept (kept_grantedRaise q.link p _)).trans rfl
  generalize grantedRaise q.link p (refresh q.link s.block) = c at hgrant hraise hspared hblock hfresh hlc hair
  have htouch := (touches_refresh p q.link s.block).trans (hgrant.trans (touches_takeRaise p false c))
  generalize takeRaise p false c = x at hraise hspared hblock htouch
  obtain ⟨hroles, n, hn, hsame⟩ := hspared
  obtain ⟨hrole, hcalm, hbegins, hdwells, hairs, hfollows⟩ := hraise
  rw [hlc] at hbegins hdwells hairs hfollows
  rw [hair] at hbegins hairs
  rw [hn]
  refine ⟨hroles.trans (hrole.trans hfresh), fun h1 h2 h3 => ?_, hdwells, hairs, hfollows, fun hrest hnos => ?_⟩
  · have hb := hbegins h1 h2 h3
    exact ⟨hb.state, (hsame (by simp [hb.state])).trans hb.commanded, hb.raiseTimer⟩
  · have htouch' := htouch.trans (touches_pushReply p q.link (plainReply 0x05 q .accepted) x)
    have hquiet : Quiet (pushReply q.link (plainReply 0x05 q .accepted) x) := by
      refine hrest.quiet_touches hnos htouch' (fun _ hc => absurd hc hcalm) ?_
      rw [pushReply_role, Block.role, hrole, hfresh]
      simp
    have hset : SettlesAs (pushReply q.link (plainReply 0x05 q .accepted) x) t.block :=
      hblock ▸ settle_quiet s.block false hquiet
    exact hset.othersStay htouch' hrest

theorem raisesByConditions (hq : Leads q s.block) : ∃ t, exec (.raise q p) s = .next t ∧
    (∀ c, firstUnmet ((raiseConditions p s.block).take 5) = some c →
      OnlyLinks s t ∧ Answered s t q.link (plainReply 0x05 q (.refused c))) ∧
    (firstUnmet ((raiseConditions p s.block).take 5) = none → Collects p s.block →
      OnlyLinks s t ∧ Answered s t q.link (plainReply 0x05 q .done)) ∧
    (¬Collects p s.block → ∀ c, firstUnmet (raiseConditions p s.block) = some c →
      OnlyLinks s t ∧ Answered s t q.link (plainReply 0x05 q (.refused c))) ∧
    (¬Collects p s.block → firstUnmet (raiseConditions p s.block) = none →
      Answered s t q.link (plainReply 0x05 q .accepted) ∧ KeepsRest s t ∧
      (returning s.block p = true →
        (t.block.lc p).state = .lowering ∧ (t.block.lc p).held = .behindLowering ∧
        t.block.plan.roles.get p = s.block.plan.roles.get p)) := by
  have hex := examine_leader hq
  obtain ⟨t, ht⟩ := exec_ends (.raise q p) s
  refine ⟨t, ht, fun c hc => ?_, fun h5 hcol => ?_, fun hcol c hc => ?_, fun hcol hall => ?_⟩
  · exact holds_at ht (request_refused hex (raisePanto_unmet (b := refresh q.link s.block) hc))
  · exact holds_at ht (request_unchanged hex (raisePanto_collects (b := refresh q.link s.block) h5 hcol))
  · exact holds_at ht (request_refused hex (raisePanto_refused (b := refresh q.link s.block) hcol hc))
  have he := holds_at ht (raise_ends hq hcol hall)
  have hkept := (kept_takeRaise p false _).trans (kept_grantedRaise q.link p (refresh q.link s.block))
  refine ⟨he.plain, he.keepsRest_of_kept hkept, fun hret => ?_⟩
  have hh := held_of_not_collects hret hcol
  have hlow : (s.block.lc p).state = .lowering := by
    simp only [returning, Bool.and_eq_true, beq_iff_eq] at hret
    exact hret.2
  have h4 := conditions_take4 hall
  have hraise := takesRaise_granted (l := q.link) h4 hh (.inr hlow)
  obtain ⟨hroles, n, hn, -⟩ := raise_spares h4 hh (.inr hlow) he
  have hgrant : grantedRaise q.link p (refresh q.link s.block) = refresh q.link s.block := grantedRaise_returning hret
  rw [hgrant] at hraise hroles hn
  rw [hn, hroles]
  exact ⟨(hraise.follows hlow).1, (hraise.follows hlow).2, hraise.role⟩

theorem raisesAuto (hq : Leads q s.block) : ∃ t, exec (.raiseAuto q) s = .next t ∧
    (∀ p c, firstUnmet ((raiseConditions p s.block).take 4) = some c →
      OnlyLinks s t ∧ Answered s t q.link (plainReply 0x05 q (.refused c))) ∧
    (∀ p, firstUnmet ((raiseConditions p s.block).take 4) = none →
      (s.block.record.determined = none →
        t.block.seq.path = some .identify ∧ t.block.record.serial = (s.block.record.serial + 1) % 65536 ∧
        Answered s t q.link (plainReply 0x05 q .accepted)) ∧
      ∀ sys, s.block.record.determined = some sys →
        ((∃ x, s.block.role x = .collecting ∧ serves (s.block.head x) sys = true) →
          OnlyLinks s t ∧ Answered s t q.link (plainReply 0x05 q .done)) ∧
        ((∀ x, serves (s.block.head x) sys = true → s.block.role x ≠ .collecting ∧ available s.block x = false) →
          OnlyLinks s t ∧ Answered s t q.link (plainReply 0x05 q (.refused .notAvailable)))) := by
  have hex := examine_leader hq
  obtain ⟨t, ht⟩ := exec_ends (.raiseAuto q) s
  refine ⟨t, ht, fun p c hc => ?_, fun p hnone => ⟨fun hd => ?_, fun sys hd => ⟨fun hserved => ?_, fun hno => ?_⟩⟩⟩
  · rw [← raiseRefusal_eq] at hc
    exact holds_at ht (request_refused hex (raiseAuto_unmet (b := refresh q.link s.block) hc))
  all_goals rw [← raiseRefusal_eq] at hnone
  · have hstart := startsSelected (k := .identify) rfl none (some (identifyHead (refresh q.link s.block)))
      (refresh q.link s.block)
    have he := holds_at ht (request_ends_as (code := 0x05) hex
      (raiseAuto_identifies (b := refresh q.link s.block) hnone hd) (congrArg Kept.links hstart.kept :))
    have hkept := he.kept t.block.kept.links
    have hblock := he.settles
    change StartsSelected _ _ _ _ (startIdentify (refresh q.link s.block)) at hstart
    generalize startIdentify (refresh q.link s.block) = x at hstart hkept hblock
    have hpath : OnPath .identify (pushReply q.link (plainReply 0x05 q .accepted) x) :=
      ⟨hstart.onPath.path, hstart.onPath.phase⟩
    refine ⟨?_, (congrArg Kept.serial hkept).trans (congrArg Kept.serial hstart.kept), he.plain⟩
    rw [hblock]
    exact (settle_onPath (by decide) s.block false hpath).path
  · exact holds_at ht (request_unchanged hex (raiseAuto_served (b := refresh q.link s.block) hnone
      (fun hn => by cases hd.symm.trans hn) ((servedCollector_iff hd).mpr hserved)))
  · have hserved : servedCollector s.block = false := by
      rw [← Bool.not_eq_true, servedCollector_iff hd]
      rintro ⟨x, hx, hserves⟩
      exact (hno x hserves).1 hx
    have hnone' : preferredPanto s.block = none := by
      refine List.find?_eq_none.mpr fun x _ => ?_
      simp only [Bool.and_eq_true, not_and, Bool.not_eq_true]
      intro hx
      simp only [determinedServed, hd] at hx
      exact (hno x hx).2
    exact holds_at ht (request_refused hex (raiseAuto_none (b := refresh q.link s.block) hnone
      (fun hn => by cases hd.symm.trans hn) hserved hnone'))

/-- Settles O17, by the nine conditions in their order and by what the answers spare of a pantograph while no path
runs. -/
theorem raiseIsTaken : Obligations.RaiseIsTaken := by
  unfold Obligations.RaiseIsTaken
  refine ⟨fun q p s hq hm hh hs => raisesStanding hq hm hh hs, fun q p s hq => raisesByConditions hq,
    fun q s hq => raisesAuto hq, fun q p sys s hd hno hp => ?_, fun b p => preferredPanto_iff⟩
  have hserved : servedCollector s.block = false := by
    rw [← Bool.not_eq_true, servedCollector_iff hd]
    rintro ⟨x, hx, hserves⟩
    rw [hno x hx] at hserves
    cases hserves
  have heq : raiseAutoOf q.link (refresh q.link s.block) = raisePanto q.link p (refresh q.link s.block) :=
    raiseAuto_preferred (b := refresh q.link s.block) (fun hn => by cases hd.symm.trans hn) hserved hp
  change request q 0x05 .leader _ s = request q 0x05 .leader _ s
  unfold request answer
  simp only [heq]

end Sys2Proof.Machine
end

section
/-!
Select System and Clear Halt (R128, R130, R142).
-/

namespace Sys2Proof.Machine

variable {q : Req} {s t : State} {b x : Block} {l : Link} {sys : Option LineSystem} {w : Ending}

/-- No answer touches what a path expects, and how it was started. -/
theorem Act.seqFrame (h : Act w b x) : x.seq = { b.seq with
    phase := x.seq.phase, path := x.seq.path, activeEntry := x.seq.activeEntry, candidate := x.seq.candidate
    work := x.seq.work, timer := x.seq.timer, haltReason := x.seq.haltReason } := by
  cases h
  case opens => simp only [openBreaker_seq]
  case serves i _ => simp only [seq_serveEntry]
  case moves v may => rw [may.frame]
  case stores only => rw [only]
  case ice only => rw [only.frame]
  all_goals rfl

theorem Acts.expected (h : Acts w b x) : x.seq.expected = b.seq.expected :=
  h.keep (P := fun y => y.seq.expected = b.seq.expected) (fun _ _ hs ha => by rw [hs.seqFrame]; exact ha) rfl

theorem settle_expected (s : Block) (judge : Bool) (b : Block) : (settle s judge b).seq.expected = b.seq.expected := by
  obtain ⟨y, hacts, hclosed⟩ := settle_acts s judge b
  rw [hclosed.seq, hacts.expected]

/-- The four conditions of a Select System in their order (R130). -/
theorem selectRefusal_eq (b : Block) : selectRefusal b = firstUnmet (selectConditions b) := by
  simp only [selectConditions, firstUnmet_cons, firstUnmet_nil, selectRefusal]
  have hearth : b.sw.earth.isOpen = earthOpen b := rfl
  rw [hearth]
  cases b.cond.mode <;> cases b.seq.phase <;> cases b.plan.hold <;> cases earthOpen b <;> rfl

theorem selectSystem_starts (hn : selectRefusal b = none) (hm : ∀ x, sys = some x → selectMet b x = false) :
    selectSystem sys b = effect .accepted (startSelected (if sys.isSome then .select else .identify) sys
      (if sys.isSome then none else some (identifyHead b)) b) := by
  cases sys with
  | none => simp [selectSystem, hn, startIdentify]
  | some v => simp [selectSystem, hn, hm v rfl, startSelect]

theorem selectSystem_met {v : LineSystem} (hn : selectRefusal b = none) (hm : selectMet b v = true) :
    selectSystem (some v) b = unchanged b := by
  simp [selectSystem, hn, hm]

/-- The path that a Select System starts, at the end of its event. -/
theorem selectedEnds (hmode : s.block.cond.mode = .service) (hn : selectRefusal s.block = none)
    (hm : ∀ x, sys = some x → selectMet s.block x = false) (hq : Leads q s.block)
    (ht : exec (.selectSystem q sys) s = .next t) :
    Answered s t q.link (plainReply 0x07 q .accepted) ∧
      t.block.seq.path = (if sys.isSome = true then some .select else some .identify) ∧
      t.block.seq.expected = sys ∧ t.block.record.serial = (s.block.record.serial + 1) % 65536 ∧
      t.block.plan.readyA = none ∧ t.block.plan.readyB = none ∧
      (breakerEngaged s.block = true → t.block.seq.phase = .tractionOff ∧ t.block.seq.timer = some 0 ∧
        t.block.record.tractionOff = true) := by
  have hkind : Path.carries (if sys.isSome then .select else .identify) = false := by cases sys <;> rfl
  have hzone : (if sys.isSome then Path.select else .identify) ≠ .zone := by split <;> decide
  have hstart := startsSelected hkind sys (if sys.isSome then none else some (identifyHead (refresh q.link s.block)))
    (refresh q.link s.block)
  have heq := selectSystem_starts (b := refresh q.link s.block) hn hm
  have he := holds_at ht (request_ends_as (code := 0x07) (examine_leader hq) heq (congrArg Kept.links hstart.kept :))
  have hkept := he.kept t.block.kept.links
  have hblock := he.settles
  generalize startSelected _ sys _ (refresh q.link s.block) = x at hstart hkept hblock
  have hclear : t.block.plan.readyA = none ∧ t.block.plan.readyB = none ∧
      t.block.record.serial = (s.block.record.serial + 1) % 65536 := by
    have hstarted := hkept.trans (congrArg (fun k : Kept => { k with links := t.block.kept.links }) hstart.kept)
    exact ⟨congrArg Kept.readyA hstarted, congrArg Kept.readyB hstarted, congrArg Kept.serial hstarted⟩
  have hwhole : (pushReply q.link (plainReply 0x07 q .accepted) x).seq = x.seq := rfl
  have hpath : OnPath (if sys.isSome then .select else .identify) (pushReply q.link (plainReply 0x07 q .accepted) x) :=
    ⟨hstart.onPath.path, hstart.onPath.phase⟩
  refine ⟨he.plain, ?_, ?_, hclear.2.2, hclear.1, hclear.2.1, fun hengaged => ?_⟩
  · rw [hblock, (settle_onPath hzone s.block false hpath).path]
    cases sys <;> rfl
  · rw [hblock, settle_expected, hwhole, hstart.seq]
    rfl
  · have hseq : x.seq.phase = .tractionOff ∧ x.seq.timer = some 0 := by
      have he' : breakerEngaged (refresh q.link s.block) = true := hengaged
      rw [hstart.seq, he']
      exact ⟨rfl, rfl⟩
    have hawake : (pushReply q.link (plainReply 0x07 q .accepted) x).cond.mode ≠ .waking := by
      have hsame : x.cond.mode = .service := hstart.mode.trans hmode
      intro hw
      exact absurd (hsame.symm.trans hw) (by decide)
    have hst := settle_stands_awake s.block false hawake (by rw [hwhole, hseq.1]; decide)
    rw [← hblock] at hst
    rw [hst.seq, hwhole]
    refine ⟨hseq.1, hseq.2, ?_⟩
    rcases hst.request with hr | ⟨hp, -⟩
    · exact hr.trans (hstart.request hengaged)
    · rw [hwhole, hseq.1] at hp
      cases hp

theorem clearHalt_halted (h : b.seq.phase = .halted) : clearHaltOf b = effect .done (leaveHalt b) := by
  simp [clearHaltOf, h]

theorem clearHalt_idle (h : b.seq.phase = .idle) : clearHaltOf b = unchanged b := by simp [clearHaltOf, h]

theorem clearHalt_running (hi : b.seq.phase ≠ .idle) (hh : b.seq.phase ≠ .halted) :
    clearHaltOf b = refuse .changeoverActive b := by
  unfold clearHaltOf
  split
  · contradiction
  · contradiction
  · rfl

theorem leaveHalt_ends (hq : Leads q s.block) (h : s.block.seq.phase = .halted)
    (ht : exec (.clearHalt q) s = .next t) : t.block.seq = (leaveHalt s.block).seq ∧
    KeepsRest s t ∧ Answered s t q.link (plainReply 0x08 q .done) := by
  have ha := clearHalt_halted (b := refresh q.link s.block) h
  have he := holds_at ht (request_ends_as (code := 0x08) (examine_leader hq) ha rfl)
  have hstop : Stopped (pushReply q.link (plainReply 0x08 q .done) (leaveHalt (refresh q.link s.block))) := .inl rfl
  refine ⟨?_, he.keepsRest_of_kept rfl, he.plain⟩
  rw [he.settles, (settle_stands s.block false hstop).seq]
  rfl

/-- Settles O45, by the record a selected path starts with and by what stands where no path runs. -/
theorem selectSystemAndClearHalt : Obligations.SelectSystemAndClearHalt := by
  unfold Obligations.SelectSystemAndClearHalt
  refine ⟨fun q sys s c hq hc => ?_, fun q sys s hq hmode hphase hhold hearth => ?_, fun q s hq => ?_⟩
  · rw [← selectRefusal_eq] at hc
    refine request_refused (examine_leader hq) ?_
    have hc' : selectRefusal (refresh q.link s.block) = some c := hc
    simp [selectSystem, hc']
  · have hn : selectRefusal s.block = none := by
      rcases hphase with hp | hp <;> simp [selectRefusal, hmode, hp, hhold, hearth]
    obtain ⟨t, ht⟩ := exec_ends (.selectSystem q sys) s
    refine ⟨t, ht, ?_, fun hm => selectedEnds hmode hn hm hq ht⟩
    rintro ⟨v, rfl, hm⟩
    exact holds_at ht (request_unchanged (examine_leader hq) (selectSystem_met (b := refresh q.link s.block) hn hm))
  · obtain ⟨t, ht⟩ := exec_ends (.clearHalt q) s
    refine ⟨t, ht, fun hp => ?_, fun hp => ?_, fun hi hh => ?_⟩
    · obtain ⟨hseq, hkept, hans⟩ := leaveHalt_ends hq hp ht
      rw [hseq]
      exact ⟨rfl, rfl, rfl, rfl, rfl, rfl, hkept, hans⟩
    · exact holds_at ht (request_unchanged (examine_leader hq) (clearHalt_idle (b := refresh q.link s.block) hp))
    · exact holds_at ht (request_refused (examine_leader hq) (clearHalt_running (b := refresh q.link s.block) hi hh))

end Sys2Proof.Machine
end

section
/-!
A halt, the lowers that come with it, and the wait for an adoption (R15, R36, R44, R141, R144).
-/

namespace Sys2Proof.Machine

variable {q : Req} {s t : State} {b x y : Block} {p r : Panto} {i : Bool} {h : HaltReason}

/-! ## The halt of a path -/

theorem seq_enterHalt (h : HaltReason) (b : Block) : (enterHalt h b).seq =
    { b.seq with phase := .halted, haltReason := some h, timer := none, work := .none } := by
  have hdet (a : Block) : (setDetermined none none a).seq = a.seq := by
    unfold setDetermined
    split <;> rfl
  unfold enterHalt
  rw [openBreaker_seq]
  simp only [setPreheat, seq_serveEntry]
  split <;> simp only [hdet, seq_haltFault]

theorem enterHalt_disengages (h : HaltReason) (b : Block) : breakerEngaged (enterHalt h b) = false :=
  openBreaker_disengages _ _

theorem halt_idle (hp : b.seq.phase = .idle) : halt h b = b := by simp only [halt, hp]

theorem halt_running (hi : b.seq.phase ≠ .idle) (hh : b.seq.phase ≠ .halted) : halt h b = enterHalt h b := by
  unfold halt
  split
  · contradiction
  · contradiction
  · rfl

theorem halt_halted (hp : b.seq.phase = .halted) (hne : h ≠ .emergency) : halt h b = b := by
  simp only [halt, hp, if_neg hne]

/-- A halt leaves no path running; where one ran, it carries the reason of the halt. -/
theorem halt_stopped (h : HaltReason) (b : Block) : Stopped (halt h b) := by
  by_cases hi : b.seq.phase = .idle
  · rw [halt_idle hi]
    exact .inl hi
  by_cases hh : b.seq.phase = .halted
  · right
    simp only [halt, hh]
    split
    · rfl
    · exact hh
  · rw [halt_running hi hh]
    exact .inr (by rw [seq_enterHalt])

theorem halt_reason (hi : b.seq.phase ≠ .idle) (hh : b.seq.phase ≠ .halted) :
    (halt h b).seq.phase = .halted ∧ (halt h b).seq.haltReason = some h := by
  rw [halt_running hi hh, seq_enterHalt]
  exact ⟨rfl, rfl⟩

theorem halt_disengaged (h : HaltReason) (hb : breakerEngaged b = false) : breakerEngaged (halt h b) = false := by
  unfold halt
  split
  · exact hb
  · split <;> exact hb
  · exact enterHalt_disengages h b

theorem halt_lc (h : HaltReason) (p : Panto) (b : Block) : (halt h b).lc p = b.lc p := by
  rw [Block.lc, halt_lift, Block.lc]

/-- What a halt leaves alone of the other blocks. -/
structure HaltKeeps (b x : Block) : Prop where
  plan     : x.plan = b.plan
  restart  : x.cond.restart = b.cond.restart
  standby  : x.cond.standbyLowering = b.cond.standbyLowering
  enable   : x.ice.enable = b.ice.enable
  earth    : x.sw.earth = b.sw.earth

theorem haltKeeps_enterHalt (hm : h ≠ .mismatch) (b : Block) : HaltKeeps b (enterHalt h b) := by
  have hfault : HaltKeeps b (haltFault h b) := by cases h <;> exact ⟨rfl, rfl, rfl, rfl, rfl⟩
  have hserve (n : Option Nat) (a : Block) : HaltKeeps a (serveEntry n a) := by cases n <;> exact ⟨rfl, rfl, rfl, rfl, rfl⟩
  obtain ⟨h1, h2, h3, h4, h5⟩ := hfault
  obtain ⟨k1, k2, k3, k4, k5⟩ := hserve b.seq.activeEntry (haltFault h b)
  rw [enterHalt_eq hm, openBreaker_frame]
  exact ⟨k1.trans h1, k2.trans h2, k3.trans h3, k4.trans h4, k5.trans h5⟩

theorem haltKeeps_halt (hm : h ≠ .mismatch) (b : Block) : HaltKeeps b (halt h b) := by
  unfold halt
  split
  · exact ⟨rfl, rfl, rfl, rfl, rfl⟩
  · split <;> exact ⟨rfl, rfl, rfl, rfl, rfl⟩
  · exact haltKeeps_enterHalt hm b

/-! ## An operation on each pantograph of a list -/

/-- What an operation makes of each pantograph it is done on, where those done on the others leave it. -/
theorem foldl_each {f : Panto → Block → Block} {I : Block → Prop} {Q : Panto → Block → Prop} {ps : List Panto}
    (hinv : ∀ r a, I a → I (f r a)) (hself : ∀ r a, I a → Q r (f r a))
    (hothers : ∀ r p a, p ≠ r → I a → Q p a → Q p (f r a)) (hb : I b) :
    I (ps.foldl (fun a r => f r a) b) ∧ ∀ p, (p ∈ ps ∨ Q p b) → Q p (ps.foldl (fun a r => f r a) b) := by
  induction ps generalizing b with
  | nil => exact ⟨hb, fun p hp => hp.resolve_left List.not_mem_nil⟩
  | cons r rs ih =>
    obtain ⟨hI, hQ⟩ := ih (hinv r b hb)
    refine ⟨hI, fun p hp => ?_⟩
    by_cases hr : p = r
    · subst hr
      exact hQ p (.inr (hself p b hb))
    · refine hQ p (hp.imp (fun hm => (List.mem_cons.mp hm).resolve_left hr) fun hq => hothers r p b hr hb hq)

theorem eachPanto_eq (f : Panto → Block → Block) (b : Block) : eachPanto f b = Panto.all.foldl (fun a r => f r a) b := rfl

theorem passLowers_eq (ps : List Panto) (b : Block) : passLowers ps b = ps.foldl (fun a r => takeLower false r a) b := by
  induction ps generalizing b with
  | nil => rfl
  | cons r rs ih => exact ih _

/-! ## What a lower leaves -/

/-- The pantograph is not up, or it waits in CONTACT for the breaker to bring it down. -/
def Down (i : Bool) (p : Panto) (b : Block) : Prop :=
  (b.lc p).state.raised = true → i = false ∧ (b.lc p).state = .contact ∧ (b.lc p).lowerPending = true

theorem Down.of_lift {l : Lift} (hs : l.state = (b.lc p).state) (hp : l.lowerPending = (b.lc p).lowerPending)
    (hx : x.lc p = l) (hb : Down i p b) : Down i p x := by
  rw [Down, hx, hs, hp]
  exact hb

theorem Touches.down (ht : Touches r b x) (hr : p ≠ r) (hb : Down i p b) : Down i p x := by
  obtain ⟨n, hn, -⟩ := ht.others p hr
  exact hb.of_lift (l := { b.lc p with commanded := n }) rfl rfl hn

theorem down_takeLower (hcalm : ¬b.seq.NeedsContact) (ha : b.cond.restart = none) : Down i p (takeLower i p b) := by
  have hlow (a : Block) (hc : ¬a.seq.NeedsContact) : Down i p (beginLowering p a) := by
    intro hr
    rw [beginLowering_of_calm hc, lc_setLift_self] at hr
    cases hr
  have hheld (a : Block) (hc : (a.lc p).state.raised = false) : Down i p (discardHeld p a) := by
    intro hr
    rw [lc_discardHeld_self] at hr
    exact absurd (hc.symm.trans hr) (by decide)
  have hskip (hs : (b.lc p).state = .stowed) : ((skipValves p b).lc p).state = .stowed := by
    rw [skipValves_state, hs]
  have hstays (hs : (b.lc p).state.raised = false) : Down i p b := fun hr => absurd (hs.symm.trans hr) (by decide)
  rw [takeLower, if_neg (by simp [adoptionWaits, ha])]
  unfold actOnLower
  split
  case h_1 hs =>
    split
    · exact hheld _ (by rw [hskip hs]; rfl)
    · intro hr
      rw [hskip hs] at hr
      cases hr
  case h_2 => exact hlow b hcalm
  case h_3 hs =>
    split
    next hw =>
      have hi : i = false := by
        simp only [waitsForBreaker, Bool.and_eq_true, Bool.not_eq_true'] at hw
        exact hw.1.1.2
      intro _
      unfold pendLower
      split
      next hp => exact ⟨hi, hs, hp⟩
      next =>
        rw [openBreaker_lc, lc_setLift_self]
        exact ⟨hi, hs, rfl⟩
    next => exact hlow b hcalm
  case h_4 hs =>
    split
    · exact hheld b (by rw [hs]; rfl)
    · exact hstays (by rw [hs]; rfl)
  case h_5 =>
    refine hlow _ ?_
    rwa [(touches_abortEntry p b).seq]
  case h_6 hs => exact hstays (by rw [hs]; rfl)
  case h_7 hs => exact hstays (by rw [hs]; rfl)

/-! ## The lowers of several pantographs -/

/-- The operation of `lowerRoof` on one pantograph. -/
def lowerWithRole (i : Bool) (p : Panto) (b : Block) : Block :=
  takeLower i p (if raisedScraper b p then clearRole p b else b)

theorem lowerRoof_eq (i : Bool) (b : Block) : lowerRoof i b = Panto.all.foldl (fun a r => lowerWithRole i r a) b := rfl

theorem touches_lowerWithRole (h : ¬b.seq.NeedsContact) : Touches p b (lowerWithRole i p b) := by
  unfold lowerWithRole
  split
  · exact (touches_clearRole p b).trans (touches_takeLower h)
  · exact touches_takeLower h

/-- Lowers of pantographs outside the wait for an adoption, no path being run. -/
structure Lowering (b : Block) : Prop where
  calm    : ¬b.seq.NeedsContact
  adopted : b.cond.restart = none

theorem Lowering.touches (h : Lowering b) (ht : Touches p b x) : Lowering x :=
  ⟨by rw [ht.seq]; exact h.calm, (ht.restart).trans h.adopted⟩

theorem down_lowerWithRole (h : Lowering b) : Down i p (lowerWithRole i p b) := by
  unfold lowerWithRole
  split
  · exact down_takeLower h.calm h.adopted
  · exact down_takeLower h.calm h.adopted

theorem lowerRoof_down (h : Lowering b) (p : Panto) : Down i p (lowerRoof i b) := by
  rw [lowerRoof_eq]
  exact (foldl_each (f := lowerWithRole i) (I := Lowering) (Q := Down i) (fun r a ha => ha.touches (touches_lowerWithRole ha.calm))
    (fun r a ha => down_lowerWithRole ha)
    (fun r p a hr ha hq => (touches_lowerWithRole ha.calm).down hr hq) h).2 p (.inl (Panto.mem_all p))

theorem passLowers_down {ps : List Panto} (h : Lowering b) (hp : p ∈ ps) : Down false p (passLowers ps b) := by
  rw [passLowers_eq]
  exact (foldl_each (f := takeLower false) (I := Lowering) (Q := Down false) (fun r a ha => ha.touches (touches_takeLower ha.calm))
    (fun r a ha => down_takeLower ha.calm ha.adopted)
    (fun r p a hr ha hq => (touches_takeLower ha.calm).down hr hq) h).2 p (.inl hp)

theorem around_foldl {f : Panto → Block → Block} {ps : List Panto}
    (hf : ∀ p a, ¬a.seq.NeedsContact → Touches p a (f p a)) (h : ¬b.seq.NeedsContact) :
    Around b (ps.foldl (fun a r => f r a) b) := by
  induction ps generalizing b with
  | nil => exact .refl b
  | cons r rs ih =>
    have ht := (hf r b h).around
    exact ht.trans (ih (by rwa [ht.seq]))

theorem around_lowerRoof (h : ¬b.seq.NeedsContact) : Around b (lowerRoof i b) :=
  around_foldl (f := lowerWithRole i) (ps := Panto.all) (fun _ _ ha => touches_lowerWithRole ha) h

theorem around_passLowers (ps : List Panto) (h : ¬b.seq.NeedsContact) : Around b (passLowers ps b) := by
  rw [passLowers_eq]
  exact around_foldl (f := takeLower false) (fun _ _ ha => touches_takeLower ha) h

/-! ## Lowers between a warm restart and its adoption (R44) -/

/-- A lower of the pantograph is noted, or waits on the breaker. -/
def LowerNoted (i : Bool) (p : Panto) (b : Block) : Prop :=
  (b.lc p).lowerNoted = true ∨ i = false ∧ (b.lc p).lowerPending = true

/-- Of the pantographs nothing changes but that lowers are noted, or wait on the breaker. -/
structure OnlyNotes (b x : Block) : Prop where
  states : ∀ p, (x.lc p).state = (b.lc p).state
  plan   : x.plan = b.plan
  notes  : ∀ i p, LowerNoted i p b → LowerNoted i p x

theorem OnlyNotes.refl (b : Block) : OnlyNotes b b := ⟨fun _ => rfl, rfl, fun _ _ hn => hn⟩

theorem OnlyNotes.trans (h : OnlyNotes b x) (h' : OnlyNotes x y) : OnlyNotes b y :=
  ⟨fun p => (h'.states p).trans (h.states p), h'.plan.trans h.plan, fun i p hn => h'.notes i p (h.notes i p hn)⟩

theorem onlyNotes_setLift {l : Lift} (hs : l.state = (b.lc p).state)
    (hn : ∀ i, LowerNoted i p b → LowerNoted i p (b.setLift p l)) : OnlyNotes b (b.setLift p l) := by
  refine ⟨fun r => ?_, rfl, fun i r => ?_⟩
  · by_cases hr : r = p
    · subst hr
      rw [lc_setLift_self, hs]
    · rw [lc_setLift_ne _ _ hr]
  · by_cases hr : r = p
    · subst hr
      exact hn i
    · rw [LowerNoted, LowerNoted, lc_setLift_ne _ _ hr]
      exact id

theorem takeLower_noted (ha : b.cond.restart.isSome = true) :
    LowerNoted i p (takeLower i p b) ∧ OnlyNotes b (takeLower i p b) := by
  rw [takeLower, if_pos (show adoptionWaits b = true from ha)]
  split
  next hw =>
    have hi : i = false := by
      simp only [waitsForBreaker, Bool.and_eq_true, Bool.not_eq_true'] at hw
      exact hw.1.1.2
    unfold pendLower
    split
    next hp => exact ⟨.inr ⟨hi, hp⟩, .refl b⟩
    next =>
      have hset : OnlyNotes b (b.setLift p { b.lc p with lowerPending := true }) :=
        onlyNotes_setLift rfl fun j hn => by
          rw [LowerNoted, lc_setLift_self]
          exact hn.imp id fun hn => ⟨hn.1, rfl⟩
      refine ⟨.inr ⟨hi, by rw [openBreaker_lc, lc_setLift_self]⟩, hset.trans ⟨fun r => ?_, ?_, fun j r => ?_⟩⟩
      · rw [openBreaker_lc]
      · rw [openBreaker_plan]
      · rw [LowerNoted, LowerNoted, openBreaker_lc]
        exact id
  next =>
    refine ⟨.inl (by rw [noteLower, lc_setLift_self]), onlyNotes_setLift rfl fun j _ => .inl ?_⟩
    rw [lc_setLift_self]

theorem foldl_noted {f : Panto → Block → Block} {ps : List Panto}
    (hf : ∀ r a, a.cond.restart.isSome = true → ¬a.seq.NeedsContact →
      Touches r a (f r a) ∧ LowerNoted i r (f r a) ∧ OnlyNotes a (f r a))
    (ha : b.cond.restart.isSome = true) (hc : ¬b.seq.NeedsContact) :
    OnlyNotes b (ps.foldl (fun a r => f r a) b) ∧ ∀ p ∈ ps, LowerNoted i p (ps.foldl (fun a r => f r a) b) := by
  induction ps generalizing b with
  | nil => exact ⟨.refl b, fun p hp => absurd hp List.not_mem_nil⟩
  | cons r rs ih =>
    obtain ⟨ht, hn, ho⟩ := hf r b ha hc
    obtain ⟨hrest, hnoted⟩ := ih (by rw [ht.restart]; exact ha) (by rw [ht.seq]; exact hc)
    refine ⟨ho.trans hrest, fun p hp => ?_⟩
    rcases List.mem_cons.mp hp with rfl | hp
    · exact hrest.notes i p hn
    · exact hnoted p hp

theorem lowerWithRole_noted (ha : b.cond.restart.isSome = true) :
    LowerNoted i p (lowerWithRole i p b) ∧ OnlyNotes b (lowerWithRole i p b) := by
  have hno : raisedScraper b p = false := by
    have hw : adoptionWaits b = true := ha
    simp [raisedScraper, hw]
  rw [lowerWithRole, if_neg (by rw [hno]; decide)]
  exact takeLower_noted ha

theorem lowerRoof_noted (ha : b.cond.restart.isSome = true) (hc : ¬b.seq.NeedsContact) :
    (∀ p, LowerNoted i p (lowerRoof i b)) ∧ OnlyNotes b (lowerRoof i b) := by
  rw [lowerRoof_eq]
  obtain ⟨honly, hnoted⟩ := foldl_noted (f := lowerWithRole i) (i := i) (ps := Panto.all)
    (fun r a haw hac => ⟨touches_lowerWithRole hac, lowerWithRole_noted haw⟩) ha hc
  exact ⟨fun p => hnoted p (Panto.mem_all p), honly⟩

theorem passLowers_noted {ps : List Panto} (ha : b.cond.restart.isSome = true) (hc : ¬b.seq.NeedsContact) :
    (∀ p ∈ ps, LowerNoted false p (passLowers ps b)) ∧ OnlyNotes b (passLowers ps b) := by
  rw [passLowers_eq]
  obtain ⟨honly, hnoted⟩ := foldl_noted (f := takeLower false) (i := false) (ps := ps)
    (fun r a haw hac => ⟨touches_takeLower hac, takeLower_noted haw⟩) ha hc
  exact ⟨hnoted, honly⟩

/-- The wait for an adoption with no path running and no standby lowering. -/
structure Frozen (b : Block) : Prop where
  stopped : Stopped b
  waits   : b.cond.restart.isSome = true
  standby : b.cond.standbyLowering = false

theorem Frozen.of_same (h : Frozen b) (hseq : x.seq = b.seq) (hcond : x.cond = b.cond) : Frozen x :=
  ⟨by rw [Stopped, hseq]; exact h.stopped, by rw [hcond]; exact h.waits, by rw [hcond]; exact h.standby⟩

/-- While an adoption is waited for the answers move no pantograph and no role. -/
theorem Reaction.frozen (h : Reaction b x) (hb : Frozen b) : Frozen x ∧ x.lift = b.lift ∧ x.plan = b.plan := by
  have hwait (hn : b.cond.restart = none) : False := by
    have := hb.waits
    rw [hn] at this
    cases this
  cases h
  case guard =>
    exact ⟨hb.of_same (openBreaker_seq _ _) (openBreaker_cond _ _), openBreaker_lift _ _, openBreaker_plan _ _⟩
  case release adopted => exact (hwait adopted).elim
  case wake adopted _ _ => exact (hwait adopted).elim
  case lowered standby _ _ => exact absurd (hb.standby.symm.trans standby) (by decide)
  case ask adopted => exact (hwait adopted).elim
  case scrape adopted => exact (hwait adopted).elim
  case ice only =>
    rw [only.frame]
    exact ⟨hb.of_same rfl rfl, rfl, rfl⟩
  case advance =>
    rcases hb.stopped with hp | hp
    · have heq : seqStep b = b := by simp only [seqStep, hp]
      rw [heq]
      exact ⟨hb, rfl, rfl⟩
    · have heq : seqStep b = withdrawInHalt b := by simp only [seqStep, hp]
      rw [heq]
      unfold withdrawInHalt
      split
      · exact ⟨hb.of_same rfl rfl, rfl, rfl⟩
      · exact ⟨hb, rfl, rfl⟩

theorem settle_frozen (s : Block) (judge : Bool) (hb : Frozen b) :
    (settle s judge b).lift = b.lift ∧ (settle s judge b).plan.roles = b.plan.roles := by
  have h := (reactions_answers s judge b).keep (P := fun a => Frozen a ∧ a.lift = b.lift ∧ a.plan = b.plan)
    (fun a c hs ⟨ha, hl, hp⟩ => by
      obtain ⟨hc, hl', hp'⟩ := hs.frozen ha
      exact ⟨hc, hl'.trans hl, hp'.trans hp⟩) ⟨hb, rfl, rfl⟩
  have hclosed := closed_close s (answers s judge b)
  exact ⟨hclosed.lift.trans h.2.1, hclosed.roles.trans (congrArg _ h.2.2)⟩

end Sys2Proof.Machine
end

section
/-!
The Emergency Lower and the Release Hold (R15, R16), and the halts of the route (R117, R141, R145).
-/

namespace Sys2Proof.Machine

variable {q : Req} {s t : State} {b x y : Block} {p r : Panto} {i : Bool} {h : HaltReason}

/-! ## The Emergency Lower -/

/-- The block that an Emergency Lower has halted, before its lowers. -/
def emergencyHalted (b : Block) : Block := halt .emergency (openBreaker .p (setHold true b))

theorem emergencyLower_eq (b : Block) : emergencyLower b = lowerRoof true (emergencyHalted b) := rfl

/-- What an Emergency Lower halts, and what it leaves. -/
structure EmergencyHalted (b x : Block) : Prop where
  stopped    : Stopped x
  disengaged : breakerEngaged x = false
  plan       : x.plan = { b.plan with hold := true }
  cond       : x.cond.restart = b.cond.restart ∧ x.cond.standbyLowering = b.cond.standbyLowering
  earth      : x.sw.earth = b.sw.earth
  lc         : ∀ p, x.lc p = b.lc p
  halts      : b.seq.phase ≠ .idle → x.seq.phase = .halted ∧ x.seq.haltReason = some .emergency
  idle       : b.seq.phase = .idle → x.seq.phase = .idle

theorem emergencyHalted_facts (b : Block) : EmergencyHalted b (emergencyHalted b) := by
  have hopen : HaltKeeps (setHold true b) (openBreaker .p (setHold true b)) := by
    rw [openBreaker_frame]
    exact ⟨rfl, rfl, rfl, rfl, rfl⟩
  have hseq : (openBreaker .p (setHold true b)).seq = b.seq := openBreaker_seq _ _
  have hlc (p : Panto) : (openBreaker .p (setHold true b)).lc p = b.lc p := openBreaker_lc _ _ _
  have hdis := openBreaker_disengages .p (setHold true b)
  unfold emergencyHalted
  generalize openBreaker .p (setHold true b) = c at hopen hseq hlc hdis
  have hhalt := haltKeeps_halt (h := .emergency) (by decide) c
  refine ⟨halt_stopped _ c, halt_disengaged _ hdis, hhalt.plan.trans hopen.plan,
    ⟨hhalt.restart.trans hopen.restart, hhalt.standby.trans hopen.standby⟩, hhalt.earth.trans hopen.earth,
    fun p => (halt_lc _ p c).trans (hlc p), fun hi => ?_, fun hi => ?_⟩
  · rw [← hseq] at hi
    by_cases hh : c.seq.phase = .halted
    · simp only [halt, hh]
      exact ⟨rfl, rfl⟩
    · exact halt_reason hi hh
  · rw [halt_idle (by rwa [hseq]), hseq]
    exact hi

/-! ## A roof that is down under the hold -/

/-- With the hold set nothing is raised in an answer. -/
theorem Act.unraised {w : Ending} (ha : Act w b x) (hold : b.plan.hold = true) (hp : (b.lc p).state.raised = false) :
    (x.lc p).state.raised = false := by
  rcases ha.lc_eq_or p with heq | hl
  · rw [heq, hp]
  have hno (ht : RaiseTaken b p) : False := absurd (hold.symm.trans ht.1) (by decide)
  generalize x.lc p = l at hl
  cases hl
  case holds taken _ _ _ => exact (hno taken).elim
  case raises taken _ _ _ => exact (hno taken).elim
  case lowers => rfl
  all_goals exact hp

theorem Act.hold {w : Ending} (ha : Act w b x) : x.plan.hold = b.plan.hold := by
  cases ha
  case opens => rw [openBreaker_plan]
  case serves n _ => cases n <;> rfl
  case stores only => rw [only]
  case ice only => rw [only.frame]
  all_goals rfl

theorem settle_unraised (s : Block) (judge : Bool) (hold : b.plan.hold = true)
    (hp : ∀ p, (b.lc p).state.raised = false) (p : Panto) : ((settle s judge b).lc p).state.raised = false := by
  obtain ⟨y, hacts, hclosed⟩ := settle_acts s judge b
  rw [hclosed.lc]
  exact (hacts.keep (P := fun a => a.plan.hold = true ∧ (a.lc p).state.raised = false)
    (fun a c hs ⟨hh, hr⟩ => ⟨hs.hold.trans hh, hs.unraised hh hr⟩) ⟨hold, hp p⟩).2

/-- The Emergency Lower at the end of its event. -/
theorem emergencyLower_ends (hq : Protects q s.block) (ht : exec (.emergencyLower q) s = .next t) :
    t.block.plan.hold = true ∧ breakerEngaged t.block = false ∧
    (s.block.cond.restart = none → ∀ p, (t.block.lc p).state.raised = false) ∧
    (s.block.cond.restart.isSome = true → s.block.cond.standbyLowering = false → ∀ p,
      (t.block.lc p).state = (s.block.lc p).state ∧ t.block.plan.roles.get p = s.block.plan.roles.get p ∧
      (t.block.lc p).lowerNoted = true) ∧
    (s.block.seq.phase ≠ .idle → t.block.seq.phase = .halted ∧ t.block.seq.haltReason = some .emergency) ∧
    (s.block.seq.phase = .idle → t.block.seq.phase = .idle) ∧
    t.block.plan.lead = s.block.plan.lead ∧ t.block.sw.earth = s.block.sw.earth ∧
    Answered s t q.link (plainReply 0x23 q .accepted) := by
  have hfacts := emergencyHalted_facts (refresh q.link s.block)
  have he := holds_at ht (request_ends_as (code := 0x23) (examine_protection hq)
    (a := effect .accepted (emergencyLower (refresh q.link s.block))) rfl (links_emergencyLower _))
  have hblock := he.settles
  rw [emergencyLower_eq] at hblock
  generalize emergencyHalted (refresh q.link s.block) = c at hfacts hblock
  obtain ⟨hstop, hdis, hplan, ⟨hrestart, hstandby⟩, hearth, hlc, hhalts, hidle⟩ := hfacts
  have hcalm := not_needsContact_of_stopped hstop
  have haround := around_lowerRoof (i := true) hcalm
  have hdown (ha : s.block.cond.restart = none) (p : Panto) : Down true p (lowerRoof true c) :=
    lowerRoof_down ⟨hcalm, hrestart.trans ha⟩ p
  have hnoted (ha : s.block.cond.restart.isSome = true) := lowerRoof_noted (i := true) (hrestart.symm ▸ ha) hcalm
  generalize lowerRoof true c = d at hblock haround hdown hnoted
  have hwhole : Around d (pushReply q.link (plainReply 0x23 q .accepted) d) := (touches_pushReply .p1 _ _ d).around
  have hlift : (pushReply q.link (plainReply 0x23 q .accepted) d).lift = d.lift := rfl
  have hroles : (pushReply q.link (plainReply 0x23 q .accepted) d).plan = d.plan := rfl
  generalize pushReply q.link (plainReply 0x23 q .accepted) d = e at hblock hwhole hlift hroles
  have hall := haround.trans hwhole
  have hseqe : e.seq = c.seq := hall.seq
  have hstope : Stopped e := by rw [Stopped, hseqe]; exact hstop
  have hst := settle_stands s.block false hstope
  have hkept := kept_settle s.block false e
  have hunraised := settle_unraised s.block false (b := e)
  have hfrozen := settle_frozen s.block false (b := e)
  rw [← hblock] at hst hkept hunraised hfrozen
  have hseq : t.block.seq = c.seq := hst.seq.trans hseqe
  have hplane : e.plan.lead = s.block.plan.lead ∧ e.plan.hold = true := by
    rw [hall.plan, hplan]
    exact ⟨rfl, rfl⟩
  have hlead := (congrArg Kept.lead hkept).trans hplane.1
  have hhold := (congrArg Kept.hold hkept).trans hplane.2
  have hlce (p : Panto) : e.lc p = d.lc p := by rw [Block.lc, hlift, Block.lc]
  refine ⟨hhold, hst.disengaged (hall.disengaged hdis), fun ha p => ?_, fun ha hs p => ?_,
    by rw [hseq]; exact hhalts, by rw [hseq]; exact hidle, hlead, ?_, he.plain⟩
  · refine hunraised hplane.2 (fun r => ?_) p
    by_contra hr
    rw [hlce] at hr
    exact absurd ((hdown ha r) (eq_true_of_ne_false hr)).1 (by decide)
  · obtain ⟨hnotes, honly⟩ := hnoted ha
    have hcond := hall.cond
    obtain ⟨hl, hr⟩ := hfrozen ⟨hstope, by rw [hcond, hrestart]; exact ha, by rw [hcond, hstandby]; exact hs⟩
    have hlcp : t.block.lc p = d.lc p := (congrArg (fun v => v.get p) hl).trans (hlce p)
    rw [hlcp, honly.states, hlc, hr, hroles, honly.plan, hplan]
    refine ⟨rfl, rfl, ?_⟩
    rcases hnotes p with hn | ⟨hi, -⟩
    · exact hn
    · cases hi
  · rw [hst.sw, hall.switches, hearth]
    rfl

/-! ## The Release Hold -/

theorem releaseHold_ends (hq : Protects q s.block) (ht : exec (.releaseHold q) s = .next t) :
    t.block.plan.hold = false ∧ Answered s t q.link (plainReply 0x24 q .done) ∧
    (s.block.seq.phase = .halted → t.block.seq.phase = .halted) ∧ (s.block.plan.hold = false → OnlyLinks s t) := by
  cases hh : s.block.plan.hold
  case false =>
    have ha : releaseHold (refresh q.link s.block) = unchanged (refresh q.link s.block) := if_neg (by
      rw [show (refresh q.link s.block).plan.hold = s.block.plan.hold from rfl, hh]
      decide)
    obtain ⟨honly, hans⟩ := holds_at ht (request_unchanged (examine_protection hq) ha)
    have hplan := congrArg Block.plan honly
    have hseq := congrArg Block.seq honly
    exact ⟨(congrArg (fun v => v.hold) hplan).trans hh, hans, fun hp => by rw [hseq]; exact hp, fun _ => honly⟩
  case true =>
    have ha : releaseHold (refresh q.link s.block) = effect .done (setHold false (refresh q.link s.block)) := if_pos hh
    have he := holds_at ht (request_ends_as (code := 0x24) (examine_protection hq) ha rfl)
    have hkept := congrArg Kept.hold (he.kept t.block.kept.links)
    refine ⟨hkept, he.plain, fun hp => ?_, fun hn => absurd hn (by decide)⟩
    have hst := settle_stands s.block false
      (b := pushReply q.link (plainReply 0x24 q .done) (setHold false (refresh q.link s.block))) (.inr hp)
    rw [he.settles, hst.seq]
    exact hp

/-- Settles O16, by the lowers on a halted path and by what answers leave of a roof under the hold. -/
theorem emergencyHoldIsSetAndReleased : Obligations.EmergencyHoldIsSetAndReleased := by
  unfold Obligations.EmergencyHoldIsSetAndReleased
  refine ⟨fun q s hq => ?_, fun q s hq => ?_⟩
  · obtain ⟨t, ht⟩ := exec_ends (.emergencyLower q) s
    exact ⟨t, ht, emergencyLower_ends hq ht⟩
  · obtain ⟨t, ht⟩ := exec_ends (.releaseHold q) s
    exact ⟨t, ht, releaseHold_ends hq ht⟩

end Sys2Proof.Machine
end

section
/-!
The halts of the route: a direction change, and a position lost (R117, R141, R145).
-/

namespace Sys2Proof.Machine

variable {q : Req} {s t : State} {b x y : Block} {p r : Panto} {h : HaltReason}

/-! ## A Motion Report that finds no path and no entry -/

theorem removalPass_empty (he : b.queue.entries = []) : removalPass b = b.setEntries [] := by
  simp [removalPass, he, recordMissed]

theorem activation_empty (he : b.queue.entries = []) : activation b = b := by
  unfold activation unservedActive
  simp only [he, List.find?_nil]
  split <;> rfl

theorem motionExits_stopped (hb : Stopped b) (v : Phase) : motionExits v b = b := by
  unfold motionExits
  split
  · rfl
  next hsame =>
    rw [not_not] at hsame
    rcases hb with hp | hp <;> rw [← hsame, hp] <;> rfl

theorem around_speedAbort (hb : ¬b.seq.NeedsContact) : Around b (speedAbort b) := by
  unfold speedAbort
  split
  · exact around_abortSearches hb
  · exact .refl b

theorem entries_serveEntry (n : Option Nat) (he : b.queue.entries = []) : (serveEntry n b).queue.entries = [] := by
  cases n <;> simp [serveEntry, he]

theorem queue_haltFault (h : HaltReason) (b : Block) : (haltFault h b).queue = b.queue := by cases h <;> rfl

theorem entries_enterHalt (hm : h ≠ .mismatch) (he : b.queue.entries = []) : (enterHalt h b).queue.entries = [] := by
  rw [enterHalt_eq hm, openBreaker_frame]
  exact entries_serveEntry _ (by rw [queue_haltFault, he])

theorem entries_halt (hm : h ≠ .mismatch) (he : b.queue.entries = []) : (halt h b).queue.entries = [] := by
  unfold halt
  split
  · exact he
  · split <;> exact he
  · exact entries_enterHalt hm he

/-- What a report of a direction change leaves of queue and Sequencer: the halt's record and no entry. -/
structure Reversed (b x : Block) : Prop where
  entries : x.queue.entries = []
  stopped : Stopped x
  halts   : b.seq.phase ≠ .idle → b.seq.phase ≠ .halted →
    x.seq.phase = .halted ∧ x.seq.haltReason = some .routeReversed
  stands  : b.seq.phase = .halted → x.seq = b.seq

theorem reversed_reverseRoute (b : Block) : Reversed b (reverseRoute b) := by
  refine ⟨entries_halt (by decide) rfl, halt_stopped _ _, fun hi hh => ?_, fun hp => ?_⟩
  · exact halt_reason (b := b.setEntries []) hi hh
  · rw [reverseRoute, halt_halted (b := b.setEntries []) hp (by decide)]
    rfl

theorem Reversed.of_same (hr : Reversed b x) (hseq : y.seq = x.seq) (he : y.queue.entries = x.queue.entries) :
    Reversed b y :=
  ⟨he.trans hr.entries, by rw [Stopped, hseq]; exact hr.stopped, by rw [hseq]; exact hr.halts,
    by rw [hseq]; exact hr.stands⟩

theorem reversed_acceptMotion {position speed : Nat} {direction : Direction} (hd : directionChange b direction = true) :
    Reversed b (acceptMotion position speed direction b) := by
  have hrev := reversed_reverseRoute (holdMotion position speed direction b)
  simp only [acceptMotion, hd, if_true]
  generalize reverseRoute (holdMotion position speed direction b) = c at hrev
  rw [removalPass_empty hrev.entries]
  have hempty : Reversed b (c.setEntries []) :=
    ⟨rfl, hrev.stopped, hrev.halts, fun hp => hrev.stands hp⟩
  generalize c.setEntries [] = d at hempty
  rw [activation_empty hempty.entries]
  have hcalm := not_needsContact_of_stopped hempty.stopped
  have ha := around_speedAbort hcalm
  generalize speedAbort d = e at ha
  have hstop : Stopped e := by
    rw [Stopped, ha.seq]
    exact hempty.stopped
  rw [motionExits_stopped hstop]
  exact hempty.of_same ha.seq (congrArg (fun v => v.entries) ha.queue)

theorem scoreAtMotion_frame (b : Block) : scoreAtMotion b = { b with ice := (scoreAtMotion b).ice } :=
  evaluateScore_frame _ b

theorem Reversed.scored (hr : Reversed b x) : Reversed b (scoreAtMotion x) := by
  rw [scoreAtMotion_frame]
  exact hr.of_same rfl rfl

theorem directionChange_of_ne {direction old : Direction} (hl : b.queue.lastDirection = some old)
    (hd : direction ≠ .standstill) (hne : direction ≠ old) : directionChange b direction = true := by
  cases direction
  case standstill => exact absurd rfl hd
  all_goals simp only [directionChange, Direction.running, hl, bne_iff_ne, ne_eq, hne, not_false_eq_true]

theorem motionReport_accepted {position speed : Nat} {direction : Direction} (hp : b.queue.position ≤ position)
    (hd : direction ≠ .standstill) : motionReport position speed direction b =
    ⟨scoreAtMotion (acceptMotion position speed direction b), if 400 < speed then .clamped else .done, .none, .scraper⟩ := by
  have hr : motionRefused b position speed direction = false := by
    simp [motionRefused, Nat.not_lt.mpr hp, hd]
  simp [motionReport, hr]

theorem routeReversal_ends {position speed : Nat} {direction old : Direction} (hq : Protects q s.block)
    (hp : s.block.queue.position ≤ position) (hl : s.block.queue.lastDirection = some old)
    (hd : direction ≠ .standstill) (hne : direction ≠ old)
    (ht : exec (.motionReport q position speed direction) s = .next t) : Reversed s.block t.block := by
  have ha := motionReport_accepted (speed := speed) (b := refresh q.link s.block) hp hd
  have hrev := reversed_acceptMotion (position := position) (speed := speed) (b := refresh q.link s.block)
    (directionChange_of_ne hl hd hne)
  have he := holds_at ht (request_ends (owner := motionReport position speed direction) (code := 0x20)
    (examine_protection hq) (links_motionReport _ _ _ _))
  rw [ha] at he
  generalize acceptMotion position speed direction (refresh q.link s.block) = c at hrev he
  have hscore := hrev.scored
  have hblock : t.block = settle s.block true (pushReply q.link _ (scoreAtMotion c)) := he.block
  have hpush := hscore.of_same (y := pushReply q.link
    ⟨0x20, q.tag, if 400 < speed then .clamped else .done, .none⟩ (scoreAtMotion c)) rfl rfl
  generalize pushReply q.link ⟨0x20, q.tag, if 400 < speed then .clamped else .done, .none⟩ (scoreAtMotion c) = d at hpush hblock
  have hst := settle_stands s.block true hpush.stopped
  rw [← hblock] at hst
  have hrev' := hpush.of_same hst.seq (congrArg (fun v => v.entries) hst.queue)
  exact ⟨hrev'.entries, hrev'.stopped, hrev'.halts, hrev'.stands⟩

/-! ## A position lost -/

theorem positionLost_halts (hp : b.seq.phase = .armed ∨ b.seq.phase = .coast) :
    positionLost b = halt .positionLost (reachMotionAge 5000 b) := by
  rcases hp with hp | hp <;> simp only [positionLost, hp]

theorem faultCount_enterHalt_positionLost (b : Block) :
    faultCount .positionLost (enterHalt .positionLost b) = oneMore .positionLost b := by
  rw [enterHalt_eq (by decide)]
  refine (faultCount_of_faults (b := haltFault .positionLost b) ?_ _).trans (faultCount_recordFault_self _ _ _)
  rw [openBreaker_cond]
  cases b.seq.activeEntry <;> rfl

/-- Settles O41, by what stands where no path runs. -/
theorem routeReversalAndLostPositionHalt : Obligations.RouteReversalAndLostPositionHalt := by
  unfold Obligations.RouteReversalAndLostPositionHalt
  refine ⟨fun q position speed direction old s hq hp hl hd _ hne => ?_, fun s hp => ?_⟩
  · obtain ⟨t, ht⟩ := exec_ends (.motionReport q position speed direction) s
    have hrev := routeReversal_ends hq hp hl hd hne ht
    exact ⟨t, ht, hrev.entries, hrev.halts, fun hh => by rw [hrev.stands hh]; exact ⟨hh, rfl⟩⟩
  · obtain ⟨t, ht, hblock⟩ := event_ends s false positionLost
    have hage : (reachMotionAge 5000 s.block).seq = s.block.seq := rfl
    have hi : (reachMotionAge 5000 s.block).seq.phase ≠ .idle := by
      rw [hage]
      rcases hp with hp | hp <;> simp [hp]
    have hh : (reachMotionAge 5000 s.block).seq.phase ≠ .halted := by
      rw [hage]
      rcases hp with hp | hp <;> simp [hp]
    have hcount : oneMore .positionLost (reachMotionAge 5000 s.block) = oneMore .positionLost s.block := rfl
    rw [positionLost_halts hp, halt_running hi hh] at hblock
    have hseq := seq_enterHalt .positionLost (reachMotionAge 5000 s.block)
    have hfault := faultCount_enterHalt_positionLost (reachMotionAge 5000 s.block)
    generalize enterHalt .positionLost (reachMotionAge 5000 s.block) = c at hblock hseq hfault
    have hst := settle_stands s.block false (b := c) (.inr (by rw [hseq]))
    rw [← hblock] at hst
    refine ⟨t, ht, by rw [hst.seq, hseq], by rw [hst.seq, hseq], ?_⟩
    exact (faultCount_of_faults hst.faults _).trans (hfault.trans hcount)

end Sys2Proof.Machine
end

section
/-!
Lower, by lift state, and its halt of a changeover (R14, R36, R44, R144).
-/

namespace Sys2Proof.Machine

variable {q : Req} {s t : State} {b x y : Block} {p r : Panto} {n : Option Panto}

/-! ## One pantograph, by its lift state -/

/-- What an ordinary lower leaves of a pantograph with none pending, no VALVES step being on it (R36). -/
structure LowerLeaves (p : Panto) (b x : Block) : Prop where
  begins   : (b.lc p).state = .raising ∨ (b.lc p).state = .contact ∧ (b.role p ≠ .collecting ∨ holdsLower b = false) →
    x.lc p = (b.lc p).toLowering
  pends    : (b.lc p).state = .contact → b.role p = .collecting → holdsLower b = true →
    x.lc p = { b.lc p with lowerPending := true } ∧ x.sw.breaker.state = .opening
  discards : (b.lc p).state = .stowed ∨ (b.lc p).state = .lowering → (b.lc p).held ≠ .none →
    x.lc p = (b.lc p).discarded ∧ x.role p = .none
  aborts   : (b.lc p).state = .searching →
    x.lc p = (b.lc p).toLowering ∧ (x.cal.get p).fields.lastResult = some .aborted
  keeps    : (b.lc p).state = .lowering ∧ (b.lc p).held = .none ∨ (b.lc p).state = .dropped ∨
      (b.lc p).state = .outOfService → x.lc p = b.lc p ∧ x.plan.roles = b.plan.roles
  pending  : (x.lc p).lowerPending = true → holdsLower x = true
  role     : x.role p = b.role p ∨ x.role p = .none

theorem openBreaker_opening {v : Source} (h : holdsLower b = true) : (openBreaker v b).sw.breaker.state = .opening := by
  unfold holdsLower at h
  unfold openBreaker
  cases hs : b.sw.breaker.state <;> simp [hs, Block.setBreaker, TwoSw.move, TwoPos.travel] at h ⊢

theorem holdsLower_of_opening (h : b.sw.breaker.state = .opening) : holdsLower b = true := by simp [holdsLower, h]

theorem lastResult_abortEntry (p : Panto) (b : Block) :
    ((abortEntry p b).cal.get p).fields.lastResult = some .aborted := by
  have hcal : (abortEntry p b).cal = b.cal.set p ⟨{ (b.cal.get p).fields with lastResult := some .aborted }, false⟩ := by
    unfold abortEntry changeEntry report markAll
    rw [offerWrite_frame]
  rw [hcal, PerP.get_set_self]

theorem lowerLeaves_takeLower (hc : ¬b.seq.NeedsContact) (ha : b.cond.restart = none)
    (hv : ∀ m, b.cond.testStep ≠ .valves p m) (hp : (b.lc p).lowerPending = false) :
    LowerLeaves p b (takeLower false p b) := by
  have hlow : beginLowering p b = b.setLift p (b.lc p).toLowering := beginLowering_of_calm hc
  have hskip : skipValves p b = b := skipValves_of_other hv
  rw [takeLower, if_neg (by simp [adoptionWaits, ha])]
  cases hs : (b.lc p).state
  case stowed | lowering =>
    by_cases hh : (b.lc p).held = .none
    · have heq : actOnLower false p b = b := by simp [actOnLower, hs, hh, hskip]
      rw [heq]
      constructor <;> simp [hs, hh, hp]
    · have heq : actOnLower false p b = discardHeld p b := by simp [actOnLower, hs, hh, hskip]
      rw [heq]
      constructor <;> simp [hs, hh, lc_discardHeld_self, role_discardHeld, Lift.discarded, hp]
  case raising =>
    have heq : actOnLower false p b = b.setLift p (b.lc p).toLowering := by simp [actOnLower, hs, hlow]
    rw [heq]
    constructor <;> simp [hs, Lift.toLowering]
  case contact =>
    by_cases hw : b.role p = .collecting ∧ holdsLower b = true
    · have heq : actOnLower false p b = openBreaker .internal (b.setLift p { b.lc p with lowerPending := true }) := by
        simp [actOnLower, hs, waitsForBreaker, hw, pendLower, hp]
      have hopen : (openBreaker .internal (b.setLift p { b.lc p with lowerPending := true })).sw.breaker.state =
        .opening := openBreaker_opening hw.2
      rw [heq]
      have hrole : (openBreaker .internal (b.setLift p { b.lc p with lowerPending := true })).role p = b.role p := by
        rw [Block.role, openBreaker_plan]
        rfl
      refine ⟨?_, fun _ _ _ => ⟨by rw [openBreaker_lc, lc_setLift_self], hopen⟩, ?_, ?_, ?_,
        fun _ => holdsLower_of_opening hopen, .inl hrole⟩ <;> simp [hs, hw]
    · have hw' : waitsForBreaker b false p = false := by
        simp only [waitsForBreaker, hs]
        rw [not_and, Bool.not_eq_true] at hw
        by_cases hr : b.role p = .collecting
        · simp [hr, hw hr]
        · simp [hr]
      have heq : actOnLower false p b = b.setLift p (b.lc p).toLowering := by simp [actOnLower, hs, hw', hlow]
      rw [heq]
      refine ⟨fun _ => lc_setLift_self _ _ _, fun _ h1 h2 => absurd ⟨h1, h2⟩ hw, ?_, ?_, ?_, ?_, .inl rfl⟩ <;>
        simp [hs, Lift.toLowering]
  case searching =>
    have habort := touches_abortEntry p b
    have heq : actOnLower false p b = (abortEntry p b).setLift p (b.lc p).toLowering := by
      have hca : ¬(abortEntry p b).seq.NeedsContact := by rwa [habort.seq]
      simp [actOnLower, hs, abortSearch, beginLowering_of_calm hca]
    have hrole : ((abortEntry p b).setLift p (b.lc p).toLowering).role p = b.role p := by
      change (abortEntry p b).role p = b.role p
      rw [abortEntry, changeEntry_only]
      rfl
    rw [heq]
    refine ⟨?_, ?_, ?_, fun _ => ⟨lc_setLift_self _ _ _, lastResult_abortEntry p b⟩, ?_, ?_, .inl hrole⟩ <;>
      simp [hs, Lift.toLowering]
  case dropped | outOfService =>
    have heq : actOnLower false p b = b := by simp [actOnLower, hs]
    rw [heq]
    constructor <;> simp [hs, hp]

/-! ## Lower of one pantograph on a resting part -/

theorem restsStowed_iff : restsStowed b p = true ↔ (b.lc p).state = .stowed ∧ (b.lc p).held = .none := by
  simp [restsStowed]

theorem lowerNamed_taken (h : (namedBy n).all (restsStowed b) = false) :
    lowerNamed n b = effect .accepted (passLowers (namedBy n) (halt .masterLower b)) := by
  simp [lowerNamed, h]

theorem halt_of_stopped (hb : Stopped b) : halt .masterLower b = b := by
  rcases hb with hp | hp
  · exact halt_idle hp
  · exact halt_halted hp (by decide)

/-- A Lower of one pantograph that rests: nothing changes but the links. -/
theorem lower_unchanged (hq : Speaks q s.block) (hs : (s.block.lc p).state = .stowed) (hh : (s.block.lc p).held = .none)
    (hv : inValves s.block p = false) :
    ∃ t, exec (.lower q (some p)) s = .next t ∧ OnlyLinks s t ∧ Answered s t q.link (plainReply 0x06 q .done) := by
  refine request_unchanged (examine_masters hq) ?_
  have hrest : restsStowed (refresh q.link s.block) p = true := restsStowed_iff.mpr ⟨hs, hh⟩
  have hvalves : inValves (refresh q.link s.block) p = false := hv
  simp [lowerNamed, namedBy, hrest, hvalves, unchanged]

/-- A Lower of one pantograph on a resting part: what its Lift Controller makes of it, and nothing else. -/
theorem lower_settles (hq : Speaks q s.block) (hr : Resting s.block) (hn : NoScraper s.block)
    (hp : ¬((s.block.lc p).state = .stowed ∧ (s.block.lc p).held = .none))
    (ht : exec (.lower q (some p)) s = .next t) :
    ∃ x, LowerLeaves p s.block x ∧ Touches p s.block x ∧ SettlesAs x t.block ∧ KeepsRest s t ∧
      Answered s t q.link (plainReply 0x06 q .accepted) := by
  have hcalm : ¬s.block.seq.NeedsContact := hr.phase_stopped
  have hrests : (namedBy (some p)).all (restsStowed (refresh q.link s.block)) = false := by
    have hrest : restsStowed (refresh q.link s.block) p = false := by
      rw [← Bool.not_eq_true]
      exact hp ∘ restsStowed_iff.mp
    simp [namedBy, hrest]
  have ha := lowerNamed_taken hrests
  rw [halt_of_stopped (b := refresh q.link s.block) hr.phase] at ha
  have he := holds_at ht (request_ends_as (code := 0x06) (examine_masters hq) ha (links_passLowers _ _))
  have hblock := he.settles
  have hkept := he.keepsRest_of_kept (kept_takeLower false p _)
  have hleaves := lowerLeaves_takeLower (b := refresh q.link s.block) hcalm hr.restart (hr.valves p) (hr.lowers p)
  have htouch := (touches_refresh p q.link s.block).trans (touches_takeLower (i := false) (p := p) hcalm)
  change t.block = settle s.block false (pushReply q.link _ (takeLower false p (refresh q.link s.block))) at hblock
  generalize takeLower false p (refresh q.link s.block) = c at hblock hleaves htouch
  have htouch' := htouch.trans (touches_pushReply p q.link (plainReply 0x06 q .accepted) c)
  have hleaves' : LowerLeaves p s.block (pushReply q.link (plainReply 0x06 q .accepted) c) :=
    ⟨hleaves.begins, hleaves.pends, hleaves.discards, hleaves.aborts, hleaves.keeps, hleaves.pending, hleaves.role⟩
  generalize pushReply q.link (plainReply 0x06 q .accepted) c = d at hblock hleaves' htouch'
  have hquiet : Quiet d := by
    refine hr.quiet_touches hn htouch' (fun hpend _ => hleaves'.pending hpend) ?_
    rcases hleaves'.role with hrole | hrole
    · rw [hrole]
      exact hn.roles p
    · simp [hrole]
  exact ⟨d, hleaves', htouch', hblock ▸ settle_quiet s.block false hquiet, hkept, he.plain⟩

theorem breaker_of_opening {t : Block} (h : SettlesAs x t) (ho : x.sw.breaker.state = .opening) :
    t.sw.breaker.state = .opening := by
  rcases h.breaker with hb | ⟨hb, -⟩
  · rw [hb, ho]
  · simp [breakerEngaged, ho] at hb

/-- A Lower of one pantograph, by its lift state. -/
theorem lower_one (hq : Speaks q s.block) (hr : Resting s.block) (hn : NoScraper s.block)
    (hv : inValves s.block p = false) :
    ∃ t, exec (.lower q (some p)) s = .next t ∧ OthersStay p s t ∧
      ((s.block.lc p).state = .stowed → (s.block.lc p).held = .none →
        OnlyLinks s t ∧ Answered s t q.link (plainReply 0x06 q .done)) ∧
      (¬((s.block.lc p).state = .stowed ∧ (s.block.lc p).held = .none) →
        KeepsRest s t ∧ Answered s t q.link (plainReply 0x06 q .accepted)) ∧
      ((s.block.lc p).state = .raising ∨
          (s.block.lc p).state = .contact ∧ (s.block.role p ≠ .collecting ∨ holdsLower s.block = false) →
        (t.block.lc p).state = .lowering ∧ (t.block.lc p).lowerTimer = some 0 ∧
        (t.block.lc p).commanded = (s.block.lc p).commanded) ∧
      ((s.block.lc p).state = .contact → s.block.role p = .collecting → holdsLower s.block = true →
        (t.block.lc p).state = .contact ∧ (t.block.lc p).lowerPending = true ∧
        t.block.sw.breaker.state = .opening) ∧
      ((s.block.lc p).state = .stowed ∨ (s.block.lc p).state = .lowering → (s.block.lc p).held ≠ .none →
        (t.block.lc p).state = (s.block.lc p).state ∧ (t.block.lc p).held = .none ∧ t.block.role p = .none) ∧
      ((s.block.lc p).state = .searching →
        (t.block.lc p).state = .lowering ∧ (t.block.cal.get p).fields.lastResult = some .aborted) ∧
      ((s.block.lc p).state = .lowering ∧ (s.block.lc p).held = .none ∨
          (s.block.lc p).state = .dropped ∨ (s.block.lc p).state = .outOfService →
        t.block.lc p = s.block.lc p ∧ t.block.plan.roles = s.block.plan.roles) := by
  by_cases hp : (s.block.lc p).state = .stowed ∧ (s.block.lc p).held = .none
  · obtain ⟨hs, hh⟩ := hp
    obtain ⟨t, ht, honly, hans⟩ := lower_unchanged hq hs hh hv
    refine ⟨t, ht, fun r _ => ?_, fun _ _ => ⟨honly, hans⟩, fun hno => absurd ⟨hs, hh⟩ hno, ?_⟩
    · rw [honly]
      exact ⟨rfl, rfl⟩
    · simp [hs, hh]
  · obtain ⟨t, ht⟩ := exec_ends (.lower q (some p)) s
    obtain ⟨x, hleaves, htouch, hset, hkept, hans⟩ := lower_settles hq hr hn hp ht
    refine ⟨t, ht, hset.othersStay htouch hr, fun hs hh => absurd ⟨hs, hh⟩ hp, fun _ => ⟨hkept, hans⟩, ?_⟩
    rw [hset.lc, hset.role, hset.cal, hset.roles]
    refine ⟨fun h => ?_, fun h1 h2 h3 => ?_, fun h1 h2 => ?_, fun h => ?_, hleaves.keeps⟩
    · rw [hleaves.begins h]
      exact ⟨rfl, rfl, rfl⟩
    · obtain ⟨hl, ho⟩ := hleaves.pends h1 h2 h3
      rw [hl]
      exact ⟨h1, rfl, breaker_of_opening hset ho⟩
    · obtain ⟨hl, hnone⟩ := hleaves.discards h1 h2
      rw [hl]
      exact ⟨rfl, rfl, hnone⟩
    · obtain ⟨hl, hres⟩ := hleaves.aborts h
      rw [hl]
      exact ⟨rfl, hres⟩

/-! ## Lower while a changeover runs, or while an adoption is waited for -/

/-- With no scraper, and no path run, nothing is raised in an answer. -/
structure Grounded (b : Block) : Prop where
  stopped : Stopped b
  enable  : b.ice.enable = false
  roles   : ∀ p, b.role p ≠ .scraping

theorem Act.grounded {w : Ending} (ha : Act w b x) (hb : Grounded b) : Grounded x := by
  have hseq := (ha.stands (.inl hb.stopped)).seq
  refine ⟨by rw [Stopped, hseq]; exact hb.stopped, ?_, fun p hp => ?_⟩
  · cases ha
    case opens => rw [openBreaker_frame]; exact hb.enable
    case serves i _ => cases i <;> exact hb.enable
    case stores only => rw [only]; exact hb.enable
    case ice only => exact only.enable.trans hb.enable
    all_goals exact hb.enable
  · rcases ha.role_eq_or p with hr | hr | ⟨hr, -⟩ | ⟨-, -, -, henable⟩
    · exact hb.roles p (hr ▸ hp)
    · rw [hr] at hp
      cases hp
    · rw [hr] at hp
      cases hp
    · exact absurd (hb.enable.symm.trans henable) (by decide)

/-- On such a roof a pantograph that is down stays down. -/
theorem Act.stays_down {w : Ending} {i : Bool} (ha : Act w b x) (hb : Grounded b) (hd : Down i p b) : Down i p x := by
  rcases ha.lc_eq_or p with heq | hl
  · rw [Down, heq]
    exact hd
  have hno (ht : RaiseTaken b p) : False := by
    rcases ht.2 with hr | hphase
    · exact hb.roles p hr
    · rcases hb.stopped with hs | hs <;> exact absurd (hs.symm.trans hphase) (by decide)
  rw [Down] at hd ⊢
  generalize x.lc p = l at hl
  cases hl
  case holds taken _ _ _ => exact (hno taken).elim
  case raises taken _ _ _ => exact (hno taken).elim
  case lowers => exact fun h => by cases h
  case pends contact _ _ => exact fun h => ⟨(hd h).1, contact, rfl⟩
  all_goals exact hd

theorem settle_down {i : Bool} (s : Block) (judge : Bool) (hb : Grounded b) (hd : Down i p b) :
    Down i p (settle s judge b) := by
  obtain ⟨y, hacts, hclosed⟩ := settle_acts s judge b
  rw [Down, hclosed.lc]
  exact (hacts.keep (P := fun a => Grounded a ∧ Down i p a)
    (fun a c hs ⟨hg, hdown⟩ => ⟨hs.grounded hg, hs.stays_down hg hdown⟩) ⟨hb, hd⟩).2

theorem passLowers_grounded (ps : List Panto) (hb : Grounded b) : Grounded (passLowers ps b) := by
  induction ps generalizing b with
  | nil => exact hb
  | cons r rs ih =>
    exact ih ((acts_takeLower (w := ⟨False, False⟩) false r b).keep (fun _ _ hs ha => hs.grounded ha) hb)

/-- A Lower that names one that does not rest. -/
theorem lower_named (hq : Speaks q s.block) (h : (namedBy n).all (restsStowed s.block) = false)
    (ht : exec (.lower q n) s = .next t) : Answered s t q.link (plainReply 0x06 q .accepted) ∧
      (s.block.seq.phase ≠ .idle → s.block.seq.phase ≠ .halted →
        t.block.seq.phase = .halted ∧ t.block.seq.haltReason = some .masterLower) ∧
      (n = none → s.block.cond.restart = none → NoScraper s.block → ∀ p, (t.block.lc p).state.raised = true →
        (t.block.lc p).state = .contact ∧ (t.block.lc p).lowerPending = true) ∧
      (s.block.cond.restart.isSome = true → s.block.cond.standbyLowering = false →
        (∀ p, (t.block.lc p).state = (s.block.lc p).state) ∧
        ∀ p ∈ namedBy n, (t.block.lc p).lowerNoted = true ∨ (t.block.lc p).lowerPending = true) := by
  have ha := lowerNamed_taken (b := refresh q.link s.block) h
  have hstop := halt_stopped .masterLower (refresh q.link s.block)
  have hlc (p : Panto) := halt_lc .masterLower p (refresh q.link s.block)
  have hkeeps := haltKeeps_halt (h := .masterLower) (by decide) (refresh q.link s.block)
  have hreason := halt_reason (h := .masterLower) (b := refresh q.link s.block)
  have he := holds_at ht (request_ends_as (code := 0x06) (examine_masters hq) ha
    ((links_passLowers _ _).trans (links_halt _ _)))
  have hblock := he.settles
  generalize halt .masterLower (refresh q.link s.block) = c at hstop hlc hkeeps hreason hblock
  have hcalm := not_needsContact_of_stopped hstop
  have haround := around_passLowers (namedBy n) hcalm
  have hdown (hr : c.cond.restart = none) (p : Panto) (hp : p ∈ namedBy n) : Down false p (passLowers (namedBy n) c) :=
    passLowers_down ⟨hcalm, hr⟩ hp
  have hnoted (hr : c.cond.restart.isSome = true) := passLowers_noted (ps := namedBy n) hr hcalm
  have hground := passLowers_grounded (b := c) (namedBy n)
  generalize passLowers (namedBy n) c = d at hblock haround hdown hnoted hground
  have hwhole : Around d (pushReply q.link (plainReply 0x06 q .accepted) d) := (touches_pushReply .p1 _ _ d).around
  have hlift : (pushReply q.link (plainReply 0x06 q .accepted) d).lift = d.lift := rfl
  have hplan : (pushReply q.link (plainReply 0x06 q .accepted) d).plan = d.plan := rfl
  generalize pushReply q.link (plainReply 0x06 q .accepted) d = e at hblock hwhole hlift hplan
  have hall := haround.trans hwhole
  have hstope : Stopped e := by rw [Stopped, hall.seq]; exact hstop
  have hst := settle_stands s.block false hstope
  have hsettled (p : Panto) := settle_down (p := p) (i := false) s.block false (b := e)
  have hfrozen := settle_frozen s.block false (b := e)
  rw [← hblock] at hst hfrozen hsettled
  have hlce (p : Panto) : e.lc p = d.lc p := by rw [Block.lc, hlift, Block.lc]
  refine ⟨he.plain, fun hi hh => ?_, fun hn hr hns p hp => ?_, fun hr hs => ?_⟩
  · rw [hst.seq, hall.seq]
    exact hreason hi hh
  · subst hn
    have hg : Grounded e := by
      have hd := hground ⟨hstop, hkeeps.enable.trans hns.enable, fun r => by
        rw [Block.role, hkeeps.plan]
        exact hns.roles r⟩
      refine ⟨hstope, by rw [hwhole.ice]; exact hd.enable, fun r => ?_⟩
      rw [Block.role, hplan]
      exact hd.roles r
    have hd := hdown (hkeeps.restart.trans hr) p (Panto.mem_all p)
    rw [Down, ← hlce] at hd
    obtain ⟨-, hcon, hpend⟩ := hsettled p hg hd hp
    exact ⟨hcon, hpend⟩
  · obtain ⟨hnotes, honly⟩ := hnoted (hkeeps.restart.symm ▸ hr)
    have hcond := hall.cond
    obtain ⟨hl, -⟩ := hfrozen ⟨hstope, by rw [hcond, hkeeps.restart]; exact hr, by rw [hcond, hkeeps.standby]; exact hs⟩
    have hlct (p : Panto) : t.block.lc p = d.lc p := (congrArg (fun v => v.get p) hl).trans (hlce p)
    refine ⟨fun p => ?_, fun p hp => ?_⟩
    · rw [hlct, honly.states, hlc]
      rfl
    · rw [hlct]
      exact (hnotes p hp).imp id fun hn => hn.2

/-- Settles O19, by the Lift Controller's answer by state and by what stands once the path has halted. -/
theorem lowerIsTaken : Obligations.LowerIsTaken := by
  unfold Obligations.LowerIsTaken
  refine ⟨fun q p s hq hr hn hv => lower_one hq hr hn hv, fun q n s hq h => ?_⟩
  obtain ⟨t, ht⟩ := exec_ends (.lower q n) s
  exact ⟨t, ht, lower_named hq h ht⟩

end Sys2Proof.Machine
end
section
/-!
A Sequencer that has no step of its own to take (R133 to R140): what the other answers leave of it, and that it gives no
role while it has none.
-/

namespace Sys2Proof.Machine

variable {b x y : Block} {p r c : Panto} {i : Bool} {w : Ending}

/-! ## Roles through lowers -/

/-- Roles stay, or are cleared. -/
def RolesFall (b x : Block) : Prop := ∀ p, x.role p = b.role p ∨ x.role p = .none

theorem RolesFall.of_plan (h : x.plan = b.plan) : RolesFall b x := fun p => .inl (by rw [Block.role, h, Block.role])

theorem RolesFall.trans (h : RolesFall b x) (h' : RolesFall x y) : RolesFall b y := fun p => by
  rcases h' p with hp | hp
  · rw [hp]
    exact h p
  · exact .inr hp

theorem leaveContact_plan {l : Lift} (p : Panto) (b : Block) : (leaveContact p l b).plan = b.plan := by
  unfold leaveContact
  dsimp only
  split
  · exact (haltKeeps_halt (by decide) _).plan
  · rfl

theorem beginLowering_plan (p : Panto) (b : Block) : (beginLowering p b).plan = b.plan := leaveContact_plan p b

theorem changeEntry_plan (p : Panto) (f : CalFields → CalFields) (b : Block) : (changeEntry p f b).plan = b.plan := by
  rw [changeEntry_only]

theorem abortSearch_plan (p : Panto) (b : Block) : (abortSearch p b).plan = b.plan :=
  (beginLowering_plan p _).trans (changeEntry_plan p _ b)

theorem rolesFall_discardHeld (p : Panto) (b : Block) : RolesFall b (discardHeld p b) := by
  have hplan : (abortHeld (b.lc p).heldSearch p b).plan = b.plan := by
    cases (b.lc p).heldSearch
    case false => rfl
    case true => exact changeEntry_plan p (fun f => { f with lastResult := some .aborted }) b
  intro r
  by_cases hr : r = p
  · subst hr
    exact .inr (role_discardHeld r b)
  · left
    rw [discardHeld_eq, role_clearRole_ne _ hr, Block.role, Block.role]
    exact congrArg (fun v => (v.roles.get r).role) hplan

theorem rolesFall_takeLower (i : Bool) (p : Panto) (b : Block) : RolesFall b (takeLower i p b) := by
  have hpend : (pendLower p b).plan = b.plan := by
    unfold pendLower
    split
    · rfl
    · exact openBreaker_plan _ _
  have hskip : (skipValves p b).plan = b.plan := skipValves_plan p b
  unfold takeLower actOnLower
  split
  · split
    · exact .of_plan hpend
    · exact .of_plan rfl
  · split
    · split
      · exact (RolesFall.of_plan hskip).trans (rolesFall_discardHeld p _)
      · exact .of_plan hskip
    · exact .of_plan (beginLowering_plan p b)
    · split
      · exact .of_plan hpend
      · exact .of_plan (beginLowering_plan p b)
    · split
      · exact rolesFall_discardHeld p b
      · exact .of_plan rfl
    · exact .of_plan (abortSearch_plan p b)
    · exact .of_plan rfl
    · exact .of_plan rfl

theorem rolesFall_clearRole (p : Panto) (b : Block) : RolesFall b (clearRole p b) := fun r => by
  by_cases hr : r = p
  · subst hr
    exact .inr (role_clearRole_self r b)
  · exact .inl (role_clearRole_ne b hr)

theorem rolesFall_eachPanto {f : Panto → Block → Block} (hf : ∀ p a, RolesFall a (f p a)) (b : Block) :
    RolesFall b (eachPanto f b) :=
  (((hf .p1 b).trans (hf .p2 _)).trans (hf .p3 _)).trans (hf .p4 _)

theorem rolesFall_abortSearches (b : Block) : RolesFall b (abortSearches b) := by
  unfold abortSearches onceAdopted
  split
  · exact .of_plan rfl
  · refine rolesFall_eachPanto (fun p a => ?_) b
    split
    · exact .of_plan (abortSearch_plan p a)
    · split
      · exact rolesFall_discardHeld p a
      · exact .of_plan rfl

theorem rolesFall_lowerUp (i : Bool) (b : Block) : RolesFall b (lowerUp i b) :=
  rolesFall_eachPanto (fun p a => by
    split
    · exact rolesFall_takeLower i p a
    · exact .of_plan rfl) b

/-! ## The phases in which nothing is granted -/

/-- The path is in no phase whose step may give a role. -/
def Late (b : Block) : Prop := b.seq.phase ∉ [.breakerOpen, .lowering, .coast, .probe]

theorem Act.phase_eq_or (h : Act w b x) : x.seq.phase = b.seq.phase ∨ (b.seq.phase, x.seq.phase) ∈ phaseSteps ∨
    x.seq.phase = .halted ∨ x.seq.phase = .idle := by
  cases h
  case opens => exact .inl (by rw [openBreaker_seq])
  case serves n _ => exact .inl (by rw [seq_serveEntry])
  case halts => exact .inr (.inr (.inl rfl))
  case finishes => exact .inr (.inr (.inr rfl))
  case moves q may => exact may.phase.imp id .inl
  case stores only => exact .inl (by rw [only])
  case ice only => exact .inl (by rw [only.frame])
  all_goals exact .inl rfl

/-- A set of phases that no step enters but from within is not entered again. -/
theorem Act.avoids {vs : List Phase} (h : Act w b x) (hb : b.seq.phase ∉ vs)
    (hvs : .halted ∉ vs ∧ .idle ∉ vs ∧ ∀ v ∈ phaseSteps, v.2 ∈ vs → v.1 ∈ vs) : x.seq.phase ∉ vs := by
  obtain ⟨hhalted, hidle, hsteps⟩ := hvs
  rcases h.phase_eq_or with hp | hp | hp | hp
  · rwa [hp]
  · exact fun hx => hb (hsteps _ hp hx)
  · rwa [hp]
  · rwa [hp]

theorem Act.late (h : Act w b x) (hb : Late b) : Late x := h.avoids hb (by decide)

theorem Acts.late (h : Acts w b x) (hb : Late b) : Late x := h.keep (fun _ _ hs => hs.late) hb

/-! ## What answers keep of switches, pantographs and settings -/

/-- The breaker is neither OPEN nor FAILED, or it is OPEN with its disagreement flag set. -/
def Shut (b : Block) : Prop := b.sw.breaker.isOpen = false ∧ b.sw.breaker.state ≠ .failed

theorem shut_openBreaker (v : Source) (hb : Shut b) : Shut (openBreaker v b) := by
  obtain ⟨h1, h2⟩ := hb
  unfold openBreaker
  split
  · exact ⟨h1, h2⟩
  · exact ⟨rfl, by simp [Block.setBreaker, TwoSw.move, TwoPos.travel]⟩
  · exact ⟨rfl, by simp [Block.setBreaker, TwoSw.move, TwoPos.travel]⟩
  · exact ⟨h1, h2⟩
  next hf => exact absurd hf h2

theorem Act.shut (h : Act w b x) (hb : Shut b) : Shut x := by
  cases h
  case opens => exact shut_openBreaker _ hb
  case closes isOpen _ => exact absurd (hb.1.symm.trans isOpen) (by decide)
  case serves n _ => cases n <;> exact hb
  case stores only => rw [only]; exact hb
  case ice only => rw [only.frame]; exact hb
  all_goals exact hb

/-- The pantograph is up or comes down. -/
def upOrLowering (b : Block) (p : Panto) : Bool := (b.lc p).state.raised || (b.lc p).state == .lowering

theorem Act.moving (h : Act w b x) (hp : upOrLowering b p = true) : upOrLowering x p = true := by
  rcases h.lc_eq_or p with heq | hl
  · rwa [upOrLowering, heq]
  unfold upOrLowering at hp ⊢
  generalize x.lc p = l at hl
  cases hl
  case lowers => rfl
  case raises stowed _ _ => simp [stowed, LiftState.raised] at hp
  all_goals exact hp

theorem roofDown_eq_false : roofDown b = false ↔ b.cond.restart.isSome = true ∨ ∃ p, upOrLowering b p = true := by
  rw [roofDown, Bool.and_eq_false_iff, Bool.not_eq_false', ← Bool.not_eq_true, Panto.all_all, not_forall]
  refine or_congr Iff.rfl (exists_congr fun p => ?_)
  rw [Bool.not_eq_true, Bool.not_eq_false']
  rfl

theorem Act.roofDown (h : Act w b x) (hb : roofDown b = false) : Sys2Proof.Machine.roofDown x = false := by
  rw [roofDown_eq_false] at hb ⊢
  rw [h.sameMode.restart]
  exact hb.imp id fun ⟨p, hp⟩ => ⟨p, h.moving hp⟩

theorem Act.enable (h : Act w b x) : x.ice.enable = b.ice.enable := by
  cases h
  case opens => rw [openBreaker_frame]
  case serves n _ => cases n <;> rfl
  case stores only => rw [only]
  case ice only => exact only.enable
  all_goals rfl

/-! ## A Sequencer that waits -/

/-- The switch work waits for switches in travel. -/
def WorkWaits (b : Block) : Prop := ∀ c, b.seq.candidate = some c →
  (b.seq.work = .switches → (othersOpen b c && selectorAt b c) = false) ∧
  (b.seq.work = .isolator → (b.sw.iso.get c).state ≠ .closed)

/-- The work of PROBE waits: for the breaker, the roof, the switches or the raise. -/
def ProbeWaits (b : Block) : Prop :=
  (b.seq.work = .awaitOpen → Shut b) ∧ (b.seq.work = .awaitDown → roofDown b = false) ∧ WorkWaits b ∧
    b.seq.work ≠ .ready

/-- The Sequencer has nothing to do in its phase but to wait, or to go on with a raise. -/
structure Waiting (b : Block) : Prop where
  breakerOpen : b.seq.phase = .breakerOpen → Shut b
  lowering    : b.seq.phase = .lowering → roofDown b = false
  coast       : b.seq.phase = .coast → WorkWaits b ∧
    (b.seq.work = .ready → waitsForPosition b = true ∧ entryPassed b = false)
  probe       : b.seq.phase = .probe → ProbeWaits b

theorem Late.waiting (h : Late b) : Waiting b := by
  unfold Late at h
  constructor <;> intro hp <;> simp [hp] at h

/-- What the answers of others leave of what the Sequencer waits for. -/
structure LeavesWaiting (b x : Block) : Prop where
  seq      : x.seq = b.seq
  queue    : x.queue = b.queue
  cfg      : x.cond.cfg = b.cond.cfg
  switches : x.sw.iso = b.sw.iso ∧ x.sw.selector = b.sw.selector
  shut     : Shut b → Shut x
  down     : roofDown b = false → roofDown x = false

theorem LeavesWaiting.refl (b : Block) : LeavesWaiting b b := ⟨rfl, rfl, rfl, ⟨rfl, rfl⟩, id, id⟩

theorem LeavesWaiting.waiting (h : LeavesWaiting b x) (hb : Waiting b) : Waiting x := by
  obtain ⟨hseq, hqueue, hcfg, ⟨hiso, hsel⟩, hshut, hdown⟩ := h
  have hwork (hw : WorkWaits b) : WorkWaits x := by
    have hothers (c : Panto) : othersOpen x c = othersOpen b c := by simp only [othersOpen, isoOpen, hiso]
    have hsel (c : Panto) : selectorAt x c = selectorAt b c := by
      unfold selectorAt Block.head Block.cfg
      rw [hsel, hcfg]
    intro c hc
    rw [hseq] at hc ⊢
    rw [hothers, hsel, hiso]
    exact hw c hc
  constructor
  · rw [hseq]
    exact hshut ∘ hb.breakerOpen
  · rw [hseq]
    exact hdown ∘ hb.lowering
  · intro hp
    rw [hseq] at hp
    obtain ⟨hw, hready⟩ := hb.coast hp
    have hpos : waitsForPosition x = waitsForPosition b := by simp only [waitsForPosition, hseq]
    have hpass : entryPassed x = entryPassed b := by
      unfold entryPassed Block.nat
      rw [hseq, hqueue, hcfg]
    refine ⟨hwork hw, ?_⟩
    rw [hseq, hpos, hpass]
    exact hready
  · intro hp
    rw [hseq] at hp
    obtain ⟨h1, h2, h3, h4⟩ := hb.probe hp
    rw [ProbeWaits, hseq]
    exact ⟨hshut ∘ h1, hdown ∘ h2, hwork h3, h4⟩

/-! ## The answers of others -/

theorem Touches.leavesWaiting (ht : Touches p b x) (ha : Acts w b x) : LeavesWaiting b x where
  seq := ht.seq
  queue := ht.queue
  cfg := ht.cfg
  switches := by rw [ht.switches]; exact ⟨rfl, rfl⟩
  shut := ha.keep (fun _ _ hs => hs.shut)
  down := ha.keep (fun _ _ hs => hs.roofDown)

/-- What an answer outside WAKING is that is neither a step of the Sequencer nor a new scraper: it gives no role, and it
leaves what the Sequencer waits for. -/
structure Aside (b x : Block) : Prop where
  roles  : RolesFall b x
  mode   : x.cond.mode = b.cond.mode ∨ x.cond.mode = .standby
  leaves : ¬b.seq.NeedsContact → LeavesWaiting b x

/-- A new scraper. -/
structure Scrapes (p : Panto) (b x : Block) : Prop where
  want    : b.cond.mode = .service ∧ b.ice.enable = true ∧ (b.lc p).state = .stowed
  idle    : b.seq.phase = .idle
  touches : Touches p (setScraper (some p) b) x

theorem scrapes_ask (want : wantsScraper b p = true) :
    Scrapes p b (takeRaise p false (setScraper (some p) (setRole p .scraping .internal b))) := by
  simp only [wantsScraper, Bool.and_eq_true, beq_iff_eq] at want
  obtain ⟨⟨⟨⟨⟨⟨⟨-, henable⟩, ⟨⟨hmode, hidle⟩, -⟩⟩, -⟩, ⟨⟨⟨hstate, -⟩, -⟩, -⟩, -⟩, -⟩, -⟩, -⟩ := want
  exact ⟨⟨hmode, henable, hstate⟩, hidle, touches_ask p b⟩

theorem Reaction.aside (h : Reaction b x) (hmode : b.cond.mode ≠ .waking) :
    x = seqStep b ∨ (∃ p, Scrapes p b x) ∨ Aside b x := by
  have hacts : Acts ⟨False, True⟩ b x := h.acts (fun hm => absurd hm.1 hmode) fun _ => trivial
  have hsame (hw : Acts ⟨False, False⟩ b x) : x.cond.mode = b.cond.mode := by rw [hw.fixed (by simp)]
  cases h
  case guard =>
    exact .inr (.inr ⟨.of_plan (openBreaker_plan _ _), .inl (hsame Act.opens.run),
      fun _ => (touches_openBreaker .p1 _ _).leavesWaiting hacts⟩)
  case release p _ contact _ _ =>
    exact .inr (.inr ⟨.of_plan (beginLowering_plan p b), .inl (hsame (acts_beginLowering (by rw [contact]; rfl))),
      fun hc => (touches_beginLowering hc).leavesWaiting hacts⟩)
  case advance => exact .inl rfl
  case wake waking _ _ _ => exact absurd waking hmode
  case lowered =>
    refine .inr (.inr ⟨rolesFall_abortSearches _, .inr ?_, fun hc => ?_⟩)
    · have hset : Acts ⟨False, False⟩ _ (setMode .standby b) := acts_abortSearches { b with cond := { b.cond with
        mode := .standby, modeTimer := 0, standbyLowering := false, heldWake := false } }
      rw [hset.fixed (by simp)]
    have ha := around_abortSearches (b := { b with cond := { b.cond with
      mode := .standby, modeTimer := 0, standbyLowering := false, heldWake := false } }) hc
    refine ⟨ha.seq, ha.queue, ?_, ?_, hacts.keep (fun _ _ hs => hs.shut), hacts.keep (fun _ _ hs => hs.roofDown)⟩
    · rw [setMode, ha.cond]
    · rw [setMode, ha.switches]
      exact ⟨rfl, rfl⟩
  case ice only =>
    refine .inr (.inr ⟨?_, .inl (by rw [only.frame]), fun _ => ?_⟩)
    · rw [only.frame]
      exact .of_plan rfl
    · rw [only.frame]
      exact ⟨rfl, rfl, rfl, ⟨rfl, rfl⟩, id, id⟩
  case ask p want _ _ _ => exact .inr (.inl ⟨p, scrapes_ask want⟩)
  case scrape p holds _ =>
    refine .inr (.inr ⟨(rolesFall_clearRole p b).trans (rolesFall_takeLower _ p _), .inl (hsame ?_),
      fun hc => (touches_scrape hc).leavesWaiting hacts⟩)
    exact (Act.clears p (.inl holds)).run.trans (acts_takeLower false p _)

/-! ## The step of a Sequencer that waits -/

theorem rolesFall_halt {h : HaltReason} (hm : h ≠ .mismatch) (b : Block) : RolesFall b (halt h b) :=
  .of_plan (haltKeeps_halt hm b).plan

theorem rolesFall_enterClose (b : Block) : RolesFall b (enterClose b) := by
  have hclose (a : Block) : (closeBreaker .internal a).1.plan = a.plan := by
    unfold closeBreaker
    repeat' split
    all_goals rfl
  unfold enterClose
  dsimp only
  split
  · exact rolesFall_halt (h := .breaker) (by decide) _
  · split
    · have hc := hclose { b with seq := { b.seq with phase := .close, timer := none } }
      exact (RolesFall.of_plan (b := b) hc).trans (rolesFall_halt (h := .breaker) (by decide) _)
    · exact .of_plan (hclose _)

/-- Where nothing may be granted, the Sequencer's step gives no role. -/
theorem rolesFall_seqStep_late (hb : Late b) : RolesFall b (seqStep b) := by
  unfold seqStep
  unfold Late at hb
  split
  case h_4 hp => simp [hp] at hb
  case h_5 hp => simp [hp] at hb
  case h_6 hp => simp [hp] at hb
  case h_7 hp => simp [hp] at hb
  case h_9 =>
    split
    · exact rolesFall_halt (by decide) b
    · split
      · exact rolesFall_enterClose b
      · exact .of_plan rfl
  case h_10 =>
    split
    · refine .of_plan ?_
      unfold finishPath
      cases b.seq.activeEntry <;> rfl
    · exact .of_plan rfl
    · exact rolesFall_halt (by decide) b
  case h_11 =>
    unfold withdrawInHalt
    split <;> exact .of_plan rfl
  all_goals exact .of_plan rfl

/-- A Sequencer that waits takes no step but to go on with, or to give up, a raise. -/
theorem seqStep_waiting (hb : Waiting b) (hl : ¬Late b) :
    seqStep b = b ∨ Late (seqStep b) ∧ RolesFall b (seqStep b) := by
  have hwork (hw : WorkWaits b) : advanceWork b = b := by
    unfold advanceWork
    split
    next => rfl
    next c hc =>
      obtain ⟨h1, h2⟩ := hw c hc
      split
      next hs => rw [if_neg (by rw [h1 hs]; decide)]
      next hs => rw [if_neg (h2 hs)]
      all_goals rfl
  have hhalt (h : HaltReason) (hm : h ≠ .mismatch) : Late (halt h b) ∧ RolesFall b (halt h b) := by
    refine ⟨?_, rolesFall_halt hm b⟩
    rcases halt_stopped h b with hs | hs <;> simp [Late, hs]
  simp only [Late, List.mem_cons, List.not_mem_nil, or_false, not_not] at hl
  rcases hl with hp | hp | hp | hp
  · obtain ⟨hopen, hfailed⟩ := hb.breakerOpen hp
    left
    simp [seqStep, hp, hopen, hfailed]
  · left
    simp [seqStep, hp, hb.lowering hp]
  · obtain ⟨hw, hready⟩ := hb.coast hp
    left
    simp only [seqStep, hp, coastStep, hwork hw]
    rw [if_neg]
    rintro ⟨-, hr, hcond⟩
    obtain ⟨h1, h2⟩ := hready hr
    rcases hcond with h | h
    · exact absurd (h1.symm.trans h) (by decide)
    · exact absurd (h2.symm.trans h) (by decide)
  · obtain ⟨hopen, hdown, hw, hready⟩ := hb.probe hp
    simp only [seqStep, hp, probeStep]
    cases hwk : b.seq.work
    case awaitOpen =>
      obtain ⟨h1, h2⟩ := hopen hwk
      left
      simp [h1, h2]
    case awaitDown =>
      left
      simp [hdown hwk]
    case switches => exact .inl (hwork hw)
    case isolator => exact .inl (hwork hw)
    case ready => exact absurd hwk hready
    case none => exact .inl rfl
    case raising =>
      dsimp only
      split
      · exact .inr (hhalt .noPantograph (by decide))
      · split
        · exact .inr ⟨by simp [Late, enterConfirm], .of_plan rfl⟩
        · exact .inl rfl
        · split
          · exact .inr (hhalt .raise (by decide))
          · exact .inl rfl
        · split
          · exact .inr (hhalt .raise (by decide))
          · exact .inl rfl
        · exact .inr (hhalt .raise (by decide))
        · exact .inr (hhalt .raise (by decide))
        · exact .inr (hhalt .raise (by decide))

/-! ## No grant -/

/-- No answer will make a scraper of the pantograph. -/
def Unasked (p : Panto) (b : Block) : Prop :=
  b.cond.mode = .standby ∨ b.cond.mode = .workshop ∨ (b.lc p).state = .outOfService ∨ b.ice.enable = false

/-- The pantograph has no role, and no answer will give it one. -/
structure Ungranted (p : Panto) (b : Block) : Prop where
  role    : b.role p = .none
  mode    : b.cond.mode ≠ .waking
  unasked : Unasked p b
  waiting : Waiting b

theorem RolesFall.none (h : RolesFall b x) (hp : b.role p = .none) : x.role p = .none := by
  rcases h p with hr | hr
  · rw [hr, hp]
  · exact hr

theorem Acts.unasked (ha : Acts w b x) (hmode : x.cond.mode = b.cond.mode ∨ x.cond.mode = .standby)
    (hu : Unasked p b) : Unasked p x := by
  rcases hu with hm | hm | hs | he
  · exact .inl (hmode.elim (fun hs => hs.trans hm) id)
  · exact hmode.elim (fun hs => .inr (.inl (hs.trans hm))) .inl
  · exact .inr (.inr (.inl ((ha.same (.inl (by simp [hs]))).state.trans hs)))
  · exact .inr (.inr (.inr (ha.keep (P := fun a => a.ice.enable = false) (fun _ _ hc h => hc.enable.trans h) he)))

theorem Late.of_needsContact (h : b.seq.NeedsContact) : Late b := by
  rcases h with h | h | h <;> simp [Late, h]

theorem Reaction.ungranted (h : Reaction b x) (hb : Ungranted p b) : Ungranted p x := by
  obtain ⟨hrole, hmode, hask, hwait⟩ := hb
  have hacts : Acts ⟨False, True⟩ b x := h.acts (fun hm => absurd hm.1 hmode) fun _ => trivial
  have hlate (hl : Late b) : Waiting x := (hacts.late hl).waiting
  rcases h.aside hmode with hx | ⟨r, hscrape⟩ | haside
  · have hsame : x.cond.mode = b.cond.mode := by
      have ha : Acts ⟨False, False⟩ b x := hx ▸ acts_seqStep b
      rw [ha.fixed (by simp)]
    refine ⟨?_, hsame ▸ hmode, hacts.unasked (.inl hsame) hask, ?_⟩
    · by_cases hl : Late b
      · exact hx ▸ (rolesFall_seqStep_late hl).none hrole
      · rcases seqStep_waiting hwait hl with heq | ⟨-, hfall⟩
        · rw [hx, heq, hrole]
        · exact hx ▸ hfall.none hrole
    · by_cases hl : Late b
      · exact hlate hl
      · rcases seqStep_waiting hwait hl with heq | ⟨hl', -⟩
        · rw [hx, heq]
          exact hwait
        · exact hx ▸ hl'.waiting
  · obtain ⟨⟨hservice, henable, hstowed⟩, hidle, htouch⟩ := hscrape
    have hne : p ≠ r := by
      rintro rfl
      rcases hask with hm | hm | hs | he
      · exact absurd (hservice.symm.trans hm) (by decide)
      · exact absurd (hservice.symm.trans hm) (by decide)
      · exact absurd (hstowed.symm.trans hs) (by decide)
      · exact absurd (henable.symm.trans he) (by decide)
    have hsame : x.cond.mode = b.cond.mode := htouch.mode
    refine ⟨(htouch.role hne).trans hrole, hsame ▸ hmode, hacts.unasked (.inl hsame) hask, hlate ?_⟩
    simp [Late, hidle]
  · refine ⟨haside.roles.none hrole, ?_, hacts.unasked haside.mode hask, ?_⟩
    · rcases haside.mode with hm | hm
      · rwa [hm]
      · rw [hm]
        decide
    · by_cases hc : b.seq.NeedsContact
      · exact hlate (.of_needsContact hc)
      · exact (haside.leaves hc).waiting hwait

theorem settle_ungranted (s : Block) (judge : Bool) (hb : Ungranted p b) : (settle s judge b).role p = .none :=
  ((closed_close s (answers s judge b)).role p).trans
    ((reactions_answers s judge b).keep (P := Ungranted p) (fun _ _ hs ha => hs.ungranted ha) hb).role

/-! ## A Sequencer with no step to take -/

/-- The work stands at `v`, or the path has halted. -/
def WorkAt (v : Work) (b : Block) : Prop := b.seq.work = v ∨ b.seq.phase = .halted

theorem WorkAt.ne {v : Work} (h : WorkAt v x) (hw : b.seq.work ≠ v) (hp : b.seq.phase ≠ .halted) : x ≠ b := by
  rintro rfl
  exact h.elim hw hp

theorem halt_of_running {h : HaltReason} (hi : b.seq.phase ≠ .idle) : (halt h b).seq.phase = .halted := by
  by_cases hh : b.seq.phase = .halted
  · exact (halt_stopped h b).resolve_left fun hs => by
      simp only [halt, hh] at hs
      split at hs
      · cases hs
      · exact hi hs
  · exact (halt_reason hi hh).1

theorem seq_workCommand {f : Block → Block × ReplyOutcome} (hf : (f b).1.seq = b.seq) :
    (workCommand f b).seq = b.seq ∨ (workCommand f b).seq.phase = .halted := by
  unfold workCommand
  dsimp only
  split
  · by_cases hi : (f b).1.seq.phase = .idle
    · rw [halt_idle hi]
      exact .inl hf
    · exact .inr (halt_of_running hi)
  · exact .inl hf

theorem WorkAt.command {v : Work} {f : Block → Block × ReplyOutcome} (hf : (f b).1.seq = b.seq) (h : WorkAt v b) :
    WorkAt v (workCommand f b) := by
  rcases seq_workCommand hf with hs | hs
  · rw [WorkAt, hs]
    exact h
  · exact .inr hs

theorem seq_moveSelector (pos : SelPos) (v : Source) (b : Block) : (moveSelector pos v b).1.seq = b.seq := by
  unfold moveSelector
  split
  · rfl
  · split <;> rfl

theorem workAt_startWork (c : Panto) (b : Block) : WorkAt .switches (startWork c b) := by
  have hask : WorkAt .switches (eachPanto (fun p a => if a.seq.phase = .halted then a
      else if p = c ∨ isoOpen a p = true then a else workCommand (moveIsolator p .opened .internal) a)
      (setWork .switches b)) := by
    have hone (p : Panto) (a : Block) (ha : WorkAt .switches a) : WorkAt .switches (if a.seq.phase = .halted then a
        else if p = c ∨ isoOpen a p = true then a else workCommand (moveIsolator p .opened .internal) a) := by
      split
      · exact ha
      · split
        · exact ha
        · exact ha.command (seq_moveIsolator p .opened .internal a)
    exact hone .p4 _ (hone .p3 _ (hone .p2 _ (hone .p1 _ (.inl rfl))))
  unfold startWork
  dsimp only
  split
  · exact hask
  · exact hask.command (seq_moveSelector _ _ _)

/-- The switch work goes on, or the path halts, where it does not wait. -/
theorem workWaits_or (b : Block) (hi : b.seq.phase ≠ .idle) : WorkWaits b ∧ advanceWork b = b ∨
    b.seq.work = .switches ∧ WorkAt .isolator (advanceWork b) ∨
    b.seq.work = .isolator ∧ advanceWork b = setWork .ready b := by
  unfold advanceWork
  split
  next hc => exact .inl ⟨fun c h => absurd (hc.symm.trans h) (by simp), rfl⟩
  next c hc =>
    have hwaits (h1 : b.seq.work = .switches → (othersOpen b c && selectorAt b c) = false)
        (h2 : b.seq.work = .isolator → (b.sw.iso.get c).state ≠ .closed) : WorkWaits b := by
      intro x hx
      rw [hc] at hx
      cases hx
      exact ⟨h1, h2⟩
    split
    next hw =>
      split
      next =>
        split
        next => exact .inr (.inl ⟨hw, .inr (halt_of_running hi)⟩)
        next y hy =>
          exact .inr (.inl ⟨hw, WorkAt.command (seq_moveIsolator c .closed .internal _) (.inl rfl)⟩)
      next hno => exact .inl ⟨hwaits (fun _ => by simpa using hno) (by simp [hw]), rfl⟩
    next hw =>
      split
      next => exact .inr (.inr ⟨hw, rfl⟩)
      next hno => exact .inl ⟨hwaits (by simp [hw]) fun _ => hno, rfl⟩
    all_goals
      rename_i hw
      exact .inl ⟨hwaits (by simp [hw]) (by simp [hw]), rfl⟩

/-! ## No way back -/

theorem phase_enterCoast (b : Block) : (enterCoast b).seq.phase ∉ [.breakerOpen, .lowering] := by
  have ha : Acts ⟨False, False⟩ _ (coastWork { b with seq := { b.seq with phase := .coast, timer := none } }) :=
    acts_coastWork (by simp)
  have hc := ha.keep (P := fun a => a.seq.phase ∉ [Phase.breakerOpen, .lowering]) (fun _ _ hs h => hs.avoids h (by decide)) (by simp)
  unfold enterCoast
  dsimp only
  split
  next h => rw [halt_of_running (by simp [h.1])]; decide
  next => exact hc

theorem phase_leaveCoast (b : Block) : (leaveCoast b).seq.phase ≠ .coast := by
  have hprobe : (enterProbe b).seq.phase ≠ .coast := by
    have ha : Acts ⟨False, False⟩ _ (enterProbe b) :=
      acts_passRaise (b := { b with seq := { b.seq with phase := .probe, timer := none } }) rfl
    have hc := ha.keep (P := fun a => a.seq.phase ∉ [Phase.breakerOpen, .lowering, .coast])
      (fun _ _ hs h => hs.avoids h (by decide)) (by simp)
    intro h
    simp [h] at hc
  unfold leaveCoast
  split
  · rw [finishPath, setTractionOff]
    simp only [seq_serveEntry]
    decide
  · split
    · exact hprobe
    · split
      · simp [enterConfirm]
      · simp [enterConfirm]
      · exact hprobe

/-- Where the raise is due, the Sequencer passes it or gives it up. -/
theorem workAt_passRaise (hi : b.seq.phase ≠ .idle) : WorkAt .raising (passRaise b) := by
  have hhalt (h : HaltReason) : WorkAt .raising (halt h b) := .inr (halt_of_running hi)
  unfold passRaise
  split
  · exact hhalt _
  · split
    · exact hhalt _
    · split
      · exact hhalt _
      · split
        · exact hhalt _
        next y hy =>
          refine .inl ?_
          rw [(touches_takeRaise _ false _).seq]
          rfl

/-- A Sequencer that has no step to take waits, or has no phase with a step. -/
theorem waiting_of_fixed (h : seqStep b = b) : Waiting b := by
  have hstop (hr : HaltReason) (a : Block) (hp : b.seq.phase ≠ .idle) (hh : b.seq.phase ≠ .halted) : halt hr a ≠ b := by
    intro heq
    rcases halt_stopped hr a with hs | hs
    · exact hp (by rw [← heq, hs])
    · exact hh (by rw [← heq, hs])
  constructor
  · intro hp
    simp only [seqStep, hp] at h
    split at h
    next =>
      split at h
      next =>
        have ha := around_eachPanto (f := fun p a => if (a.lc p).state.up then takeLower false p a else a)
          (b := { b with seq := { b.seq with phase := .lowering, timer := none } }) (fun p a hc => by
            split
            · exact touches_takeLower hc
            · exact .refl p a) (by simp [Seq.NeedsContact])
        have hphase : (enterLowering b).seq.phase = .lowering := by
          rw [enterLowering, lowerUp, ha.seq]
        rw [h, hp] at hphase
        cases hphase
      next =>
        have hphase := phase_enterCoast b
        rw [h, hp] at hphase
        exact absurd hphase (by decide)
    next hopen =>
      split at h
      next => exact absurd h (hstop _ _ (by simp [hp]) (by simp [hp]))
      next hf => exact ⟨by simpa using hopen, hf⟩
  · intro hp
    simp only [seqStep, hp] at h
    split at h
    next =>
      have hphase := phase_enterCoast b
      rw [h, hp] at hphase
      exact absurd hphase (by decide)
    next hd => simpa using hd
  · intro hp
    have hi : b.seq.phase ≠ .idle := by simp [hp]
    simp only [seqStep, hp, coastStep] at h
    rcases workWaits_or b hi with ⟨hw, heq⟩ | ⟨hwork, hat⟩ | ⟨hwork, heq⟩
    · refine ⟨hw, fun hready => ?_⟩
      rw [heq] at h
      split at h
      next hc =>
        have := phase_leaveCoast b
        rw [h] at this
        exact absurd hp this
      next hc =>
        simp only [not_and, not_or, Bool.not_eq_false, Bool.not_eq_true] at hc
        exact hc hp hready
    · exfalso
      have hne := hat.ne (b := b) (by simp [hwork]) (by simp [hp])
      split at h
      next hc =>
        rcases hat with hr | hr
        · rw [hr] at hc
          exact absurd hc.2.1 (by decide)
        · rw [hr] at hc
          exact absurd hc.1 (by decide)
      next => exact hne h
    · exfalso
      rw [heq] at h
      split at h
      next hc =>
        have := phase_leaveCoast (setWork .ready b)
        rw [h] at this
        exact this hp
      next =>
        have := congrArg (fun a => a.seq.work) h
        simp [setWork, hwork] at this
  · intro hp
    have hi : b.seq.phase ≠ .idle := by simp [hp]
    have hh : b.seq.phase ≠ .halted := by simp [hp]
    simp only [seqStep, hp, probeStep] at h
    have hwaits : b.seq.work = .switches ∨ b.seq.work = .isolator → WorkWaits b := by
      intro hw
      have heq : advanceWork b = b := by rcases hw with hw | hw <;> simpa [hw] using h
      rcases workWaits_or b hi with ⟨hw', -⟩ | ⟨hwork, hat⟩ | ⟨hwork, hset⟩
      · exact hw'
      · exact absurd heq (hat.ne (by simp [hwork]) hh)
      · rw [heq] at hset
        have := congrArg (fun a => a.seq.work) hset
        simp [setWork, hwork] at this
    refine ⟨fun hw => ?_, fun hw => ?_, ?_, fun hw => ?_⟩
    · simp only [hw] at h
      split at h
      next =>
        have ha := (around_eachPanto (f := fun p a => if (a.lc p).state.up then takeLower false p a else a)
          (b := setWork .awaitDown b) (fun p a hc => by
            split
            · exact touches_takeLower hc
            · exact .refl p a) (by simp [Seq.NeedsContact, setWork, hp])).seq
        have hwork := congrArg Seq.work ((congrArg Block.seq h).symm.trans ha)
        rw [hw] at hwork
        cases hwork
      next hopen =>
        split at h
        next => exact absurd h (hstop _ _ hi hh)
        next hf => exact ⟨by simpa using hopen, hf⟩
    · simp only [hw] at h
      split at h
      next =>
        split at h
        next => exact absurd h (hstop _ _ hi hh)
        next c _ => exact absurd h ((workAt_startWork c _).ne (by simp [hw]) hh)
      next hd => simpa using hd
    · by_cases hw : b.seq.work = .switches ∨ b.seq.work = .isolator
      · exact hwaits hw
      · rw [not_or] at hw
        exact fun c _ => ⟨fun h => absurd h hw.1, fun h => absurd h hw.2⟩
    · simp only [hw] at h
      exact (workAt_passRaise hi).ne (by simp [hw]) hh h

end Sys2Proof.Machine
end
section
/-!
Clear Drop, Set Out of Service and Return to Service (R42, R43).
-/

namespace Sys2Proof.Machine

variable {q : Req} {s t : State} {b x y : Block} {p r : Panto} {w : Ending}

/-! ## A pantograph taken out of its state -/

/-- A pantograph has been brought to rest from a state at rest, as STOWED or as OUT_OF_SERVICE. -/
structure Rested (p : Panto) (b x : Block) : Prop where
  touches : Touches p b x
  sw      : x.sw = b.sw
  still   : upOrLowering b p = false
  settled : (x.lc p).Settled

theorem Rested.leavesWaiting (h : Rested p b x) : LeavesWaiting b x := by
  refine ⟨h.touches.seq, h.touches.queue, h.touches.cfg, by rw [h.sw]; exact ⟨rfl, rfl⟩, ?_, ?_⟩
  · rw [Shut, Shut, h.sw]
    exact id
  · rw [roofDown_eq_false, roofDown_eq_false, h.touches.restart]
    rintro (hw | ⟨r, hr⟩)
    · exact .inl hw
    · have hne : r ≠ p := by
        rintro rfl
        exact absurd (h.still.symm.trans hr) (by decide)
      obtain ⟨n, hn, -⟩ := h.touches.others r hne
      refine .inr ⟨r, ?_⟩
      rw [upOrLowering, hn]
      exact hr

theorem rested_arriveStowed (hs : (b.lc p).state = .dropped ∨ (b.lc p).state = .outOfService) :
    Rested p b (arriveStowed p b) ∧ (arriveStowed p b).lc p = (b.lc p).toStowed ∧
      ((b.lc p).held = .none → (arriveStowed p b).role p = .none) := by
  have hstill : upOrLowering b p = false := by rcases hs with hs | hs <;> simp [upOrLowering, hs, LiftState.raised]
  have hset := touches_setLift p (b.lc p).toStowed b
  unfold arriveStowed
  dsimp only
  split
  next hh =>
    refine ⟨⟨hset.trans (touches_clearRole p _), rfl, hstill, ?_⟩, lc_setLift_self _ _ _,
      fun _ => role_clearRole_self _ _⟩
    exact .inr ⟨by rw [clearRole_lc, lc_setLift_self]; rfl, by rw [clearRole_lc, lc_setLift_self]; rfl⟩
  next hh =>
    refine ⟨⟨hset, rfl, hstill, ?_⟩, lc_setLift_self _ _ _, fun h => absurd h hh⟩
    exact .inr ⟨by rw [lc_setLift_self]; rfl, by rw [lc_setLift_self]; rfl⟩

theorem rested_takeOutOfService (hs : (b.lc p).state = .stowed) :
    Rested p b (takeOutOfService p b) ∧ ((takeOutOfService p b).lc p).state = .outOfService ∧
      ((takeOutOfService p b).lc p).commanded = 0 ∧ (takeOutOfService p b).role p = .none := by
  have hlc : ((takeOutOfService p b).lc p).state = .outOfService ∧ ((takeOutOfService p b).lc p).commanded = 0 := by
    rw [takeOutOfService, clearRole_lc, lc_setLift_self]
    exact ⟨rfl, rfl⟩
  refine ⟨⟨(touches_setLift p _ b).trans (touches_clearRole p _), rfl, ?_, .inl (by simp [hlc.1])⟩, hlc.1, hlc.2,
    role_clearRole_self _ _⟩
  simp [upOrLowering, hs, LiftState.raised]

/-- What the settling leaves of a pantograph brought to rest. -/
structure RestsAt (p : Panto) (b x t : Block) : Prop where
  lift : RestsAs ⟨True, True⟩ (x.lc p) (t.lc p)
  role : seqStep b = b → b.cond.mode ≠ .waking → x.role p = .none → Unasked p x → t.role p = .none

theorem Rested.replied {v : Reply} {l : Link} (h : Rested p (refresh l b) x) : Rested p b (pushReply l v x) :=
  ⟨(touches_refresh p l b).trans (h.touches.trans (touches_pushReply p l v x)), h.sw, h.still, h.settled⟩

theorem Rested.settles (h : Rested p b x) (s : Block) (judge : Bool) : RestsAt p b x (settle s judge x) where
  lift := by
    obtain ⟨y, hacts, hclosed⟩ := settle_acts s judge x
    rw [hclosed.lc]
    exact hacts.same h.settled
  role hfix hmode hrole hask := settle_ungranted s judge ⟨hrole, by rw [h.touches.mode]; exact hmode, hask,
    h.leavesWaiting.waiting (waiting_of_fixed hfix)⟩

/-! ## The requests -/

theorem clearDrop_accepts (hm : b.cond.mode = .standby ∨ b.cond.mode = .workshop) (hs : (b.lc p).state = .dropped)
    (hw : stripWhole b p = true) : clearDropOf p b = effect .done (arriveStowed p b) := by
  rcases hm with hm | hm <;> simp [clearDropOf, hm, hs, hw]

theorem clearDrop_interlocked (hm : b.cond.mode = .standby ∨ b.cond.mode = .workshop) (hs : (b.lc p).state = .dropped)
    (hw : stripWhole b p = false) : clearDropOf p b = refuse .interlock b := by
  rcases hm with hm | hm <;> simp [clearDropOf, hm, hs, hw]

theorem clearDrop_idle (hm : b.cond.mode = .standby ∨ b.cond.mode = .workshop) (hs : (b.lc p).state ≠ .dropped) :
    clearDropOf p b = unchanged b := by
  rcases hm with hm | hm <;> simp [clearDropOf, hm, hs]

theorem clearDrop_wrongMode (hm : b.cond.mode = .service) : clearDropOf p b = refuse .wrongMode b := by
  simp [clearDropOf, hm]

theorem outOfService_accepts (ha : awakeMode b = true) (hs : (b.lc p).state = .stowed) (hh : (b.lc p).held = .none) :
    outOfServiceOf p b = effect .done (takeOutOfService p b) := by
  simp [outOfServiceOf, ha, restsStowed, hs, hh]

theorem outOfService_already (ha : awakeMode b = true) (hs : (b.lc p).state = .outOfService) :
    outOfServiceOf p b = unchanged b := by
  simp [outOfServiceOf, ha, restsStowed, hs]

theorem outOfService_busy (ha : awakeMode b = true) (hs : (b.lc p).state ≠ .outOfService)
    (hn : ¬((b.lc p).state = .stowed ∧ (b.lc p).held = .none)) : outOfServiceOf p b = refuse .busy b := by
  have hrest : restsStowed b p = false := by
    rw [← Bool.not_eq_true, restsStowed_iff]
    exact hn
  simp [outOfServiceOf, ha, hrest, hs]

theorem return_accepts (ha : awakeMode b = true) (hs : (b.lc p).state = .outOfService) :
    returnOf p b = effect .done (arriveStowed p b) := by
  simp [returnOf, ha, hs]

theorem return_idle (ha : awakeMode b = true) (hs : (b.lc p).state ≠ .outOfService) : returnOf p b = unchanged b := by
  simp [returnOf, ha, hs]

theorem toStowed_rests {t : Lift} (h : RestsAs w (b.lc p).toStowed t) :
    t.state = .stowed ∧ t.quickVent = false ∧ t.dwellTimer = some 0 := by
  rw [h.frame]
  exact ⟨rfl, rfl, rfl⟩

/-- The end of a request that brings a pantograph to rest in STOWED. -/
theorem arrival_ends {code : Nat} {g : Gate} {owner : Block → Answer} (hex : examine q g (refresh q.link s.block) = none)
    (ha : owner (refresh q.link s.block) = effect .done (arriveStowed p (refresh q.link s.block)))
    (hs : (s.block.lc p).state = .dropped ∨ (s.block.lc p).state = .outOfService)
    (ht : request q code g owner s = .next t) :
    (t.block.lc p).state = .stowed ∧ (t.block.lc p).quickVent = false ∧ (t.block.lc p).dwellTimer = some 0 ∧
      ((s.block.lc p).held = .none → seqStep s.block = s.block → s.block.cond.mode ≠ .waking →
        (∀ x : Block, Touches p s.block x → Unasked p x) → t.block.role p = .none) ∧
      KeepsRest s t ∧ Answered s t q.link (plainReply code q .done) := by
  have he := holds_at ht (request_ends_as (code := code) hex ha (congrArg Kept.links (kept_arriveStowed p _)))
  have hkept := he.keepsRest_of_kept (kept_arriveStowed p _)
  have hblock := he.settles
  obtain ⟨hrest, hlc, hrole⟩ := rested_arriveStowed (b := refresh q.link s.block) (p := p) hs
  generalize arriveStowed p (refresh q.link s.block) = c at hblock hrest hlc hrole
  have hrest' : Rested p s.block (pushReply q.link (plainReply code q .done) c) := hrest.replied
  have hends := hrest'.settles s.block false
  rw [← hblock] at hends
  have hlift := hends.lift
  rw [pushReply_lc, hlc] at hlift
  obtain ⟨h1, h2, h3⟩ := toStowed_rests hlift
  exact ⟨h1, h2, h3, fun hh hfix hmode hask => hends.role hfix hmode (hrole hh) (hask _ hrest'.touches), hkept, he.plain⟩

/-- Settles O21, by what the answers leave of a pantograph at rest and of a Sequencer with no step to take. -/
theorem pantographsGoOutOfServiceAndReturn : Obligations.PantographsGoOutOfServiceAndReturn := by
  unfold Obligations.PantographsGoOutOfServiceAndReturn
  intro q p s hq
  have hex := examine_leader hq
  refine ⟨?_, fun hawake => ?_, fun hawake => ?_⟩
  · obtain ⟨t, ht⟩ := exec_ends (.clearDrop q p) s
    refine ⟨t, ht, fun hm => ⟨fun hs hw => ?_, fun hs hw => ?_, fun hs => ?_⟩, fun hm => ?_⟩
    · obtain ⟨h1, h2, h3, h4, h5, h6⟩ := arrival_ends hex (clearDrop_accepts (b := refresh q.link s.block) hm hs hw)
        (.inl hs) ht
      refine ⟨h1, h2, h3, fun hh hfix => h4 hh hfix ?_ fun x hx => ?_, h5, h6⟩
      · rcases hm with hm | hm <;> simp [hm]
      · rw [Unasked, hx.mode]
        exact hm.imp id .inl
    · exact holds_at ht (request_refused hex (clearDrop_interlocked (b := refresh q.link s.block) hm hs hw))
    · exact holds_at ht (request_unchanged hex (clearDrop_idle (b := refresh q.link s.block) hm hs))
    · exact holds_at ht (request_refused hex (clearDrop_wrongMode (b := refresh q.link s.block) hm))
  all_goals
    have hmode : s.block.cond.mode ≠ .waking := by
      rintro hw
      simp [awakeMode, hw] at hawake
  · obtain ⟨t, ht⟩ := exec_ends (.setOutOfService q p) s
    refine ⟨t, ht, fun hs hh => ?_, fun hs => ?_, fun hs hn => ?_⟩
    · have ha := outOfService_accepts (b := refresh q.link s.block) hawake hs hh
      have he := holds_at ht (request_ends_as (code := 0x0F) hex ha rfl)
      have hblock := he.settles
      have hkept := he.keepsRest_of_kept rfl
      obtain ⟨hrest, hstate, hpressure, hrole⟩ := rested_takeOutOfService (b := refresh q.link s.block) (p := p) hs
      generalize takeOutOfService p (refresh q.link s.block) = c at hblock hrest hstate hpressure hrole
      have hrest' : Rested p s.block (pushReply q.link (plainReply 0x0F q .done) c) := hrest.replied
      have hends := hrest'.settles s.block false
      rw [← hblock] at hends
      have hlift := hends.lift
      rw [pushReply_lc] at hlift
      refine ⟨hlift.state.trans hstate, ?_, fun hfix => hends.role hfix hmode hrole (.inr (.inr (.inl hstate))), hkept,
        he.plain⟩
      rcases hlift.commanded (by simp [hstate]) with hc | ⟨-, hc⟩
      · rw [hc, hpressure]
      · exact hc
    · exact holds_at ht (request_unchanged hex (outOfService_already (b := refresh q.link s.block) hawake hs))
    · exact holds_at ht (request_refused hex (outOfService_busy (b := refresh q.link s.block) hawake hs hn))
  · obtain ⟨t, ht⟩ := exec_ends (.returnToService q p) s
    refine ⟨t, ht, fun hs => ?_, fun hs => ?_⟩
    · obtain ⟨h1, -, h3, h4, h5, h6⟩ := arrival_ends hex (return_accepts (b := refresh q.link s.block) hawake hs)
        (.inr hs) ht
      refine ⟨h1, h3, fun hh hfix hn => h4 hh hfix hmode fun x hx => ?_, h5, h6⟩
      exact .inr (.inr (.inr (by rw [hx.ice]; exact hn.enable)))
    · exact holds_at ht (request_unchanged hex (return_idle (b := refresh q.link s.block) hawake hs))

end Sys2Proof.Machine
end
section
/-!
The timers of the Lift Controllers (R34, R35, R40, R44, R134).
-/

namespace Sys2Proof.Machine

variable {s t : State} {b x y : Block} {p r : Panto} {w : Ending} {h : HaltReason}

/-! ## Between a warm restart and its adoption -/

theorem onceAdopted_of_waits {f : Block → Block} (h : b.cond.restart.isSome = true) : onceAdopted f b = b := by
  simp [onceAdopted, adoptionWaits, h]

/-- Nothing comes of an expiry while an adoption is waited for. -/
theorem expiry_waits {f : Block → Block} (hr : s.block.cond.restart.isSome = true)
    (hp : s.block.seq.phase = .idle ∨ s.block.seq.phase = .halted) (hs : s.block.cond.standbyLowering = false) :
    ∃ t, event s false (onceAdopted f) = .next t ∧ t.block.kept = s.block.kept ∧ t.block.lift = s.block.lift ∧
      t.block.plan.roles = s.block.plan.roles ∧ t.block.cond.faults = s.block.cond.faults := by
  obtain ⟨t, ht, hblock⟩ := event_ends s false (onceAdopted f)
  rw [onceAdopted_of_waits hr] at hblock
  have hkept := kept_settle s.block false s.block
  have hfrozen := settle_frozen s.block false ⟨hp, hr, hs⟩
  have hst := settle_stands s.block false hp
  rw [← hblock] at hkept hfrozen hst
  exact ⟨t, ht, hkept, hfrozen.1, hfrozen.2, hst.faults⟩

/-! ## Raise and lower -/

theorem raiseTimeout_lowers (hs : (b.lc p).state = .raising) :
    raiseTimeoutOf p b = (recordFault .raiseTimeout (.panto p) b).setLift p (b.lc p).toLowering := by
  have hlc : (recordFault .raiseTimeout (.panto p) b).lc p = b.lc p := rfl
  simp [raiseTimeoutOf, hs, beginLowering, leaveContact, hlc]

/-- What the first LOWER_TIMEOUT of a lowering leaves of the pantograph and of a path that waits for the roof. -/
structure Overdue (p : Panto) (b x : Block) : Prop where
  lift   : x.lc p = { b.lc p with commanded := 0, quickVent := true, lowerOverdue := true }
  kept   : x.kept = b.kept
  count  : faultCount .lowerTimeout x = oneMore .lowerTimeout b
  halts  : b.seq.phase = .lowering → x.seq.phase = .halted ∧ x.seq.haltReason = some .lower

theorem faultCount_halt_lower (k : FaultKind) (b : Block) : faultCount k (halt .lower b) = faultCount k b := by
  refine faultCount_of_faults ?_ k
  unfold halt
  split
  · rfl
  · split <;> rfl
  · rw [enterHalt_eq (by decide), openBreaker_cond]
    cases b.seq.activeEntry <;> rfl

theorem overdue_lowerTimeout (hs : (b.lc p).state = .lowering) (ho : (b.lc p).lowerOverdue = false) :
    Overdue p b (lowerTimeout p b) := by
  have hcount : faultCount .lowerTimeout (recordFault .lowerTimeout (.panto p)
      (b.setLift p { b.lc p with commanded := 0, quickVent := true, lowerOverdue := true })) =
      oneMore .lowerTimeout b := faultCount_recordFault_self _ _ _
  have hlc : (recordFault .lowerTimeout (.panto p)
      (b.setLift p { b.lc p with commanded := 0, quickVent := true, lowerOverdue := true })).lc p =
      { b.lc p with commanded := 0, quickVent := true, lowerOverdue := true } := lc_setLift_self _ _ _
  rw [lowerTimeout, if_pos ⟨hs, ho⟩]
  dsimp only
  split
  · refine ⟨(halt_lc _ _ _).trans hlc, kept_halt _ (by decide) _, (faultCount_halt_lower _ _).trans hcount, fun hp => ?_⟩
    refine halt_reason ?_ ?_ <;> (change b.seq.phase ≠ _; simp [hp])
  next hno =>
    refine ⟨hlc, rfl, hcount, fun hp => ?_⟩
    simp [waitsForRoof, hp] at hno

theorem lowerTimeout_again (ho : (b.lc p).lowerOverdue = true) : lowerTimeout p b = b := by
  simp [lowerTimeout, ho]

theorem servoDeviation_flags (hs : (b.lc p).state = .contact) (hd : (b.lc p).devTimer.isSome = true) :
    servoDeviationOf p b = (recordFault .servoDeviation (.panto p) b).setLift p
      { b.lc p with devTimer := none, servoDeviation := true } := by
  rw [servoDeviationOf, if_pos ⟨hs, hd⟩]
  rfl

theorem settle_rests (s : Block) (judge : Bool) (hp : (x.lc p).Settled) :
    RestsAs ⟨True, True⟩ (x.lc p) ((settle s judge x).lc p) := by
  obtain ⟨y, hacts, hclosed⟩ := settle_acts s judge x
  rw [hclosed.lc]
  exact hacts.same hp

/-- Settles O23, by what the answers leave of a pantograph that comes down. -/
theorem liftTimersExpire : Obligations.LiftTimersExpire := by
  unfold Obligations.LiftTimersExpire
  refine ⟨fun p c s hc hr hp hs => ?_, fun p s _ _ hadopted => ⟨fun hs => ?_, fun hs ho => ?_, fun hs ho => ?_,
    fun hs hd hrest hn => ?_⟩⟩
  · simp only [List.mem_cons, List.not_mem_nil, or_false] at hc
    rcases hc with rfl | rfl | rfl | rfl
    · exact expiry_waits (f := raiseTimeoutOf p) hr hp hs
    · exact expiry_waits (f := lowerTimeout p) hr hp hs
    · exact expiry_waits (f := servoDeviationOf p) hr hp hs
    · exact expiry_waits (f := dropIfRaised p) hr hp hs
  · obtain ⟨t, ht, hblock⟩ := event_ends s false (onceAdopted (raiseTimeoutOf p))
    rw [onceAdopted_of_adopted hadopted, raiseTimeout_lowers hs] at hblock
    have hlc : ((recordFault .raiseTimeout (.panto p) s.block).setLift p (s.block.lc p).toLowering).lc p =
      (s.block.lc p).toLowering := lc_setLift_self _ _ _
    have hrests := settle_rests (p := p) s.block false
      (x := (recordFault .raiseTimeout (.panto p) s.block).setLift p (s.block.lc p).toLowering)
      (.inl (by rw [hlc]; simp [Lift.toLowering]))
    rw [← hblock, hlc] at hrests
    refine ⟨t, ht, by rw [hblock, kept_settle]; rfl, hrests.state, by rw [hrests.frame]; rfl, ?_⟩
    rw [Records, hblock, settle_faultCount _ _ _ (by decide)]
    exact faultCount_recordFault_self _ _ _
  · obtain ⟨t, ht, hblock⟩ := event_ends s false (onceAdopted (lowerTimeout p))
    rw [onceAdopted_of_adopted hadopted] at hblock
    have hover := overdue_lowerTimeout hs ho
    generalize lowerTimeout p s.block = x at hover hblock
    have hsettled : (x.lc p).Settled := .inl (by rw [hover.lift, hs]; decide)
    have hrests := settle_rests s.block false hsettled
    rw [← hblock] at hrests
    have hst (hp : s.block.seq.phase = .lowering) := settle_stands s.block false (.inr (hover.halts hp).1)
    refine ⟨t, ht, by rw [hblock, kept_settle, hover.kept], ?_, ?_, ?_, ?_, ?_, fun hp => ?_⟩
    · rw [hrests.state, hover.lift]
      exact hs
    · rcases hrests.commanded (by rw [hover.lift, hs]; decide) with hc | ⟨-, hc⟩
      · rw [hc, hover.lift]
      · exact hc
    · rw [hrests.frame, hover.lift]
    · rw [hrests.frame, hover.lift]
    · rw [Records, hblock, settle_faultCount _ _ _ (by decide), hover.count]
    · rw [hblock, (hst hp).seq]
      exact hover.halts hp
  · obtain ⟨t, ht, hblock⟩ := event_ends s false (onceAdopted (lowerTimeout p))
    rw [onceAdopted_of_adopted hadopted, lowerTimeout_again ho] at hblock
    have hrests := settle_rests (p := p) s.block false (.inl (by rw [hs]; decide) : (s.block.lc p).Settled)
    rw [← hblock] at hrests
    exact ⟨t, ht, hrests.state.trans hs, by rw [hblock, settle_faultCount _ _ _ (by decide)]⟩
  · obtain ⟨t, ht, hblock⟩ := event_ends s false (onceAdopted (servoDeviationOf p))
    rw [onceAdopted_of_adopted hadopted, servoDeviation_flags hs hd] at hblock
    have hrec : Resting (recordFault .servoDeviation (.panto p) s.block) :=
      ⟨hrest.phase, hrest.mode, hrest.restart, hrest.standby, hrest.valves, hrest.lowers⟩
    have hnrec : NoScraper (recordFault .servoDeviation (.panto p) s.block) := ⟨hn.enable, hn.record, hn.roles⟩
    have htouch := touches_setLift p { s.block.lc p with devTimer := none, servoDeviation := true }
      (recordFault .servoDeviation (.panto p) s.block)
    have hcount : faultCount .servoDeviation (recordFault .servoDeviation (.panto p) s.block) =
      oneMore .servoDeviation s.block := faultCount_recordFault_self _ _ _
    have hkept : (recordFault .servoDeviation (.panto p) s.block).kept = s.block.kept := rfl
    have hsame : (∀ r, (recordFault .servoDeviation (.panto p) s.block).lc r = s.block.lc r) ∧
      (recordFault .servoDeviation (.panto p) s.block).plan = s.block.plan := ⟨fun _ => rfl, rfl⟩
    generalize recordFault .servoDeviation (.panto p) s.block = c at *
    have hquiet : Quiet (c.setLift p { s.block.lc p with devTimer := none, servoDeviation := true }) := by
      refine hrec.quiet_touches hnrec htouch (fun hp => ?_) (hnrec.roles p)
      rw [lc_setLift_self] at hp
      exact absurd ((hrest.lowers p).symm.trans hp) (by decide)
    have hset := settle_quiet s.block false hquiet
    rw [← hblock] at hset
    refine ⟨t, ht, hset.kept.trans hkept, fun r hr => ?_, ?_, hset.roles.trans (congrArg _ hsame.2), ?_⟩
    · rw [hset.lc, hset.roles, lc_setLift_ne _ _ hr, hsame.1]
      exact ⟨rfl, congrArg (fun v => v.roles.get r) hsame.2⟩
    · rw [hset.lc, lc_setLift_self]
    · exact (faultCount_of_faults (by rw [hset.cond]; rfl) _).trans hcount

end Sys2Proof.Machine
end

section
/-!
The automatic drop (R9, R13, R41, R146, R147).
-/

namespace Sys2Proof.Machine

variable {s t : State} {b x y : Block} {p r c : Panto} {w : Ending}

/-! ## The drop -/

/-- The pantograph is DROPPED, at pressure 0 with the quick-vent asserted. -/
def DroppedAt (p : Panto) (b : Block) : Prop :=
  (b.lc p).state = .dropped ∧ (b.lc p).commanded = 0 ∧ (b.lc p).quickVent = true

theorem RestsAs.dropped (h : RestsAs w (b.lc p) (x.lc p)) (hb : DroppedAt p b) : DroppedAt p x := by
  obtain ⟨hs, hc, hq⟩ := hb
  refine ⟨h.state.trans hs, ?_, by rw [h.frame]; exact hq⟩
  rcases h.commanded (by simp [hs]) with hsame | ⟨-, hzero⟩
  · rw [hsame, hc]
  · exact hzero

theorem DroppedAt.settled (hb : DroppedAt p b) : (b.lc p).Settled := .inl (by simp [hb.1])

theorem Acts.dropped (h : Acts w b x) (hb : DroppedAt p b) : DroppedAt p x := (h.same hb.settled).dropped hb

theorem settle_dropped (s : Block) (judge : Bool) (hb : DroppedAt p b) : DroppedAt p (settle s judge b) :=
  (settle_rests s judge hb.settled).dropped hb

/-- What the drop of a pantograph leaves, before the Sequencer's response. -/
structure Drops (p : Panto) (b x : Block) : Prop where
  lift   : DroppedAt p x
  role   : x.role p = .none
  count  : faultCount .addTrip x = oneMore .addTrip b
  kept   : x.kept = b.kept
  seq    : x.seq = b.seq
  others : ∀ r, r ≠ p → x.lc r = b.lc r ∧ x.plan.roles.get r = b.plan.roles.get r
  opens  : b.role p = .collecting → breakerEngaged x = false

/-- The same with the role not yet cleared. -/
structure EntersDropped (p : Panto) (b x : Block) : Prop where
  lift   : DroppedAt p x
  count  : faultCount .addTrip x = oneMore .addTrip b
  kept   : x.kept = b.kept
  seq    : x.seq = b.seq
  plan   : x.plan = b.plan
  others : ∀ r, r ≠ p → x.lc r = b.lc r

theorem entersDropped_of_same {a : Block} (hseq : a.seq = b.seq) (hplan : a.plan = b.plan) (hcond : a.cond = b.cond)
    (hkept : a.kept = b.kept) (hlc : ∀ r, a.lc r = b.lc r) :
    EntersDropped p b (recordFault .addTrip (.panto p) (a.setLift p (a.lc p).toDropped)) := by
  have hself : (recordFault .addTrip (.panto p) (a.setLift p (a.lc p).toDropped)).lc p = (a.lc p).toDropped :=
    lc_setLift_self _ _ _
  refine ⟨⟨by rw [hself]; rfl, by rw [hself]; rfl, by rw [hself]; rfl⟩, ?_, hkept, hseq, hplan,
    fun r hr => (lc_setLift_ne _ _ hr).trans (hlc r)⟩
  refine (faultCount_recordFault_self _ _ _).trans ?_
  exact congrArg (fun n => min 255 (n + 1)) (faultCount_of_faults (b := b) (by simp [hcond]) _)

theorem entersDropped_enterDropped (p : Panto) (b : Block) : EntersDropped p b (enterDropped p b) := by
  unfold enterDropped
  by_cases hs : (b.lc p).state = .searching
  · simp only [if_pos hs]
    refine entersDropped_of_same ?_ ?_ ?_ (kept_changeEntry _ _ _) fun r => lc_abortEntry _ _ _
    all_goals rw [abortEntry, changeEntry_only]
  · simp only [if_neg hs]
    exact entersDropped_of_same rfl rfl rfl rfl fun _ => rfl

theorem EntersDropped.opened (h : EntersDropped p b x) : EntersDropped p b (openBreaker .internal x) where
  lift := by rw [DroppedAt, openBreaker_lc]; exact h.lift
  count := (faultCount_of_faults (by rw [openBreaker_cond]) _).trans h.count
  kept := (kept_openBreaker _ _).trans h.kept
  seq := (openBreaker_seq _ _).trans h.seq
  plan := (openBreaker_plan _ _).trans h.plan
  others r hr := (openBreaker_lc _ _ _).trans (h.others r hr)

theorem EntersDropped.cleared (h : EntersDropped p b x) (ho : b.role p = .collecting → breakerEngaged x = false) :
    Drops p b (clearRole p x) where
  lift := by rw [DroppedAt, clearRole_lc]; exact h.lift
  role := role_clearRole_self p x
  count := h.count
  kept := h.kept
  seq := h.seq
  others r hr := by
    refine ⟨(clearRole_lc _ _ _).trans (h.others r hr), ?_⟩
    rw [← h.plan]
    exact PerP.get_set_ne _ _ hr
  opens := ho

theorem drops_dropLift (p : Panto) (b : Block) : Drops p b (dropLift p b) := by
  have henter := entersDropped_enterDropped p b
  unfold dropLift
  dsimp only
  split
  · exact henter.opened.cleared fun _ => openBreaker_disengages _ _
  next hno => exact henter.cleared fun hc => absurd hc hno

/-! ## The start of a SUBSTITUTE path -/

theorem acts_clearForPath (b : Block) : Acts w b (clearForPath b) := by
  have hdiscard (a : Block) : Acts w a (discardAllHeld a) := acts_eachPanto (fun p c => by
    split
    next hh => exact acts_discardHeld (.inl hh)
    next => exact .refl c) a
  have hscrapers (a : Block) : Acts w a (lowerScrapers a) := acts_eachPanto (fun p c => by
    split
    next hs => exact (Act.clears p (.inl hs)).run.trans (acts_takeLower false p _)
    next => exact .refl c) a
  have h1 : Acts w b (abortSearches b) := acts_abortSearches b
  unfold clearForPath
  generalize abortSearches b = a at h1
  have h2 := hdiscard a
  generalize discardAllHeld a = d at h2
  have h3 := hscrapers d
  generalize lowerScrapers d = e at h3
  exact ((h1.trans h2).trans h3).trans (Act.stores _ rfl).run

theorem rolesFall_clearForPath (b : Block) : RolesFall b (clearForPath b) := by
  have hdiscard (a : Block) : RolesFall a (discardAllHeld a) := rolesFall_eachPanto (fun p c => by
    split
    · exact rolesFall_discardHeld p c
    · exact .of_plan rfl) a
  have hscrapers (a : Block) : RolesFall a (lowerScrapers a) := rolesFall_eachPanto (fun p c => by
    split
    · exact (rolesFall_clearRole p c).trans (rolesFall_takeLower _ p _)
    · exact .of_plan rfl) a
  have h1 := rolesFall_abortSearches b
  unfold clearForPath
  generalize abortSearches b = a at h1
  have h2 := hdiscard a
  generalize discardAllHeld a = d at h2
  have h3 := hscrapers d
  generalize lowerScrapers d = e at h3
  exact ((h1.trans h2).trans h3).trans (.of_plan rfl)

/-- The record a SUBSTITUTE path starts with. -/
def substituteSeq (c : Panto) (expected : Option LineSystem) : Seq where
  phase := .breakerOpen
  path := some .substitute
  activeEntry := none
  lateMark := false
  expected := expected
  expectedHead := none
  candidate := some c
  retry := false
  mismatch := false
  work := .none
  timer := none
  haltReason := none

/-- What the start of a SUBSTITUTE path leaves. -/
structure StartsSubstitute (c : Panto) (b x : Block) : Prop where
  seq   : x.seq = substituteSeq c b.record.determined
  kept  : x.kept = { b.kept with serial := wrapSucc b.record.serial, readyA := none, readyB := none }
  open_ : breakerEngaged x = false
  count : ∀ k, faultCount k x = faultCount k b
  lift  : ∀ p, (b.lc p).Settled → RestsAs ⟨True, True⟩ (b.lc p) (x.lc p)
  roles : ∀ p, p ≠ c → b.role p = .none → x.role p = .none
  spare : (b.lc c).state ≠ .searching → (b.lc c).held = .none → (b.lc c).heldSearch = false →
    x.plan.roles.get c = ⟨.collecting, some .internal⟩ ∧ (x.lc c).held = .none ∧ (x.lc c).heldSearch = false

theorem startsSubstitute (c : Panto) (b : Block) : StartsSubstitute c b (startSubstitute c b) := by
  have hseq : (pathRecords .substitute none false b.record.determined none .breakerOpen
      (setRole c .collecting .internal b)).seq = { substituteSeq c b.record.determined with candidate := none } := rfl
  have hkept : (pathRecords .substitute none false b.record.determined none .breakerOpen
      (setRole c .collecting .internal b)).kept =
      { b.kept with serial := wrapSucc b.record.serial, readyA := none, readyB := none } := rfl
  have hlc (p : Panto) : (pathRecords .substitute none false b.record.determined none .breakerOpen
      (setRole c .collecting .internal b)).lc p = b.lc p := rfl
  have hcount (k : FaultKind) : faultCount k (pathRecords .substitute none false b.record.determined none .breakerOpen
      (setRole c .collecting .internal b)) = faultCount k b := rfl
  have hrole (p : Panto) (hp : p ≠ c) : (pathRecords .substitute none false b.record.determined none .breakerOpen
      (setRole c .collecting .internal b)).role p = b.role p := role_setRole_ne _ _ _ hp
  have hgiven : (pathRecords .substitute none false b.record.determined none .breakerOpen
      (setRole c .collecting .internal b)).plan.roles.get c = ⟨.collecting, some .internal⟩ := PerP.get_set_self _ _ _
  unfold startSubstitute
  rw [startPath_eq]
  dsimp only
  generalize pathRecords .substitute none false b.record.determined none .breakerOpen
    (setRole c .collecting .internal b) = d at hseq hkept hlc hcount hrole hgiven
  have hcalm : ¬d.seq.NeedsContact := by rw [hseq]; simp [Seq.NeedsContact, substituteSeq]
  have haround := around_clearForPath hcalm
  have hacts : Acts ⟨True, True⟩ d (clearForPath d) := acts_clearForPath d
  have hfall := rolesFall_clearForPath d
  have hclear := kept_clearForPath d
  have hspare (hu : Untouched c d) := spared_clearForPath hcalm hu
  generalize clearForPath d = e at haround hacts hfall hclear hspare
  have hset : setCandidate (some c) e = { e with
      seq := { e.seq with candidate := some c }, ice := (setCandidate (some c) e).ice
      links := (setCandidate (some c) e).links } := by
    unfold setCandidate
    dsimp only
    split <;> rfl
  have hkeptc := kept_setCandidate (some c) e
  generalize setCandidate (some c) e = f at hset hkeptc
  have hfseq : f.seq = substituteSeq c b.record.determined := by
    rw [hset, haround.seq, hseq]
    rfl
  have hflc (p : Panto) : f.lc p = e.lc p := by rw [hset]; rfl
  have hfplan : f.plan = e.plan := by rw [hset]
  rw [enterBreakerOpen_facts f (by rw [hfseq]; rfl)]
  refine ⟨?_, ?_, openBreaker_disengages _ _, fun k => ?_, fun p hp => ?_, fun p hp hn => ?_, fun h1 h2 h3 => ?_⟩
  · rw [openBreaker_seq, hfseq]
    rfl
  · exact (kept_openBreaker _ _).trans (hkeptc.trans (hclear.trans hkept))
  · refine (faultCount_of_faults (b := e) ?_ k).trans ((faultCount_of_faults haround.faults k).trans (hcount k))
    rw [openBreaker_cond, hset]
  · rw [openBreaker_lc, ← hlc p]
    change RestsAs _ _ (f.lc p)
    rw [hflc]
    exact hacts.same (by rw [hlc]; exact hp)
  · rw [Block.role, openBreaker_plan]
    change (f.plan.roles.get p).role = .none
    rw [hfplan]
    exact hfall.none ((hrole p hp).trans hn)
  · obtain ⟨hr, n, hl, -⟩ := hspare ⟨by rwa [hlc], by rwa [hlc], by rwa [hlc], by rw [Block.role, hgiven]; decide⟩
    rw [openBreaker_plan, openBreaker_lc]
    change f.plan.roles.get c = _ ∧ (f.lc c).held = _ ∧ (f.lc c).heldSearch = _
    rw [hfplan, hflc, hr, hgiven, hl, hlc]
    exact ⟨rfl, h2, h3⟩

/-! ## A SUBSTITUTE path that runs -/

/-- A SUBSTITUTE path runs, or has halted, with the former scraper as collector: it makes no probe, so that no raise of
the candidate is taken. -/
structure Substituting (c : Panto) (b : Block) : Prop where
  onPath : OnPath .substitute b
  retry  : b.seq.retry = false
  probe  : b.seq.phase ≠ .probe
  role   : b.plan.roles.get c = ⟨.collecting, some .internal⟩
  held   : (b.lc c).held = .none ∧ (b.lc c).heldSearch = false

theorem Substituting.notRaised (hb : Substituting c b) : ¬RaiseTaken b c := by
  rintro ⟨-, hr | hp⟩
  · rw [Block.role, hb.role] at hr
    cases hr
  · exact hb.probe hp

theorem Act.substituting_held (h : Act w b x) (hb : Substituting c b) :
    (x.lc c).held = .none ∧ (x.lc c).heldSearch = false := by
  rcases h.lc_eq_or c with heq | hl
  · rw [heq]
    exact hb.held
  generalize x.lc c = l at hl
  cases hl
  case drops => exact ⟨rfl, rfl⟩
  case holds taken _ _ _ => exact absurd taken hb.notRaised
  case raises taken _ _ _ => exact absurd taken hb.notRaised
  all_goals exact hb.held

theorem Act.substituting_role (h : Act w b x) (hb : Substituting c b) : x.plan.roles.get c = b.plan.roles.get c := by
  have hne {r : Panto} (hr : b.role r = .none) : c ≠ r := by
    rintro rfl
    rw [Block.role, hb.role] at hr
    cases hr
  cases h
  case opens => rw [openBreaker_plan]
  case clears r had =>
    refine PerP.get_set_ne _ _ ?_
    rintro rfl
    rcases had with hr | hh | hh
    · rw [Block.role, hb.role] at hr
      cases hr
    · exact hh hb.held.1
    · exact absurd (hb.held.2.symm.trans hh) (by decide)
  case grants r _ _ free _ _ => exact PerP.get_set_ne _ _ (hne free)
  case scrapes r _ granted => exact PerP.get_set_ne _ _ (hne (scrapingRefusal_role granted))
  case serves n _ => cases n <;> rfl
  case stores only => rw [only]
  case ice only => rw [only.frame]
  all_goals rfl

theorem Act.substituting (h : Act w b x) (hb : Substituting c b) : Substituting c x where
  onPath := h.onPath (by decide) hb.onPath
  retry := by rw [h.seqFrame]; exact hb.retry
  role := (h.substituting_role hb).trans hb.role
  held := h.substituting_held hb
  probe := by
    cases h
    case opens => rw [openBreaker_seq]; exact hb.probe
    case serves n _ => rw [seq_serveEntry]; exact hb.probe
    case halts => exact Phase.noConfusion
    case finishes => exact Phase.noConfusion
    case moves q may =>
      intro hp
      rcases may.phase with hs | hs
      · exact hb.probe (hs.symm.trans hp)
      have hcoast : b.seq.phase = .coast := by
        have hp' : q.phase = .probe := hp
        rw [hp'] at hs
        revert hs
        cases b.seq.phase <;> simp [phaseSteps]
      rcases may.probes hcoast hp with hr | ⟨-, hs⟩
      · exact absurd (hb.retry.symm.trans hr) (by decide)
      · exact hs hb.onPath.path
    case stores only => rw [only]; exact hb.probe
    case ice only => rw [only.frame]; exact hb.probe
    all_goals exact hb.probe

/-- Before MASTER_READY nothing closes the breaker. -/
theorem Act.disengaged {k : Path} (h : Act w b x) (hk : OnPath k b) (hb : breakerEngaged b = false) :
    breakerEngaged x = false := by
  cases h
  case opens => exact openBreaker_disengages _ _
  case closes phase _ _ _ => exact absurd (by simp [phase]) hk.phase
  case serves n _ => cases n <;> exact hb
  case stores only => rw [only]; exact hb
  case ice only => rw [only.frame]; exact hb
  all_goals exact hb

/-! ## The statement -/

theorem substitute_facts (h : substitute b p = some c) :
    c ≠ p ∧ b.role c = .scraping ∧ (b.lc c).state = .contact := by
  have := List.find?_some h
  simp only [Bool.and_eq_true, bne_iff_ne, beq_iff_eq, ne_eq] at this
  exact ⟨this.1.1, this.1.2, this.2⟩

theorem substitute_unique (hne : c ≠ p) (hr : b.role c = .scraping) (hs : (b.lc c).state = .contact)
    (ho : ∀ x, x ≠ c → b.role x ≠ .scraping) : substitute b p = some c := by
  cases hf : substitute b p
  case none =>
    have := List.find?_eq_none.mp hf c (Panto.mem_all c)
    simp [hne, hr, hs] at this
  case some r =>
    obtain ⟨-, hr', -⟩ := substitute_facts hf
    by_contra hcr
    exact ho r (fun h => hcr (by rw [h])) hr'

/-- A drop as the Sequencer answers it: a halt, a SUBSTITUTE path, or nothing. -/
inductive DropCase (p : Panto) (b x : Block) : Prop
  | stays (seq : x = dropLift p b) (path : b.seq.phase = .idle ∨ b.role p ≠ .collecting ∧ b.seq.candidate ≠ some p)
  | halts (seq : x = halt .add (dropLift p b)) (runs : b.seq.phase ≠ .idle)
  | starts (c : Panto) (seq : x = startSubstitute c (dropLift p b)) (takes : substitute b p = some c)
      (promotes : b.on .promotionEnable = true)

theorem dropCase_dropPanto (p : Panto) (b : Block) : DropCase p b (dropPanto p b) := by
  unfold dropPanto
  dsimp only
  split
  next hi =>
    split
    next hcond =>
      simp only [Bool.and_eq_true] at hcond
      split
      next c hc => exact .starts c rfl hc hcond.1.2
      next => exact .stays rfl (.inl hi)
    next => exact .stays rfl (.inl hi)
  next hi =>
    split
    next => exact .halts rfl hi
    next hno =>
      simp only [Bool.or_eq_true, beq_iff_eq, not_or] at hno
      exact .stays rfl (.inr hno)

/-- What the drop leaves once the Sequencer has answered it. -/
structure DropsAll (p : Panto) (b x : Block) : Prop where
  kept    : b.on .promotionEnable = false → x.kept = b.kept
  lift    : DroppedAt p x
  out     : OutOfUse p x
  count   : faultCount .addTrip x = oneMore .addTrip b
  opens   : b.role p = .collecting → breakerEngaged x = false ∧ (Stopped x ∨ OnPath .substitute x)

theorem faultCount_halt_add (k : FaultKind) (b : Block) : faultCount k (halt .add b) = faultCount k b := by
  refine faultCount_of_faults ?_ k
  unfold halt
  split
  · rfl
  · split <;> rfl
  · rw [enterHalt_eq (by decide), openBreaker_cond]
    cases b.seq.activeEntry <;> rfl

theorem dropsAll_dropPanto (p : Panto) (b : Block) : DropsAll p b (dropPanto p b) := by
  have hdrop := drops_dropLift p b
  rcases dropCase_dropPanto p b with ⟨heq, hpath⟩ | ⟨heq, hruns⟩ | ⟨c, heq, htakes, hpromotes⟩
  all_goals rw [heq]
  · generalize dropLift p b = d at hdrop
    have hstop : b.seq.phase = .idle → Stopped d := fun hi => .inl (by rw [hdrop.seq, hi])
    refine ⟨fun _ => hdrop.kept, hdrop.lift, ⟨.inl hdrop.lift.1, ?_, hdrop.role⟩, hdrop.count,
      fun hc => ⟨hdrop.opens hc, .inl (hstop (hpath.resolve_right fun h => h.1 hc))⟩⟩
    rw [hdrop.seq]
    exact hpath.imp hstop fun h => h.2
  · generalize dropLift p b = d at hdrop
    have hstop := halt_stopped .add d
    have hrole : (halt .add d).role p = .none := by
      rw [Block.role, (haltKeeps_halt (by decide) d).plan]
      exact hdrop.role
    refine ⟨fun _ => (kept_halt _ (by decide) d).trans hdrop.kept, ?_, ⟨.inl ?_, .inl hstop, hrole⟩,
      (faultCount_halt_add _ d).trans hdrop.count, fun hc => ⟨halt_disengaged _ (hdrop.opens hc), .inl hstop⟩⟩
    · rw [DroppedAt, halt_lc]
      exact hdrop.lift
    · rw [halt_lc]
      exact hdrop.lift.1
  · obtain ⟨hne, -, -⟩ := substitute_facts htakes
    generalize dropLift p b = d at hdrop
    have hstart := startsSubstitute c d
    generalize startSubstitute c d = e at hstart
    have hlift := (hstart.lift p hdrop.lift.settled).dropped hdrop.lift
    refine ⟨fun hoff => absurd (hoff.symm.trans hpromotes) (by decide), hlift, ⟨.inl hlift.1, .inr ?_,
      hstart.roles p hne.symm hdrop.role⟩, (hstart.count _).trans hdrop.count, fun _ => ⟨hstart.open_, .inr ?_⟩⟩
    · rw [hstart.seq]
      exact fun h => hne (Option.some.inj h)
    · refine ⟨by rw [hstart.seq]; rfl, ?_⟩
      rw [hstart.seq]
      simp [substituteSeq]

/-- The drop of the collector in IDLE, a scraper in CONTACT taking over. -/
theorem substituting_dropPanto (hi : b.seq.phase = .idle) (hp : b.role p = .collecting)
    (hon : b.on .promotionEnable = true) (hold : b.plan.hold = false) (hs : substitute b p = some c)
    (hh : (b.lc c).held = .none) (hsearch : (b.lc c).heldSearch = false) :
    Substituting c (dropPanto p b) ∧
      (dropPanto p b).kept = { b.kept with serial := wrapSucc b.record.serial, readyA := none, readyB := none } := by
  have heq : dropPanto p b = startSubstitute c (dropLift p b) := by
    simp [dropPanto, hi, hp, hon, hold, hs]
  obtain ⟨hne, -, hcontact⟩ := substitute_facts hs
  have hdrop := drops_dropLift p b
  rw [heq]
  generalize dropLift p b = d at hdrop
  have hstart := startsSubstitute c d
  generalize startSubstitute c d = e at hstart
  obtain ⟨hlc, -⟩ := hdrop.others c hne
  obtain ⟨hrole, hheld, hnosearch⟩ := hstart.spare (by rw [hlc, hcontact]; decide) (by rw [hlc, hh]) (by rw [hlc, hsearch])
  have hserial : d.record.serial = b.record.serial := congrArg Kept.serial hdrop.kept
  refine ⟨⟨⟨by rw [hstart.seq]; rfl, by rw [hstart.seq]; simp [substituteSeq]⟩, by rw [hstart.seq]; rfl,
    by rw [hstart.seq]; simp [substituteSeq],
    hrole, hheld, hnosearch⟩, ?_⟩
  rw [hstart.kept, hdrop.kept, hserial]

/-- Settles O24, by what a drop leaves and by the invariant of a SUBSTITUTE path. -/
theorem stripFailureDrops : Obligations.StripFailureDrops := by
  unfold Obligations.StripFailureDrops
  intro p s hraised hadopted
  obtain ⟨t, ht, hblock⟩ := event_ends s false (onceAdopted (dropIfRaised p))
  rw [onceAdopted_of_adopted hadopted, dropIfRaised, if_pos hraised] at hblock
  have hall := dropsAll_dropPanto p s.block
  have hsub (c : Panto) := substituting_dropPanto (c := c) (p := p) (b := s.block)
  have hadd (hi : s.block.seq.phase ≠ .idle) (hh : s.block.seq.phase ≠ .halted)
      (hc : s.block.role p = .collecting ∨ s.block.seq.candidate = some p) :
      (dropPanto p s.block).seq.phase = .halted ∧ (dropPanto p s.block).seq.haltReason = some .add := by
    have hdrop := drops_dropLift p s.block
    have heq : dropPanto p s.block = halt .add (dropLift p s.block) := by
      rcases hc with hc | hc <;> simp [dropPanto, hi, hc]
    rw [heq]
    generalize dropLift p s.block = d at hdrop
    exact halt_reason (by rw [hdrop.seq]; exact hi) (by rw [hdrop.seq]; exact hh)
  generalize dropPanto p s.block = x at hblock hall hsub hadd
  have hdropped := settle_dropped s.block false hall.lift
  have hkept := kept_settle s.block false x
  obtain ⟨y, hacts, hclosed⟩ := settle_acts s.block false x
  have hstands (hs : Stopped x) := settle_stands s.block false hs
  have hcount := settle_faultCount (k := .addTrip) s.block false x (by decide)
  rw [← hblock] at hdropped hkept hclosed hstands hcount
  refine ⟨t, ht, fun hoff => hkept.trans (hall.kept hoff), hdropped.1, hdropped.2.1, hdropped.2.2, ?_,
    hcount.trans hall.count, fun hc => ?_, fun c _ hi hp hon hold hne hrole hcontact hh hsearch hone _ _ => ?_,
    fun hi hh _ hc => ?_⟩
  · rw [hclosed.role]
    exact (hacts.outOfUse hall.out).role
  · obtain ⟨hdis, hstop | hpath⟩ := hall.opens hc
    · exact (hstands hstop).disengaged hdis
    · rw [hclosed.engaged]
      exact (hacts.keep (P := fun a => OnPath .substitute a ∧ breakerEngaged a = false)
        (fun _ _ hs ⟨h1, h2⟩ => ⟨hs.onPath (by decide) h1, hs.disengaged h1 h2⟩) ⟨hpath, hdis⟩).2
  · obtain ⟨hsubst, hk⟩ := hsub c hi hp hon hold (substitute_unique hne hrole hcontact hone) hh hsearch
    have hend := hacts.keep (P := Substituting c) (fun _ _ hs ha => hs.substituting ha) hsubst
    have hkt := hkept.trans hk
    refine ⟨by rw [hclosed.roles]; exact hend.role, by rw [hclosed.seq]; exact hend.onPath.path, ?_, ?_, ?_⟩
    · exact congrArg Kept.serial hkt
    · exact congrArg Kept.readyA hkt
    · exact congrArg Kept.readyB hkt
  · rw [(hstands (.inr (hadd hi hh hc).1)).seq]
    exact hadd hi hh hc

end Sys2Proof.Machine
end
section
/-!
A scan against O26: the VALVES step of a pantograph that is brought to an end at the scan goes on with the next one, which
may be the one that has just come down.
-/

namespace Sys2Proof.Machine

/-- A scan of a roof that is down. -/
def roofDownReadings : Readings where
  actuator := .const (some 0)
  strip := .const (some 6000)
  height := .const (some 0)
  reservoir := some 6000
  ambient := some 10

/-- A VALVES step runs on P1, a scraper whose raise is held DWELL, outside WAKING, while P2 comes down. -/
def testedScraper : State :=
  let b := State.reset.block
  ⟨[], { b with
    cond := { b.cond with mode := .standby, testStep := .valves .p1 0 }
    ice := { b.ice with scraper := some .p1 }
    plan := { b.plan with roles := b.plan.roles.set .p1 ⟨.scraping, none⟩ }
    lift := (b.lift.set .p2 { b.lc .p2 with state := .lowering }).set .p1
      { b.lc .p1 with held := .dwell, dwellTimer := some 0 } }⟩

/-- The pressure of P2 after the scan. -/
def scannedPressure : Nat :=
  match exec (.scanComplete roofDownReadings) testedScraper with
  | .next t => (t.block.lc .p2).commanded
  | _ => 0

theorem scannedPressure_eq : scannedPressure = 500 := by decide +kernel

theorem testedScraper_facts : testedScraper.block.cond.restart = none ∧ testedScraper.block.cond.mode ≠ .waking ∧
    (testedScraper.block.lc .p2).state = .lowering ∧ roofDownReadings.height.get .p2 = some 0 ∧
    (0 : Int) ≤ testedScraper.block.cfg .hStow := by decide +kernel

/-- Refutes O26: outside WAKING the statement does not shut out a VALVES step of the self-test. In `testedScraper` the
scan brings P2 down at pressure 0; then the Ice Unit lowers its scraper P1, which ends P1's VALVES step, and the next one
begins on P2 at 50.0 kPa. -/
theorem not_scanMovesThePressure : ¬ Obligations.ScanMovesThePressure := by
  unfold Obligations.ScanMovesThePressure
  rintro ⟨-, -, -, -, -, hscan⟩
  obtain ⟨hrestart, hmode, hlowering, hread, hstow⟩ := testedScraper_facts
  obtain ⟨t, ht, hdown, -⟩ := hscan roofDownReadings .p2 testedScraper hrestart hmode
  obtain ⟨-, hzero, -⟩ := (hdown hlowering).1 0 hread (by decide) (by decide) hstow
  have hpressure : scannedPressure = (t.block.lc .p2).commanded := by rw [scannedPressure, ht]
  rw [scannedPressure_eq, hzero] at hpressure
  exact absurd hpressure (by decide)

end Sys2Proof.Machine
end

section
/-!
Enter Mode and Wake (R170 to R172): the mode that stands at the end of the event.
-/

namespace Sys2Proof.Machine

variable {q : Req} {s t : State} {b x y : Block} {p r : Panto} {m : Mode} {w : Ending}

/-! ## A mode that stands -/

/-- The mode is `m`, just entered, with no standby lowering and no Wake held. -/
structure Entered (m : Mode) (b : Block) : Prop where
  mode     : b.cond.mode = m
  timer    : b.cond.modeTimer = 0
  standby  : b.cond.standbyLowering = false
  heldWake : b.cond.heldWake = false

theorem Entered.of_fixed (h : Entered m b) (hc : x.cond = { b.cond with
    testStep := x.cond.testStep, selfTest := x.cond.selfTest, faults := x.cond.faults }) : Entered m x := by
  constructor <;> rw [hc]
  · exact h.mode
  · exact h.timer
  · exact h.standby
  · exact h.heldWake

theorem entered_setMode (m : Mode) (b : Block) : Entered m (setMode m b) := by
  have hfixed := (acts_abortSearches (w := ⟨False, False⟩)
    { b with cond := { b.cond with mode := m, modeTimer := 0, standbyLowering := false, heldWake := false } }).fixed (by simp)
  exact Entered.of_fixed ⟨rfl, rfl, rfl, rfl⟩ hfixed

theorem Entered.not_mayWake (h : Entered m b) : ¬MayWake b := by
  rintro ⟨-, -, hdue⟩
  rw [h.timer] at hdue
  omega

/-- Where WAKING is not about to end and no standby lowering is under way, the mode stands to the end of the event. -/
theorem settle_fixed (s : Block) (judge : Bool) (hwaking : ¬MayWake b) (hstandby : b.cond.standbyLowering = false) :
    (settle s judge b).cond = { b.cond with
      testStep := (settle s judge b).cond.testStep, selfTest := (settle s judge b).cond.selfTest
      faults := (settle s judge b).cond.faults } := by
  obtain ⟨y, hacts, hclosed⟩ := settle_acts_calm s judge hwaking hstandby
  rw [hclosed.cond]
  exact hacts.fixed (by simp)

theorem Entered.settle (h : Entered m b) (s : Block) (judge : Bool) : Entered m (settle s judge b) :=
  h.of_fixed (settle_fixed s judge h.not_mayWake h.standby)

theorem Act.completed (h : Act w b x) (hw : ¬(w.wakes ∨ w.lowers))
    (hb : (∀ p n, b.cond.testStep ≠ .valves p n) ∧ b.cond.selfTest.completed = false) :
    (∀ p n, x.cond.testStep ≠ .valves p n) ∧ x.cond.selfTest.completed = false := by
  cases h
  case opens => rw [openBreaker_frame]; exact hb
  case tests may _ _ => exact absurd may hw
  case tries q n step _ => exact absurd step (hb.1 q n)
  case serves i _ => rw [frame_serveEntry]; exact hb
  case stores only => rw [only]; exact hb
  case ice only => rw [only.frame]; exact hb
  all_goals exact hb

/-! ## Requests that enter a mode -/

/-- A mode entered at a request. -/
theorem mode_ends {code : Nat} {o : ReplyOutcome} {owner : Block → Answer} {g : Gate}
    (hex : examine q g (refresh q.link s.block) = none)
    (ha : owner (refresh q.link s.block) = effect o (setMode m (refresh q.link s.block))) :
    ∃ t, request q code g owner s = .next t ∧ Entered m t.block ∧ KeepsRest s t ∧
      Answered s t q.link (plainReply code q o) ∧
      t.block = settle s.block false (pushReply q.link (plainReply code q o) (setMode m (refresh q.link s.block))) := by
  obtain ⟨t, ht, he⟩ := request_ends_as (code := code) hex ha (congrArg Kept.links (kept_setMode m _))
  refine ⟨t, ht, ?_, he.keepsRest_of_kept (kept_setMode m _), he.plain, he.settles⟩
  have hen := entered_setMode m (refresh q.link s.block)
  rw [he.settles]
  exact Entered.settle (b := pushReply q.link (plainReply code q o) (setMode m (refresh q.link s.block)))
    ⟨hen.mode, hen.timer, hen.standby, hen.heldWake⟩ s.block false

/-! ## Wake (R172) -/

theorem examine_wake (hw : q.wellFormed = true) (hl : (masterOf q.link).isSome = true)
    (hlead : b.plan.lead = none ∨ masterOf q.link = b.plan.lead) : examine q .wake (refresh q.link b) = none := by
  have ht : Link.traction q.link = true := by
    revert hl
    cases q.link <;> simp [masterOf, Link.traction]
  have hcheck : leadCheck (refresh q.link b) q.link .leadIfHeld = true := by
    rcases hlead with hn | hn
    · simp [leadCheck, hn]
    · have hs : b.plan.lead.isSome = true := hn ▸ hl
      simp [leadCheck, holdsLead, hn, hs]
  simp [examine, Gate.wake, Allowed.permits, ht, hw, hcheck]

/-- WAKING is entered at 0 of the mode timer, and the mode stands. -/
theorem waking_settles (r : Mode) (s x : Block) (judge : Bool) (hx : x.cond = (enterWaking r b).cond) :
    (settle s judge x).cond.mode = .waking ∧ (settle s judge x).cond.modeTimer = 0 ∧
      (settle s judge x).cond.heldWake = false ∧ (settle s judge x).cond.selfTest.completed = false ∧
      (settle s judge x).cond.returnMode = r := by
  have hen : Entered .waking x := by constructor <;> rw [hx] <;> rfl
  obtain ⟨y, hacts, hclosed⟩ := settle_acts_calm s judge hen.not_mayWake hen.standby
  have hstep : (∀ p n, y.cond.testStep ≠ .valves p n) ∧ y.cond.selfTest.completed = false :=
    hacts.keep (P := fun a => (∀ p n, a.cond.testStep ≠ .valves p n) ∧ a.cond.selfTest.completed = false)
      (fun _ _ hs ha => hs.completed (by simp) ha) (by rw [hx]; exact ⟨fun _ _ h => (nomatch h), rfl⟩)
  have hfixed := hacts.fixed (by simp)
  rw [hclosed.cond]
  refine ⟨?_, ?_, ?_, hstep.2, ?_⟩ <;> rw [hfixed]
  · exact hen.mode
  · exact hen.timer
  · exact hen.heldWake
  · rw [hx]
    rfl

/-- Settles O29, by the mode that WAKING enters with its timer at 0, which no answer ends. -/
theorem wakeEntersWaking : Obligations.WakeEntersWaking := by
  unfold Obligations.WakeEntersWaking
  refine ⟨fun q s hw hl hlead => ?_, fun s hm hh => ?_⟩
  · have hex := examine_wake hw hl hlead
    obtain ⟨t, ht⟩ := exec_ends (.wake q) s
    refine ⟨t, ht, fun hm hh hd => ?_, fun hm hh hd => ?_, fun hm hh => ?_, fun hm => ?_⟩
    · have ha : wake (refresh q.link s.block) = effect .accepted (enterWaking .standby (refresh q.link s.block)) := by
        simp [wake, hm, hh, hd]
      have he := holds_at ht (request_ends_as (code := 0x04) hex ha rfl)
      obtain ⟨h1, h2, h3, h4, h5⟩ := waking_settles (b := refresh q.link s.block) .standby s.block
        (pushReply q.link (plainReply 0x04 q .accepted) (enterWaking .standby (refresh q.link s.block))) false rfl
      rw [← he.settles] at h1 h2 h3 h4 h5
      refine ⟨h1, h5, h2, h4, ?_, he.plain⟩
      exact congrArg (fun k : Kept => { k with returnMode := s.block.kept.returnMode }) (he.kept s.block.kept.links)
    · have ha : wake (refresh q.link s.block) = ownEffect .accepted (setHeldWake true (refresh q.link s.block)) := by
        simp [wake, hm, hh, Nat.not_le.mpr hd]
      have he := holds_at ht (request_ends_as (code := 0x04) hex ha rfl)
      have hb := he.block_of_same rfl rfl
      refine ⟨?_, ?_, he.keepsRest rfl, he.answered⟩ <;> rw [hb]
      · exact hm
      · rfl
    · refine holds_at ht (request_unchanged hex ?_)
      simp [wake, hm, hh, ownEffect]
    · refine holds_at ht (request_refused hex ?_)
      simp [wake, hm]
  · obtain ⟨t, ht, hb⟩ := event_ends s false heldWakeDue
    have hdue : heldWakeDue s.block = enterWaking .standby s.block := by simp [heldWakeDue, hm, hh]
    rw [hdue] at hb
    obtain ⟨h1, h2, h3, h4, h5⟩ := waking_settles (b := s.block) .standby s.block _ false rfl
    rw [← hb] at h1 h2 h3 h4 h5
    exact ⟨t, ht, h1, h5, h3, h2, h4⟩

/-! ## The roof as a mode is left -/

theorem eachPanto_keep {f : Panto → Block → Block} {P : Block → Prop} (h : ∀ p b, P b → P (f p b)) (hb : P b) :
    P (eachPanto f b) :=
  h _ _ (h _ _ (h _ _ (h _ _ hb)))

theorem state_discardHeld (p r : Panto) (b : Block) : ((discardHeld p b).lc r).state = (b.lc r).state := by
  by_cases hr : r = p
  · rw [hr, lc_discardHeld_self]
    rfl
  · rw [(touches_discardHeld p b).state hr]

/-- With every search aborted none is left. -/
theorem state_abortOne (p r : Panto) (b : Block) :
    let x := if (b.lc p).state = .searching then abortSearch p b else if (b.lc p).heldSearch then discardHeld p b else b
    (x.lc r).state = (b.lc r).state ∨ (x.lc r).state = .lowering ∧ (b.lc r).state = .searching := by
  dsimp only
  split
  next hs =>
    by_cases hr : r = p
    · refine .inr ⟨?_, hr ▸ hs⟩
      rw [abortSearch, beginLowering, leaveContact_lc, hr, lc_setLift_self]
      rfl
    · left
      rw [abortSearch, beginLowering, leaveContact_lc, lc_setLift_ne _ _ hr, (touches_abortEntry p b).state hr]
  · split
    · exact .inl (state_discardHeld p r b)
    · exact .inl rfl

theorem abortSearches_ends (h : b.cond.restart = none) (p : Panto) : ((abortSearches b).lc p).state ≠ .searching := by
  rw [abortSearches, onceAdopted_of_adopted h]
  refine eachPanto_settles (P := fun p a => (a.lc p).state ≠ .searching) (fun p a => ?_) (fun p r a ha => ?_) b p
  · split
    · rw [abortSearch, beginLowering, leaveContact_lc, lc_setLift_self]
      exact fun hs => nomatch hs
    · split
      · rw [state_discardHeld]
        assumption
      · assumption
  · rcases state_abortOne r p a with hs | ⟨hs, -⟩ <;> rw [hs]
    · exact ha
    · exact fun hs => nomatch hs

theorem atRest_abortSearches (h : ∀ p, (b.lc p).state.atRest = true) (p : Panto) :
    ((abortSearches b).lc p).state.atRest = true := by
  unfold abortSearches onceAdopted
  split
  · exact h p
  · refine eachPanto_keep (P := fun a => ∀ p, (a.lc p).state.atRest = true) (fun r a ha p => ?_) h p
    rcases state_abortOne r p a with hs | ⟨-, hs⟩
    · rw [hs]
      exact ha p
    · have hp := ha p
      rw [hs] at hp
      cases hp

/-- No answer begins a search. -/
theorem Act.searching (h : Act w b x) (p : Panto) (hb : (b.lc p).state ≠ .searching) : (x.lc p).state ≠ .searching := by
  rcases h.lc_eq_or p with heq | hl
  · rwa [heq]
  generalize x.lc p = l at hl
  cases hl
  case lowers => exact fun hs => nomatch hs
  case raises taken stowed free rested =>
    rw [beginRaise, evaluate, setLift_setLift, lc_setLift_self, lc_setLift_self]
    exact fun hs => nomatch hs
  all_goals exact hb

/-! ## Standby lowering (R171) -/

/-- STANDBY is entered from SERVICE once the roof is at rest, and not before. -/
structure ComesDown (b : Block) : Prop where
  stopped : Stopped b
  mode    : b.cond.mode = .standby ∧ b.cond.standbyLowering = false ∧ (∀ p, (b.lc p).state.atRest = true) ∨
    b.cond.mode = .service ∧ b.cond.standbyLowering = true

theorem state_takeLower {i : Bool} (h : (b.lc p).state.atRest = true) (r : Panto) :
    ((takeLower i p b).lc r).state = (b.lc r).state := by
  have hset {l : Lift} (hl : l.state = (b.lc p).state) : ((b.setLift p l).lc r).state = (b.lc r).state := by
    by_cases hr : r = p
    · rw [hr, lc_setLift_self, hl]
    · rw [lc_setLift_ne _ _ hr]
  have hskip : ((skipValves p b).lc r).state = (b.lc r).state := by
    obtain ⟨n, hn⟩ := skipValves_lc p r b
    rw [hn]
  unfold takeLower
  split
  · split
    · unfold pendLower
      split
      · rfl
      · rw [openBreaker_lc]
        exact hset rfl
    · exact hset rfl
  · unfold actOnLower
    split
    case h_1 =>
      split
      · rw [state_discardHeld]
        exact hskip
      · exact hskip
    case h_6 | h_7 => rfl
    all_goals
      next hs =>
        rw [hs] at h
        cases h

/-- With the mode STANDBY and no path run, nothing leaves its rest. -/
theorem StillReaction.atRest (h : StillReaction b x) (hmode : b.cond.mode = .standby)
    (hb : ∀ p, (b.lc p).state.atRest = true) (p : Panto) : (x.lc p).state.atRest = true := by
  cases h
  case guard => rw [openBreaker_lc]; exact hb p
  case release r _ contact _ _ =>
    have hr := hb r
    rw [contact] at hr
    cases hr
  case withdraw => exact hb p
  case ice only => rw [only.frame]; exact hb p
  case ask r want _ _ => simp [wantsScraper, hmode] at want
  case scrape r _ _ =>
    rw [state_takeLower (b := clearRole r b) (hb r)]
    exact hb p

theorem Reaction.comesDown (h : Reaction b x) (hb : ComesDown b) : ComesDown x := by
  rcases hb.mode with ⟨hmode, hstandby, hrest⟩ | ⟨hmode, hstandby⟩
  · have hstill : Still b := ⟨hb.stopped, by rw [hmode]; decide, hstandby⟩
    obtain ⟨hx, heq | hs⟩ := h.still hstill
    · exact heq ▸ hb
    · have hfixed := h.acts (w := ⟨False, False⟩) (fun hw => by rw [MayWake, hmode] at hw; cases hw.1)
        (fun hs => absurd (hstandby.symm.trans hs) (by decide))
      have hcond := hfixed.fixed (by simp)
      exact ⟨hx.phase, .inl ⟨by rw [hcond]; exact hmode, hx.standby, hs.atRest hmode hrest⟩⟩
  · rcases h.acts_or (w := ⟨False, False⟩) (fun hw => by rw [MayWake, hmode] at hw; cases hw.1) with
      hacts | ⟨-, hrest, -, rfl⟩
    · have hcond := hacts.fixed (by simp)
      refine ⟨?_, .inr ⟨by rw [hcond]; exact hmode, by rw [hcond]; exact hstandby⟩⟩
      rw [Stopped, (hacts.stands (.inl hb.stopped)).seq]
      exact hb.stopped
    · have hen := entered_setMode .standby b
      have hst := (acts_setMode (w := ⟨False, True⟩) (m := .standby) b (.inr trivial) (by decide)).stands (.inl hb.stopped)
      refine ⟨?_, .inl ⟨hen.mode, hen.standby, ?_⟩⟩
      · rw [Stopped, hst.seq]
        exact hb.stopped
      · refine atRest_abortSearches fun p => ?_
        rw [roofAtRest, Panto.all_all] at hrest
        exact hrest p

theorem settle_comesDown (s : Block) (judge : Bool) (hb : ComesDown b) : ComesDown (settle s judge b) := by
  have h := (reactions_answers s judge b).keep (fun _ _ hs ha => hs.comesDown ha) hb
  have hclosed := closed_close s (answers s judge b)
  rw [settle_eq]
  refine ⟨by rw [Stopped, hclosed.seq]; exact h.stopped, ?_⟩
  simp only [hclosed.cond, hclosed.lc]
  exact h.mode

theorem cond_haltFault (h : HaltReason) (b : Block) :
    (haltFault h b).cond = { b.cond with faults := (haltFault h b).cond.faults } := by cases h <;> rfl

/-- A halt records a fault and changes nothing else of the Condition Unit. -/
theorem cond_halt {h : HaltReason} (hm : h ≠ .mismatch) (b : Block) :
    (halt h b).cond = { b.cond with faults := (halt h b).cond.faults } := by
  unfold halt
  split
  · rfl
  · split <;> rfl
  · rw [enterHalt_eq hm, openBreaker_frame, frame_serveEntry]
    exact cond_haltFault h b

/-- What a standby lowering begins with (R171). -/
theorem beginStandbyLowering_facts (b : Block) (hmode : b.cond.mode = .service) :
    ComesDown (beginStandbyLowering b) ∧ breakerEngaged (beginStandbyLowering b) = false ∧
      (b.seq.phase ≠ .idle → b.seq.phase ≠ .halted → (beginStandbyLowering b).seq.phase = .halted ∧
        (beginStandbyLowering b).seq.haltReason = some .masterLower) := by
  have hstop := halt_stopped .masterLower { b with cond := { b.cond with standbyLowering := true } }
  have hreason := halt_reason (h := .masterLower) (b := { b with cond := { b.cond with standbyLowering := true } })
  have hcond := cond_halt (h := .masterLower) (by decide) { b with cond := { b.cond with standbyLowering := true } }
  unfold beginStandbyLowering
  dsimp only
  generalize halt .masterLower { b with cond := { b.cond with standbyLowering := true } } = c at hstop hreason hcond
  have hopened := openBreaker_disengages .internal c
  have hseq := openBreaker_seq .internal c
  have hsame : (openBreaker .internal c).cond = c.cond := by rw [openBreaker_frame]
  generalize openBreaker .internal c = d at hopened hseq hsame
  have hlower := around_lowerRoof (i := false) (b := d) (by rw [hseq]; exact not_needsContact_of_stopped hstop)
  refine ⟨⟨?_, .inr ⟨?_, ?_⟩⟩, ?_, fun hi hh => ?_⟩
  · rw [Stopped, hlower.seq, hseq]
    exact hstop
  · rw [hlower.cond, hsame, hcond]
    exact hmode
  · rw [hlower.cond, hsame, hcond]
  · rcases hlower.breaker with hb | hb
    · rw [breakerEngaged_of_breaker hb]
      exact hopened
    · exact hb
  · rw [hlower.seq, hseq]
    exact hreason hi hh

theorem roofAtRest_iff : roofAtRest b = true ↔ ∀ p, (b.lc p).state.atRest = true := by
  rw [roofAtRest, Panto.all_all]

/-- The refusals of the table. -/
theorem enterMode_refuses {m : Mode} {why : RefCode}
    (h : b.cond.mode = .service ∧ b.cond.standbyLowering = true ∧ m ≠ .standby ∧ why = .busy ∨
      b.cond.mode = .service ∧ b.cond.standbyLowering = false ∧ m ∈ [.workshop, .dormant, .waking] ∧ why = .wrongMode ∨
      b.cond.mode = .workshop ∧ m ∈ [.service, .dormant, .waking] ∧ why = .wrongMode ∨
      b.cond.mode = .standby ∧ m = .waking ∧ why = .wrongMode ∨
      b.cond.mode = .waking ∧ m ≠ .waking ∧ why = .wrongMode) : enterMode m b = refuse why b := by
  rcases h with ⟨hm, hs, ht, rfl⟩ | ⟨hm, hs, ht, rfl⟩ | ⟨hm, ht, rfl⟩ | ⟨hm, rfl, rfl⟩ | ⟨hm, ht, rfl⟩
  · cases m <;> simp [enterMode, hm, fromService, hs] at ht ⊢
  · cases m <;> simp [enterMode, hm, fromService, hs] at ht ⊢
  · cases m <;> simp [enterMode, hm, fromWorkshop] at ht ⊢
  · simp [enterMode, hm, fromStandby]
  · simp [enterMode, hm, ht]

/-- Standby lowering begun, at the end of its event. -/
theorem standbyLowering_ends (hq : Leads q s.block) (hm : s.block.cond.mode = .service)
    (hs : s.block.cond.standbyLowering = false) : ∃ t, exec (.enterMode q .standby) s = .next t ∧
      Answered s t q.link (plainReply 0x03 q .accepted) ∧ KeepsRest s t ∧ breakerEngaged t.block = false ∧
      (s.block.seq.phase ≠ .idle → s.block.seq.phase ≠ .halted →
        t.block.seq.phase = .halted ∧ t.block.seq.haltReason = some .masterLower) ∧
      (t.block.cond.mode = .standby ∧ t.block.cond.standbyLowering = false ∧
          (∀ p, (t.block.lc p).state.atRest = true) ∨
        t.block.cond.mode = .service ∧ t.block.cond.standbyLowering = true) := by
  have ha : enterMode .standby (refresh q.link s.block) =
      effect .accepted (beginStandbyLowering (refresh q.link s.block)) := by
    simp [enterMode, hm, fromService, hs]
  have hkept := kept_beginStandbyLowering (refresh q.link s.block)
  obtain ⟨hdown, hopen, hhalt⟩ := beginStandbyLowering_facts (refresh q.link s.block) hm
  generalize beginStandbyLowering (refresh q.link s.block) = x at ha hkept hdown hopen hhalt
  obtain ⟨t, ht, he⟩ := request_ends_as (code := 0x03) (examine_leader hq) ha (congrArg Kept.links hkept)
  have hrest := he.keepsRest_of_kept hkept
  have hblock := he.settles
  have hdown' : ComesDown (pushReply q.link (plainReply 0x03 q .accepted) x) := ⟨hdown.stopped, hdown.mode⟩
  have hend := settle_comesDown s.block false hdown'
  have hst := settle_stands s.block false hdown'.stopped
  rw [← hblock] at hend hst
  refine ⟨t, ht, he.plain, hrest, hst.disengaged hopen, fun hi hh => ?_, hend.mode⟩
  rw [hst.seq]
  exact hhalt hi hh

/-- STANDBY entered from WORKSHOP ends every search. -/
theorem workshopLeft_ends (hq : Leads q s.block) (hm : s.block.cond.mode = .workshop) (hlaw : RestartLaw s.block) :
    ∃ t, exec (.enterMode q .standby) s = .next t ∧ t.block.cond.mode = .standby ∧
      (∀ p, (t.block.lc p).state ≠ .searching) ∧ KeepsRest s t ∧ Answered s t q.link (plainReply 0x03 q .done) := by
  have ha : enterMode .standby (refresh q.link s.block) = effect .done (setMode .standby (refresh q.link s.block)) := by
    simp [enterMode, hm, fromWorkshop]
  obtain ⟨t, ht, hen, hrest, hans, hblock⟩ := mode_ends (code := 0x03) (examine_leader hq) ha
  refine ⟨t, ht, hen.mode, fun p => ?_, hrest, hans⟩
  have hadopted : s.block.cond.restart = none := by
    by_contra hr
    have hwaking := (hlaw (Option.isSome_iff_ne_none.mpr hr)).1
    exact absurd (hm.symm.trans hwaking) (by decide)
  have hends : ((setMode .standby (refresh q.link s.block)).lc p).state ≠ .searching :=
    abortSearches_ends (b := { refresh q.link s.block with cond := { s.block.cond with
      mode := .standby, modeTimer := 0, standbyLowering := false, heldWake := false } }) hadopted p
  obtain ⟨y, hacts, hclosed⟩ := settle_acts s.block false (pushReply q.link (plainReply 0x03 q .done)
    (setMode .standby (refresh q.link s.block)))
  rw [hblock, hclosed.lc]
  exact hacts.keep (P := fun a => (a.lc p).state ≠ .searching) (fun _ _ hs ha => hs.searching p ha) hends

/-- Settles O28, row by row. -/
theorem enterModeFollowsItsTable : Obligations.EnterModeFollowsItsTable := by
  unfold Obligations.EnterModeFollowsItsTable
  intro q s hq
  have hex := examine_leader hq
  refine ⟨fun m hm hs => ?_, fun hm hs => ?_, fun m why h => ?_, fun hm => ?_, fun hm => ?_,
    fun hm hlaw => workshopLeft_ends hq hm hlaw, fun hm => ?_, fun hm hs => standbyLowering_ends hq hm hs⟩
  · refine request_unchanged hex ?_
    have hdormant : s.block.cond.mode ≠ .dormant := hq.awake
    cases m <;> simp_all [enterMode, fromStandby, fromService, fromWorkshop, unchanged]
  · exact request_unchanged hex (by simp [enterMode, hm, fromService, hs, ownEffect])
  · exact request_refused hex (enterMode_refuses h)
  · by_cases hgo : s.block.cond.configGood = true ∧ s.block.cond.selfTest.completed = true
    · have ha : enterMode .service (refresh q.link s.block) = effect .done (setMode .service (refresh q.link s.block)) := by
        simp [enterMode, hm, fromStandby, hgo]
      obtain ⟨t, ht, hen, hrest, hans, -⟩ := mode_ends (code := 0x03) hex ha
      exact ⟨t, ht, fun _ _ => ⟨hen.mode, hen.timer, hrest, hans⟩, fun hno => absurd hgo hno⟩
    · have ha : enterMode .service (refresh q.link s.block) = refuse .interlock (refresh q.link s.block) := by
        have hno : (s.block.cond.configGood && s.block.cond.selfTest.completed) = false := by simpa using hgo
        simp [enterMode, hm, fromStandby, hno]
      obtain ⟨t, ht, hrefused⟩ := request_refused (code := 0x03) hex ha
      exact ⟨t, ht, fun hg hc => absurd ⟨hg, hc⟩ hgo, fun _ => hrefused⟩
  · have ha : enterMode .workshop (refresh q.link s.block) = effect .done (setMode .workshop (refresh q.link s.block)) := by
      simp [enterMode, hm, fromStandby]
    obtain ⟨t, ht, hen, hrest, hans, -⟩ := mode_ends (code := 0x03) hex ha
    exact ⟨t, ht, hen.mode, hen.timer, hrest, hans⟩
  · obtain ⟨t, ht⟩ := exec_ends (.enterMode q .dormant) s
    have hroof : roofAtRest (refresh q.link s.block) = true ↔ ∀ p, (s.block.lc p).state.atRest = true := roofAtRest_iff
    refine ⟨t, ht, fun hsoon => ?_, fun hdue hrest hopen => ?_, fun hdue hbusy => ?_⟩
    · exact holds_at ht (request_refused hex (by simp [enterMode, hm, fromStandby, hsoon]))
    · have ha : enterMode .dormant (refresh q.link s.block) = effect .done (setMode .dormant (refresh q.link s.block)) := by
        simp [enterMode, hm, fromStandby, Nat.not_lt.mpr hdue, hroof.mpr hrest, hopen]
      obtain ⟨hen, hkeeps, hans, -⟩ := holds_at ht (mode_ends (code := 0x03) hex ha)
      exact ⟨hen.mode, hen.heldWake, hkeeps, hans⟩
    · refine holds_at ht (request_refused hex ?_)
      rw [← hroof] at hbusy
      have hno : (roofAtRest (refresh q.link s.block) && s.block.sw.breaker.isOpen) = false := by simpa using hbusy
      simp [enterMode, hm, fromStandby, Nat.not_lt.mpr hdue, hno]

end Sys2Proof.Machine
end

section
/-!
Power-on (R20, R27, R76, R110, R148, R173, R175): the one state it brings, what it loads, and that it is safe.
-/

namespace Sys2Proof.Machine

variable {b x : Block} {m : MemImage} {k : Contacts}

theorem powerOn_delivered : powerOn Contacts.allOpen MemImage.delivered = State.reset.block := by decide +kernel

/-! ## The records loaded -/

/-- No fault that the switches record at power-on takes the place of an earlier one. -/
theorem powerFaults_keeps {P : Block → Prop} (h : ∀ v a, P a → P (recordFault .switchFailed v a)) (hb : P b) :
    P (powerFaults k b) := by
  have hone (f : Bool) (v : SwId) (a : Block) (ha : P a) : P (failureIf f v a) := by
    cases f
    · exact ha
    · exact h _ a ha
  exact hone _ _ _ (eachPanto_keep (fun p a ha => hone _ _ a ha) (hone _ _ _ (hone _ _ _ hb)))

/-- CONFIG_BAD is counted `n` times and, where it is, stands as the first fault. -/
structure CountsBad (n : Nat) (b : Block) : Prop where
  count : faultCount .configBad b = n
  first : 0 < n → ∃ f, b.cond.faults.first = some f ∧ f.kind = .configBad ∧ f.subject = .none

theorem countsBad_recordFault {n : Nat} (v : Subject) (h : CountsBad n b) :
    CountsBad n (recordFault .switchFailed v b) := by
  refine ⟨?_, fun hn => ?_⟩
  · rw [faultCount_recordFault_ne (by decide)]
    exact h.count
  · obtain ⟨f, hf, hkind, hsub⟩ := h.first hn
    exact ⟨f, by simp [recordFault, hf], hkind, hsub⟩

theorem countsBad_loadedBlock (m : MemImage) : CountsBad (if m.config.isSome then 0 else 1) (loadedBlock m) := by
  unfold loadedBlock loadConfig
  cases hc : m.config with
  | some c => exact ⟨rfl, fun h => absurd h (Nat.lt_irrefl 0)⟩
  | none => exact ⟨rfl, fun _ => ⟨_, rfl, rfl, rfl⟩⟩

theorem countsBad_powerOn (k : Contacts) (m : MemImage) : CountsBad (if m.config.isSome then 0 else 1) (powerOn k m) := by
  have h : CountsBad (if m.config.isSome then 0 else 1) (powerFaults k { loadedBlock m with sw := Switches.powered k }) :=
    powerFaults_keeps (fun v a ha => countsBad_recordFault v ha)
      ⟨(countsBad_loadedBlock m).count, (countsBad_loadedBlock m).first⟩
  exact ⟨h.count, h.first⟩

theorem loadsRecords_powerOn (k : Contacts) (m : MemImage) (n : Nat) :
    LoadsRecords m { powerOn k m with freeCount := n } := by
  obtain ⟨f, v, hnoted⟩ := noted_powerFaults k { loadedBlock m with sw := Switches.powered k }
  have heq : powerOn k m = enterWaking .standby { loadedBlock m with
      sw := Switches.powered k, cond := { (loadedBlock m).cond with faults := f, selfTest := v } } := by
    rw [powerOn_eq, hnoted]
  rw [heq]
  have hcal (p : Panto) : (loadedBlock m).cal.get p = loadedEntry (m.entries.get p) := by
    unfold loadedBlock loadConfig
    cases m.config <;> exact PerP.get_ofFun _ p
  have hentry (p : Panto) : (loadedBlock m).cond.entryLoaded.get p = (m.entries.get p).isSome := by
    unfold loadedBlock loadConfig
    cases m.config <;> exact PerP.get_ofFun _ p
  have hmark (p : Panto) : ((PerP.ofFun fun p => some (verdict ((loadedBlock m).cond.entryLoaded.get p))) : PerP (Option TestResult)).get p =
      some (verdict (m.entries.get p).isSome) := by
    rw [PerP.get_ofFun, hentry]
  have hstored (c : CfgRec) (hc : m.config = some c) : (loadedBlock m).cond.cfg = cfgLoad c ∧
      (loadedBlock m).cond.configGood = true ∧ (loadedBlock m).cond.configSaved = true ∧
      (loadedBlock m).cond.configLoaded = true := by
    unfold loadedBlock loadConfig
    simp only [hc]
    generalize cfgLoad c = r
    exact ⟨rfl, rfl, rfl, rfl⟩
  have hmissing (hc : m.config = none) : (loadedBlock m).cond.cfg = cfgDefaults ∧
      (loadedBlock m).cond.configGood = false ∧ (loadedBlock m).cond.configSaved = false ∧
      (loadedBlock m).cond.configLoaded = false := by
    unfold loadedBlock loadConfig
    simp only [hc]
    exact ⟨rfl, rfl, rfl, rfl⟩
  generalize loadedBlock m = x at *
  have hcfg (i : Item) : ({ enterWaking .standby { x with
      sw := Switches.powered k, cond := { x.cond with faults := f, selfTest := v } } with freeCount := n } : Block).cfg i =
        cfgGet x.cond.cfg i := rfl
  refine ⟨fun c hc => ?_, fun c hc i hi => ?_, fun c hc y hy => ?_, fun hc => ?_, fun p e he => ?_, fun p he => ?_⟩
  · obtain ⟨-, hgood, hsaved, hloaded⟩ := hstored c hc
    exact ⟨hgood, hsaved, congrArg (fun g => some (verdict g)) hloaded⟩
  · rw [hcfg, (hstored c hc).1]
    exact cfgGet_cfgLoad_ne c hi
  · rw [hcfg, hcfg, (hstored c hc).1]
    exact cfgGet_cfgLoad_low c y hy
  · obtain ⟨hrec, hgood, hsaved, hloaded⟩ := hmissing hc
    refine ⟨hgood, hsaved, congrArg (fun g => some (verdict g)) hloaded, fun i => ?_⟩
    rw [hcfg, hrec]
    exact cfgGet_defaults i
  · refine ⟨(hcal p).trans (by rw [he]; rfl), (hmark p).trans (by rw [he]; rfl)⟩
  · refine ⟨(hcal p).trans (by rw [he]; rfl), (hmark p).trans (by rw [he]; rfl)⟩

/-! ## The state it brings -/

theorem safe_reset : Safe State.reset := by
  have hrole (p : Panto) : State.reset.block.role p = .none := by cases p <;> rfl
  have hlc (p : Panto) : State.reset.block.lc p = Lift.initial := initial_lc p
  have hfree : State.reset.block = { powerOn Contacts.allOpen MemImage.delivered with freeCount := Block.initial.freeCount } := by
    rw [powerOn_delivered]
    rfl
  constructor
  case lead =>
    intro l hm hl
    cases l <;> simp [State.reset, Block.initial, masterOf] at hm hl
  case one => exact fun p x hp => by simp [hrole] at hp
  case isolator => exact fun p hp => by simp [hrole] at hp
  case breaker => exact fun h => absurd h (by decide +kernel)
  case earth => exact fun h => absurd (by decide +kernel) h
  case queue => exact queueLaw_initial
  case scraper => exact fun h => absurd rfl h
  case heater => exact (by decide +kernel : dutySum Block.initial ≤ Block.initial.nat .heatBudget)
  case level => exact hfree ▸ levelLaw_powerOn _ _ _
  case run => exact runLaw_initial
  case config => exact hfree ▸ configLaw_powerOn _ _ _
  case restart => exact fun h => nomatch h
  case pending => exact fun _ p hp => by simp [hlc, Lift.initial] at hp
  case faults => exact hfree ▸ faultLaw_powerOn _ _ _
  case air => exact hfree ▸ airLaw_powerOn _ _ _
  case limits => exact hfree ▸ limitsLaw_powerOn _ _ _

/-- Settles O37, by the block that power-on builds, its records loaded and its switches taken. -/
theorem powerOnStartsAfresh : Obligations.PowerOnStartsAfresh := by
  unfold Obligations.PowerOnStartsAfresh
  refine ⟨safe_reset, rfl, fun s => ?_, fun k m s => ?_⟩
  · change Host.Outcome.next _ = _
    rw [powerOn_delivered]
  · obtain ⟨cal, cond, heq, -⟩ := powerOn_frame k m
    have hbad := countsBad_powerOn k m
    refine ⟨_, rfl, ?_, ?_, ?_, ?_, ?_, rfl, rfl, rfl, rfl, rfl, ?_, loadsRecords_powerOn k m _, fun hc => ?_, fun hc => ?_, ?_⟩
    · change (powerOn k m).plan = _
      rw [heq]
      rfl
    · change (powerOn k m).lift = _
      rw [heq]
      rfl
    · change (powerOn k m).line = _
      rw [heq]
      rfl
    · change (powerOn k m).seq.phase = _
      rw [heq]
      rfl
    · change (powerOn k m).queue.entries = _
      rw [heq]
      rfl
    · change (powerOn k m).sw.breaker.state = _
      rw [heq]
      change (breakerAtPowerOn k.breaker TwoSw.initial).1.state = _
      unfold breakerAtPowerOn TwoSw.fromPattern TwoPattern.position
      split
      · rfl
      · cases hopen : k.breaker.shows .opened <;> simp_all [TwoSw.adopt, TwoPos.atRest]
    · have h := hbad.count
      rw [if_pos hc] at h
      exact h
    · rw [hc] at hbad
      exact ⟨hbad.count, hbad.first Nat.one_pos⟩
    · intro l
      have hlinks : (powerOn k m).links = Block.initial.links := by rw [heq]
      change ((powerOn k m).links.get l).present = false ∧ ((powerOn k m).links.get l).mask = 0xFFFF
      rw [hlinks]
      cases l <;> exact ⟨rfl, rfl⟩

end Sys2Proof.Machine
end

section
/-!
The channels of a scan (R22 to R24): what is published, and how often SENSOR_FAULT is recorded.
-/

namespace Sys2Proof.Machine

variable {b x y s : Block} {p r : Panto} {n m : Nat}

/-! ## What records no SENSOR_FAULT -/

/-- From `b` to `x` no SENSOR_FAULT is recorded. -/
def Silent (b x : Block) : Prop := faultCount .sensorFault x = faultCount .sensorFault b

theorem Silent.refl (b : Block) : Silent b b := rfl

theorem Silent.trans (h : Silent b x) (h' : Silent x y) : Silent b y := Eq.trans h' h

theorem silent_of_faults (h : x.cond.faults = b.cond.faults) : Silent b x := faultCount_of_faults h _

theorem silent_of_acts {w : Ending} (h : Acts w b x) : Silent b x := h.faultCount (by decide)

theorem silent_of_touches (h : Touches p b x) : Silent b x := silent_of_faults h.faults

theorem silent_recordFault {k : FaultKind} (hk : FaultKind.sensorFault ≠ k) (v : Subject) (b : Block) :
    Silent b (recordFault k v b) := faultCount_recordFault_ne hk v b

theorem silent_eachPanto {f : Panto → Block → Block} (h : ∀ p a, Silent a (f p a)) (b : Block) :
    Silent b (eachPanto f b) :=
  (((h .p1 b).trans (h .p2 _)).trans (h .p3 _)).trans (h .p4 _)

theorem silent_haltFault (h : HaltReason) (b : Block) : Silent b (haltFault h b) := by
  cases h
  case noMaster | masterNotReady | noLine | noPantograph | positionLost | mismatch => exact silent_recordFault (by decide) _ _
  all_goals exact .refl b

theorem silent_halt {h : HaltReason} (hm : h ≠ .mismatch) (b : Block) : Silent b (halt h b) := by
  unfold halt
  split
  · exact .refl b
  · split <;> exact .refl b
  · rw [enterHalt_eq hm]
    refine (silent_haltFault h b).trans (silent_of_faults ?_)
    rw [openBreaker_cond, frame_serveEntry]
    rfl

theorem silent_leaveContact (p : Panto) (l : Lift) (b : Block) : Silent b (leaveContact p l b) := by
  unfold leaveContact
  dsimp only
  split
  · exact silent_halt (by decide) (b.setLift p l)
  · exact .refl b

theorem silent_beginLowering (p : Panto) (b : Block) : Silent b (beginLowering p b) := silent_leaveContact p _ b

theorem silent_changeEntry (p : Panto) (f : CalFields → CalFields) (b : Block) : Silent b (changeEntry p f b) :=
  silent_of_touches (touches_changeEntry p f b)

theorem silent_abortSearch (p : Panto) (b : Block) : Silent b (abortSearch p b) :=
  (silent_changeEntry p _ b).trans (silent_beginLowering p _)

theorem silent_endSearch (p : Panto) (v : SearchResult) (f : CalFields → CalFields) (b : Block) :
    Silent b (endSearch p v f b) :=
  (silent_changeEntry p _ b).trans (silent_beginLowering p _)

theorem silent_failSearch (p : Panto) (v : SearchResult) (b : Block) : Silent b (failSearch p v b) :=
  (silent_recordFault (by decide) _ b).trans (silent_endSearch p v _ _)

theorem silent_finishSearch (p : Panto) (rise release : Nat) (b : Block) : Silent b (finishSearch p rise release b) := by
  unfold finishSearch
  dsimp only
  split <;> exact silent_endSearch p _ _ b

theorem silent_discardUnavailable (p : Panto) (b : Block) : Silent b (discardUnavailable p b) := by
  unfold discardUnavailable
  split
  · exact silent_of_touches (touches_discardHeld p b)
  · exact .refl b

/-! ## The scan of one pantograph -/

theorem silent_judgeRise (p : Panto) (v : SearchRec) (h : Int) (h0 : Option Int) (b : Block) :
    Silent b (judgeRise p v h h0 b) := by
  unfold judgeRise
  split
  · split
    · exact silent_failSearch p _ (b.setLift p _)
    · exact .refl b
  · split
    · exact silent_failSearch p _ b
    · split
      · exact silent_failSearch p _ b
      · exact .refl b

theorem silent_judgeRelease (p : Panto) (v : SearchRec) (h : Int) (b : Block) : Silent b (judgeRelease p v h b) := by
  unfold judgeRelease
  dsimp only
  split
  · exact silent_finishSearch p _ _ b
  · split
    · exact silent_finishSearch p _ _ b
    · exact .refl b

theorem silent_searchChecks (p : Panto) (b : Block) : Silent b (searchChecks p b) := by
  unfold searchChecks
  split
  · exact silent_abortSearch p b
  · split
    · exact (silent_recordFault (by decide) _ b).trans (silent_failSearch p _ _)
    · split
      · split
        · split
          · exact silent_judgeRise p _ _ _ b
          · exact silent_judgeRelease p _ _ b
          · exact .refl b
        · exact .refl b
      · exact .refl b

theorem silent_raisingChecks (p : Panto) (b : Block) : Silent b (raisingChecks p b) := by
  unfold raisingChecks
  split
  · exact silent_beginLowering p b
  · split
    · exact (silent_recordFault (by decide) _ b).trans (silent_beginLowering p _)
    · split
      · unfold raiseTimeoutOf
        split
        · exact (silent_recordFault (by decide) _ b).trans (silent_beginLowering p _)
        · exact .refl b
      · split <;> exact .refl b

theorem silent_deviationCheck (p : Panto) (b : Block) : Silent b (deviationCheck p b) := by
  unfold deviationCheck
  dsimp only
  split
  · exact .refl b
  · exact .refl b
  · split
    · exact .refl b
    · split
      · exact .refl b
      · split
        · unfold servoDeviationOf
          split
          · exact silent_recordFault (by decide) _ (b.setLift p _)
          · exact .refl b
        · exact .refl b

theorem silent_noWireInContact (p : Panto) (b : Block) : Silent b (noWireInContact p b) := by
  have h : Silent b (takeLower false p (recordFault .noWire (.panto p) b)) :=
    (silent_recordFault (by decide) _ b).trans (silent_of_acts (acts_takeLower (w := ⟨False, False⟩) false p _))
  unfold noWireInContact
  dsimp only
  split <;> exact h

theorem silent_contactChecks (p : Panto) (b : Block) : Silent b (contactChecks p b) := by
  have h : Silent b (if aboveHMax b p && !(b.lc p).noWireLower then noWireInContact p b else b) := by
    split
    · exact silent_noWireInContact p b
    · exact .refl b
  unfold contactChecks
  dsimp only
  generalize (if aboveHMax b p && !(b.lc p).noWireLower then noWireInContact p b else b) = c at h ⊢
  split
  · exact h.trans (silent_deviationCheck p c)
  · exact h

theorem silent_dropLift (p : Panto) (b : Block) : Silent b (dropLift p b) := by
  have habort : Silent b (if (b.lc p).state = .searching then abortEntry p b else b) := by
    split
    · exact silent_changeEntry p _ b
    · exact .refl b
  have henter : Silent b (enterDropped p b) := habort.trans (silent_recordFault (by decide) _ _)
  unfold dropLift
  dsimp only
  split
  · exact henter.trans (silent_of_faults (congrArg Cond.faults (openBreaker_cond .internal (enterDropped p b))))
  · exact henter

theorem silent_dropPanto (p : Panto) (b : Block) : Silent b (dropPanto p b) := by
  have hdrop := silent_dropLift p b
  rcases dropCase_dropPanto p b with ⟨heq, -⟩ | ⟨heq, -⟩ | ⟨c, heq, -, -⟩
  all_goals rw [heq]
  · exact hdrop
  · exact hdrop.trans (silent_halt (by decide) _)
  · exact hdrop.trans ((startsSubstitute c _).count _)

theorem silent_noteHeight (p : Panto) (b : Block) : Silent b (noteHeight p b) := by
  unfold noteHeight
  split <;> exact .refl b

theorem silent_checked {rest : Panto → Block → Block} (h : ∀ a, Silent a (rest p a)) (b : Block) :
    Silent b (checked dropPanto rest p b) := by
  unfold checked
  dsimp only
  split
  · exact silent_dropPanto p (b.setLift p _)
  · exact h (b.setLift p _)

theorem silent_loweringScan (p : Panto) (b : Block) : Silent b (loweringScan p b) := by
  have h := silent_discardUnavailable p (b.setLift p { b.lc p with commanded := (b.lc p).commanded - b.nat .lowerSlew })
  unfold loweringScan
  dsimp only
  split
  · split
    · exact Silent.trans h (silent_of_touches (touches_arriveStowed p _))
    · exact h
  · exact h

theorem silent_stowedScan (p : Panto) (b : Block) : Silent b (stowedScan p b) := by
  unfold stowedScan
  dsimp only
  split
  · exact (silent_discardUnavailable p b).trans (silent_of_touches (touches_heldDue p _))
  · exact silent_discardUnavailable p b

theorem silent_liftScan (p : Panto) (b : Block) : Silent b (liftScan dropPanto p b) := by
  unfold liftScan
  split
  case h_1 => exact silent_stowedScan p b
  case h_2 =>
    dsimp only
    exact Silent.trans (b := b) (silent_noteHeight p ((evaluate p b).setLift p _)) (silent_checked (silent_raisingChecks p) _)
  case h_3 => exact silent_checked (silent_contactChecks p) _
  case h_4 => exact silent_loweringScan p b
  case h_5 => exact (silent_noteHeight p b).trans (silent_checked (silent_searchChecks p) _)
  case h_6 | h_7 => exact .refl b

/-! ## The adoption and the self-test -/

theorem silent_adoptOne (l : List Panto) (p : Panto) (b : Block) : Silent b (adoptOne l p b) := by
  unfold adoptOne
  dsimp only
  split
  · exact .refl b
  · exact silent_leaveContact p _ (b.setLift p _)

theorem silent_adoption (b : Block) : Silent b (adoption b) := by
  have htake : Silent b (takeMaxUp b) := by
    unfold takeMaxUp
    split <;> exact .refl b
  have hready : Silent (takeMaxUp b) (readyToAdopt (takeMaxUp b)) := by
    unfold readyToAdopt
    split <;> exact .refl _
  rw [adoption_eq]
  have hall := (htake.trans hready).trans
    (silent_eachPanto (silent_adoptOne (chosenAt (takeMaxUp b))) (readyToAdopt (takeMaxUp b)))
  refine hall.trans (silent_of_faults ?_)
  rw [(adoptionEnd_frame _).2.2]

theorem silent_liftPart (b : Block) : Silent b (liftPart b) := by
  unfold liftPart
  split
  · split
    · exact .refl b
    · exact silent_adoption b
  · exact silent_eachPanto silent_liftScan b

theorem silent_valvesFrom (l : List Panto) (b : Block) : Silent b (valvesFrom l b) :=
  silent_of_faults (by rw [(valvesOnly_valvesFrom l b).frame])

theorem silent_dropInTest (p : Panto) (b : Block) : Silent b (dropInTest p b) := by
  have habort : Silent b (if (b.lc p).state = .searching then abortEntry p b else b) := by
    split
    · exact silent_changeEntry p _ b
    · exact .refl b
  have henter : Silent b (enterDropped p b) := habort.trans (silent_recordFault (by decide) _ _)
  exact henter.trans (silent_of_touches (touches_discardHeld p _))

theorem silent_judgeTest (b : Block) : Silent b (judgeTest b) := by
  have hsensors : Silent b (judgeSensors b) := by
    unfold judgeSensors
    split <;> exact .refl b
  have hstrips (a : Block) : Silent a (judgeStrips a) := by
    have hfail (q : Panto) : Silent a (valvesFrom (Panto.after q) (setStrips q .fail (dropInTest q a))) :=
      (silent_dropInTest q a).trans (silent_valvesFrom (Panto.after q) (setStrips q .fail (dropInTest q a)))
    unfold judgeStrips
    split
    · split
      · split
        · exact silent_valvesFrom _ (setStrips _ .pass a)
        · exact hfail _
      · exact hfail _
    · exact .refl a
  unfold judgeTest
  split
  · exact hsensors.trans (hstrips _)
  · exact .refl b

/-! ## The channels published -/

/-- From `b` to `x` SENSOR_FAULT is recorded `n` times. -/
def Faults (n : Nat) (b x : Block) : Prop :=
  faultCount .sensorFault b ≤ 255 → faultCount .sensorFault x = min 255 (faultCount .sensorFault b + n)

theorem Faults.trans (h : Faults n b x) (h' : Faults m x y) : Faults (n + m) b y := by
  intro hb
  have hx := h hb
  have hy := h' (by omega)
  omega

/-- How many faults a channel records for what of its conversion is plausible. -/
def newFault (v : Option Int) (c : Chan) : Nat := if v.isNone && !c.reported then 1 else 0

theorem faults_faultOf (v : Option Int) (c : Chan) (k : Subject) (b : Block) :
    Faults (newFault v c) b (faultOf v c k b) := by
  intro hb
  unfold faultOf newFault
  split
  · rw [faultCount_recordFault_self]
    rfl
  · omega

theorem faults_eachPanto {f : Panto → Block → Block} {k : Panto → Nat} (h : ∀ p a, Faults (k p) a (f p a)) (b : Block) :
    Faults (k .p1 + k .p2 + k .p3 + k .p4) b (eachPanto f b) :=
  (((h .p1 b).trans (h .p2 _)).trans (h .p3 _)).trans (h .p4 _)

theorem plausible_isNone (lo hi : Int) (v : Option Int) : (plausible lo hi v).isNone = !inRange lo hi v := by
  cases v with
  | none => rfl
  | some n =>
    simp only [plausible, inRange, Option.filter]
    split
    next h => simp [h]
    next h => simp [Bool.eq_false_iff.mpr h]

theorem plausibleStrip_eq (v : Option Int) : plausibleStrip v = plausible 0 6000 (v.map (max 0)) := by
  cases v with
  | none => rfl
  | some n =>
    have : (if n < 0 then 0 else n) = max 0 n := by omega
    simp only [plausibleStrip, Option.map_some, this]

theorem take_plausible (lo hi : Int) (v : Option Int) (c : Chan) : c.take (plausible lo hi v) = published lo hi v c := by
  cases v with
  | none => rfl
  | some n =>
    by_cases h : lo ≤ n ∧ n ≤ hi
    · simp [plausible, Option.filter, Chan.take, published, h]
    · have hno : (decide (lo ≤ n) && decide (n ≤ hi)) = false := by simpa using h
      simp [plausible, Option.filter, Chan.take, published, h, hno]

theorem faults_publish (v : Readings) (b : Block) : Faults (newlyFaulty v b.sensors) b (publish v b) := by
  have hone (lo hi : Int) (w : Option Int) (c : Chan) : (if inRange lo hi w || c.reported then 0 else 1) =
      newFault (plausible lo hi w) c := by
    rw [newFault, plausible_isNone]
    cases inRange lo hi w <;> cases c.reported <;> rfl
  have hall := ((((faults_eachPanto
    (fun p a => faults_faultOf (plausiblePressure (v.actuator.get p)) (b.sensors.actuator.get p) (.panto p) a)
    { b with sensors := b.sensors.take v }).trans (faults_eachPanto
      (fun p a => faults_faultOf (plausibleStrip (v.strip.get p)) (b.sensors.strip.get p) (.panto p) a) _)).trans
    (faults_eachPanto
      (fun p a => faults_faultOf (plausibleHeight (v.height.get p)) (b.sensors.height.get p) (.panto p) a) _)).trans
    (faults_faultOf (plausiblePressure v.reservoir) b.sensors.reservoir .none _)).trans
    (faults_faultOf (plausibleAmbient v.ambient) b.sensors.ambient .none _)
  intro hb
  refine (hall hb).trans ?_
  have hbase : faultCount .sensorFault { b with sensors := b.sensors.take v } = faultCount .sensorFault b := rfl
  rw [hbase]
  congr 2
  simp only [newlyFaulty, hone, Panto.all, List.map_cons, List.map_nil, List.sum_cons, List.sum_nil, plausibleStrip_eq,
    plausiblePressure, plausibleHeight, plausibleAmbient]
  omega

theorem sensors_publish (v : Readings) (b : Block) : (publish v b).sensors = b.sensors.take v := by
  have hfault (w : Option Int) (c : Chan) (k : Subject) (a : Block) : (faultOf w c k a).sensors = a.sensors := by
    unfold faultOf
    split <;> rfl
  have heach (w : Panto → Option Int) (c : Panto → Chan) (a : Block) :
      (eachPanto (fun p => faultOf (w p) (c p) (.panto p)) a).sensors = a.sensors := by
    simp only [eachPanto, hfault]
  unfold publish
  dsimp only
  rw [hfault, hfault, heach, heach, heach]

/-- Settles O25, by the channels as published and by what records a SENSOR_FAULT besides: nothing. -/
theorem scanPublishesChannels : Obligations.ScanPublishesChannels := by
  unfold Obligations.ScanPublishesChannels
  intro v s
  obtain ⟨t, ht, hblock⟩ := event_ends s true (scan v)
  have hpass : (passTime (scanPeriod s.block) s.block).sensors = s.block.sensors := rfl
  have hpassed : faultCount .sensorFault (passTime (scanPeriod s.block) s.block) = faultCount .sensorFault s.block := rfl
  have hcount := faults_publish v (passTime (scanPeriod s.block) s.block)
  have hsensors := sensors_publish v (passTime (scanPeriod s.block) s.block)
  have hscan : scan v s.block = judgeTest (liftPart (publish v (passTime (scanPeriod s.block) s.block))) := rfl
  rw [hpass] at hcount hsensors
  rw [hscan] at hblock
  generalize passTime (scanPeriod s.block) s.block = a at hblock hcount hsensors hpassed
  generalize publish v a = c at hblock hcount hsensors
  have hsilent := (silent_liftPart c).trans (silent_judgeTest _)
  have hsame : (judgeTest (liftPart c)).sensors = c.sensors :=
    ((moves_liftPart (sc := { Scope.free False with senses := False }) trivial c).trans (prims_judgeTest _).moves).sensors id
  generalize judgeTest (liftPart c) = d at hblock hsilent hsame
  have hend := settle_faultCount (k := .sensorFault) s.block true d (by decide)
  have hkept : (settle s.block true d).sensors = d.sensors := congrArg Kept.sensors (kept_settle s.block true d)
  rw [← hblock] at hend hkept
  have htake : t.block.sensors = s.block.sensors.take v := hkept.trans (hsame.trans hsensors)
  refine ⟨t, ht, fun p => ?_, ?_, ?_, fun hlaw => ?_⟩
  · rw [htake]
    refine ⟨?_, ?_, ?_⟩
    · exact (PerP.get_ofFun _ p).trans (take_plausible 0 6000 _ _)
    · exact (PerP.get_ofFun _ p).trans ((congrArg (Chan.take · _) (plausibleStrip_eq _)).trans (take_plausible 0 6000 _ _))
    · exact (PerP.get_ofFun _ p).trans (take_plausible 0 3000 _ _)
  · rw [htake]
    exact take_plausible 0 6000 _ _
  · rw [htake]
    exact take_plausible (-50) 60 _ _
  · rw [hend, hsilent, hcount (hpassed ▸ hlaw .sensorFault), hpassed]

end Sys2Proof.Machine
end

section
/-!
The VALVES and STRIPS steps of the self-test (R174): the order in which they go on.
-/

namespace Sys2Proof.Machine

variable {b x y t : Block} {p q r : Panto} {n m : Nat} {l : List Panto}

/-! ## The steps in their order -/

theorem heldValue_eq_some {c : Chan} {v : Int} : c.heldValue = some v ↔ c.Shows v := by
  unfold Chan.heldValue Chan.Shows
  by_cases h : c.validity = .unknown <;> simp [h]

theorem airSufficient_iff : airSufficient b = true ↔ ∃ v, b.sensors.reservoir.Shows v ∧ b.cfg .raiseAir ≤ v := by
  unfold airSufficient
  simp only [← heldValue_eq_some]
  cases b.sensors.reservoir.heldValue <;> simp

theorem valveTestable_iff : valveTestable b p = true ↔ ValveReady p b := by
  simp only [valveTestable, sensorsGood, Bool.and_eq_true, beq_iff_eq, airSufficient_iff]
  exact ⟨fun ⟨⟨hs, hh, ha⟩, hair⟩ => ⟨hs, hh, ha, hair⟩, fun h => ⟨⟨h.state, h.height, h.actuator⟩, h.air⟩⟩

/-- What the steps of others leave of `p`. -/
structure LeavesSteps (p : Panto) (b x : Block) : Prop where
  lc     : x.lc p = b.lc p
  valves : x.cond.selfTest.valves.get p = b.cond.selfTest.valves.get p
  strips : x.cond.selfTest.strips.get p = b.cond.selfTest.strips.get p

theorem LeavesSteps.trans (h : LeavesSteps p b x) (h' : LeavesSteps p x y) : LeavesSteps p b y :=
  ⟨h'.lc.trans h.lc, h'.valves.trans h.valves, h'.strips.trans h.strips⟩

theorem LeavesSteps.skipped (h : LeavesSteps p b x) (hb : StepsSkipped p b) : StepsSkipped p x :=
  ⟨h.valves.trans hb.1, h.strips.trans hb.2⟩

theorem leavesSteps_skip (h : p ≠ r) (b : Block) : LeavesSteps p b (setStrips r .skipped (setValves r .skipped b)) :=
  ⟨rfl, PerP.get_set_ne _ _ h, PerP.get_set_ne _ _ h⟩

theorem leavesSteps_valvesFrom (h : p ∉ l) (b : Block) : LeavesSteps p b (valvesFrom l b) := by
  induction l generalizing b with
  | nil => exact ⟨rfl, rfl, rfl⟩
  | cons r rs ih =>
    rw [List.mem_cons, not_or] at h
    unfold valvesFrom
    split
    · exact ⟨lc_setLift_ne _ _ h.1, rfl, rfl⟩
    · exact (leavesSteps_skip h.1 b).trans (ih h.2 _)

/-- The step that begins is that of one of those that remain. -/
theorem valvesFrom_step {n : Nat} (h : (valvesFrom l b).cond.testStep = .valves r n) : r ∈ l := by
  induction l generalizing b with
  | nil => cases h
  | cons q qs ih =>
    unfold valvesFrom at h
    split at h
    · cases h
      exact List.mem_cons_self
    · exact List.mem_cons_of_mem _ (ih h)

theorem skipped_skip (p : Panto) (b : Block) : StepsSkipped p (setStrips p .skipped (setValves p .skipped b)) :=
  ⟨PerP.get_set_self _ _ _, PerP.get_set_self _ _ _⟩

theorem TestsNext.congr (h : TestsNext n x t) (hr : ∀ r, n < r.num → (ValveReady r x ↔ ValveReady r b)) :
    TestsNext n b t where
  begins p hp hready hno := h.begins p hp ((hr p hp).mpr hready) fun y h1 h2 hy => hno y h1 h2 ((hr y h1).mp hy)
  ends hno := h.ends fun y h1 hy => hno y h1 ((hr y h1).mp hy)

/-- What a step asks is judged on the lift state, the channels and RaiseAir. -/
theorem valveReady_congr (hs : (x.lc p).state = (b.lc p).state) (hsensors : x.sensors = b.sensors)
    (hcfg : x.cond.cfg = b.cond.cfg) : ValveReady p x ↔ ValveReady p b := by
  rw [← valveTestable_iff, ← valveTestable_iff]
  simp only [valveTestable, sensorsGood, airSufficient, Block.cfg, hs, hsensors, hcfg]
  exact Iff.rfl

/-- The first of those that remain is tested, or is skipped and the others follow. -/
theorem testsNext_cons (hq : q.num = n + 1) (hout : q ∉ l) (ih : ∀ a, TestsNext q.num a (valvesFrom l a)) (b : Block) :
    TestsNext n b (valvesFrom (q :: l) b) := by
  have hafter (r : Panto) (hr : n < r.num) : r = q ∨ q.num < r.num := by
    by_cases heq : r.num = q.num
    · left
      revert heq
      cases r <;> cases q <;> decide
    · right
      omega
  unfold valvesFrom
  split
  next hready =>
    have hready' := valveTestable_iff.mp hready
    refine ⟨fun p hp hp' hno => ?_, fun hno => absurd hready' (hno q (by omega))⟩
    rcases hafter p hp with rfl | hlt
    · refine ⟨rfl, ?_, ?_, fun y h1 h2 => absurd h1 (by omega)⟩
      · exact congrArg Lift.commanded (lc_setLift_self b p { b.lc p with commanded := valveTestPressure })
      · exact (congrArg Lift.state (lc_setLift_self b p { b.lc p with commanded := valveTestPressure })).trans hready'.state
    · exact absurd hready' (hno q (by omega) hlt)
  next hready =>
    have hno : ¬ValveReady q b := fun h => hready (valveTestable_iff.mpr h)
    have hrest : TestsNext q.num b _ := (ih (setStrips q .skipped (setValves q .skipped b))).congr
      fun r _ => valveReady_congr rfl rfl rfl
    have hskip : StepsSkipped q _ := (leavesSteps_valvesFrom hout _).skipped (skipped_skip q b)
    generalize valvesFrom l (setStrips q .skipped (setValves q .skipped b)) = t at hrest hskip
    refine ⟨fun p hp hp' hfirst => ?_, fun hnone => ?_⟩
    · rcases hafter p hp with rfl | hlt
      · exact absurd hp' hno
      · obtain ⟨h1, h2, h3, h4⟩ := hrest.begins p hlt hp' fun y hy => hfirst y (by omega)
        refine ⟨h1, h2, h3, fun y hy hyp => ?_⟩
        rcases hafter y hy with rfl | hlt'
        · exact hskip
        · exact h4 y hlt' hyp
    · obtain ⟨h1, h2⟩ := hrest.ends fun y hy => hnone y (by omega)
      refine ⟨h1, fun y hy => ?_⟩
      rcases hafter y hy with rfl | hlt
      · exact hskip
      · exact h2 y hlt

theorem testsNext_after (p : Panto) (b : Block) : TestsNext p.num b (valvesFrom (Panto.after p) b) := by
  have h4 (a : Block) : TestsNext 4 a (valvesFrom [] a) := by
    refine ⟨fun r hr => absurd hr ?_, fun _ => ⟨rfl, fun r hr => absurd hr ?_⟩⟩ <;> cases r <;> decide
  have h3 (a : Block) : TestsNext 3 a (valvesFrom [.p4] a) := testsNext_cons (q := .p4) rfl (by decide) h4 a
  have h2 (a : Block) : TestsNext 2 a (valvesFrom [.p3, .p4] a) := testsNext_cons (q := .p3) rfl (by decide) h3 a
  cases p
  case p1 => exact testsNext_cons (q := .p2) rfl (by decide) h2 b
  case p2 => exact h2 b
  case p3 => exact h3 b
  case p4 => exact h4 b

theorem testsNext_all (b : Block) : TestsNext 0 b (valvesFrom Panto.all b) :=
  testsNext_cons (q := .p1) rfl (by decide) (testsNext_after .p1) b

theorem not_mem_after (p : Panto) : p ∉ Panto.after p := by cases p <;> decide

/-! ## The steps that end -/

theorem skipValves_eq (h : b.cond.testStep = .valves p n) : skipValves p b = valvesFrom (Panto.after p)
    (setStrips p .skipped (setValves p .skipped (b.setLift p { b.lc p with commanded := 0 }))) := by
  unfold skipValves
  rw [h]
  exact if_pos rfl

/-- A VALVES step that ends SKIPPED, and the next. -/
theorem skipValves_goesOn (h : b.cond.testStep = .valves p n) : StepsSkipped p (skipValves p b) ∧
    (skipValves p b).lc p = { b.lc p with commanded := 0 } ∧ TestsNext p.num b (skipValves p b) := by
  rw [skipValves_eq h]
  have hleaves := leavesSteps_valvesFrom (not_mem_after p)
    (setStrips p .skipped (setValves p .skipped (b.setLift p { b.lc p with commanded := 0 })))
  refine ⟨hleaves.skipped (skipped_skip p _), hleaves.lc.trans (lc_setLift_self _ _ _), (testsNext_after p _).congr fun r hr => ?_⟩
  have hne : r ≠ p := by
    rintro rfl
    omega
  exact valveReady_congr (congrArg Lift.state (lc_setLift_ne b _ hne)) rfl rfl

theorem valvesStart_goesOn (hm : b.cond.mode = .waking) (hs : b.cond.testStep = .notBegun) (hr : b.cond.restart = none) :
    TestsNext 0 b (valvesStart b) := by
  have heq : valvesStart b = valvesFrom Panto.all (reachModeTime 1000 b) := by
    simp [valvesStart, hm, hs, adoptionWaits, hr]
  rw [heq]
  exact (testsNext_all _).congr fun r _ => valveReady_congr rfl rfl rfl

/-! ## STRIPS and SENSORS -/

theorem judgeSensors_cond (b : Block) : judgeSensors b = { b with cond := { b.cond with
    selfTest := { b.cond.selfTest with sensors := (judgeSensors b).cond.selfTest.sensors } } } := by
  unfold judgeSensors
  split <;> rfl

theorem valvesFrom_sensors (l : List Panto) (b : Block) :
    (valvesFrom l b).cond.selfTest.sensors = b.cond.selfTest.sensors := by
  induction l generalizing b with
  | nil => rfl
  | cons q qs ih =>
    unfold valvesFrom
    split
    · rfl
    · rw [ih]
      rfl

/-- What the drop of a failed strip leaves (R13, R41). -/
structure DropsInTest (p : Panto) (b x : Block) : Prop where
  state      : (x.lc p).state = .dropped
  commanded  : (x.lc p).commanded = 0
  quickVent  : (x.lc p).quickVent = true
  lowStrip   : (x.lc p).lowStrip = 0
  raiseTimer : (x.lc p).raiseTimer = none
  role       : x.role p = .none
  count      : faultCount .addTrip x = oneMore .addTrip b
  cond       : x.cond = { b.cond with faults := x.cond.faults }
  sensors    : x.sensors = b.sensors
  others     : ∀ r, r ≠ p → (x.lc r).state = (b.lc r).state

theorem lc_enterDropped (p : Panto) (b : Block) : (enterDropped p b).lc p = (b.lc p).toDropped := by
  have hlc : (if (b.lc p).state = .searching then abortEntry p b else b).lc p = b.lc p := by
    split
    · exact lc_abortEntry _ _ _
    · rfl
  unfold enterDropped
  dsimp only
  rw [recordFault_lc, lc_setLift_self, hlc]

theorem cond_enterDropped (p : Panto) (b : Block) :
    (enterDropped p b).cond = { b.cond with faults := (enterDropped p b).cond.faults } := by
  have hcond : (if (b.lc p).state = .searching then abortEntry p b else b).cond = b.cond := by
    split
    · rw [abortEntry, changeEntry_only]
    · rfl
  unfold enterDropped
  generalize (if (b.lc p).state = .searching then abortEntry p b else b) = a at hcond
  rw [← hcond]
  rfl

theorem dropsInTest (p : Panto) (b : Block) (hv : ∀ q n, b.cond.testStep ≠ .valves q n) :
    DropsInTest p b (dropInTest p b) := by
  have henter := entersDropped_enterDropped p b
  have hlc := lc_enterDropped p b
  have hcond := cond_enterDropped p b
  unfold dropInTest
  generalize enterDropped p b = a at henter hlc hcond
  have htouch := touches_discardHeld p a
  have hstep : a.cond.testStep = b.cond.testStep := by rw [hcond]
  obtain ⟨hsame, hothers⟩ := htouch.steady fun n => hstep ▸ hv p n
  have hself : (discardHeld p a).lc p = (b.lc p).toDropped.discarded := by rw [lc_discardHeld_self, hlc]
  refine ⟨by rw [hself]; rfl, by rw [hself]; rfl, by rw [hself]; rfl, by rw [hself]; rfl, by rw [hself]; rfl,
    role_discardHeld p a, ?_, ?_, ?_, fun r hr => ?_⟩
  · exact (faultCount_of_faults htouch.faults _).trans henter.count
  · rw [hsame]
    exact hcond
  · rw [htouch.sensors]
    exact congrArg Kept.sensors henter.kept
  · rw [hothers r hr, henter.others r hr]

theorem testsNext_pass (p : Panto) (v : TestResult) (h : ∀ r, n < r.num → (x.lc r).state = (b.lc r).state)
    (hn : n = p.num) (hs : x.sensors = b.sensors) (hc : x.cond.cfg = b.cond.cfg) :
    TestsNext n b (valvesFrom (Panto.after p) (setStrips p v x)) := by
  subst hn
  exact (testsNext_after p _).congr fun r hr => valveReady_congr (h r hr) hs hc

theorem judgeStrips_goesOn (h : b.cond.testStep = .strips p) : TestsNext p.num b (judgeStrips b) ∧
    (judgeStrips b).cond.selfTest.valves.get p = b.cond.selfTest.valves.get p ∧
    (∀ v, (b.sensors.strip.get p).Reads v → b.cfg .addLevel ≤ v →
      (judgeStrips b).cond.selfTest.strips.get p = some .pass ∧ (judgeStrips b).lc p = b.lc p ∧
        (judgeStrips b).cond.faults = b.cond.faults) ∧
    ((∀ v, (b.sensors.strip.get p).Reads v → v < b.cfg .addLevel) →
      (judgeStrips b).cond.selfTest.strips.get p = some .fail ∧ ((judgeStrips b).lc p).state = .dropped ∧
      ((judgeStrips b).lc p).commanded = 0 ∧ ((judgeStrips b).lc p).quickVent = true ∧
      ((judgeStrips b).lc p).lowStrip = 0 ∧ ((judgeStrips b).lc p).raiseTimer = none ∧
      (judgeStrips b).role p = .none ∧ faultCount .addTrip (judgeStrips b) = oneMore .addTrip b) := by
  have hfaults (l : List Panto) (a : Block) : (valvesFrom l a).cond.faults = a.cond.faults := by
    rw [(valvesOnly_valvesFrom l a).frame]
  have hplan (l : List Panto) (a : Block) : (valvesFrom l a).plan = a.plan := by
    rw [(valvesOnly_valvesFrom l a).frame]
  have hset (v : TestResult) (a : Block) : (setStrips p v a).cond.selfTest.strips.get p = some v := PerP.get_set_self _ _ _
  by_cases hgood : ∃ v, (b.sensors.strip.get p).Reads v ∧ b.cfg .addLevel ≤ v
  · obtain ⟨v, ⟨hvalid, hvalue⟩, hlevel⟩ := hgood
    have heq : judgeStrips b = valvesFrom (Panto.after p) (setStrips p .pass b) := by
      simp [judgeStrips, h, Chan.reading, hvalid, hvalue, hlevel]
    have hleaves := leavesSteps_valvesFrom (not_mem_after p) (setStrips p .pass b)
    rw [heq]
    refine ⟨testsNext_pass p .pass (fun _ _ => rfl) rfl rfl rfl, hleaves.valves, fun _ _ _ =>
      ⟨hleaves.strips.trans (hset _ _), hleaves.lc, hfaults _ _⟩, fun hno => ?_⟩
    exact absurd (hno v ⟨hvalid, hvalue⟩) (not_lt.mpr hlevel)
  · have heq : judgeStrips b = valvesFrom (Panto.after p) (setStrips p .fail (dropInTest p b)) := by
      unfold judgeStrips
      rw [h]
      dsimp only
      split
      next v hv =>
        refine if_neg fun hlevel => hgood ⟨v, ?_, hlevel⟩
        unfold Chan.reading at hv
        split at hv
        · exact ⟨by assumption, hv⟩
        · cases hv
      next => rfl
    have hdrop := dropsInTest p b (fun q n hq => by rw [h] at hq; cases hq)
    rw [heq]
    generalize dropInTest p b = a at hdrop
    have hleaves := leavesSteps_valvesFrom (not_mem_after p) (setStrips p .fail a)
    have hcfg : a.cond.cfg = b.cond.cfg := by rw [hdrop.cond]
    refine ⟨testsNext_pass p .fail (fun r hr => hdrop.others r ?_) rfl hdrop.sensors hcfg, ?_, fun v hv hlevel =>
      absurd ⟨v, hv, hlevel⟩ hgood, fun _ => ?_⟩
    · rintro rfl
      omega
    · refine hleaves.valves.trans ?_
      change a.cond.selfTest.valves.get p = _
      rw [hdrop.cond]
    · have hlc : (valvesFrom (Panto.after p) (setStrips p .fail a)).lc p = a.lc p := hleaves.lc
      rw [hlc]
      refine ⟨hleaves.strips.trans (hset _ _), hdrop.state, hdrop.commanded, hdrop.quickVent, hdrop.lowStrip,
        hdrop.raiseTimer, ?_, (faultCount_of_faults (hfaults _ _) _).trans hdrop.count⟩
      rw [Block.role, hplan]
      exact hdrop.role

theorem judgeTest_sensors (hm : b.cond.mode = .waking) :
    (judgeTest b).cond.selfTest.sensors = (judgeSensors b).cond.selfTest.sensors := by
  have hstrips (a : Block) : (judgeStrips a).cond.selfTest.sensors = a.cond.selfTest.sensors := by
    have hfail (q : Panto) (hq : a.cond.testStep = .strips q) :
        (valvesFrom (Panto.after q) (setStrips q .fail (dropInTest q a))).cond.selfTest.sensors =
          a.cond.selfTest.sensors := by
      have hdrop := dropsInTest q a (fun r n hr => by rw [hq] at hr; cases hr)
      rw [valvesFrom_sensors]
      change (dropInTest q a).cond.selfTest.sensors = _
      rw [hdrop.cond]
    unfold judgeStrips
    split
    next q hq =>
      split
      · split
        · rw [valvesFrom_sensors]
          rfl
        · exact hfail q hq
      · exact hfail q hq
    next => rfl
  rw [judgeTest, if_pos hm, hstrips]

theorem judgeStrips_at (hm : b.cond.mode = .waking) : judgeTest b = judgeStrips (judgeSensors b) := if_pos hm

/-- SENSORS is judged once, at the scan that finds 1000 ms passed. -/
theorem sensors_judged (hm : b.cond.mode = .waking) : ∃ r, r = (judgeTest b).cond.selfTest.sensors ∧
    (b.cond.modeTimer < 1000 ∨ b.cond.selfTest.sensors.reservoir ≠ none → r = b.cond.selfTest.sensors) ∧
    (1000 ≤ b.cond.modeTimer → b.cond.selfTest.sensors.reservoir = none →
      r.reservoir = b.sensors.reservoir.judged ∧ r.ambient = b.sensors.ambient.judged ∧
      ∀ p, r.actuator.get p = (b.sensors.actuator.get p).judged ∧ r.strip.get p = (b.sensors.strip.get p).judged ∧
        r.height.get p = (b.sensors.height.get p).judged) := by
  have hjudged (c : Chan) : some (verdict (c.validity == .good)) = c.judged := by
    unfold Chan.judged verdict
    by_cases h : c.validity = .good <;> simp [h]
  refine ⟨_, rfl, fun h => ?_, fun h1 h2 => ?_⟩
  · rw [judgeTest_sensors hm]
    unfold judgeSensors
    rw [if_neg]
    rintro ⟨-, h1, h2⟩
    rcases h with h | h
    · omega
    · exact h h2
  · have heq : judgeSensors b = setTest { b.cond.selfTest with sensors := sensorResults b.sensors } b :=
      if_pos ⟨hm, h1, h2⟩
    rw [judgeTest_sensors hm, heq]
    refine ⟨hjudged _, hjudged _, fun p => ⟨?_, ?_, ?_⟩⟩
    all_goals exact (PerP.get_ofFun _ p).trans (hjudged _)

/-! ## What the answers leave while WAKING goes on -/

/-- A reaction where no path runs and WAKING does not end. -/
theorem Reaction.stopped (h : Reaction b x) (hb : Stopped b) (hw : ¬MayWake b) : x = b ∨ StillReaction b x ∨
    b.cond.standbyLowering = true ∧ roofAtRest b = true ∧ x = setMode .standby b := by
  have hcalm := not_needsContact_of_stopped hb
  cases h
  case guard engaged unmet => exact .inr (.inl (.guard engaged unmet))
  case release p pending contact free adopted =>
    rw [beginLowering_of_calm hcalm]
    exact .inr (.inl (.release p pending contact free adopted))
  case advance =>
    rcases hb with hp | hp
    · exact .inl (by simp only [seqStep, hp])
    · have heq : seqStep b = withdrawInHalt b := by simp only [seqStep, hp]
      rw [heq]
      unfold withdrawInHalt
      split
      · exact .inr (.inl (.withdraw hp))
      · exact .inl rfl
  case wake waking adopted due _ => exact absurd ⟨waking, adopted, due⟩ hw
  case lowered standby rest _ => exact .inr (.inr ⟨standby, rest, rfl⟩)
  case ice only => exact .inr (.inl (.ice x only))
  case ask p want granted alone _ => exact .inr (.inl (.ask p want granted alone))
  case scrape p holds adopted => exact .inr (.inl (.scrape p holds adopted))

/-- WAKING goes on, no path being run, or has been left for STANDBY: nothing is raised. -/
structure WakesOn (b : Block) : Prop where
  stopped : Stopped b
  mode    : b.cond.mode = .waking ∧ b.cond.modeTimer < 2000 ∨ b.cond.mode = .standby

theorem WakesOn.not_mayWake (h : WakesOn b) : ¬MayWake b := by
  rintro ⟨hm, -, hdue⟩
  rcases h.mode with ⟨-, hlt⟩ | hs
  · omega
  · exact absurd (hm.symm.trans hs) (by decide)

theorem Reaction.wakesOn (h : Reaction b x) (hb : WakesOn b) : WakesOn x := by
  rcases h.acts_or (w := ⟨False, False⟩) hb.not_mayWake with hacts | ⟨-, -, -, rfl⟩
  · have hcond := hacts.fixed (by simp)
    refine ⟨?_, by rw [hcond]; exact hb.mode⟩
    rw [Stopped, (hacts.stands (.inl hb.stopped)).seq]
    exact hb.stopped
  · have hst := (acts_setMode (w := ⟨False, True⟩) (m := .standby) b (.inr trivial) (by decide)).stands (.inl hb.stopped)
    refine ⟨?_, .inr (entered_setMode .standby b).mode⟩
    rw [Stopped, hst.seq]
    exact hb.stopped

/-- What each kind of answer keeps there, the end of the event keeps. -/
theorem settle_wakesOn {P : Block → Prop} (s : Block) (judge : Bool) (hb : WakesOn b) (hp : P b)
    (hopen : ∀ a, P a → P (openBreaker .internal a))
    (hlower : ∀ a r, P a → (a.lc r).state = .contact → P (a.setLift r (a.lc r).toLowering))
    (hwithdraw : ∀ a, P a → P (setTractionOff false a)) (hice : ∀ a c, IceOnly a c → P a → P c)
    (hscrape : ∀ a r, WakesOn a → P a → a.role r = .scraping → P (takeLower false r (clearRole r a)))
    (hstandby : ∀ a, WakesOn a → P a → P (setMode .standby a)) :
    ∃ y, P y ∧ Closed y (settle s judge b) := by
  refine ⟨_, ((reactions_answers s judge b).keep (P := fun a => WakesOn a ∧ P a) (fun a c hs ⟨ha, hpa⟩ => ?_) ⟨hb, hp⟩).2,
    closed_close s _⟩
  refine ⟨hs.wakesOn ha, ?_⟩
  rcases hs.stopped ha.stopped ha.not_mayWake with rfl | hstill | ⟨-, -, rfl⟩
  · exact hpa
  · cases hstill
    case guard => exact hopen a hpa
    case release r _ contact _ _ => exact hlower a r hpa contact
    case withdraw => exact hwithdraw a hpa
    case ice only => exact hice a c only hpa
    case ask r want _ _ =>
      simp only [wantsScraper, Bool.and_eq_true, beq_iff_eq] at want
      rcases ha.mode with ⟨hm, -⟩ | hm <;> simp [hm] at want
    case scrape r holds _ => exact hscrape a r ha hpa holds
  · exact hstandby a ha hpa

/-! ## Lowers and the mode while a step runs -/

theorem cond_discardHeld (p : Panto) (b : Block) : (discardHeld p b).cond = b.cond := by
  rw [discardHeld_eq, abortHeld_frame]
  rfl

theorem lc_discardHeld_ne (h : p ≠ r) (b : Block) : (discardHeld r b).lc p = b.lc p := by
  rw [discardHeld_eq, clearRole_lc, lc_setLift_ne _ _ h, abortHeld_frame]
  rfl

theorem plan_discardHeld (p : Panto) (b : Block) : (discardHeld p b).plan = (clearRole p b).plan := by
  rw [discardHeld_eq, abortHeld_frame]
  rfl

/-- Of a pantograph that does not search, the end of the searches leaves all but a held raise. -/
structure LeavesRaise (p : Panto) (b x : Block) : Prop where
  cond : x.cond = b.cond
  seq  : x.seq = b.seq
  lc   : x.lc p = b.lc p ∨ x.lc p = (b.lc p).discarded
  role : x.role p = b.role p ∨ x.role p = .none

theorem LeavesRaise.refl (p : Panto) (b : Block) : LeavesRaise p b b := ⟨rfl, rfl, .inl rfl, .inl rfl⟩

theorem LeavesRaise.trans (h : LeavesRaise p b x) (h' : LeavesRaise p x y) : LeavesRaise p b y where
  cond := h'.cond.trans h.cond
  seq := h'.seq.trans h.seq
  lc := by
    rcases h'.lc with hy | hy <;> rcases h.lc with hx | hx <;> rw [hy, hx]
    · exact .inl rfl
    · exact .inr rfl
    · exact .inr rfl
    · exact .inr rfl
  role := by
    rcases h'.role with hy | hy
    · rw [hy]
      exact h.role
    · exact .inr hy

theorem LeavesRaise.state (h : LeavesRaise p b x) : (x.lc p).state = (b.lc p).state := by
  rcases h.lc with hx | hx <;> rw [hx]
  rfl

theorem LeavesRaise.commanded (h : LeavesRaise p b x) : (x.lc p).commanded = (b.lc p).commanded := by
  rcases h.lc with hx | hx <;> rw [hx]
  rfl

theorem LeavesRaise.held (h : LeavesRaise p b x) (hb : (b.lc p).held = .none) : (x.lc p).held = .none := by
  rcases h.lc with hx | hx <;> rw [hx]
  · exact hb
  · rfl

theorem leavesRaise_discardHeld (p r : Panto) (b : Block) : LeavesRaise p b (discardHeld r b) := by
  refine ⟨cond_discardHeld r b, (touches_discardHeld r b).seq, ?_, ?_⟩
  · by_cases h : p = r
    · rw [h]
      exact .inr (lc_discardHeld_self r b)
    · exact .inl (lc_discardHeld_ne h b)
  · rw [Block.role, plan_discardHeld]
    by_cases h : p = r
    · rw [h]
      exact .inr (role_clearRole_self r b)
    · exact .inl ((touches_clearRole r b).role h)

theorem leavesRaise_abortSearch (h : p ≠ r) (hc : ¬b.seq.NeedsContact) : LeavesRaise p b (abortSearch r b) := by
  have heq : abortSearch r b = (abortEntry r b).setLift r (b.lc r).toLowering := by
    have hca : ¬(abortEntry r b).seq.NeedsContact := by rwa [(touches_abortEntry r b).seq]
    rw [abortSearch, beginLowering_of_calm hca, lc_abortEntry]
  have hframe : abortEntry r b = { b with
      cal := (abortEntry r b).cal, mem := (abortEntry r b).mem, links := (abortEntry r b).links } :=
    changeEntry_only r _ b
  rw [heq, hframe]
  exact ⟨rfl, rfl, .inl (lc_setLift_ne _ _ h), .inl rfl⟩

theorem leavesRaise_abortSearches (hc : ¬b.seq.NeedsContact) (hp : (b.lc p).state ≠ .searching) :
    LeavesRaise p b (abortSearches b) := by
  unfold abortSearches onceAdopted
  split
  · exact .refl p b
  · refine eachPanto_keep (P := LeavesRaise p b) (fun r a ha => ha.trans ?_) (.refl p b)
    have hstate := ha.state
    have hcalm : ¬a.seq.NeedsContact := by rwa [ha.seq]
    split
    next hs =>
      refine leavesRaise_abortSearch ?_ hcalm
      rintro rfl
      exact hp (hstate.symm.trans hs)
    next =>
      split
      · exact leavesRaise_discardHeld p r a
      · exact .refl p a

theorem takeLower_stowed {i : Bool} (hs : (b.lc p).state = .stowed) (hv : ∀ n, b.cond.testStep ≠ .valves p n) :
    ((takeLower i p b).lc p).commanded = (b.lc p).commanded ∧ ((takeLower i p b).lc p).state = .stowed ∧
      ((b.lc p).held = .none → ((takeLower i p b).lc p).held = .none) := by
  unfold takeLower
  split
  · split
    · unfold pendLower
      split
      · exact ⟨rfl, hs, id⟩
      · rw [openBreaker_lc, lc_setLift_self]
        exact ⟨rfl, hs, id⟩
    · unfold noteLower
      rw [lc_setLift_self]
      exact ⟨rfl, hs, id⟩
  · unfold actOnLower
    rw [hs]
    dsimp only
    rw [skipValves_of_other hv]
    split
    · rw [lc_discardHeld_self]
      exact ⟨rfl, hs, fun _ => rfl⟩
    · exact ⟨rfl, hs, id⟩

/-- A VALVES step that runs on `p`. -/
structure Tests (p : Panto) (b : Block) : Prop where
  step      : b.cond.testStep = .valves p 0
  commanded : (b.lc p).commanded = 500
  state     : (b.lc p).state = .stowed
  role      : b.role p ≠ .scraping

theorem Tests.leaves (h : Tests p b) (hx : LeavesRaise p x y) (hstep : x.cond.testStep = b.cond.testStep)
    (hlc : x.lc p = b.lc p) (hrole : x.role p = b.role p) : Tests p y := by
  refine ⟨?_, ?_, ?_, ?_⟩
  · rw [hx.cond, hstep]
    exact h.step
  · rw [hx.commanded, hlc]
    exact h.commanded
  · rw [hx.state, hlc]
    exact h.state
  · rcases hx.role with hr | hr <;> rw [hr]
    · rw [hrole]
      exact h.role
    · decide

theorem Tests.others (h : Tests p b) (ht : Touches r b x) (hr : r ≠ p) : Tests p x := by
  obtain ⟨hcond, hlc⟩ := ht.steady fun n hn => hr (by rw [h.step] at hn; cases hn; rfl)
  refine ⟨?_, ?_, ?_, ?_⟩
  · rw [hcond]
    exact h.step
  · rw [hlc p hr.symm]
    exact h.commanded
  · rw [hlc p hr.symm]
    exact h.state
  · rw [ht.role hr.symm]
    exact h.role

theorem settle_tests (s : Block) (judge : Bool) (hw : WakesOn b) (hb : Tests p b) :
    ∃ y, Tests p y ∧ Closed y (settle s judge b) := by
  refine settle_wakesOn (P := Tests p) s judge hw hb (fun a ha => ?_) (fun a r ha hr => ?_) (fun a ha => ?_)
    (fun a c hi ha => ?_) (fun a r haw ha hr => ?_) (fun a haw ha => ?_)
  · rw [openBreaker_frame]
    exact ⟨ha.step, ha.commanded, ha.state, ha.role⟩
  · refine ha.others (touches_setLift r _ a) ?_
    rintro rfl
    rw [ha.state] at hr
    cases hr
  · exact ⟨ha.step, ha.commanded, ha.state, ha.role⟩
  · rw [hi.frame]
    exact ⟨ha.step, ha.commanded, ha.state, ha.role⟩
  · refine ha.others (touches_scrape (not_needsContact_of_stopped haw.stopped)) ?_
    rintro rfl
    exact ha.role hr
  · have hcalm := not_needsContact_of_stopped haw.stopped
    refine ha.leaves (leavesRaise_abortSearches (p := p) (b := { a with cond := { a.cond with
      mode := .standby, modeTimer := 0, standbyLowering := false, heldWake := false } }) hcalm ?_) rfl rfl rfl
    change (a.lc p).state ≠ .searching
    rw [ha.state]
    decide

/-- The VALVES step of `p` has been judged with the result `v`, which left it in `k`. -/
structure ValveJudged (p : Panto) (k : LiftState) (v : TestResult) (b : Block) : Prop where
  step      : b.cond.testStep = .strips p
  commanded : (b.lc p).commanded = 0
  state     : (b.lc p).state = k
  result    : b.cond.selfTest.valves.get p = some v
  role      : k = .stowed ∨ k = .outOfService ∧ b.role p = .none

theorem settle_judged {k : LiftState} {v : TestResult} (s : Block) (judge : Bool) (hw : WakesOn b) (hb : ValveJudged p k v b) :
    ∃ y, ValveJudged p k v y ∧ Closed y (settle s judge b) := by
  refine settle_wakesOn (P := ValveJudged p k v) s judge hw hb (fun a ha => ?_) (fun a r ha hr => ?_) (fun a ha => ?_)
    (fun a c hi ha => ?_) (fun a r haw ha hr => ?_) (fun a haw ha => ?_)
  · rw [openBreaker_frame]
    exact ⟨ha.step, ha.commanded, ha.state, ha.result, ha.role⟩
  · have hne : p ≠ r := by
      rintro rfl
      rw [ha.state] at hr
      rcases ha.role with hk | ⟨hk, -⟩ <;> rw [hk] at hr <;> cases hr
    exact ⟨ha.step, by rw [lc_setLift_ne _ _ hne]; exact ha.commanded, by rw [lc_setLift_ne _ _ hne]; exact ha.state,
      ha.result, ha.role⟩
  · exact ⟨ha.step, ha.commanded, ha.state, ha.result, ha.role⟩
  · rw [hi.frame]
    exact ⟨ha.step, ha.commanded, ha.state, ha.result, ha.role⟩
  · have htouch := touches_scrape (p := r) (not_needsContact_of_stopped haw.stopped)
    have hnone : ∀ q n, a.cond.testStep ≠ .valves q n := fun q n hn => by rw [ha.step] at hn; cases hn
    obtain ⟨hcond, hlc⟩ := htouch.steady (hnone r)
    by_cases hne : p = r
    · subst hne
      have hstowed : k = .stowed := by
        rcases ha.role with hk | ⟨-, hrole⟩
        · exact hk
        · rw [hr] at hrole
          cases hrole
      obtain ⟨h1, h2, -⟩ := takeLower_stowed (i := false) (p := p) (b := clearRole p a) (ha.state.trans hstowed) (hnone p)
      exact ⟨by rw [hcond]; exact ha.step, h1.trans ha.commanded, h2.trans hstowed.symm, by rw [hcond]; exact ha.result,
        .inl hstowed⟩
    · exact ⟨by rw [hcond]; exact ha.step, by rw [hlc p hne]; exact ha.commanded, by rw [hlc p hne]; exact ha.state,
        by rw [hcond]; exact ha.result, by rw [htouch.role hne]; exact ha.role⟩
  · have hcalm := not_needsContact_of_stopped haw.stopped
    have hleaves := leavesRaise_abortSearches (p := p) (b := { a with cond := { a.cond with
      mode := .standby, modeTimer := 0, standbyLowering := false, heldWake := false } }) hcalm (by
        change (a.lc p).state ≠ .searching
        rw [ha.state]
        rcases ha.role with hk | ⟨hk, -⟩ <;> rw [hk] <;> decide)
    refine ⟨by rw [setMode, hleaves.cond]; exact ha.step, hleaves.commanded.trans ha.commanded, hleaves.state.trans ha.state,
      by rw [setMode, hleaves.cond]; exact ha.result, ha.role.imp id fun ⟨hk, hr⟩ => ⟨hk, ?_⟩⟩
    rcases hleaves.role with h | h
    · exact h.trans hr
    · exact h

/-- The steps of `p` have been skipped, and those that go on are later ones. -/
structure StepsOver (p : Panto) (b : Block) : Prop where
  commanded : (b.lc p).commanded = 0
  held      : (b.lc p).held = .none
  state     : (b.lc p).state = .stowed
  skipped   : StepsSkipped p b
  later     : ∀ r n, b.cond.testStep = .valves r n → r ≠ p ∧ p ∉ Panto.after r

theorem StepsOver.leaves (h : StepsOver p b) (hl : LeavesSteps p b x)
    (hs : ∀ r n, x.cond.testStep = .valves r n → r ≠ p ∧ p ∉ Panto.after r) : StepsOver p x :=
  ⟨by rw [hl.lc]; exact h.commanded, by rw [hl.lc]; exact h.held, by rw [hl.lc]; exact h.state, hl.skipped h.skipped, hs⟩

theorem after_trans {r q : Panto} (h : q ∈ Panto.after r) (hp : p ∉ Panto.after r) : q ≠ p ∧ p ∉ Panto.after q := by
  revert h hp
  cases p <;> cases q <;> cases r <;> decide

theorem StepsOver.skipValves (h : StepsOver p b) (hr : r ≠ p) : StepsOver p (skipValves r b) := by
  by_cases hv : ∃ n, b.cond.testStep = .valves r n
  · obtain ⟨n, hn⟩ := hv
    obtain ⟨-, hafter⟩ := h.later r n hn
    rw [skipValves_eq hn]
    have h1 : LeavesSteps p b (setStrips r .skipped (setValves r .skipped (b.setLift r { b.lc r with commanded := 0 }))) :=
      ⟨lc_setLift_ne _ _ hr.symm, PerP.get_set_ne _ _ hr.symm, PerP.get_set_ne _ _ hr.symm⟩
    exact h.leaves (h1.trans (leavesSteps_valvesFrom hafter _)) fun q m hq => after_trans (valvesFrom_step hq) hafter
  · rw [skipValves_of_other fun n hn => hv ⟨n, hn⟩]
    exact h

theorem StepsOver.of_same (h : StepsOver p b) (hlc : x.lc p = b.lc p) (hcond : x.cond = b.cond) : StepsOver p x :=
  h.leaves ⟨hlc, by rw [hcond], by rw [hcond]⟩ (by rw [hcond]; exact h.later)

theorem StepsOver.discardHeld (h : StepsOver p b) (hr : r ≠ p) : StepsOver p (discardHeld r b) :=
  h.of_same (lc_discardHeld_ne hr.symm b) (cond_discardHeld r b)

theorem StepsOver.takeLower {i : Bool} (h : StepsOver p b) (hc : ¬b.seq.NeedsContact) (hr : r ≠ p) :
    StepsOver p (takeLower i r b) := by
  have hset (l : Lift) : StepsOver p (b.setLift r l) := h.of_same (lc_setLift_ne _ _ hr.symm) rfl
  have hpend : StepsOver p (pendLower r b) := by
    unfold pendLower
    split
    · exact h
    · exact (hset _).of_same (openBreaker_lc _ _ _) (openBreaker_cond _ _)
  have hlow : StepsOver p (beginLowering r b) := by
    rw [beginLowering_of_calm hc]
    exact hset _
  unfold Machine.takeLower
  split
  · split
    · exact hpend
    · exact hset _
  · unfold actOnLower
    split
    case h_1 =>
      split
      · exact (h.skipValves hr).discardHeld hr
      · exact h.skipValves hr
    case h_2 => exact hlow
    case h_3 =>
      split
      · exact hpend
      · exact hlow
    case h_4 =>
      split
      · exact h.discardHeld hr
      · exact h
    case h_5 =>
      have hleaves := leavesRaise_abortSearch hr.symm hc
      have hlc : (abortSearch r b).lc p = b.lc p := by
        rw [abortSearch, beginLowering, leaveContact_lc, lc_setLift_ne _ _ hr.symm, lc_abortEntry]
      exact h.of_same hlc hleaves.cond
    case h_6 | h_7 => exact h

theorem settle_stepsOver (s : Block) (judge : Bool) (hw : WakesOn b) (hb : StepsOver p b) :
    ∃ y, StepsOver p y ∧ Closed y (settle s judge b) := by
  refine settle_wakesOn (P := StepsOver p) s judge hw hb (fun a ha => ?_) (fun a r ha hr => ?_) (fun a ha => ?_)
    (fun a c hi ha => ?_) (fun a r haw ha hr => ?_) (fun a haw ha => ?_)
  · exact ha.of_same (openBreaker_lc _ _ _) (openBreaker_cond _ _)
  · refine ha.of_same (lc_setLift_ne _ _ ?_) rfl
    rintro rfl
    rw [ha.state] at hr
    cases hr
  · exact ha.of_same rfl rfl
  · rw [hi.frame]
    exact ha.of_same rfl rfl
  · have hcalm := not_needsContact_of_stopped haw.stopped
    have hclear : StepsOver p (clearRole r a) := ha.of_same rfl rfl
    by_cases hne : r = p
    · subst hne
      have hnone (n : Nat) : a.cond.testStep ≠ .valves r n := fun hn => (ha.later r n hn).1 rfl
      obtain ⟨h1, h2, h3⟩ := takeLower_stowed (i := false) (p := r) (b := clearRole r a) ha.state hnone
      have hcond := ((touches_scrape (p := r) hcalm).steady hnone).1
      exact ⟨h1.trans ha.commanded, h3 ha.held, h2, by rw [StepsSkipped, hcond]; exact ha.skipped,
        by rw [hcond]; exact ha.later⟩
    · exact hclear.takeLower hcalm hne
  · have hcalm := not_needsContact_of_stopped haw.stopped
    have hleaves := leavesRaise_abortSearches (p := p) (b := { a with cond := { a.cond with
      mode := .standby, modeTimer := 0, standbyLowering := false, heldWake := false } }) hcalm (by
        change (a.lc p).state ≠ .searching
        rw [ha.state]
        decide)
    exact ⟨hleaves.commanded.trans ha.commanded, hleaves.held ha.held, hleaves.state.trans ha.state,
      by rw [setMode, StepsSkipped, hleaves.cond]; exact ha.skipped, by rw [setMode, hleaves.cond]; exact ha.later⟩

/-! ## The statement -/

theorem WakesOn.waking (hp : b.seq.phase = .idle) (hm : b.cond.mode = .waking) (ht : b.cond.modeTimer < 2000) : WakesOn b :=
  ⟨.inl hp, .inl ⟨hm, ht⟩⟩

/-- P1's step begins. -/
theorem valvesStart_begins {s : State} (hm : s.block.cond.mode = .waking) (hs : s.block.cond.testStep = .notBegun)
    (hr : s.block.cond.restart = none) (ht : s.block.cond.modeTimer < 2000) (hp : s.block.seq.phase = .idle)
    (hready : valveTestable s.block .p1 = true) (hrole : s.block.role .p1 ≠ .scraping) :
    ∃ t, exec .selfTestValvesStart s = .next t ∧ t.block.kept = s.block.kept ∧ t.block.cond.testStep = .valves .p1 0 ∧
      (t.block.lc .p1).commanded = 500 ∧ (t.block.lc .p1).state = .stowed := by
  obtain ⟨t, ht', hblock⟩ := event_ends s false valvesStart
  have hready' : valveTestable (reachModeTime 1000 s.block) .p1 = true := hready
  have hstowed : (s.block.lc .p1).state = .stowed := (valveTestable_iff.mp hready).state
  have heq : valvesStart s.block = setTestStep (.valves .p1 0) ((reachModeTime 1000 s.block).setLift .p1
      { s.block.lc .p1 with commanded := 500 }) := by
    rw [valvesStart, if_pos ⟨hm, hs, by simp [adoptionWaits, hr]⟩]
    exact if_pos hready'
  have hkept : (valvesStart s.block).kept = s.block.kept := by
    rw [heq]
    rfl
  have htests : Tests .p1 (valvesStart s.block) := by
    rw [heq]
    have hlc := lc_setLift_self (reachModeTime 1000 s.block) .p1 { s.block.lc .p1 with commanded := 500 }
    exact ⟨rfl, congrArg Lift.commanded hlc, (congrArg Lift.state hlc).trans hstowed, hrole⟩
  have hwakes : WakesOn (valvesStart s.block) := by
    rw [heq]
    refine .waking hp hm ?_
    change max 1000 s.block.cond.modeTimer < 2000
    omega
  obtain ⟨y, hy, hclosed⟩ := settle_tests s.block false hwakes htests
  refine ⟨t, ht', ?_, ?_, ?_, ?_⟩ <;> rw [hblock]
  · rw [kept_settle, hkept]
  · rw [hclosed.cond]
    exact hy.step
  · rw [hclosed.lc]
    exact hy.commanded
  · rw [hclosed.lc]
    exact hy.state

/-- What the judgement of a VALVES step leaves. -/
structure JudgesValve (p : Panto) (k : LiftState) (v : TestResult) (b x : Block) : Prop extends ValveJudged p k v x where
  kept  : x.kept = b.kept
  phase : x.seq = b.seq
  mode  : x.cond.mode = b.cond.mode ∧ x.cond.modeTimer = b.cond.modeTimer

theorem judgeValve_holds (hs : (b.lc p).state = .stowed) (h : valveHolds b p = true) :
    JudgesValve p .stowed .pass b (judgeValve p b) := by
  have hlc := lc_setLift_self b p { b.lc p with commanded := 0 }
  have heq : judgeValve p b = setValves p .pass (setTestStep (.strips p) (b.setLift p { b.lc p with commanded := 0 })) :=
    if_pos h
  rw [heq]
  exact ⟨⟨rfl, congrArg Lift.commanded hlc, (congrArg Lift.state hlc).trans hs, PerP.get_set_self _ _ _, .inl rfl⟩,
    rfl, rfl, rfl, rfl⟩

theorem failValve_facts (p : Panto) (b : Block) :
    (failValve p b).lc p = { b.lc p with state := .outOfService, lowStrip := 0, lowerPending := false }.discarded ∧
      (failValve p b).cond = { b.cond with faults := (recordFault .servoDeviation (.panto p) b).cond.faults } ∧
      (failValve p b).seq = b.seq ∧ (failValve p b).kept = b.kept ∧ (failValve p b).role p = .none := by
  have hlc : (recordFault .servoDeviation (.panto p)
      (b.setLift p { b.lc p with state := .outOfService, lowStrip := 0, lowerPending := false })).lc p =
      { b.lc p with state := .outOfService, lowStrip := 0, lowerPending := false } := lc_setLift_self _ _ _
  refine ⟨?_, ?_, ?_, ?_, role_discardHeld _ _⟩
  · rw [failValve, lc_discardHeld_self, hlc]
  · rw [failValve, cond_discardHeld]
    rfl
  · rw [failValve, (touches_discardHeld p _).seq]
    rfl
  · rw [failValve, kept_discardHeld]
    rfl

theorem judgeValve_fails (h : valveHolds b p = false) : JudgesValve p .outOfService .fail b (judgeValve p b) ∧
    faultCount .servoDeviation (judgeValve p b) = oneMore .servoDeviation b := by
  have heq : judgeValve p b = setValves p .fail (failValve p (setTestStep (.strips p)
      (b.setLift p { b.lc p with commanded := 0 }))) := by
    unfold judgeValve
    rw [h]
    rfl
  have hbase : (setTestStep (.strips p) (b.setLift p { b.lc p with commanded := 0 })).lc p =
      { b.lc p with commanded := 0 } := lc_setLift_self _ _ _
  obtain ⟨hlc, hcond, hseq, hkept, hrole⟩ := failValve_facts p
    (setTestStep (.strips p) (b.setLift p { b.lc p with commanded := 0 }))
  rw [hbase] at hlc
  rw [heq]
  generalize failValve p (setTestStep (.strips p) (b.setLift p { b.lc p with commanded := 0 })) = a at *
  have hlc' : (setValves p .fail a).lc p = a.lc p := rfl
  have hcond' : (setValves p .fail a).cond = { a.cond with
    selfTest := (setValves p .fail a).cond.selfTest } := rfl
  refine ⟨⟨⟨?_, ?_, ?_, PerP.get_set_self _ _ _, .inr ⟨rfl, hrole⟩⟩, hkept, hseq, ?_, ?_⟩, ?_⟩
  · rw [hcond', hcond]
    rfl
  · rw [hlc', hlc]
    rfl
  · rw [hlc', hlc]
    rfl
  · rw [hcond', hcond]
    rfl
  · rw [hcond', hcond]
    rfl
  · have hfaults : (setValves p .fail a).cond.faults = (recordFault .servoDeviation (.panto p) b).cond.faults := by
      rw [hcond', hcond]
      rfl
    rw [faultCount_of_faults hfaults]
    exact faultCount_recordFault_self _ _ _

theorem WakesOn.of_same (h : WakesOn b) (hseq : x.seq = b.seq)
    (hmode : x.cond.mode = b.cond.mode ∧ x.cond.modeTimer = b.cond.modeTimer) : WakesOn x :=
  ⟨by rw [Stopped, hseq]; exact h.stopped, by rw [hmode.1, hmode.2]; exact h.mode⟩

/-- A VALVES step is judged. -/
theorem valvesCheck_judges {s : State} (hm : s.block.cond.mode = .waking) (hs : s.block.cond.testStep = .valves p n)
    (ht : s.block.cond.modeTimer < 2000) (hp : s.block.seq.phase = .idle) (hst : (s.block.lc p).state = .stowed) :
    ∃ t, exec .selfTestValvesCheck s = .next t ∧ t.block.kept = s.block.kept ∧
      t.block.cond.testStep = .strips p ∧ (t.block.lc p).commanded = 0 ∧
      (valveHolds s.block p = true →
        t.block.cond.selfTest.valves.get p = some .pass ∧ (t.block.lc p).state = .stowed) ∧
      (valveHolds s.block p = false →
        t.block.cond.selfTest.valves.get p = some .fail ∧ (t.block.lc p).state = .outOfService ∧
        t.block.role p = .none ∧ Records .servoDeviation s t) := by
  obtain ⟨t, ht', hblock⟩ := event_ends s false valvesCheck
  have heq : valvesCheck s.block = judgeValve p s.block := by simp only [valvesCheck, hs]
  rw [heq] at hblock
  have hwakes : WakesOn s.block := .waking hp hm ht
  have hcount := settle_faultCount (k := .servoDeviation) s.block false (judgeValve p s.block) (by decide)
  have hkept := kept_settle s.block false (judgeValve p s.block)
  refine ⟨t, ht', ?_⟩
  cases hv : valveHolds s.block p
  case true =>
    have hj := judgeValve_holds hst hv
    generalize judgeValve p s.block = x at hblock hj hcount hkept
    obtain ⟨y, hy, hclosed⟩ := settle_judged s.block false (hwakes.of_same hj.phase hj.mode) hj.toValveJudged
    rw [← hblock] at hclosed hkept
    rw [hclosed.cond, hclosed.lc]
    exact ⟨hkept.trans hj.kept, hy.step, hy.commanded, fun _ => ⟨hy.result, hy.state⟩, nofun⟩
  case false =>
    obtain ⟨hj, hrecords⟩ := judgeValve_fails hv
    generalize judgeValve p s.block = x at hblock hj hcount hkept hrecords
    obtain ⟨y, hy, hclosed⟩ := settle_judged s.block false (hwakes.of_same hj.phase hj.mode) hj.toValveJudged
    rw [← hblock] at hclosed hkept hcount
    have hrole : y.role p = .none := by
      rcases hy.role with hk | ⟨-, hr⟩
      · cases hk
      · exact hr
    refine ⟨hkept.trans hj.kept, ?_, ?_, nofun, fun _ => ⟨?_, ?_, ?_, hcount.trans hrecords⟩⟩
    · rw [hclosed.cond]
      exact hy.step
    · rw [hclosed.lc]
      exact hy.commanded
    · rw [hclosed.cond]
      exact hy.result
    · rw [hclosed.lc]
      exact hy.state
    · rw [hclosed.role]
      exact hrole

theorem stepsOver_takeLower {i : Bool} (hs : b.cond.testStep = .valves p n) (hst : (b.lc p).state = .stowed)
    (hr : b.cond.restart = none) : StepsOver p (takeLower i p b) := by
  obtain ⟨hskip, hlc, -⟩ := skipValves_goesOn hs
  have hlater (r : Panto) (m : Nat) (h : (skipValves p b).cond.testStep = .valves r m) : r ≠ p ∧ p ∉ Panto.after r := by
    rw [skipValves_eq hs] at h
    exact after_trans (valvesFrom_step h) (not_mem_after p)
  unfold takeLower
  rw [if_neg (by simp [adoptionWaits, hr]), actOnLower, hst]
  dsimp only
  generalize skipValves p b = c at hskip hlc hlater
  split
  · have hself := lc_discardHeld_self p c
    refine ⟨?_, ?_, ?_, ?_, ?_⟩
    · rw [hself, hlc]
      rfl
    · rw [hself]
      rfl
    · rw [hself, hlc]
      exact hst
    · rw [StepsSkipped, cond_discardHeld]
      exact hskip
    · rw [cond_discardHeld]
      exact hlater
  next hheld =>
    refine ⟨by rw [hlc], ?_, by rw [hlc]; exact hst, hskip, hlater⟩
    rw [hlc]
    exact not_not.mp hheld

/-- A Lower ends the VALVES step of the pantograph it names. -/
theorem lower_skipsValves {s : State} {q : Req} (hq : Speaks q s.block) (hm : s.block.cond.mode = .waking)
    (hs : s.block.cond.testStep = .valves p n) (ht : s.block.cond.modeTimer < 2000) (hp : s.block.seq.phase = .idle)
    (hst : (s.block.lc p).state = .stowed) (hr : s.block.cond.restart = none) :
    ∃ t, exec (.lower q (some p)) s = .next t ∧ (t.block.lc p).commanded = 0 ∧ (t.block.lc p).held = .none ∧
      t.block.cond.selfTest.valves.get p = some .skipped ∧ t.block.cond.selfTest.strips.get p = some .skipped ∧
      Answered s t q.link (plainReply 0x06 q (if (s.block.lc p).held = .none then .done else .accepted)) := by
  have hin : inValves (refresh q.link s.block) p = true := by simp [inValves, hs]
  have ha : lowerNamed (some p) (refresh q.link s.block) =
      effect (if (s.block.lc p).held = .none then .done else .accepted) (takeLower false p (refresh q.link s.block)) := by
    by_cases hheld : (s.block.lc p).held = .none
    · have hrest : restsStowed (refresh q.link s.block) p = true := restsStowed_iff.mpr ⟨hst, hheld⟩
      simp [lowerNamed, namedBy, hrest, hin, hheld, passLowers]
    · have hrest : restsStowed (refresh q.link s.block) p = false := by
        rw [← Bool.not_eq_true, restsStowed_iff]
        exact fun h => hheld h.2
      have hhalt : halt .masterLower (refresh q.link s.block) = refresh q.link s.block := halt_of_stopped (.inl hp)
      simp [lowerNamed, namedBy, hrest, hheld, passLowers, hhalt]
  obtain ⟨t, ht', he⟩ := request_ends_as (code := 0x06) (examine_masters hq) ha
    (congrArg Kept.links (kept_takeLower false p _))
  have hover : StepsOver p (takeLower false p (refresh q.link s.block)) := stepsOver_takeLower hs hst hr
  have hblock := he.settles
  have hcalm : ¬(refresh q.link s.block).seq.NeedsContact := not_needsContact_of_stopped (.inl hp)
  have htouch := touches_takeLower (i := false) (p := p) hcalm
  have hanswered := he.plain
  generalize takeLower false p (refresh q.link s.block) = c at hblock hover htouch
  have hwakes : WakesOn (pushReply q.link (plainReply 0x06 q
      (if (s.block.lc p).held = .none then .done else .accepted)) c) := by
    refine (WakesOn.waking (b := s.block) hp hm ht).of_same htouch.seq ⟨?_, ?_⟩
    · exact htouch.mode
    · exact (congrArg Cond.modeTimer htouch.cond :)
  obtain ⟨y, hy, hclosed⟩ := settle_stepsOver s.block false hwakes
    (hover.of_same (x := pushReply q.link (plainReply 0x06 q
      (if (s.block.lc p).held = .none then .done else .accepted)) c) rfl rfl)
  rw [← hblock] at hclosed
  refine ⟨t, ht', ?_, ?_, ?_, ?_, hanswered⟩
  · rw [hclosed.lc]
    exact hy.commanded
  · rw [hclosed.lc]
    exact hy.held
  · rw [hclosed.cond]
    exact hy.skipped.1
  · rw [hclosed.cond]
    exact hy.skipped.2

/-- Settles O30, by the order of the steps and by what the answers leave while WAKING goes on. -/
theorem valvesAreTested : Obligations.ValvesAreTested := by
  unfold Obligations.ValvesAreTested
  refine ⟨fun s hm hs hr ht hp hready hrole => valvesStart_begins hm hs hr ht hp hready hrole,
    fun p n s hm hs ht hp hst => valvesCheck_judges hm hs ht hp hst,
    fun q p n s hq hm hs ht hp hst hr => lower_skipsValves hq hm hs ht hp hst hr,
    fun b hm hs hr => valvesStart_goesOn hm hs hr, fun b p n h => ?_, fun b p hm h => ?_, fun b hm => sensors_judged hm⟩
  · obtain ⟨h1, h2, h3⟩ := skipValves_goesOn h
    exact ⟨_, rfl, h1, by rw [h2], h3⟩
  · have hcond := judgeSensors_cond b
    have hstep : (judgeSensors b).cond.testStep = .strips p := by rw [hcond]; exact h
    obtain ⟨h1, h2, h3, h4⟩ := judgeStrips_goesOn hstep
    rw [judgeStrips_at hm]
    generalize judgeStrips (judgeSensors b) = t at h1 h2 h3 h4
    rw [hcond] at h1 h2 h3 h4
    exact ⟨t, rfl, h1.congr fun r _ => valveReady_congr rfl rfl rfl, h2, h3, h4⟩

end Sys2Proof.Machine
end

section
/-!
The ends of WAKING (R174, R178): the record of the self-test and the mode that follows.
-/

namespace Sys2Proof.Machine

variable {b x y : Block} {s : State} {p r : Panto} {w : Ending} {v : SelfTest}

/-! ## The record stands once WAKING has ended -/

/-- With no VALVES step running, no answer but the end of WAKING touches the record of the self-test. -/
theorem Act.keepsTest (h : Act w b x) (hw : ¬(w.wakes ∨ w.lowers))
    (hb : (∀ p n, b.cond.testStep ≠ .valves p n) ∧ b.cond.selfTest = v) :
    (∀ p n, x.cond.testStep ≠ .valves p n) ∧ x.cond.selfTest = v := by
  cases h
  case opens => rw [openBreaker_frame]; exact hb
  case tests may _ _ => exact absurd may hw
  case tries q n step _ => exact absurd step (hb.1 q n)
  case serves i _ => rw [frame_serveEntry]; exact hb
  case stores only => rw [only]; exact hb
  case ice only => rw [only.frame]; exact hb
  all_goals exact hb

theorem Acts.keepsTest (h : Acts ⟨False, False⟩ b x)
    (hb : (∀ p n, b.cond.testStep ≠ .valves p n) ∧ b.cond.selfTest = v) :
    (∀ p n, x.cond.testStep ≠ .valves p n) ∧ x.cond.selfTest = v :=
  h.keep (P := fun a => (∀ p n, a.cond.testStep ≠ .valves p n) ∧ a.cond.selfTest = v)
    (fun _ _ hs ha => hs.keepsTest (by simp) ha) hb

/-- WAKING has ended with the record `v`. -/
structure TestOver (v : SelfTest) (b : Block) : Prop where
  steps : ∀ p n, b.cond.testStep ≠ .valves p n
  test  : b.cond.selfTest = v
  mode  : b.cond.mode ≠ .waking

theorem TestOver.acts (hb : TestOver v b) (h : Acts ⟨False, False⟩ b x) : TestOver v x := by
  obtain ⟨h1, h2⟩ := h.keepsTest ⟨hb.steps, hb.test⟩
  exact ⟨h1, h2, by rw [h.fixed (by simp)]; exact hb.mode⟩

theorem testOver_setMode {m : Mode} (hm : m ≠ .waking) (hs : ∀ p n, b.cond.testStep ≠ .valves p n) :
    TestOver b.cond.selfTest (setMode m b) :=
  TestOver.acts (b := { b with cond := { b.cond with mode := m, modeTimer := 0, standbyLowering := false, heldWake := false } })
    ⟨hs, rfl, hm⟩ (acts_abortSearches _)

theorem Reaction.testOver (h : Reaction b x) (hb : TestOver v b) : TestOver v x := by
  rcases h.acts_or (w := ⟨False, False⟩) (fun hw => hb.mode hw.1) with hacts | ⟨-, -, -, rfl⟩
  · exact hb.acts hacts
  · have := testOver_setMode (m := .standby) (by decide) hb.steps
    rwa [hb.test] at this

theorem settle_testOver (t : Block) (judge : Bool) (hb : TestOver v b) : TestOver v (settle t judge b) := by
  have h := (reactions_answers t judge b).keep (fun _ _ hs ha => hs.testOver ha) hb
  have hclosed := closed_close t (answers t judge b)
  rw [settle_eq]
  exact ⟨by rw [hclosed.cond]; exact h.steps, by rw [hclosed.cond]; exact h.test, by rw [hclosed.cond]; exact h.mode⟩

/-! ## A standby lowering that cannot end yet -/

/-- The standby lowering goes on while a pantograph is up or comes down. -/
structure StillLowering (b : Block) : Prop where
  stopped : Stopped b
  mode    : b.cond.mode = .service ∧ b.cond.standbyLowering = true
  up      : ∃ p, upOrLowering b p = true
  opened  : breakerEngaged b = false

theorem not_atRest_of_moving (h : upOrLowering b p = true) : roofAtRest b = false := by
  rw [← Bool.not_eq_true, roofAtRest_iff]
  intro hrest
  have hp := hrest p
  revert h hp
  unfold upOrLowering
  cases (b.lc p).state <;> simp [LiftState.raised, LiftState.atRest]

theorem Reaction.stillLowering (h : Reaction b x) (hb : StillLowering b) : StillLowering x := by
  obtain ⟨p, hp⟩ := hb.up
  rcases h.acts_or (w := ⟨False, False⟩) (fun hw => by rw [MayWake, hb.mode.1] at hw; cases hw.1) with
    hacts | ⟨-, hrest, -, -⟩
  · have hcond := hacts.fixed (by simp)
    have hst := hacts.stands (.inl hb.stopped)
    refine ⟨?_, by rw [hcond]; exact hb.mode, ⟨p, hacts.keep (P := fun a => upOrLowering a p = true)
      (fun _ _ hs ha => hs.moving ha) hp⟩, hst.disengaged hb.opened⟩
    rw [Stopped, hst.seq]
    exact hb.stopped
  · exact absurd ((not_atRest_of_moving hp).symm.trans hrest) (by decide)

theorem settle_stillLowering (t : Block) (judge : Bool) (hb : StillLowering b) : StillLowering (settle t judge b) := by
  have h := (reactions_answers t judge b).keep (fun _ _ hs ha => hs.stillLowering ha) hb
  have hclosed := closed_close t (answers t judge b)
  obtain ⟨p, hp⟩ := h.up
  rw [settle_eq]
  exact ⟨by rw [Stopped, hclosed.seq]; exact h.stopped, by rw [hclosed.cond]; exact h.mode,
    ⟨p, by rw [upOrLowering, hclosed.lc]; exact hp⟩, by rw [hclosed.engaged]; exact h.opened⟩

/-! ## The return mode -/

theorem upOrLowering_of_mem (h : (b.lc p).state ∈ [.raising, .contact, .lowering]) : upOrLowering b p = true := by
  revert h
  unfold upOrLowering
  cases (b.lc p).state <;> simp [LiftState.raised]

theorem roofBusy_iff : roofBusy b = true ↔ ∃ p, (b.lc p).state ∈ [.raising, .contact, .lowering] := by
  rw [roofBusy, Panto.all_any]
  refine exists_congr fun p => ?_
  cases (b.lc p).state <;> simp [LiftState.up]

theorem acts_moving (h : Acts w b x) (hp : upOrLowering b p = true) : upOrLowering x p = true :=
  h.keep (P := fun a => upOrLowering a p = true) (fun _ _ hs ha => hs.moving ha) hp

theorem testOver_beginStandbyLowering (hs : ∀ p n, b.cond.testStep ≠ .valves p n) (hm : b.cond.mode ≠ .waking) :
    TestOver b.cond.selfTest (beginStandbyLowering b) := by
  have hcond := cond_halt (h := .masterLower) (by decide) { b with cond := { b.cond with standbyLowering := true } }
  unfold beginStandbyLowering
  dsimp only
  generalize halt .masterLower { b with cond := { b.cond with standbyLowering := true } } = c at hcond
  have hover : TestOver b.cond.selfTest (openBreaker .internal c) := by
    refine ⟨?_, ?_, ?_⟩ <;> rw [openBreaker_cond, hcond]
    · exact hs
    · exact hm
  exact hover.acts (acts_lowerRoof false _)

/-- STANDBY, or the standby lowering that leads to it. -/
theorem enterStandby_reaches {t : State} (judge : Bool) (hlift : b.lift = s.block.lift)
    (ht : t.block = settle s.block judge (enterStandby b)) : ReachesStandby s t := by
  have hlc (p : Panto) : b.lc p = s.block.lc p := by rw [Block.lc, hlift, Block.lc]
  refine ⟨fun hdown => ?_, fun p hp => ?_⟩
  · have hbusy : roofBusy b = false := by
      rw [← Bool.not_eq_true, roofBusy_iff]
      rintro ⟨p, hp⟩
      exact hdown p (hlc p ▸ hp)
    have heq : enterStandby b = setMode .standby b := by simp [enterStandby, hbusy]
    have hen := (entered_setMode .standby b).settle s.block judge
    rw [← heq, ← ht] at hen
    exact ⟨hen.mode, hen.standby⟩
  · have hbusy : roofBusy b = true := roofBusy_iff.mpr ⟨p, (hlc p).symm ▸ hp⟩
    have heq : enterStandby b = beginStandbyLowering (setMode .service b) := by simp [enterStandby, hbusy]
    have hup : upOrLowering b p = true := upOrLowering_of_mem ((hlc p).symm ▸ hp)
    have hset := acts_moving (acts_abortSearches (w := ⟨True, True⟩) { b with cond := { b.cond with
      mode := .service, modeTimer := 0, standbyLowering := false, heldWake := false } }) (p := p) hup
    have hen := entered_setMode .service b
    change upOrLowering (setMode .service b) p = true at hset
    generalize setMode .service b = c at heq hset hen
    obtain ⟨hdown, hopen, -⟩ := beginStandbyLowering_facts c hen.mode
    have hmoving := acts_moving (acts_beginStandbyLowering (w := ⟨True, True⟩) c trivial) hset
    have hstands : (beginStandbyLowering c).cond.mode = .service ∧ (beginStandbyLowering c).cond.standbyLowering = true := by
      rcases hdown.mode with ⟨-, -, hrest⟩ | h
      · rw [← roofAtRest_iff] at hrest
        exact absurd ((not_atRest_of_moving hmoving).symm.trans hrest) (by decide)
      · exact h
    have hend := settle_stillLowering s.block judge ⟨hdown.stopped, hstands, ⟨p, hmoving⟩, hopen⟩
    rw [← heq, ← ht] at hend
    exact ⟨hend.mode.1, hend.mode.2, hend.opened⟩

/-- Where WAKING ends the record stands. -/
theorem testOver_endWaking (hs : ∀ p n, b.cond.testStep ≠ .valves p n) : TestOver b.cond.selfTest (endWaking b) := by
  have hstandby : TestOver b.cond.selfTest (enterStandby b) := by
    unfold enterStandby
    split
    · have hover := testOver_setMode (m := .service) (b := b) (by decide) hs
      have := testOver_beginStandbyLowering hover.steps hover.mode
      rwa [hover.test] at this
    · exact testOver_setMode (by decide) hs
  unfold endWaking
  split
  case h_1 => exact testOver_setMode (by decide) hs
  case h_2 =>
    split
    · exact testOver_setMode (by decide) hs
    · exact hstandby
  all_goals exact hstandby

/-- The mode that WAKING ends in (R178). -/
theorem endWaking_enters {t : State} (judge : Bool) (hlift : b.lift = s.block.lift)
    (ht : t.block = settle s.block judge (endWaking b)) :
    (b.cond.returnMode = .workshop → t.block.cond.mode = .workshop) ∧
      (b.cond.returnMode = .service → b.cond.configGood = true → b.cond.selfTest.completed = true →
        t.block.cond.mode = .service ∧ t.block.cond.standbyLowering = false) ∧
      (b.cond.returnMode ≠ .workshop →
        ¬(b.cond.returnMode = .service ∧ b.cond.configGood = true ∧ b.cond.selfTest.completed = true) →
        ReachesStandby s t) := by
  refine ⟨fun hw => ?_, fun hr hg hc => ?_, fun hw hno => ?_⟩
  · have heq : endWaking b = setMode .workshop b := by simp [endWaking, hw]
    have hen := (entered_setMode .workshop b).settle s.block judge
    rw [← heq, ← ht] at hen
    exact hen.mode
  · have heq : endWaking b = setMode .service b := by simp [endWaking, hr, hg, hc]
    have hen := (entered_setMode .service b).settle s.block judge
    rw [← heq, ← ht] at hen
    exact ⟨hen.mode, hen.standby⟩
  · have heq : endWaking b = enterStandby b := by
      unfold endWaking
      split
      case h_1 hr => exact absurd hr hw
      case h_2 hr =>
        refine if_neg fun hgood => hno ?_
        simp only [Bool.and_eq_true] at hgood
        exact ⟨hr, hgood⟩
      all_goals rfl
    rw [heq] at ht
    exact enterStandby_reaches judge hlift ht

theorem failsTheRest (v : SelfTest) : FailsTheRest v v.failRest := by
  have hmap (w : PerP (Option TestResult)) (p : Panto) : (PerP.map' failUnjudged w).get p = failing (w.get p) := by
    cases p <;> rfl
  exact ⟨rfl, hmap _, hmap _, hmap _, hmap _, rfl, rfl, hmap _, hmap _, rfl, rfl, hmap _, rfl, fun l => by cases l <;> rfl, rfl⟩

/-- The end of WAKING, at the end of its event. -/
theorem endWaking_settles {t : State} {c : Block} (hblock : t.block = settle s.block false (endWaking c))
    (hlift : c.lift = s.block.lift) (hs : ∀ p n, c.cond.testStep ≠ .valves p n) :
    t.block.cond.selfTest = c.cond.selfTest ∧
    (c.cond.returnMode = .workshop → t.block.cond.mode = .workshop) ∧
      (c.cond.returnMode = .service → c.cond.configGood = true → c.cond.selfTest.completed = true →
        t.block.cond.mode = .service ∧ t.block.cond.standbyLowering = false) ∧
      (c.cond.returnMode ≠ .workshop →
        ¬(c.cond.returnMode = .service ∧ c.cond.configGood = true ∧ c.cond.selfTest.completed = true) →
        ReachesStandby s t) := by
  have hend := settle_testOver s.block false (testOver_endWaking hs)
  rw [← hblock] at hend
  exact ⟨hend.test, endWaking_enters false hlift hblock⟩

theorem endOfWaking_eq (hm : b.cond.mode = .waking) (hr : b.cond.restart = none) (hj : judged b.cond.selfTest = true) :
    endOfWaking b = endWaking (setTest { b.cond.selfTest with links := linkVerdicts b, completed := true }
      (reachModeTime 2000 b)) := by
  have hr' : (reachModeTime 2000 b).cond.restart = none := hr
  rw [endOfWaking, if_pos ⟨hm, hj⟩, onceAdopted_of_adopted hr']
  rfl

theorem selfTestTimeout_eq (hm : b.cond.mode = .waking) (hr : b.cond.restart = none) (hj : judged b.cond.selfTest = false)
    (hs : ∀ p n, b.cond.testStep ≠ .valves p n) : selfTestTimeout b =
      endWaking (setTest b.cond.selfTest.failRest (setTestStep .finished (reachModeTime 4000 b))) := by
  have hr' : (reachModeTime 4000 b).cond.restart = none := hr
  have hstop : stopValves (reachModeTime 4000 b) = setTestStep .finished (reachModeTime 4000 b) := by
    unfold stopValves
    split
    next p n hv => exact absurd hv (hs p n)
    next => rfl
  rw [selfTestTimeout, if_pos ⟨hm, hj⟩, onceAdopted_of_adopted hr', timeoutWaking, hstop]
  rfl

/-- Settles O31, by the record as WAKING ends with it and by the return mode. -/
theorem wakingEnds : Obligations.WakingEnds := by
  unfold Obligations.WakingEnds
  intro s hm hr hs
  refine ⟨fun hj => ?_, fun hj => ?_⟩
  · obtain ⟨t, ht, hblock⟩ := event_ends s false endOfWaking
    rw [endOfWaking_eq hm hr hj] at hblock
    have hlift : (setTest { s.block.cond.selfTest with links := linkVerdicts s.block, completed := true }
        (reachModeTime 2000 s.block)).lift = s.block.lift := rfl
    obtain ⟨htest, h1, h2, h3⟩ := endWaking_settles hblock hlift hs
    exact ⟨t, ht, htest, h1, fun hs hg => h2 hs hg rfl, fun hw hno => h3 hw fun h => hno ⟨h.1, h.2.1⟩⟩
  · obtain ⟨t, ht, hblock⟩ := event_ends s false selfTestTimeout
    rw [selfTestTimeout_eq hm hr hj hs] at hblock
    have hlift : (setTest s.block.cond.selfTest.failRest
        (setTestStep .finished (reachModeTime 4000 s.block))).lift = s.block.lift := rfl
    have hclear : (setTest s.block.cond.selfTest.failRest
        (setTestStep .finished (reachModeTime 4000 s.block))).cond.selfTest.completed = false := rfl
    obtain ⟨htest, h1, -, h3⟩ := endWaking_settles hblock hlift fun _ _ h => nomatch h
    refine ⟨t, ht, ?_, h1, fun hw => h3 hw fun h => absurd (hclear.symm.trans h.2.2) (by decide)⟩
    rw [htest]
    exact failsTheRest _

end Sys2Proof.Machine
end

section
/-!
Opens and closes of the line breaker (R99, R102, R103, R108).
-/

namespace Sys2Proof.Machine

variable {q : Req} {s t : State} {b x y : Block} {p r : Panto} {w : Ending} {v : TwoSw} {code : Nat}

/-! ## A breaker that no answer moves -/

/-- A breaker that an open leaves as it is. -/
def TwoSw.Opened (v : TwoSw) : Prop :=
  v.state = .opened ∨ v.state = .opening ∨ v.state = .failed ∧ v.output = .opened

theorem openBreaker_of_opened (h : b.sw.breaker.Opened) (k : Source) :
    (openBreaker k b).sw.breaker = b.sw.breaker := by
  unfold openBreaker
  rcases h with h | h | ⟨h, ho⟩ <;> rw [h]
  change { b.sw.breaker with output := .opened } = b.sw.breaker
  rw [← ho]

/-- Nothing is about to close the breaker, which an open would leave as it is. -/
structure StaysOpened (v : TwoSw) (b : Block) : Prop where
  breaker : b.sw.breaker = v
  opened  : v.Opened
  phase   : b.seq.phase ≠ .masterReady

theorem Act.staysOpened (h : Act w b x) (hb : StaysOpened v b) : StaysOpened v x := by
  cases h
  case opens =>
    refine ⟨(openBreaker_of_opened (hb.breaker.symm ▸ hb.opened) _).trans hb.breaker, hb.opened, ?_⟩
    rw [openBreaker_seq]
    exact hb.phase
  case closes phase _ _ _ => exact absurd phase hb.phase
  case serves n _ =>
    rw [frame_serveEntry]
    exact ⟨hb.breaker, hb.opened, hb.phase⟩
  case halts => exact ⟨hb.breaker, hb.opened, Phase.noConfusion⟩
  case finishes => exact ⟨hb.breaker, hb.opened, Phase.noConfusion⟩
  case moves q may =>
    refine ⟨hb.breaker, hb.opened, fun hp => ?_⟩
    rcases may.phase with hs | hs
    · exact hb.phase (hs.symm.trans hp)
    · have hp' : q.phase = .masterReady := hp
      rw [hp'] at hs
      revert hs
      cases b.seq.phase <;> simp [phaseSteps]
  case stores only => rw [only]; exact ⟨hb.breaker, hb.opened, hb.phase⟩
  case ice only => rw [only.frame]; exact ⟨hb.breaker, hb.opened, hb.phase⟩
  all_goals exact ⟨hb.breaker, hb.opened, hb.phase⟩

theorem settle_staysOpened (a : Block) (judge : Bool) (hb : StaysOpened v b) : (settle a judge b).sw.breaker = v := by
  obtain ⟨y, hacts, hclosed⟩ := settle_acts a judge b
  rw [hclosed.sw]
  exact (hacts.keep (P := StaysOpened v) (fun _ _ hs ha => hs.staysOpened ha) hb).breaker

/-! ## Opens (R102) -/

theorem opened_openBreaker (k : Source) (b : Block) : (openBreaker k b).sw.breaker.Opened := by
  unfold openBreaker
  split
  case h_1 h => exact .inl h
  case h_2 => exact .inr (.inl rfl)
  case h_3 => exact .inr (.inl rfl)
  case h_4 h => exact .inr (.inl h)
  case h_5 h => exact .inr (.inr ⟨h, rfl⟩)

/-- The breaker after an open, by its state. -/
theorem openBreaker_closed (h : b.sw.breaker.state = .closed ∨ b.sw.breaker.state = .closing) (k : Source) :
    (openBreaker k b).sw.breaker = b.sw.breaker.move .opened k := by
  unfold openBreaker
  rcases h with h | h <;> rw [h] <;> rfl

theorem openBreaker_failed (h : b.sw.breaker.state = .failed) (k : Source) :
    (openBreaker k b).sw.breaker = { b.sw.breaker with output := .opened } := by
  unfold openBreaker
  rw [h]
  rfl

/-- An open asked at a request. -/
theorem open_ends {g : Gate} {owner : Block → Answer} (hex : examine q g (refresh q.link s.block) = none)
    (ha : owner (refresh q.link s.block) = effect (openReply (refresh q.link s.block))
      (openBreaker (sourceOf q.link) (refresh q.link s.block))) (hp : s.block.seq.phase ≠ .masterReady) :
    ∃ t, request q code g owner s = .next t ∧ OpensBreaker code q s t := by
  have hkept := kept_openBreaker (sourceOf q.link) (refresh q.link s.block)
  obtain ⟨t, ht, he⟩ := request_ends_as (code := code) hex ha (congrArg Kept.links hkept)
  have hans := he.plain
  have hblock := he.settles
  have hopened := opened_openBreaker (sourceOf q.link) (refresh q.link s.block)
  have hseq := openBreaker_seq (sourceOf q.link) (refresh q.link s.block)
  have hsame (h : s.block.sw.breaker.Opened) := openBreaker_of_opened (b := refresh q.link s.block) h (sourceOf q.link)
  have hclosed (h : s.block.sw.breaker.state = .closed ∨ s.block.sw.breaker.state = .closing) :=
    openBreaker_closed (b := refresh q.link s.block) h (sourceOf q.link)
  have hfailed (h : s.block.sw.breaker.state = .failed) :=
    openBreaker_failed (b := refresh q.link s.block) h (sourceOf q.link)
  have hrest := he.keepsRest_of_kept hkept
  generalize openBreaker (sourceOf q.link) (refresh q.link s.block) = x at hblock hopened hseq hsame hclosed hfailed
  have hend : t.block.sw.breaker = x.sw.breaker := by
    rw [hblock]
    refine settle_staysOpened s.block false ⟨rfl, hopened, ?_⟩
    change x.seq.phase ≠ .masterReady
    rw [hseq]
    exact hp
  have hreply (k : TwoState) (hk : s.block.sw.breaker.state = k) :
      openReply (refresh q.link s.block) = if k = .opened then .done else .accepted := by
    rw [← hk]
    rfl
  refine ⟨t, ht, hrest, fun h => ?_, fun h => ?_, fun h => ?_, fun h => ?_⟩
  · rw [hreply _ h] at hans
    exact ⟨hend.trans (hsame (.inl h)), hans⟩
  · rw [hend, hclosed h]
    refine ⟨⟨rfl, rfl, rfl, rfl, rfl, rfl⟩, ?_⟩
    rcases h with h | h <;> rw [hreply _ h] at hans <;> exact hans
  · rw [hreply _ h] at hans
    exact ⟨hend.trans (hsame (.inr (.inl h))), hans⟩
  · rw [hreply _ h] at hans
    exact ⟨hend.trans (hfailed h), hans⟩

/-! ## A breaker that stays engaged -/

/-- The breaker is engaged with its conditions met, no path being run. -/
structure StaysClosed (v : TwoSw) (b : Block) : Prop where
  breaker : b.sw.breaker = v
  engaged : v.state = .closing ∨ v.state = .closed
  met     : closeConditions b = true
  stopped : Stopped b
  mode    : b.cond.mode ≠ .waking

theorem closeConditions_iff : closeConditions b = true ↔ earthOpen b = true ∧ ∃ p, (b.sw.iso.get p).state = .closed ∧
    othersOpen b p = true ∧ collectorFit b p = true := by
  simp only [closeConditions, Bool.and_eq_true, Panto.all_any, beq_iff_eq, and_assoc]

/-- The conditions of a close speak of no pantograph but the collector. -/
theorem closeConditions_of_others (hroles : ∀ p, b.role p = .collecting → x.role p = .collecting)
    (hstates : ∀ p, b.role p = .collecting → (x.lc p).state = (b.lc p).state)
    (hearth : x.sw.earth = b.sw.earth) (hiso : x.sw.iso = b.sw.iso) (hsel : x.sw.selector = b.sw.selector)
    (hdet : x.record.determined = b.record.determined) (hcfg : x.cond.cfg = b.cond.cfg) (hb : closeConditions b = true) :
    closeConditions x = true := by
  rw [closeConditions_iff] at hb ⊢
  obtain ⟨he, c, hc, ho, hfit⟩ := hb
  refine ⟨by rw [earthOpen, hearth]; exact he, c, by rw [hiso]; exact hc, ?_, ?_⟩
  · unfold othersOpen isoOpen at ho ⊢
    rw [hiso]
    exact ho
  · unfold collectorFit selectorAt Block.head Block.cfg at hfit ⊢
    simp only [Bool.and_eq_true, beq_iff_eq] at hfit ⊢
    obtain ⟨⟨⟨hrole, hstate⟩, hselector⟩, hserves⟩ := hfit
    refine ⟨⟨⟨hroles c hrole, (hstates c hrole).trans hstate⟩, ?_⟩, ?_⟩
    · rw [hsel, hcfg]
      exact hselector
    · rw [hdet, hcfg]
      exact hserves

theorem StaysClosed.holds (h : StaysClosed v b) : holdsLower b = true := by
  unfold holdsLower
  rw [h.breaker]
  rcases h.engaged with he | he <;> rw [he]

/-- Operations on one pantograph that does not collect leave an engaged breaker. -/
theorem StaysClosed.touches (h : StaysClosed v b) (ht : Touches p b x) (hp : b.role p ≠ .collecting)
    (hsw : x.sw = b.sw) : StaysClosed v x := by
  have hne {r : Panto} (hr : b.role r = .collecting) : r ≠ p := by
    rintro rfl
    exact hp hr
  refine ⟨by rw [hsw]; exact h.breaker, h.engaged, ?_, by rw [Stopped, ht.seq]; exact h.stopped, by rw [ht.mode]; exact h.mode⟩
  exact closeConditions_of_others (fun r hr => (ht.role (hne hr)).trans hr) (fun r hr => ht.state (hne hr)) (by rw [hsw])
    (by rw [hsw]) (by rw [hsw]) (by rw [ht.record]) ht.cfg h.met

theorem sw_discardHeld (p : Panto) (b : Block) : (discardHeld p b).sw = b.sw := by
  rw [discardHeld_eq, abortHeld_frame]
  rfl

theorem sw_beginWork (p : Panto) (search : Bool) (b : Block) : (beginWork p search b).sw = b.sw := by
  cases search <;> exact skipValves_sw p b

theorem sw_takeRaise (p : Panto) (search : Bool) (b : Block) : (takeRaise p search b).sw = b.sw := by
  unfold takeRaise
  dsimp only
  split
  case h_1 =>
    split
    · rfl
    · split
      · rfl
      · split
        · rfl
        · split
          · exact sw_beginWork p search b
          · exact sw_discardHeld p (holdRaise p .dwell search b)
  case h_2 => split <;> rfl
  all_goals rfl

/-- A lower of a pantograph that does not collect asks no open. -/
theorem sw_takeLower (i : Bool) (h : b.role p ≠ .collecting) (hc : ¬b.seq.NeedsContact) : (takeLower i p b).sw = b.sw := by
  have hwaits : waitsForBreaker b i p = false := by simp [waitsForBreaker, h]
  have hlow : (beginLowering p b).sw = b.sw := by
    rw [beginLowering_of_calm hc]
    rfl
  unfold takeLower
  rw [hwaits]
  split
  · rfl
  · unfold actOnLower
    rw [hwaits]
    split
    case h_1 =>
      split
      · rw [sw_discardHeld, skipValves_sw]
      · exact skipValves_sw p b
    case h_2 => exact hlow
    case h_3 => exact hlow
    case h_4 =>
      split
      · exact sw_discardHeld p b
      · rfl
    case h_5 =>
      have hca : ¬(abortEntry p b).seq.NeedsContact := by rwa [(touches_abortEntry p b).seq]
      rw [abortSearch, beginLowering_of_calm hca, abortEntry, changeEntry_only]
      rfl
    case h_6 | h_7 => rfl

theorem Reaction.staysClosed (h : Reaction b x) (hb : StaysClosed v b) : StaysClosed v x := by
  have hcalm := not_needsContact_of_stopped hb.stopped
  rcases h.stopped hb.stopped (fun hw => hb.mode hw.1) with rfl | hstill | ⟨-, hrest, rfl⟩
  · exact hb
  · cases hstill
    case guard unmet => exact absurd (hb.met.symm.trans unmet) (by decide)
    case release free _ => exact absurd (hb.holds.symm.trans free) (by decide)
    case withdraw => exact ⟨hb.breaker, hb.engaged, hb.met, hb.stopped, hb.mode⟩
    case ice only =>
      rw [only.frame]
      exact ⟨hb.breaker, hb.engaged, hb.met, hb.stopped, hb.mode⟩
    case ask p want granted alone =>
      have hbase : StaysClosed v (setScraper (some p) b) := ⟨hb.breaker, hb.engaged, hb.met, hb.stopped, hb.mode⟩
      have hnone : b.role p = .none := scrapingRefusal_role granted
      refine hbase.touches (touches_ask p b) ?_ ?_
      · change b.role p ≠ .collecting
        rw [hnone]
        decide
      · exact sw_takeRaise p false _
    case scrape p holds _ =>
      refine hb.touches (touches_scrape hcalm) (by rw [holds]; decide) ?_
      refine sw_takeLower (b := clearRole p b) false ?_ hcalm
      rw [role_clearRole_self]
      decide
  · obtain ⟨-, c, -, -, hfit⟩ := closeConditions_iff.mp hb.met
    simp only [collectorFit, Bool.and_eq_true, beq_iff_eq] at hfit
    obtain ⟨⟨⟨-, hcontact⟩, -⟩, -⟩ := hfit
    have hdown := roofAtRest_iff.mp hrest c
    rw [hcontact] at hdown
    cases hdown

theorem settle_staysClosed (a : Block) (judge : Bool) (hb : StaysClosed v b) : (settle a judge b).sw.breaker = v := by
  have h := (reactions_answers a judge b).keep (fun _ _ hs ha => hs.staysClosed ha) hb
  rw [settle_eq, (closed_close a (answers a judge b)).sw]
  exact h.breaker

/-! ## Closes (R103) -/

/-- A link that is present stays as it is when a frame has come. -/
theorem readinessMet_refresh (hq : Leads q b) (hl : LeadLaw b) : readinessMet (refresh q.link b) = readinessMet b := by
  have hp := hl q.link hq.master hq.lead
  have hsame : (refresh q.link b).links.a.present = b.links.a.present ∧
      (refresh q.link b).links.b.present = b.links.b.present := by
    generalize q.link = l at hp
    cases l <;> exact ⟨by simp_all [refresh, setLink, PerL.set, PerL.get], by simp_all [refresh, setLink, PerL.set, PerL.get]⟩
  unfold readinessMet
  rw [hsame.1, hsame.2]
  rfl

theorem examine_closed (v : TwoSw) : v.examine .closed =
    if v.isOpen then none else if v.state = .closed then some .done
      else if v.state.travelling then some (.refused .busy) else some (.refused .notAvailable) := by
  unfold TwoSw.examine TwoSw.isOpen
  cases v.state <;> cases v.disagree <;> rfl

theorem request_next (q : Req) (code : Nat) (g : Gate) (owner : Block → Answer) (s : State) :
    ∃ t, request q code g owner s = .next t := ⟨_, rfl⟩

/-- The state alone decides: nothing changes but the links. -/
theorem decided_ends {g : Gate} {owner : Block → Answer} {o : ReplyOutcome} {early : Option ReplyOutcome}
    {f : Block → Block × ReplyOutcome} (hex : examine q g (refresh q.link s.block) = none)
    (ha : owner (refresh q.link s.block) = answerUnless early f (refresh q.link s.block)) (ho : early = some o) :
    ∃ t, request q code g owner s = .next t ∧ OnlyLinks s t ∧ Answered s t q.link (plainReply code q o) := by
  subst ho
  exact request_unchanged hex ha

/-- The interlocks refuse: nothing changes but the links. -/
theorem interlocked_ends {g : Gate} {owner : Block → Answer} {early : Option ReplyOutcome}
    {f : Block → Block × ReplyOutcome} (hex : examine q g (refresh q.link s.block) = none)
    (ha : owner (refresh q.link s.block) = answerUnless early f (refresh q.link s.block)) (ho : early = none)
    (hf : f (refresh q.link s.block) = (refresh q.link s.block, .refused .interlock)) :
    ∃ t, request q code g owner s = .next t ∧ OnlyLinks s t ∧
      Answered s t q.link (plainReply code q (.refused .interlock)) := by
  subst ho
  refine request_unchanged hex (ha.trans ?_)
  simp only [answerUnless, hf]
  rfl

/-- The command is taken. -/
theorem taken_ends {g : Gate} {owner : Block → Answer} {o : ReplyOutcome} {early : Option ReplyOutcome}
    {f : Block → Block × ReplyOutcome} (hex : examine q g (refresh q.link s.block) = none)
    (ha : owner (refresh q.link s.block) = answerUnless early f (refresh q.link s.block)) (ho : early = none)
    (hf : f (refresh q.link s.block) = (x, o)) (hno : o.refuses = false) (hl : x.kept.links = (refresh q.link s.block).kept.links) :
    ∃ t, request q code g owner s = .next t ∧ EndsAs s t q code (effect o x) := by
  subst ho
  refine request_ends_as hex (ha.trans ?_) hl
  simp only [answerUnless, hf, answerOf, hno]
  rfl

/-- A close asked at a request, in the phase IDLE with the hold clear. -/
theorem close_ends {g : Gate} {owner : Block → Answer} (hex : examine q g (refresh q.link s.block) = none)
    (hq : Leads q s.block) (hlaw : LeadLaw s.block) (hp : s.block.seq.phase = .idle) (hhold : s.block.plan.hold = false)
    (hm : s.block.cond.mode ≠ .waking)
    (ha : owner (refresh q.link s.block) = closeFromPhase q.link (refresh q.link s.block)) :
    ∃ t, request q code g owner s = .next t ∧ ClosesBreaker code q s t := by
  have hready := readinessMet_refresh hq hlaw
  have hfrom : owner (refresh q.link s.block) = answerUnless (s.block.sw.breaker.examine .closed)
      (closeBreaker (sourceOf q.link)) (refresh q.link s.block) := by
    rw [ha]
    simp [closeFromPhase, hp, hhold]
  have hexam := examine_closed s.block.sw.breaker
  have hcases : s.block.sw.breaker.isOpen = true → s.block.sw.breaker.state = .opened := fun h => by
    simp only [TwoSw.isOpen, Bool.and_eq_true, beq_iff_eq] at h
    exact h.1
  have hnot {k : TwoState} (h : s.block.sw.breaker.state = k) (hk : k ≠ .opened) : s.block.sw.breaker.isOpen = false := by
    rw [← Bool.not_eq_true]
    exact fun ho => hk (h.symm.trans (hcases ho))
  have hcommand : closeBreaker (sourceOf q.link) (refresh q.link s.block) =
      match s.block.sw.breaker.examine .closed with
      | some o => (refresh q.link s.block, o)
      | none =>
        if closeConditions s.block && readinessMet s.block then
          ((refresh q.link s.block).setBreaker (s.block.sw.breaker.move .closed (sourceOf q.link)), .accepted)
        else (refresh q.link s.block, .refused .interlock) := by
    rw [← hready]
    rfl
  obtain ⟨t, ht⟩ := request_next q code g owner s
  refine ⟨t, ht, fun ho hc hr => ?_, fun ho hno => ?_, fun h => ?_, fun h => ?_, fun h => ?_⟩
  · rw [hexam, if_pos ho] at hcommand hfrom
    simp only [hc, hr, Bool.and_self, if_true] at hcommand
    have he := holds_at ht (taken_ends (code := code) hex hfrom rfl hcommand rfl rfl)
    have hstays : StaysClosed (s.block.sw.breaker.move .closed (sourceOf q.link)) (pushReply q.link (plainReply code q .accepted)
        ((refresh q.link s.block).setBreaker (s.block.sw.breaker.move .closed (sourceOf q.link)))) :=
      ⟨rfl, .inl rfl, hc, .inl hp, hm⟩
    have hend := settle_staysClosed s.block false hstays
    rw [← he.settles] at hend
    rw [hend]
    exact ⟨⟨rfl, rfl, rfl, rfl, rfl, rfl⟩, he.keepsRest_of_kept rfl, he.plain⟩
  · rw [hexam, if_pos ho] at hcommand hfrom
    simp only [hno] at hcommand
    exact holds_at ht (interlocked_ends hex hfrom rfl hcommand)
  · refine holds_at ht (decided_ends hex hfrom ?_)
    rw [hexam, hnot h (by decide), h]
    rfl
  · refine holds_at ht (decided_ends hex hfrom ?_)
    have hno : s.block.sw.breaker.isOpen = false := by
      rw [← Bool.not_eq_true]
      intro ho
      rw [hcases ho] at h
      cases h
    have hne : s.block.sw.breaker.state ≠ .closed := by
      intro hc
      rw [hc] at h
      cases h
    rw [hexam, hno, if_neg (by decide), if_neg hne, if_pos h]
  · refine holds_at ht (decided_ends hex hfrom ?_)
    rw [hexam, hnot h (by decide), h]
    rfl

/-- Settles O48, by what an open leaves and by the conditions that keep an engaged breaker. -/
theorem breakerIsOpenedAndClosed : Obligations.BreakerIsOpenedAndClosed := by
  unfold Obligations.BreakerIsOpenedAndClosed
  refine ⟨fun q s hq hp => open_ends (examine_masters hq) rfl hp, fun q s hq hp => open_ends (examine_leader hq) rfl hp,
    fun q s hq hlaw hp hhold hm => ?_, fun q s hq hlaw hp hhold hm => ?_⟩
  · refine close_ends (examine_leader hq) hq hlaw hp hhold ?_ (if_pos hm)
    rcases hm with ⟨hm, -⟩ | hm <;> rw [hm] <;> decide
  · refine close_ends (examine_leader hq) hq hlaw hp hhold (by rw [hm]; decide) (if_pos hm)

end Sys2Proof.Machine
end

section
/-!
Switch Commands and Clear Switch Fault (R99, R105 to R109), with no path running.
-/

namespace Sys2Proof.Machine

variable {q : Req} {s t : State} {b x y : Block} {p r : Panto} {v : TwoSw} {code : Nat} {pos : TwoPos}

/-! ## The examination of a command (R99) -/

/-- A movement that the state of the switch does not decide. -/
theorem examine_moves (h : if pos = .opened then v.state = .closed else v.isOpen = true) : v.examine pos = none := by
  unfold TwoSw.isOpen at h
  unfold TwoSw.examine
  cases pos
  case opened =>
    rw [if_pos rfl] at h
    rw [h]
  case closed =>
    simp only [reduceCtorEq, if_false, Bool.and_eq_true, beq_iff_eq, Bool.not_eq_true'] at h
    rw [h.1, h.2]
    rfl

theorem examine_rests (h : v.state = pos.atRest) : v.examine pos = some .done := by
  unfold TwoSw.examine
  cases pos <;> rw [h] <;> rfl

theorem examine_travels (h : v.state ∈ [.closing, .opening]) : v.examine pos = some (.refused .busy) := by
  unfold TwoSw.examine
  simp only [List.mem_cons, List.not_mem_nil, or_false] at h
  rcases h with h | h <;> rw [h]

theorem examine_failed (h : v.state = .failed ∨ v.state = .opened ∧ v.disagree = true ∧ pos = .closed) :
    v.examine pos = some (.refused .notAvailable) := by
  unfold TwoSw.examine
  rcases h with h | ⟨h, hd, rfl⟩
  · rw [h]
  · rw [h, hd]
    rfl

/-- The answer that the state alone decides. -/
theorem decidedByState {g : Gate} {owner : Block → Answer} {f : Block → Block × ReplyOutcome}
    (hex : examine q g (refresh q.link s.block) = none) (ht : request q code g owner s = .next t)
    (ha : owner (refresh q.link s.block) = answerUnless (v.examine pos) f (refresh q.link s.block)) :
    DecidedByState code q v pos s t where
  rests hs _ := holds_at ht (decided_ends hex ha (examine_rests hs))
  travels hs := holds_at ht (decided_ends hex ha (examine_travels hs))
  failed hs := holds_at ht (decided_ends hex ha (examine_failed hs))

/-! ## With no path running -/

theorem worksSwitches_stopped (h : Stopped b) : worksSwitches b = false := by
  unfold worksSwitches
  rcases h with h | h <;> rw [h] <;> rfl

theorem watchesSwitches_stopped (h : Stopped b) : watchesSwitches b = false := by
  unfold watchesSwitches
  rcases h with h | h <;> rw [h] <;> rfl

/-- No path is halted by a switch where none runs. -/
theorem haltIfLeft_stopped (h : Stopped b) : haltIfLeft b x = x := by
  rw [haltIfLeft, worksSwitches_stopped h, watchesSwitches_stopped h]
  rfl

theorem inWorkshop_eq {f : Block → Answer} (h : b.cond.mode = .workshop) : inWorkshop f b = f b := if_pos h

/-- The switches but the breaker at the end of a command taken with no path running. -/
theorem EndsAs.switches {o : ReplyOutcome} (he : EndsAs s t q code (effect o x)) (hx : Stopped x) :
    t.block.sw = { x.sw with breaker := t.block.sw.breaker } := by
  have hst := settle_stands s.block false (b := pushReply q.link (plainReply code q o) x) hx
  rw [← he.settles] at hst
  exact hst.sw

/-! ## Switch Commands in WORKSHOP (R105 to R108) -/

theorem commandOwner {f : Block → Answer} (hm : s.block.cond.mode = .workshop) :
    inWorkshop f (refresh q.link s.block) = f (refresh q.link s.block) := inWorkshop_eq (b := refresh q.link s.block) hm

theorem watched_eq {f : Block → Block × ReplyOutcome} (h : Stopped b) (hf : f b = (x, o)) : watched f b = (x, o) := by
  rw [watched, hf, haltIfLeft_stopped h]

/-- The selector moves (R105). -/
theorem selector_moves {pos : SelPos} (hq : Leads q s.block) (hp : Stopped s.block) (hm : s.block.cond.mode = .workshop)
    (h1 : s.block.sw.selector.state ≠ .moving) (h2 : s.block.sw.selector.state ≠ .failed)
    (h3 : s.block.sw.selector.state ≠ pos.atRest) : ∃ t, exec (.switchCommandSelector q pos) s = .next t ∧
      (s.block.sw.breaker.isOpen = true → t.block.sw.selector.state = .moving ∧
        t.block.sw.selector.lastCmd = pos ∧ t.block.sw.selector.drive = some pos ∧
        t.block.sw.selector.timer = some 0 ∧ t.block.sw.selector.source = sourceOf q.link ∧ KeepsRest s t ∧
        Answered s t q.link (plainReply 0x11 q .accepted)) ∧
      (s.block.sw.breaker.isOpen = false →
        OnlyLinks s t ∧ Answered s t q.link (plainReply 0x11 q (.refused .interlock))) := by
  have hexam : s.block.sw.selector.examine pos = none := by
    unfold SelSw.examine
    split
    case h_1 h => exact absurd h h1
    case h_2 h => exact absurd h h2
    case h_3 => exact if_neg h3
  have hmove : moveSelector pos (sourceOf q.link) (refresh q.link s.block) =
      if s.block.sw.breaker.isOpen then
        ((refresh q.link s.block).setSelector (s.block.sw.selector.move pos (sourceOf q.link)), .accepted)
      else (refresh q.link s.block, .refused .interlock) := by
    unfold moveSelector
    have hexam' : (refresh q.link s.block).sw.selector.examine pos = none := hexam
    rw [hexam']
    rfl
  obtain ⟨t, ht⟩ := exec_ends (.switchCommandSelector q pos) s
  refine ⟨t, ht, fun ho => ?_, fun ho => ?_⟩
  · rw [ho] at hmove
    have he := holds_at ht (taken_ends (code := 0x11) (examine_leader hq) (commandOwner hm) hexam
      (watched_eq (b := refresh q.link s.block) hp hmove) rfl rfl)
    have hsw := he.switches hp
    rw [hsw]
    exact ⟨rfl, rfl, rfl, rfl, rfl, he.keepsRest_of_kept rfl, he.plain⟩
  · rw [ho] at hmove
    exact holds_at ht (interlocked_ends (examine_leader hq) (commandOwner hm) hexam
      (watched_eq (b := refresh q.link s.block) hp hmove))

/-- What the state of the selector decides (R99). -/
theorem selector_decided (pos : SelPos) (hq : Leads q s.block) (hm : s.block.cond.mode = .workshop) :
    ∃ t, exec (.switchCommandSelector q pos) s = .next t ∧
      (s.block.sw.selector.state = pos.atRest → s.block.sw.selector.disagree = false →
        OnlyLinks s t ∧ Answered s t q.link (plainReply 0x11 q .done)) ∧
      (s.block.sw.selector.state = .moving →
        OnlyLinks s t ∧ Answered s t q.link (plainReply 0x11 q (.refused .busy))) ∧
      (s.block.sw.selector.state = .failed →
        OnlyLinks s t ∧ Answered s t q.link (plainReply 0x11 q (.refused .notAvailable))) := by
  obtain ⟨t, ht⟩ := exec_ends (.switchCommandSelector q pos) s
  have hdecided {o : ReplyOutcome} (h : s.block.sw.selector.examine pos = some o) :=
    holds_at ht (decided_ends (code := 0x11) (examine_leader hq) (commandOwner hm) h)
  refine ⟨t, ht, fun h _ => hdecided ?_, fun h => hdecided ?_, fun h => hdecided ?_⟩
  · unfold SelSw.examine
    rw [h]
    cases pos <;> rfl
  · simp only [SelSw.examine, h]
  · simp only [SelSw.examine, h]

/-- An isolator moves (R106). -/
theorem isolator_moves (hq : Leads q s.block) (hp : Stopped s.block) (hm : s.block.cond.mode = .workshop)
    (hs : if pos = .opened then (s.block.sw.iso.get p).state = .closed else (s.block.sw.iso.get p).isOpen = true) :
    ∃ t, exec (.switchCommandIsolator q p pos) s = .next t ∧
      (isolatorInterlock s.block p pos = true →
        (t.block.sw.iso.get p).Travels pos q.link ∧ KeepsRest s t ∧
        Answered s t q.link (plainReply 0x11 q .accepted)) ∧
      (isolatorInterlock s.block p pos = false →
        OnlyLinks s t ∧ Answered s t q.link (plainReply 0x11 q (.refused .interlock))) := by
  have hexam := examine_moves hs
  have hmove : moveIsolator p pos (sourceOf q.link) (refresh q.link s.block) =
      if isolatorInterlock s.block p pos then
        ((refresh q.link s.block).setIso p ((s.block.sw.iso.get p).move pos (sourceOf q.link)), .accepted)
      else (refresh q.link s.block, .refused .interlock) := by
    have hsame : isolatorInterlock (refresh q.link s.block) p pos = isolatorInterlock s.block p pos := by cases pos <;> rfl
    unfold moveIsolator
    have hexam' : ((refresh q.link s.block).sw.iso.get p).examine pos = none := hexam
    rw [hexam', hsame]
    rfl
  obtain ⟨t, ht⟩ := exec_ends (.switchCommandIsolator q p pos) s
  refine ⟨t, ht, fun ho => ?_, fun ho => ?_⟩
  · rw [ho] at hmove
    have he := holds_at ht (taken_ends (code := 0x11) (examine_leader hq) (commandOwner hm) hexam
      (watched_eq (b := refresh q.link s.block) hp hmove) rfl rfl)
    have hsw := he.switches hp
    have hiso : t.block.sw.iso.get p = (s.block.sw.iso.get p).move pos (sourceOf q.link) := by
      rw [hsw]
      exact PerP.get_set_self _ _ _
    rw [hiso]
    exact ⟨⟨rfl, rfl, rfl, rfl, rfl, rfl⟩, he.keepsRest_of_kept rfl, he.plain⟩
  · rw [ho] at hmove
    exact holds_at ht (interlocked_ends (examine_leader hq) (commandOwner hm) hexam
      (watched_eq (b := refresh q.link s.block) hp hmove))

/-- The earthing switch moves (R107). -/
theorem earth_moves (hq : Leads q s.block) (hp : Stopped s.block) (hm : s.block.cond.mode = .workshop)
    (hs : if pos = .opened then s.block.sw.earth.state = .closed else s.block.sw.earth.isOpen = true) :
    ∃ t, exec (.switchCommandEarth q pos) s = .next t ∧
      (earthInterlock s.block pos = true →
        t.block.sw.earth.Travels pos q.link ∧
        { t.block.kept with links := s.block.kept.links, earth := s.block.kept.earth } = s.block.kept ∧
        Answered s t q.link (plainReply 0x11 q .accepted)) ∧
      (earthInterlock s.block pos = false →
        OnlyLinks s t ∧ Answered s t q.link (plainReply 0x11 q (.refused .interlock))) := by
  have hexam := examine_moves hs
  have hmove : moveEarth pos (sourceOf q.link) (refresh q.link s.block) =
      if earthInterlock s.block pos then
        ((refresh q.link s.block).setEarth (s.block.sw.earth.move pos (sourceOf q.link)), .accepted)
      else (refresh q.link s.block, .refused .interlock) := by
    have hsame : earthInterlock (refresh q.link s.block) pos = earthInterlock s.block pos := by cases pos <;> rfl
    unfold moveEarth
    have hexam' : (refresh q.link s.block).sw.earth.examine pos = none := hexam
    rw [hexam', hsame]
    rfl
  obtain ⟨t, ht⟩ := exec_ends (.switchCommandEarth q pos) s
  refine ⟨t, ht, fun ho => ?_, fun ho => ?_⟩
  · rw [ho] at hmove
    have he := holds_at ht (taken_ends (code := 0x11) (examine_leader hq) (commandOwner hm) hexam hmove rfl rfl)
    have hsw := he.switches hp
    have hearth : t.block.sw.earth = s.block.sw.earth.move pos (sourceOf q.link) := by
      rw [hsw]
      rfl
    rw [hearth]
    refine ⟨⟨rfl, rfl, rfl, rfl, rfl, rfl⟩, ?_, he.plain⟩
    exact congrArg (fun k : Kept => { k with earth := s.block.kept.earth }) (he.kept s.block.kept.links)
  · rw [ho] at hmove
    exact holds_at ht (interlocked_ends (examine_leader hq) (commandOwner hm) hexam hmove)

/-- Outside WORKSHOP a Switch Command but an open of the breaker is refused. -/
theorem command_wrongMode {owner : Block → Answer} (hq : Leads q s.block) (hm : s.block.cond.mode ≠ .workshop) :
    ∃ t, request q 0x11 .leader (inWorkshop owner) s = .next t ∧ OnlyLinks s t ∧
      Answered s t q.link (plainReply 0x11 q (.refused .wrongMode)) :=
  request_refused (examine_leader hq) (if_neg hm)

/-! ## Clear Switch Fault (R109) -/

theorem clearOwner {sw : SwId} (hm : s.block.cond.mode = .standby ∨ s.block.cond.mode = .workshop) :
    clearSwitchFault q.link sw (refresh q.link s.block) =
      answerUnless (if switchFailed s.block sw then none else some .done) (clearSwitchFaultOf sw (sourceOf q.link))
        (refresh q.link s.block) := by
  have hsame : switchFailed (refresh q.link s.block) sw = switchFailed s.block sw := by cases sw <;> rfl
  have hm' : (refresh q.link s.block).cond.mode = .standby ∨ (refresh q.link s.block).cond.mode = .workshop := hm
  rw [clearSwitchFault, if_pos hm', hsame]

/-- Of a switch that is not FAILED it is DONE with no change. -/
theorem clear_done {sw : SwId} (hq : Leads q s.block) (hm : s.block.cond.mode = .standby ∨ s.block.cond.mode = .workshop)
    (h : switchFailed s.block sw = false) : ∃ t, exec (.clearSwitchFault q sw) s = .next t ∧ OnlyLinks s t ∧
      Answered s t q.link (plainReply 0x12 q .done) :=
  decided_ends (examine_leader hq) (clearOwner hm) (by rw [h]; rfl)

/-- A FAILED switch whose reading shows no position to take. -/
theorem clear_interlock {sw : SwId} (hq : Leads q s.block) (hm : s.block.cond.mode = .standby ∨ s.block.cond.mode = .workshop)
    (h : switchFailed s.block sw = true) (hf : clearSwitchFaultOf sw (sourceOf q.link) (refresh q.link s.block) =
      (refresh q.link s.block, .refused .interlock)) :
    ∃ t, exec (.clearSwitchFault q sw) s = .next t ∧ OnlyLinks s t ∧
      Answered s t q.link (plainReply 0x12 q (.refused .interlock)) :=
  interlocked_ends (examine_leader hq) (clearOwner hm) (by rw [h]; rfl) hf

/-- A FAILED switch that takes the position shown. -/
theorem clear_takes {sw : SwId} (hq : Leads q s.block) (hm : s.block.cond.mode = .standby ∨ s.block.cond.mode = .workshop)
    (h : switchFailed s.block sw = true) (hf : clearSwitchFaultOf sw (sourceOf q.link) (refresh q.link s.block) = (x, .done))
    (hl : x.kept.links = (refresh q.link s.block).kept.links) :
    ∃ t, exec (.clearSwitchFault q sw) s = .next t ∧ EndsAs s t q 0x12 (effect .done x) :=
  taken_ends (examine_leader hq) (clearOwner hm) (by rw [h]; rfl) hf rfl hl

theorem position_of_pattern (pos : TwoPos) :
    (⟨pos == .opened, pos == .closed⟩ : TwoPattern).position = some pos := by cases pos <;> rfl

theorem position_of_inconsistent {x : TwoPattern} (h : x.consistent = false) : x.position = none := by
  obtain ⟨o, c⟩ := x
  cases o <;> cases c <;> simp_all [TwoPattern.consistent, TwoPattern.position, TwoPattern.shows]

theorem standsAt_adopt (pos : TwoPos) (l : Link) (v : TwoSw) : (v.adopt pos (sourceOf l)).StandsAt pos l :=
  ⟨rfl, rfl, rfl, rfl, rfl, rfl⟩

theorem clear_breaker (hq : Leads q s.block) (hp : Stopped s.block)
    (hm : s.block.cond.mode = .standby ∨ s.block.cond.mode = .workshop) :
    ∃ t, exec (.clearSwitchFault q .breaker) s = .next t ∧
      (s.block.sw.breaker.state = .failed → s.block.sw.breaker.settled = ⟨true, false⟩ →
        t.block.sw.breaker.StandsAt .opened q.link ∧ KeepsRest s t ∧
        Answered s t q.link (plainReply 0x12 q .done)) ∧
      (s.block.sw.breaker.state = .failed → s.block.sw.breaker.settled ≠ ⟨true, false⟩ →
        OnlyLinks s t ∧ Answered s t q.link (plainReply 0x12 q (.refused .interlock))) ∧
      (s.block.sw.breaker.state ≠ .failed → OnlyLinks s t ∧ Answered s t q.link (plainReply 0x12 q .done)) := by
  obtain ⟨t, ht⟩ := exec_ends (.clearSwitchFault q .breaker) s
  have hfailed : s.block.sw.breaker.state = .failed → switchFailed s.block .breaker = true := fun h => by simp [switchFailed, h]
  have hshows {x : TwoPattern} : x.shows .opened = true ↔ x = ⟨true, false⟩ := by
    obtain ⟨o, c⟩ := x
    cases o <;> cases c <;> decide
  refine ⟨t, ht, fun hf hs => ?_, fun hf hs => ?_, fun hf => ?_⟩
  · have heq : clearSwitchFaultOf .breaker (sourceOf q.link) (refresh q.link s.block) =
        ((refresh q.link s.block).setBreaker (s.block.sw.breaker.adopt .opened (sourceOf q.link)), .done) := by
      have hsh : s.block.sw.breaker.settled.shows .opened = true := hshows.mpr hs
      simp [clearSwitchFaultOf, hf, hsh]
    have he := holds_at ht (clear_takes hq hm (hfailed hf) heq rfl)
    have hend : t.block.sw.breaker = s.block.sw.breaker.adopt .opened (sourceOf q.link) := by
      rw [he.settles]
      refine settle_staysOpened s.block false ⟨rfl, .inl rfl, ?_⟩
      intro hphase
      rcases hp with hi | hi <;> exact absurd (hi.symm.trans hphase) (by decide)
    rw [hend]
    exact ⟨standsAt_adopt _ _ _, he.keepsRest_of_kept rfl, he.plain⟩
  · have heq : clearSwitchFaultOf .breaker (sourceOf q.link) (refresh q.link s.block) =
        (refresh q.link s.block, .refused .interlock) := by
      have hsh : ¬s.block.sw.breaker.settled.shows .opened = true := fun h => hs (hshows.mp h)
      simp [clearSwitchFaultOf, hf, hsh]
    exact holds_at ht (clear_interlock hq hm (hfailed hf) heq)
  · exact holds_at ht (clear_done hq hm (by simp [switchFailed, hf]))

theorem clear_selector (hq : Leads q s.block) (hp : Stopped s.block)
    (hm : s.block.cond.mode = .standby ∨ s.block.cond.mode = .workshop) :
    ∃ t, exec (.clearSwitchFault q .selector) s = .next t ∧
      (∀ pos : SelPos, s.block.sw.selector.state = .failed → s.block.sw.selector.settled.position = some pos →
        t.block.sw.selector.state = pos.atRest ∧ t.block.sw.selector.lastCmd = pos ∧
        t.block.sw.selector.source = sourceOf q.link ∧ t.block.sw.selector.drive = none ∧
        t.block.sw.selector.disagree = false ∧ KeepsRest s t ∧ Answered s t q.link (plainReply 0x12 q .done)) ∧
      (s.block.sw.selector.state = .failed → s.block.sw.selector.settled.position = none →
        OnlyLinks s t ∧ Answered s t q.link (plainReply 0x12 q (.refused .interlock))) ∧
      (s.block.sw.selector.state ≠ .failed → OnlyLinks s t ∧ Answered s t q.link (plainReply 0x12 q .done)) := by
  obtain ⟨t, ht⟩ := exec_ends (.clearSwitchFault q .selector) s
  have hfailed : s.block.sw.selector.state = .failed → switchFailed s.block .selector = true := fun h => by
    simp [switchFailed, h]
  refine ⟨t, ht, fun pos hf hs => ?_, fun hf hs => ?_, fun hf => ?_⟩
  · have heq : clearSwitchFaultOf .selector (sourceOf q.link) (refresh q.link s.block) =
        ((refresh q.link s.block).setSelector (s.block.sw.selector.adopt pos (sourceOf q.link)), .done) := by
      simp [clearSwitchFaultOf, hf, hs]
    have he := holds_at ht (clear_takes hq hm (hfailed hf) heq rfl)
    have hsw := he.switches hp
    rw [hsw]
    exact ⟨rfl, rfl, rfl, rfl, rfl, he.keepsRest_of_kept rfl, he.plain⟩
  · have heq : clearSwitchFaultOf .selector (sourceOf q.link) (refresh q.link s.block) =
        (refresh q.link s.block, .refused .interlock) := by
      simp [clearSwitchFaultOf, hf, hs]
    exact holds_at ht (clear_interlock hq hm (hfailed hf) heq)
  · exact holds_at ht (clear_done hq hm (by simp [switchFailed, hf]))

theorem clear_isolator (hq : Leads q s.block) (hp : Stopped s.block)
    (hm : s.block.cond.mode = .standby ∨ s.block.cond.mode = .workshop) (p : Panto) :
    ∃ t, exec (.clearSwitchFault q (.iso p)) s = .next t ∧
      (∀ pos : TwoPos, (s.block.sw.iso.get p).state = .failed →
        (s.block.sw.iso.get p).settled = ⟨pos == .opened, pos == .closed⟩ →
        (pos = .closed ∧ (s.block.role p = .scraping ∨ s.block.role p = .calibrating) →
          OnlyLinks s t ∧ Answered s t q.link (plainReply 0x12 q (.refused .interlock))) ∧
        (¬(pos = .closed ∧ (s.block.role p = .scraping ∨ s.block.role p = .calibrating)) →
          (t.block.sw.iso.get p).StandsAt pos q.link ∧ KeepsRest s t ∧
          Answered s t q.link (plainReply 0x12 q .done))) ∧
      ((s.block.sw.iso.get p).state = .failed → (s.block.sw.iso.get p).settled.consistent = false →
        OnlyLinks s t ∧ Answered s t q.link (plainReply 0x12 q (.refused .interlock))) ∧
      ((s.block.sw.iso.get p).state ≠ .failed → OnlyLinks s t ∧ Answered s t q.link (plainReply 0x12 q .done)) := by
  obtain ⟨t, ht⟩ := exec_ends (.clearSwitchFault q (.iso p)) s
  have hfailed : (s.block.sw.iso.get p).state = .failed → switchFailed s.block (.iso p) = true := fun h => by
    simp [switchFailed, h]
  have heq (hf : (s.block.sw.iso.get p).state = .failed) :
      clearSwitchFaultOf (.iso p) (sourceOf q.link) (refresh q.link s.block) =
        match (s.block.sw.iso.get p).settled.position with
        | some pos =>
          if pos = .closed ∧ (s.block.role p = .scraping ∨ s.block.role p = .calibrating) then
            (refresh q.link s.block, .refused .interlock)
          else ((refresh q.link s.block).setIso p ((s.block.sw.iso.get p).adopt pos (sourceOf q.link)), .done)
        | none => (refresh q.link s.block, .refused .interlock) := by
    simp only [clearSwitchFaultOf, refresh_sw, hf]
    rfl
  refine ⟨t, ht, fun pos hf hs => ⟨fun hi => ?_, fun hi => ?_⟩, fun hf hs => ?_, fun hf => ?_⟩
  · have h := heq hf
    simp only [hs, position_of_pattern, if_pos hi] at h
    exact holds_at ht (clear_interlock hq hm (hfailed hf) h)
  · have h := heq hf
    simp only [hs, position_of_pattern, if_neg hi] at h
    have he := holds_at ht (clear_takes hq hm (hfailed hf) h rfl)
    have hsw := he.switches hp
    have hiso : t.block.sw.iso.get p = (s.block.sw.iso.get p).adopt pos (sourceOf q.link) := by
      rw [hsw]
      exact PerP.get_set_self _ _ _
    rw [hiso]
    exact ⟨standsAt_adopt _ _ _, he.keepsRest_of_kept rfl, he.plain⟩
  · have h := heq hf
    simp only [position_of_inconsistent hs] at h
    exact holds_at ht (clear_interlock hq hm (hfailed hf) h)
  · exact holds_at ht (clear_done hq hm (by simp [switchFailed, hf]))

theorem clear_earth (hq : Leads q s.block) (hp : Stopped s.block)
    (hm : s.block.cond.mode = .standby ∨ s.block.cond.mode = .workshop) :
    ∃ t, exec (.clearSwitchFault q .earth) s = .next t ∧
      (∀ pos : TwoPos, s.block.sw.earth.state = .failed → s.block.sw.earth.settled = ⟨pos == .opened, pos == .closed⟩ →
        t.block.sw.earth.StandsAt pos q.link ∧
        { t.block.kept with links := s.block.kept.links, earth := s.block.kept.earth } = s.block.kept ∧
        Answered s t q.link (plainReply 0x12 q .done)) ∧
      (s.block.sw.earth.state = .failed → s.block.sw.earth.settled.consistent = false →
        OnlyLinks s t ∧ Answered s t q.link (plainReply 0x12 q (.refused .interlock))) ∧
      (s.block.sw.earth.state ≠ .failed → OnlyLinks s t ∧ Answered s t q.link (plainReply 0x12 q .done)) := by
  obtain ⟨t, ht⟩ := exec_ends (.clearSwitchFault q .earth) s
  have hfailed : s.block.sw.earth.state = .failed → switchFailed s.block .earth = true := fun h => by simp [switchFailed, h]
  refine ⟨t, ht, fun pos hf hs => ?_, fun hf hs => ?_, fun hf => ?_⟩
  · have hpos : s.block.sw.earth.settled.position = some pos := by rw [hs, position_of_pattern]
    have heq : clearSwitchFaultOf .earth (sourceOf q.link) (refresh q.link s.block) =
        ((refresh q.link s.block).setEarth (s.block.sw.earth.adopt pos (sourceOf q.link)), .done) := by
      simp [clearSwitchFaultOf, hf, hpos]
    have he := holds_at ht (clear_takes hq hm (hfailed hf) heq rfl)
    have hsw := he.switches hp
    have hearth : t.block.sw.earth = s.block.sw.earth.adopt pos (sourceOf q.link) := by
      rw [hsw]
      rfl
    rw [hearth]
    refine ⟨standsAt_adopt _ _ _, ?_, he.plain⟩
    exact congrArg (fun k : Kept => { k with earth := s.block.kept.earth }) (he.kept s.block.kept.links)
  · have heq : clearSwitchFaultOf .earth (sourceOf q.link) (refresh q.link s.block) =
        (refresh q.link s.block, .refused .interlock) := by
      simp [clearSwitchFaultOf, hf, position_of_inconsistent hs]
    exact holds_at ht (clear_interlock hq hm (hfailed hf) heq)
  · exact holds_at ht (clear_done hq hm (by simp [switchFailed, hf]))

end Sys2Proof.Machine
end

section
/-!
The switch work at the entry to COAST and its close of the candidate's isolator (R135).
-/

namespace Sys2Proof.Machine

variable {q : Req} {s t : State} {b x y : Block} {p r c : Panto}

/-! ## One command of the work -/

theorem workCommand_refused {f : Block → Block × ReplyOutcome} {code : RefCode} (h : f b = (b, .refused code)) :
    workCommand f b = halt .switch b := by
  rw [workCommand, h]
  rfl

theorem workCommand_taken {f : Block → Block × ReplyOutcome} {o : ReplyOutcome} (h : f b = (x, o))
    (ho : o.refuses = false) : workCommand f b = x := by
  rw [workCommand, h]
  exact if_neg (by rw [ho]; decide)

theorem haltedFor_halt {h : HaltReason} (hi : b.seq.phase ≠ .idle) (hh : b.seq.phase ≠ .halted) :
    HaltedFor h (halt h b) := halt_reason hi hh

theorem sw_enterHalt {h : HaltReason} (hm : h ≠ .mismatch) (b : Block) :
    (enterHalt h b).sw = { b.sw with breaker := (enterHalt h b).sw.breaker } := by
  have hfault : (haltFault h b).sw = b.sw := by cases h <;> rfl
  have hserve (n : Option Nat) (a : Block) : (serveEntry n a).sw = a.sw := by cases n <;> rfl
  rw [enterHalt_eq hm, openBreaker_frame]
  have hsw : (serveEntry b.seq.activeEntry (haltFault h b)).sw = b.sw := (hserve _ _).trans hfault
  simp only [setPreheat, hsw]

theorem sw_halt {h : HaltReason} (hm : h ≠ .mismatch) (b : Block) :
    (halt h b).sw = { b.sw with breaker := (halt h b).sw.breaker } := by
  unfold halt
  split
  · rfl
  · split <;> rfl
  · exact sw_enterHalt hm b

/-! ## The isolators other than the candidate's (R135, step 1) -/

/-- The open of an isolator of the work is refused. -/
def RefusesOpen (v : TwoSw) (b : Block) : Prop :=
  v.state ∈ [.closing, .opening, .failed] ∨ v.state = .closed ∧ b.sw.breaker.isOpen = false

theorem setIso_get (p : Panto) (b : Block) : b.setIso p (b.sw.iso.get p) = b := by cases p <;> rfl

/-- The isolator as the work leaves it. -/
def openedForWork (v : TwoSw) : TwoSw := if v.state = .closed then v.move .opened .internal else v

theorem moveIsolator_refused (h : RefusesOpen (b.sw.iso.get p) b) :
    ∃ code, moveIsolator p .opened .internal b = (b, .refused code) := by
  unfold moveIsolator TwoSw.examine
  rcases h with h | ⟨h, ho⟩
  · simp only [List.mem_cons, List.not_mem_nil, or_false] at h
    rcases h with h | h | h
    · exact ⟨.busy, by rw [h]⟩
    · exact ⟨.busy, by rw [h]⟩
    · exact ⟨.notAvailable, by rw [h]⟩
  · refine ⟨.interlock, ?_⟩
    rw [h]
    exact if_neg (by rw [isolatorInterlock, ho]; decide)

theorem moveIsolator_taken (h : ¬RefusesOpen (b.sw.iso.get p) b) : ∃ o : ReplyOutcome, o.refuses = false ∧
    moveIsolator p .opened .internal b = (b.setIso p (openedForWork (b.sw.iso.get p)), o) := by
  unfold moveIsolator TwoSw.examine openedForWork
  unfold RefusesOpen at h
  cases hs : (b.sw.iso.get p).state
  case opened =>
    refine ⟨.done, rfl, ?_⟩
    rw [if_neg (show ¬TwoState.opened = .closed by decide), setIso_get]
  case closed =>
    have ho : b.sw.breaker.isOpen = true := by
      simpa [hs] using h
    exact ⟨.accepted, rfl, by rw [if_pos rfl]; exact if_pos ho⟩
  all_goals exact absurd (by simp [hs]) h

/-- The command of step 1 to one isolator. -/
def askOpen (c p : Panto) (b : Block) : Block :=
  if b.seq.phase = .halted then b
  else if p = c ∨ isoOpen b p = true then b
  else workCommand (moveIsolator p .opened .internal) b

theorem startWork_eq (c : Panto) (b : Block) : startWork c b =
    if (eachPanto (askOpen c) (setWork .switches b)).seq.phase = .halted then eachPanto (askOpen c) (setWork .switches b)
    else workCommand (moveSelector (selFor ((eachPanto (askOpen c) (setWork .switches b)).head c)) .internal)
      (eachPanto (askOpen c) (setWork .switches b)) := rfl

/-- What one command of step 1 does: it halts, or the isolator opens where it is CLOSED. -/
theorem askOpen_ends (hi : b.seq.phase ≠ .idle) (hh : b.seq.phase ≠ .halted) :
    (p ≠ c ∧ RefusesOpen (b.sw.iso.get p) b) ∧ HaltedFor .switch (askOpen c p b) ∨
    ¬(p ≠ c ∧ RefusesOpen (b.sw.iso.get p) b) ∧
      askOpen c p b = b.setIso p (if p = c then b.sw.iso.get p else openedForWork (b.sw.iso.get p)) := by
  unfold askOpen
  rw [if_neg hh]
  by_cases hp : p = c
  · right
    refine ⟨fun h => h.1 hp, ?_⟩
    rw [if_pos (.inl hp), if_pos hp, setIso_get]
  by_cases ho : isoOpen b p = true
  · right
    have hs : (b.sw.iso.get p).state = .opened := by
      simp only [isoOpen, TwoSw.isOpen, Bool.and_eq_true, beq_iff_eq] at ho
      exact ho.1
    refine ⟨by simp [RefusesOpen, hs], ?_⟩
    rw [if_pos (.inr ho), if_neg hp, openedForWork, if_neg (by simp [hs]), setIso_get]
  rw [if_neg (by simp [hp, ho])]
  by_cases hr : RefusesOpen (b.sw.iso.get p) b
  · left
    obtain ⟨code, hcode⟩ := moveIsolator_refused hr
    rw [workCommand_refused hcode]
    exact ⟨⟨hp, hr⟩, haltedFor_halt hi hh⟩
  · right
    obtain ⟨o, hno, ho⟩ := moveIsolator_taken hr
    rw [workCommand_taken ho hno, if_neg hp]
    exact ⟨fun h => hr h.2, rfl⟩

/-- The commands of step 1 to the isolators of a list, in their order. -/
structure AskedOpen (c : Panto) (ps : List Panto) (b x : Block) : Prop where
  refused : (∃ p ∈ ps, p ≠ c ∧ RefusesOpen (b.sw.iso.get p) b) → HaltedFor .switch x
  taken   : (¬∃ p ∈ ps, p ≠ c ∧ RefusesOpen (b.sw.iso.get p) b) →
    ∃ iso, x = { b with sw := { b.sw with iso := iso } } ∧
      ∀ p, iso.get p = if p ∈ ps ∧ p ≠ c then openedForWork (b.sw.iso.get p) else b.sw.iso.get p

theorem askedOpen_foldl (ps : List Panto) (hnd : ps.Nodup) (hi : b.seq.phase ≠ .idle) (hh : b.seq.phase ≠ .halted) :
    AskedOpen c ps b (ps.foldl (fun a r => askOpen c r a) b) := by
  have hstays (ps : List Panto) {a : Block} (ha : HaltedFor .switch a) :
      ps.foldl (fun a r => askOpen c r a) a = a := by
    induction ps with
    | nil => rfl
    | cons r rs ih => rw [List.foldl_cons, askOpen, if_pos ha.1, ih]
  induction ps generalizing b with
  | nil => exact ⟨fun ⟨_, h, _⟩ => absurd h List.not_mem_nil, fun _ => ⟨b.sw.iso, rfl, fun p => by simp⟩⟩
  | cons r rs ih =>
    rw [List.foldl_cons]
    obtain ⟨hr, hnd'⟩ := List.nodup_cons.mp hnd
    rcases askOpen_ends (c := c) (p := r) hi hh with ⟨href, hhalt⟩ | ⟨hno, heq⟩
    · rw [hstays rs hhalt]
      exact ⟨fun _ => hhalt, fun h => absurd ⟨r, List.mem_cons_self .., href⟩ h⟩
    · rw [heq]
      generalize hv : (if r = c then b.sw.iso.get r else openedForWork (b.sw.iso.get r)) = v
      have hih := ih (b := b.setIso r v) hnd' hi hh
      have hget (p : Panto) (hp : p ≠ r) : (b.setIso r v).sw.iso.get p = b.sw.iso.get p := PerP.get_set_ne _ _ hp
      have hiff (p : Panto) (hp : p ∈ rs) : RefusesOpen ((b.setIso r v).sw.iso.get p) (b.setIso r v) ↔
          RefusesOpen (b.sw.iso.get p) b := by
        rw [hget p fun h => hr (h ▸ hp)]
        rfl
      refine ⟨fun ⟨p, hp, hne, href⟩ => ?_, fun hnone => ?_⟩
      · rcases List.mem_cons.mp hp with rfl | hp
        · exact absurd ⟨hne, href⟩ hno
        · exact hih.refused ⟨p, hp, hne, (hiff p hp).mpr href⟩
      · obtain ⟨iso, hx, hiso⟩ := hih.taken fun ⟨p, hp, hne, href⟩ =>
          hnone ⟨p, List.mem_cons_of_mem _ hp, hne, (hiff p hp).mp href⟩
        refine ⟨iso, hx, fun p => ?_⟩
        rw [hiso]
        by_cases hp : p = r
        · subst hp
          have hself : (b.setIso p v).sw.iso.get p = v := PerP.get_set_self _ _ _
          rw [if_neg fun h => hr h.1, hself, ← hv]
          by_cases hc : p = c
          · rw [if_pos hc, if_neg fun h => h.2 hc]
          · rw [if_neg hc, if_pos ⟨List.mem_cons_self .., hc⟩]
        · rw [hget p hp]
          simp only [List.mem_cons, hp, false_or]

/-! ## The selector (R135, step 2) -/

/-- The selector command of the work is refused. -/
def RefusesSelector (c : Panto) (b : Block) : Prop :=
  b.sw.selector.state ∈ [.moving, .failed] ∨
    b.sw.selector.state ≠ (selFor (b.head c)).atRest ∧ b.sw.breaker.isOpen = false

theorem examine_selector {v : SelSw} {pos : SelPos} (hm : v.state ≠ .moving) (hf : v.state ≠ .failed) :
    v.examine pos = if v.state = pos.atRest then some .done else none := by
  unfold SelSw.examine
  split
  case h_1 h => exact absurd h hm
  case h_2 h => exact absurd h hf
  case h_3 => rfl

theorem moveSelector_refused (h : RefusesSelector c b) :
    ∃ code, moveSelector (selFor (b.head c)) .internal b = (b, .refused code) := by
  unfold moveSelector
  by_cases hm : b.sw.selector.state = .moving
  · exact ⟨.busy, by rw [SelSw.examine, hm]⟩
  by_cases hf : b.sw.selector.state = .failed
  · exact ⟨.notAvailable, by rw [SelSw.examine, hf]⟩
  obtain ⟨hne, ho⟩ := h.resolve_left (by simp [hm, hf])
  refine ⟨.interlock, ?_⟩
  rw [examine_selector hm hf, if_neg hne, ho]
  rfl

theorem moveSelector_taken (h : ¬RefusesSelector c b) : ∃ o : ReplyOutcome, o.refuses = false ∧
    moveSelector (selFor (b.head c)) .internal b =
      (if b.sw.selector.state = (selFor (b.head c)).atRest then b
        else b.setSelector (b.sw.selector.move (selFor (b.head c)) .internal), o) := by
  obtain ⟨hrest, hopen⟩ := not_or.mp h
  have hm : b.sw.selector.state ≠ .moving := fun hm => hrest (by simp [hm])
  have hf : b.sw.selector.state ≠ .failed := fun hf => hrest (by simp [hf])
  unfold moveSelector
  rw [examine_selector hm hf]
  by_cases hat : b.sw.selector.state = (selFor (b.head c)).atRest
  · rw [if_pos hat, if_pos hat]
    exact ⟨.done, rfl, rfl⟩
  · have ho : b.sw.breaker.isOpen = true := by simpa [hat] using hopen
    rw [if_neg hat, if_neg hat, ho]
    exact ⟨.accepted, rfl, rfl⟩

/-! ## The entry to COAST -/

theorem refusesWork_iff (hb : x.sw = b.sw) (hcfg : x.cond.cfg = b.cond.cfg) : RefusesWork c b ↔
    (∃ p ∈ Panto.all, p ≠ c ∧ RefusesOpen (x.sw.iso.get p) x) ∨ RefusesSelector c x := by
  have hhead : x.head c = b.head c := by rw [Block.head, Block.cfg, hcfg]; rfl
  unfold RefusesWork RefusesSelector RefusesOpen
  rw [hb, hhead]
  simp only [Panto.mem_all, true_and]

/-- What the commands of steps 1 and 2 do, on the block at the entry. -/
theorem startWork_ends (hi : b.seq.phase ≠ .idle) (hh : b.seq.phase ≠ .halted) :
    (RefusesWork c b → HaltedFor .switch (startWork c b)) ∧
    (¬RefusesWork c b → (startWork c b).seq = { b.seq with work := .switches } ∧ (startWork c b).queue = b.queue ∧
      (∀ x, x ≠ c → ((startWork c b).sw.iso.get x).state =
        (if (b.sw.iso.get x).state = .closed then .opening else (b.sw.iso.get x).state)) ∧
      (startWork c b).sw.selector.state =
        (if b.sw.selector.state = (selFor (b.head c)).atRest then b.sw.selector.state else .moving)) := by
  have hask : AskedOpen c Panto.all (setWork .switches b) (eachPanto (askOpen c) (setWork .switches b)) :=
    askedOpen_foldl Panto.all (by decide) hi hh
  rw [refusesWork_iff (b := b) (x := setWork .switches b) rfl rfl, startWork_eq]
  generalize eachPanto (askOpen c) (setWork .switches b) = y at hask
  by_cases hr : ∃ p ∈ Panto.all, p ≠ c ∧ RefusesOpen ((setWork .switches b).sw.iso.get p) (setWork .switches b)
  · have hy := hask.refused hr
    rw [if_pos hy.1]
    exact ⟨fun _ => hy, fun h => absurd (.inl hr) h⟩
  obtain ⟨iso, hx, hiso⟩ := hask.taken hr
  have hseq : y.seq = { b.seq with work := .switches } := by rw [hx]; rfl
  have hqueue : y.queue = b.queue := by rw [hx]; rfl
  have hsel : y.sw.selector = b.sw.selector := by rw [hx]; rfl
  have hhead : y.head c = b.head c := by rw [hx]; rfl
  have hsame : RefusesSelector c y ↔ RefusesSelector c (setWork .switches b) := by rw [hx]; rfl
  have hstates (p : Panto) (hp : p ≠ c) : (y.sw.iso.get p).state =
      (if (b.sw.iso.get p).state = .closed then .opening else (b.sw.iso.get p).state) := by
    have hone : y.sw.iso.get p = openedForWork (b.sw.iso.get p) := by
      rw [hx]
      exact (hiso p).trans (if_pos ⟨Panto.mem_all p, hp⟩)
    rw [hone, openedForWork]
    split <;> rfl
  rw [if_neg (by rw [hseq]; exact hh), ← hsame]
  by_cases hs : RefusesSelector c y
  · obtain ⟨code, hcode⟩ := moveSelector_refused hs
    rw [workCommand_refused hcode]
    refine ⟨fun _ => haltedFor_halt ?_ ?_, fun h => absurd (.inr hs) h⟩
    · rw [hseq]
      exact hi
    · rw [hseq]
      exact hh
  · obtain ⟨o, hno, ho⟩ := moveSelector_taken hs
    rw [workCommand_taken ho hno, hsel, hhead]
    refine ⟨fun h => absurd h (not_or.mpr ⟨hr, hs⟩), fun _ => ?_⟩
    by_cases hat : b.sw.selector.state = (selFor (b.head c)).atRest
    · rw [if_pos hat, if_pos hat, hsel]
      exact ⟨hseq, hqueue, hstates, rfl⟩
    · rw [if_neg hat, if_neg hat]
      exact ⟨hseq, hqueue, hstates, rfl⟩

theorem reachesCoast_enters (h : ReachesCoast b) : seqStep b = enterCoast b := by
  rcases h with ⟨hp, hr, hdown⟩ | ⟨hp, hopen, hpath⟩
  · have hroof : roofDown b = true := by
      unfold roofDown adoptionWaits
      rw [hr, Bool.and_eq_true, Panto.all_all]
      refine ⟨rfl, fun p => ?_⟩
      have := hdown p
      simp only [List.mem_cons, List.not_mem_nil, or_false] at this
      rcases this with h | h | h <;> rw [h] <;> rfl
    simp only [seqStep, hp, hroof, if_true]
  · have hpass : passesLowering b = false := by
      unfold passesLowering
      rcases hpath with h | ⟨h, hnone⟩
      · rw [h]
      · have hno : (Panto.all.any fun p => (b.lc p).state.up && !servesExpected b p) = false := by
          rw [Bool.eq_false_iff]
          intro hany
          obtain ⟨p, -, hp⟩ := List.any_eq_true.mp hany
          have hst := hnone p
          cases hs : (b.lc p).state <;> simp [hs, LiftState.up] at hst hp
        simp only [List.mem_cons, List.not_mem_nil, or_false] at h
        rcases h with h | h <;> rw [h] <;> exact hno
    simp only [seqStep, hp, hopen, hpass, if_true]
    rfl

theorem startsWork_enterCoast (hw : HasSwitchWork b) (hc : chooseCandidate b = some c) : StartsWork c b (enterCoast b) := by
  obtain ⟨hneutral, hzone⟩ := hw
  have hz : zoneWithoutSystem { b with seq := { b.seq with phase := .coast, timer := none } } = false := by
    rw [Bool.eq_false_iff]
    intro h
    simp only [zoneWithoutSystem, Bool.and_eq_true, beq_iff_eq] at h
    exact hzone h
  have hup : staysUp { b with seq := { b.seq with phase := .coast, timer := none } } = false := by
    rw [Bool.eq_false_iff]
    intro h
    simp only [staysUp, Bool.and_eq_true, beq_iff_eq, Bool.not_eq_true'] at h
    exact absurd ((hneutral h.1).symm.trans h.2) (by decide)
  have hcand : chooseCandidate { b with seq := { b.seq with phase := .coast, timer := none } } = some c := hc
  have hwork : coastWork { b with seq := { b.seq with phase := .coast, timer := none } } =
      startWork c (setCandidate (some c) { b with seq := { b.seq with phase := .coast, timer := none } }) := by
    rw [coastWork, hz, hcand, hup]
    rfl
  have hset : (setCandidate (some c) { b with seq := { b.seq with phase := .coast, timer := none } }).sw = b.sw ∧
      (setCandidate (some c) { b with seq := { b.seq with phase := .coast, timer := none } }).cond = b.cond ∧
      (setCandidate (some c) { b with seq := { b.seq with phase := .coast, timer := none } }).seq.phase = .coast := by
    unfold setCandidate
    dsimp only
    split <;> exact ⟨rfl, rfl, rfl⟩
  have hstart : enterCoast b = (if (startWork c (setCandidate (some c) { b with seq := { b.seq with phase := .coast, timer := none } })).seq.phase = .coast ∧
      waitsForPosition (startWork c (setCandidate (some c) { b with seq := { b.seq with phase := .coast, timer := none } })) = true ∧
      5000 ≤ (startWork c (setCandidate (some c) { b with seq := { b.seq with phase := .coast, timer := none } })).queue.motionAge then
      halt .positionLost (startWork c (setCandidate (some c) { b with seq := { b.seq with phase := .coast, timer := none } }))
    else startWork c (setCandidate (some c) { b with seq := { b.seq with phase := .coast, timer := none } })) := by
    rw [enterCoast, hwork]
  generalize setCandidate (some c) { b with seq := { b.seq with phase := .coast, timer := none } } = a at hset hstart
  obtain ⟨hsw, hcond, hphase⟩ := hset
  obtain ⟨hrefused, htaken⟩ := startWork_ends (c := c) (b := a) (by simp [hphase]) (by simp [hphase])
  have hhead : a.head c = b.head c := by rw [Block.head, Block.cfg, hcond]; rfl
  have hiff : RefusesWork c a ↔ RefusesWork c b := by
    unfold RefusesWork
    rw [hsw, hhead]
  rw [hiff, hsw, hhead] at htaken
  rw [hiff] at hrefused
  rw [hstart]
  generalize startWork c a = y at *
  refine ⟨fun h => ?_, fun h => ?_, fun h => ?_, fun h => ?_⟩
  · have hy := hrefused h
    rw [if_neg (by simp [hy.1])]
    exact hy
  · obtain ⟨hseq, -⟩ := htaken h
    have hp : y.seq.phase = .coast := by rw [hseq]; exact hphase
    split
    · exact .inr (haltedFor_halt (by simp [hp]) (by simp [hp]))
    · exact .inl hp
  · obtain ⟨-, -, hiso, -⟩ := htaken h
    split
    · rw [sw_halt (by decide)]
      exact hiso
    · exact hiso
  · obtain ⟨-, -, -, hsel⟩ := htaken h
    split
    · rw [sw_halt (by decide)]
      exact hsel
    · exact hsel

/-! ## The close of the candidate's isolator (R135, steps 3 and 4) -/

theorem moveIsolator_close_refused (h : (b.sw.iso.get c).state ∈ [.closing, .opening, .failed] ∨
    (b.sw.iso.get c).state = .opened ∧ ((b.sw.iso.get c).disagree = true ∨ b.sw.breaker.isOpen = false)) :
    ∃ code, moveIsolator c .closed .internal b = (b, .refused code) := by
  unfold moveIsolator TwoSw.examine
  rcases h with h | ⟨h, ho⟩
  · simp only [List.mem_cons, List.not_mem_nil, or_false] at h
    rcases h with h | h | h
    · exact ⟨.busy, by rw [h]⟩
    · exact ⟨.busy, by rw [h]⟩
    · exact ⟨.notAvailable, by rw [h]⟩
  · by_cases hd : (b.sw.iso.get c).disagree = true
    · exact ⟨.notAvailable, by rw [h]; simp [hd]⟩
    · have hopen := ho.resolve_left hd
      refine ⟨.interlock, ?_⟩
      rw [h]
      simp [hd, isolatorInterlock, hopen]

/-- What the request for COLLECTING leaves, where it is granted (R9). -/
theorem grantCollecting_grants (h : b.role c = .collecting ∨
    b.role c = .none ∧ (∀ x, b.role x ≠ .collecting) ∧ b.plan.hold = false) :
    ∃ y, grantCollecting c b = some y ∧ y.sw = b.sw ∧ y.seq = b.seq := by
  unfold grantCollecting
  rcases h with h | ⟨hnone, hno, hold⟩
  · exact ⟨b, if_pos h, rfl, rfl⟩
  · have hany : (Panto.all.any fun p => p != c && b.role p == .collecting) = false := by
      rw [Bool.eq_false_iff]
      intro ha
      obtain ⟨p, -, hp⟩ := List.any_eq_true.mp ha
      simp only [Bool.and_eq_true, beq_iff_eq] at hp
      exact hno p hp.2
    refine ⟨setRole c .collecting .internal b, ?_, rfl, rfl⟩
    rw [if_neg (hno c), hany, hold, if_neg (by decide), if_neg (by decide), if_pos hnone]

theorem coast_close_refused (hp : b.seq.phase = .coast) (hc : b.seq.candidate = some c) (hw : b.seq.work = .switches)
    (hothers : ∀ x, x ≠ c → (b.sw.iso.get x).isOpen = true) (hsel : b.sw.selector.state = (selFor (b.head c)).atRest)
    (hgrant : b.role c = .collecting ∨ b.role c = .none ∧ (∀ x, b.role x ≠ .collecting) ∧ b.plan.hold = false)
    (hiso : (b.sw.iso.get c).state ∈ [.closing, .opening, .failed] ∨ (b.sw.iso.get c).state = .opened ∧
      ((b.sw.iso.get c).disagree = true ∨ b.sw.breaker.isOpen = false)) : HaltedFor .switch (seqStep b) := by
  obtain ⟨y, hy, hsw, hseq⟩ := grantCollecting_grants hgrant
  have hready : (othersOpen b c && selectorAt b c) = true := by
    rw [Bool.and_eq_true, othersOpen, Panto.all_all, selectorAt, beq_iff_eq]
    refine ⟨fun x => ?_, hsel⟩
    by_cases hx : x = c
    · simp [hx]
    · simp [isoOpen, hothers x hx]
  obtain ⟨code, hcode⟩ := moveIsolator_close_refused (c := c) (b := setWork .isolator y) (by
    show (y.sw.iso.get c).state ∈ _ ∨ (y.sw.iso.get c).state = _ ∧ ((y.sw.iso.get c).disagree = _ ∨ y.sw.breaker.isOpen = _)
    rw [hsw]
    exact hiso)
  have hstep : advanceWork b = halt .switch (setWork .isolator y) := by
    simp only [advanceWork, hc, hw, hready, if_true, hy]
    exact workCommand_refused hcode
  have hyp : (setWork .isolator y).seq.phase = .coast := by
    rw [← hp, ← hseq]
    rfl
  have hhalted : HaltedFor .switch (halt .switch (setWork .isolator y)) :=
    haltedFor_halt (by simp [hyp]) (by simp [hyp])
  simp only [seqStep, hp, coastStep, hstep]
  rw [if_neg (by simp [hhalted.1])]
  exact hhalted

/-! ## The obligation -/

/-- The answer of a close of the breaker in the phase IDLE of WORKSHOP with the hold clear. -/
theorem breakerClose_decided (hq : Leads q s.block) (hm : s.block.cond.mode = .workshop)
    (hp : s.block.seq.phase = .idle) (hh : s.block.plan.hold = false) :
    ∃ t, exec (.switchCommandBreakerClose q) s = .next t ∧ DecidedByState 0x11 q s.block.sw.breaker .closed s t := by
  obtain ⟨t, ht⟩ := exec_ends (.switchCommandBreakerClose q) s
  refine ⟨t, ht, decidedByState (examine_leader hq) ht (f := closeBreaker (sourceOf q.link)) ?_⟩
  have hp' : (refresh q.link s.block).seq.phase = .idle := hp
  have hh' : (refresh q.link s.block).plan.hold = false := hh
  rw [commandOwner hm]
  simp only [closeFromPhase, hp', hh', ne_eq, not_true_eq_false, if_false, Bool.false_eq_true]
  rfl

/-- Settles O49, by the switch work of the Sequencer and the examination of each command by the state of its switch
(R99, R135). -/
theorem switchesMoveOnCommand : Obligations.SwitchesMoveOnCommand := by
  unfold Obligations.SwitchesMoveOnCommand
  refine ⟨fun b c hr hw hc => ⟨_, rfl, ?_⟩, fun b c hp hc hw ho hs hg hi => ⟨_, rfl, coast_close_refused hp hc hw ho hs hg hi⟩,
    fun q s hq hp hm => ⟨fun pos h1 h2 h3 => selector_moves hq hp hm h1 h2 h3, fun pos => selector_decided pos hq hm,
      fun p pos => ?_, fun pos => ?_, fun hi hh => breakerClose_decided hq hm hi hh,
      fun p pos hs => isolator_moves hq hp hm hs, fun pos hs => earth_moves hq hp hm hs⟩,
    fun q k s hq hk hm => ?_, fun q sw s hq hm => ?_, fun q s hq hp hm =>
      ⟨clear_breaker hq hp hm, clear_selector hq hp hm, clear_isolator hq hp hm, clear_earth hq hp hm⟩⟩
  · rw [reachesCoast_enters hr]
    exact startsWork_enterCoast hw hc
  · obtain ⟨t, ht⟩ := exec_ends (.switchCommandIsolator q p pos) s
    exact ⟨t, ht, decidedByState (examine_leader hq) ht (commandOwner hm)⟩
  · obtain ⟨t, ht⟩ := exec_ends (.switchCommandEarth q pos) s
    exact ⟨t, ht, decidedByState (examine_leader hq) ht (commandOwner hm)⟩
  · rcases hk with rfl | ⟨pos, rfl⟩ | ⟨p, pos, rfl⟩ | ⟨pos, rfl⟩
    · exact command_wrongMode hq hm
    · exact command_wrongMode hq hm
    · exact command_wrongMode hq hm
    · exact command_wrongMode hq hm
  · refine request_refused (examine_leader hq) (if_neg ?_)
    show ¬(s.block.cond.mode = .standby ∨ s.block.cond.mode = .workshop)
    rcases hm with hm | hm <;> simp [hm]

end Sys2Proof.Machine
end

section
/-!
Settled readings and operation timeouts (R98, R100, R101), and the halts that they bring (R135, R137).
-/

namespace Sys2Proof.Machine

variable {q : Req} {s t : State} {b x y : Block} {p r c : Panto} {v w : TwoSw} {n : TwoPattern} {isB f : Bool} {i : SwId}

/-! ## A breaker that nothing moves where no path runs -/

/-- The breaker is not engaged, no path runs, and neither WAKING nor the standby lowering ends. -/
structure StaysDisengaged (v : TwoSw) (b : Block) : Prop where
  breaker    : b.sw.breaker = v
  disengaged : v.state ≠ .closing ∧ v.state ≠ .closed
  stopped    : Stopped b
  mode       : b.cond.mode ≠ .waking
  standby    : b.cond.standbyLowering = false

theorem StaysDisengaged.of_same (h : StaysDisengaged v b) (hsw : x.sw = b.sw) (hseq : x.seq = b.seq) (hcond : x.cond = b.cond) :
    StaysDisengaged v x :=
  ⟨by rw [hsw]; exact h.breaker, h.disengaged, by rw [Stopped, hseq]; exact h.stopped, by rw [hcond]; exact h.mode,
    by rw [hcond]; exact h.standby⟩

theorem StaysDisengaged.touches (h : StaysDisengaged v b) (ht : Touches p b x) (hsw : x.sw = b.sw) : StaysDisengaged v x :=
  ⟨by rw [hsw]; exact h.breaker, h.disengaged, by rw [Stopped, ht.seq]; exact h.stopped, by rw [ht.mode]; exact h.mode,
    by rw [ht.standby]; exact h.standby⟩

theorem Reaction.staysDisengaged (h : Reaction b x) (hb : StaysDisengaged v b) : StaysDisengaged v x := by
  have hcalm := not_needsContact_of_stopped hb.stopped
  rcases h.stopped hb.stopped (fun hw => hb.mode hw.1) with rfl | hstill | ⟨hstandby, -, -⟩
  · exact hb
  · cases hstill
    case guard engaged _ =>
      obtain ⟨h1, h2⟩ := hb.disengaged
      simp [breakerEngaged, hb.breaker, h1, h2] at engaged
    case release => exact hb.of_same rfl rfl rfl
    case withdraw => exact hb.of_same rfl rfl rfl
    case ice only =>
      rw [only.frame]
      exact hb.of_same rfl rfl rfl
    case ask p want granted alone =>
      exact (hb.of_same (x := setScraper (some p) b) rfl rfl rfl).touches (touches_ask p b) (sw_takeRaise p false _)
    case scrape p _ _ =>
      refine hb.touches (touches_scrape hcalm) ?_
      refine sw_takeLower (b := clearRole p b) false ?_ hcalm
      rw [role_clearRole_self]
      decide
  · exact absurd (hb.standby.symm.trans hstandby) (by decide)

theorem settle_staysDisengaged (a : Block) (judge : Bool) (hb : StaysDisengaged v b) : (settle a judge b).sw.breaker = v := by
  have h := (reactions_answers a judge b).keep (fun _ _ hs ha => hs.staysDisengaged ha) hb
  rw [settle_eq, (closed_close a (answers a judge b)).sw]
  exact h.breaker

/-! ## Lowers that wait on the breaker (R37) -/

/-- The answers begin with the guard of the breaker and the lowers that wait on it. -/
theorem reactions_after_release (a : Block) (judge : Bool) (b : Block) :
    Reactions (releasePending (guardBreaker b)) (answers a judge b) := by
  have hround : Reactions (releasePending (guardBreaker b)) (round b) :=
    (Reaction.advance.run.trans (reactions_wakingCheck _)).trans (reactions_standbyCheck _)
  exact (((hround.trans (reactions_rounds 11 _)).trans (reactions_iceSettle a judge _)).trans
    (reactions_standbyCheck _)).trans (reactions_guardBreaker _)

/-- What `releasePending` asks of one pantograph stays where it is done on another. -/
theorem releasePendingOf_pends (hcalm : ¬b.seq.NeedsContact) (hfree : holdsLower b = false) (hr : b.cond.restart = none)
    (hc : (b.lc p).state = .contact) (hp : (b.lc p).lowerPending = true) :
    releasePendingOf p b = b.setLift p (b.lc p).toLowering := by
  rw [releasePendingOf, if_pos ⟨hp, hc, hfree, (adoptionWaits_eq_false b).mpr hr⟩, beginLowering_of_calm hcalm]

/-- The pantographs may have changed, and the lower of `p` has begun or pends as before. -/
structure Releasing (p : Panto) (b y : Block) : Prop where
  frame : ∃ l, y = { b with lift := l }
  state : y.lc p = b.lc p ∨ (y.lc p).state = .lowering

/-- No lower of the pantograph pends. -/
def Released (r : Panto) (y : Block) : Prop := ¬((y.lc r).state = .contact ∧ (y.lc r).lowerPending = true)

theorem releasePendingOf_cases (hcalm : ¬b.seq.NeedsContact) (hfree : holdsLower b = false) (hr : b.cond.restart = none)
    (hy : Releasing p b y) : releasePendingOf r y = y ∧ Released r y ∨
      releasePendingOf r y = y.setLift r (y.lc r).toLowering := by
  obtain ⟨⟨l, rfl⟩, -⟩ := hy
  by_cases hpend : (Block.lc { b with lift := l } r).state = .contact ∧ (Block.lc { b with lift := l } r).lowerPending = true
  · exact .inr (releasePendingOf_pends hcalm hfree hr hpend.1 hpend.2)
  · refine .inl ⟨?_, hpend⟩
    rw [releasePendingOf, if_neg fun h => hpend ⟨h.2.1, h.1⟩]

theorem releasePending_lowers (hcalm : ¬b.seq.NeedsContact) (hfree : holdsLower b = false) (hr : b.cond.restart = none)
    (hc : (b.lc p).state = .contact) (hp : (b.lc p).lowerPending = true) :
    ((releasePending b).lc p).state = .lowering := by
  have h := foldl_each (f := releasePendingOf) (I := Releasing p b) (Q := Released) (ps := Panto.all) (b := b)
    (fun r y hy => ?_) (fun r y hy => ?_) (fun r u y hu hy hq => ?_) ⟨⟨b.lift, rfl⟩, .inl rfl⟩
  · obtain ⟨⟨-, hstate⟩, hreleased⟩ := h
    refine hstate.resolve_left fun heq => ?_
    refine hreleased p (.inl (Panto.mem_all p)) ?_
    rw [heq]
    exact ⟨hc, hp⟩
  · rcases releasePendingOf_cases (r := r) hcalm hfree hr hy with ⟨heq, -⟩ | heq
    · rwa [heq]
    · obtain ⟨⟨l, rfl⟩, hstate⟩ := hy
      rw [heq]
      refine ⟨⟨_, rfl⟩, ?_⟩
      by_cases hpr : p = r
      · subst hpr
        rw [lc_setLift_self]
        exact .inr rfl
      · rw [lc_setLift_ne _ _ hpr]
        exact hstate
  · rcases releasePendingOf_cases (r := r) hcalm hfree hr hy with ⟨heq, hq⟩ | heq
    · rwa [heq]
    · rw [heq, Released, lc_setLift_self]
      rintro ⟨h, -⟩
      cases h
  · rcases releasePendingOf_cases (r := r) hcalm hfree hr hy with ⟨heq, -⟩ | heq
    · rwa [heq]
    · rw [heq, Released, lc_setLift_ne _ _ hu]
      exact hq

/-- With the breaker not engaged the pending lowers begin. -/
theorem settle_releases (a : Block) (judge : Bool) (hstop : Stopped b) (hfree : holdsLower b = false)
    (hr : b.cond.restart = none) (hc : (b.lc p).state = .contact) (hp : (b.lc p).lowerPending = true) :
    ((settle a judge b).lc p).state = .lowering := by
  have heng : breakerEngaged b = false := by
    unfold holdsLower at hfree
    unfold breakerEngaged
    revert hfree
    cases b.sw.breaker.state <;> decide
  have hguard : guardBreaker b = b := if_neg (by simp [heng])
  have hlow := releasePending_lowers (not_needsContact_of_stopped hstop) hfree hr hc hp
  have hrun := reactions_after_release a judge b
  rw [hguard] at hrun
  have hsame := hrun.acts.same (p := p) (.inl (by simp [hlow]))
  have hclosed : (settle a judge b).lift = (answers a judge b).lift := (closed_close a (answers a judge b)).lift
  rw [Block.lc, hclosed]
  exact hsame.state.trans hlow

/-! ## The judging of a reading (R98, R100, R101) -/

theorem settle_travelling (h : v.state.travelling = true) : v.settle isB n =
    if n.shows v.lastCmd then ({ v with settled := n, state := v.lastCmd.atRest, timer := none, disagree := false }, false)
    else if n.openContact && n.closedContact then (TwoSw.fail isB { v with settled := n }, true)
    else ({ v with settled := n }, false) := by
  unfold TwoSw.settle
  cases hs : v.state
  case closing | opening => rfl
  all_goals
    rw [hs] at h
    cases h

theorem settle_opened (h : v.state = .opened) : v.settle isB n =
    ({ v with settled := n, disagree := !n.shows .opened }, !n.shows .opened && v.settled.shows .opened) := by
  simp only [TwoSw.settle, h]
  cases n.shows .opened <;> rfl

theorem settle_closed (h : v.state = .closed) : v.settle isB n =
    if n.shows .closed then ({ v with settled := n, disagree := false }, false)
    else if isB && n.shows .opened then
      ({ v with settled := n, state := .opened, lastCmd := .opened, source := .external, disagree := false
                output := .opened }, false)
    else (TwoSw.fail isB { v with settled := n }, true) := by
  simp only [TwoSw.settle, h]

theorem settle_failed (h : v.state = .failed) :
    v.settle isB n = ({ v with settled := n, disagree := !n.consistent }, false) := by
  simp only [TwoSw.settle, h]

theorem shows_opened_iff : n.shows .opened = true ↔ n = ⟨true, false⟩ := by
  obtain ⟨o, c⟩ := n
  cases o <;> cases c <;> decide

theorem shows_closed_iff : n.shows .closed = true ↔ n = ⟨false, true⟩ := by
  obtain ⟨o, c⟩ := n
  cases o <;> cases c <;> decide

theorem shows_of_both (pos : TwoPos) : TwoPattern.shows ⟨true, true⟩ pos = false := by cases pos <;> rfl

theorem both_iff : (n.openContact && n.closedContact) = true ↔ n = ⟨true, true⟩ := by
  obtain ⟨o, c⟩ := n
  cases o <;> cases c <;> decide

/-- A reading of a switch in travel that shows two positions. -/
theorem settle_both (h : v.state.travelling = true) :
    v.settle isB ⟨true, true⟩ = (TwoSw.fail isB { v with settled := ⟨true, true⟩ }, true) := by
  rw [settle_travelling h, shows_of_both]
  rfl

/-- A reading that brings a CLOSED switch out of its position with a fault. -/
theorem settle_closed_fails (h : v.state = .closed) (hn : n ≠ ⟨false, true⟩) (hb : ¬(isB = true ∧ n = ⟨true, false⟩)) :
    v.settle isB n = (TwoSw.fail isB { v with settled := n }, true) := by
  rw [settle_closed h, if_neg (mt shows_closed_iff.mp hn), if_neg]
  rw [Bool.and_eq_true, shows_opened_iff]
  exact hb

/-- What the judging of a reading comes to, where the switch and the count stay as it leaves them. -/
theorem judgesReading (hw : w = (v.settle isB n).1) (hf : faultCount .switchFailed t.block =
      if (v.settle isB n).2 then oneMore .switchFailed s.block else faultCount .switchFailed s.block) :
    JudgesReading isB n v w s t where
  ends ht hn := by rw [hw, settle_travelling ht, if_pos hn]
  waits ht hn hb := by rw [hw, settle_travelling ht, if_neg (by simp [hn]), if_neg (mt both_iff.mp hb)]
  agrees h := by
    rcases h with ⟨h, rfl⟩ | ⟨h, rfl⟩
    · rw [hw, settle_opened h]
      rfl
    · rw [hw, settle_closed h]
      rfl
  differs h hn := by
    have hno : n.shows .opened = false := by simpa using mt shows_opened_iff.mp hn
    rw [hw, settle_opened h, hno]
    rfl
  fails h := by
    have heq : v.settle isB n = (TwoSw.fail isB { v with settled := n }, true) := by
      rcases h with ⟨h, rfl⟩ | ⟨h, hn, hb⟩
      · exact settle_both h
      · exact settle_closed_fails h hn hb
    rw [heq] at hw hf
    subst hw
    exact ⟨rfl, rfl, rfl, hf⟩
  failed h := by rw [hw, settle_failed h]
  recorded h hn hs := by
    have hno : n.shows .opened = false := by simpa using mt shows_opened_iff.mp hn
    rw [settle_opened h, hno, hs] at hf
    exact hf
  silent h := by
    refine hf.trans (if_neg ?_)
    rcases h with h | ⟨h, hn⟩ | ⟨h, hn⟩
    · rw [settle_failed h]
      exact Bool.false_ne_true
    · rw [settle_opened h]
      simp only [Bool.and_eq_true, Bool.not_eq_true', not_and, Bool.not_eq_true]
      intro hno
      rcases hn with rfl | hn
      · cases hno
      · simpa using mt shows_opened_iff.mp hn
    · rw [settle_travelling h]
      split
      · exact Bool.false_ne_true
      · rw [if_neg (mt both_iff.mp hn)]
        exact Bool.false_ne_true

/-! ## The selector -/

theorem settle_moving {v : SelSw} {n : SelPattern} (h : v.state = .moving) : v.settle n =
    if n.shows v.lastCmd then
      ({ v with settled := n, state := v.lastCmd.atRest, timer := none, disagree := false, drive := none }, false)
    else if n.several then (SelSw.fail { v with settled := n }, true)
    else ({ v with settled := n }, false) := by
  simp only [SelSw.settle, h]

theorem settle_moving_several {v : SelSw} {n : SelPattern} (h : v.state = .moving) (hn : n.several = true) :
    v.settle n = (SelSw.fail { v with settled := n }, true) := by
  have hno : n.shows v.lastCmd = false := by
    obtain ⟨a, m, d⟩ := n
    generalize v.lastCmd = pos
    revert hn
    cases pos <;> cases a <;> cases m <;> cases d <;> decide
  rw [settle_moving h, if_neg (by simp [hno]), if_pos hn]

theorem settle_rest_fails {v : SelSw} {n : SelPattern} {pos : SelPos} (h : v.state = pos.atRest) (hn : n.shows pos = false) :
    v.settle n = (SelSw.fail { v with settled := n }, true) := by
  unfold SelSw.settle
  cases pos <;> simp only [h, SelPos.atRest, hn] <;> rfl

/-! ## Readings and timeouts as events -/

theorem faultCount_failureIf (f : Bool) (i : SwId) (b : Block) : faultCount .switchFailed (failureIf f i b) =
    if f then oneMore .switchFailed b else faultCount .switchFailed b := by
  cases f
  case false => rfl
  case true => exact faultCount_recordFault_self _ _ _

/-- A fault recorded of a switch touches the Fault Record alone. -/
structure OnlyFaults (b x : Block) : Prop where
  seq  : x.seq = b.seq
  sw   : x.sw = b.sw
  lift : x.lift = b.lift
  kept : x.kept = b.kept
  mode : x.cond.mode = b.cond.mode ∧ x.cond.standbyLowering = b.cond.standbyLowering ∧ x.cond.restart = b.cond.restart

theorem onlyFaults_failureIf (f : Bool) (i : SwId) (b : Block) : OnlyFaults b (failureIf f i b) := by
  cases f <;> exact ⟨rfl, rfl, rfl, rfl, rfl, rfl, rfl⟩

/-- An event at which a switch comes to a new record, with whether SWITCH_FAILED is recorded, while no path runs. -/
theorem movement_ends {g : Block → Block} (hp : Stopped s.block)
    (hg : g s.block = haltIfLeft s.block (failureIf f i x)) : ∃ t, event s false g = .next t ∧
      t.block = settle s.block false (failureIf f i x) := by
  refine ⟨_, rfl, ?_⟩
  show settle s.block false (g s.block) = _
  rw [hg, haltIfLeft_stopped hp]

/-- What stands after such an event. -/
structure Moved (f : Bool) (x : Block) (s t : State) : Prop where
  kept  : t.block.kept = x.kept
  sw    : t.block.sw = { x.sw with breaker := t.block.sw.breaker }
  count : faultCount .switchFailed t.block = if f then oneMore .switchFailed s.block else faultCount .switchFailed s.block

theorem movement_moved {g : Block → Block} (hp : Stopped s.block) (hg : g s.block = haltIfLeft s.block (failureIf f i x))
    (hx : x.seq = s.block.seq) (hc : x.cond = s.block.cond) : ∃ t, event s false g = .next t ∧ Moved f x s t ∧
      t.block = settle s.block false (failureIf f i x) := by
  obtain ⟨t, ht, hb⟩ := movement_ends hp hg
  have hf := onlyFaults_failureIf f i x
  have hst := settle_stands s.block false (b := failureIf f i x) (by rw [Stopped, hf.seq, hx]; exact hp)
  rw [← hb] at hst
  refine ⟨t, ht, ⟨?_, ?_, ?_⟩, hb⟩
  · rw [hb, kept_settle, hf.kept]
  · rw [hst.sw, hf.sw]
  · rw [faultCount_of_faults hst.faults, faultCount_failureIf]
    have hsame : faultCount .switchFailed x = faultCount .switchFailed s.block := by rw [faultCount, faultCount, hc]
    rw [oneMore, oneMore, hsame]

end Sys2Proof.Machine
end

section
/-!
The ends of movements while no path runs, and the halts that a switch brings to a running one (R98, R100 to R102, R135, R137).
-/

namespace Sys2Proof.Machine

variable {q : Req} {s t : State} {b x y : Block} {p c : Panto} {n : TwoPattern} {f : Bool} {i : SwId} {k : SelPattern}

/-! ## The breaker -/

/-- Where the breaker ends disengaged. -/
theorem Moved.disengaged (hb : t.block = settle s.block false (failureIf f i x)) (hp : Stopped s.block)
    (hm : s.block.cond.mode ≠ .waking) (hst : s.block.cond.standbyLowering = false) (hx : x.seq = s.block.seq)
    (hc : x.cond = s.block.cond) (hd : x.sw.breaker.state ≠ .closing ∧ x.sw.breaker.state ≠ .closed) :
    t.block.sw.breaker = x.sw.breaker := by
  have hf := onlyFaults_failureIf f i x
  rw [hb]
  refine settle_staysDisengaged s.block false ⟨by rw [hf.sw], hd, by rw [Stopped, hf.seq, hx]; exact hp, ?_, ?_⟩
  · rw [hf.mode.1, hc]
    exact hm
  · rw [hf.mode.2.1, hc]
    exact hst

/-- A reading of the breaker, with no path run. -/
structure BreakerRead (n : TwoPattern) (s t : State) : Prop where
  kept  : t.block.kept = s.block.kept
  count : faultCount .switchFailed t.block =
    if (s.block.sw.breaker.settle true n).2 then oneMore .switchFailed s.block else faultCount .switchFailed s.block
  block : t.block = settle s.block false (failureIf (s.block.sw.breaker.settle true n).2 .breaker
    (s.block.setBreaker (s.block.sw.breaker.settle true n).1))

theorem breaker_read (n : TwoPattern) (hp : Stopped s.block) :
    ∃ t, exec (.settledReading (.breaker n)) s = .next t ∧ BreakerRead n s t := by
  obtain ⟨t, ht, hmoved, hb⟩ := movement_moved (g := settledReading (.breaker n)) (i := .breaker)
    (f := (s.block.sw.breaker.settle true n).2) (x := s.block.setBreaker (s.block.sw.breaker.settle true n).1) hp rfl rfl rfl
  exact ⟨t, ht, hmoved.kept, hmoved.count, hb⟩

theorem BreakerRead.disengaged (h : BreakerRead n s t) (hp : Stopped s.block) (hm : s.block.cond.mode ≠ .waking)
    (hst : s.block.cond.standbyLowering = false) (hd : (s.block.sw.breaker.settle true n).1.state ≠ .closing ∧
      (s.block.sw.breaker.settle true n).1.state ≠ .closed) :
    t.block.sw.breaker = (s.block.sw.breaker.settle true n).1 :=
  Moved.disengaged h.block hp hm hst rfl rfl hd

/-- The breaker at OPEN, with the lowers that waited for it (R37, R98). -/
theorem breaker_opens (h : BreakerRead n s t) (hp : Stopped s.block) (hm : s.block.cond.mode ≠ .waking)
    (hst : s.block.cond.standbyLowering = false) (hs : s.block.sw.breaker.state = .opening)
    (hl : s.block.sw.breaker.lastCmd = .opened) (hn : n.shows .opened = true) :
    t.block.sw.breaker.state = .opened ∧ t.block.sw.breaker.timer = none ∧
    (s.block.cond.restart = none → ∀ p, (s.block.lc p).state = .contact → (s.block.lc p).lowerPending = true →
      (t.block.lc p).state = .lowering) := by
  have heq : s.block.sw.breaker.settle true n =
      ({ s.block.sw.breaker with
        settled := n, state := .opened, lastCmd := .opened, timer := none, disagree := false }, false) := by
    rw [settle_travelling (by rw [hs]; rfl), hl, if_pos hn]
    rfl
  have hend := h.disengaged hp hm hst (by rw [heq]; exact ⟨TwoState.noConfusion, TwoState.noConfusion⟩)
  have hb := h.block
  rw [heq] at hend hb
  rw [hend]
  refine ⟨rfl, rfl, fun hr p hc hpend => ?_⟩
  rw [hb]
  exact settle_releases s.block false hp rfl hr hc hpend

/-- The breaker that a reading shows at CLOSED. -/
def TwoSw.closedBy (n : TwoPattern) (v : TwoSw) : TwoSw :=
  { v with settled := n, state := .closed, lastCmd := .closed, timer := none, disagree := false }

/-- The breaker at CLOSED (R98), where the conditions of its close stand. -/
theorem breaker_closes (h : BreakerRead n s t) (hp : Stopped s.block) (hm : s.block.cond.mode ≠ .waking)
    (hs : s.block.sw.breaker.state = .closing) (hl : s.block.sw.breaker.lastCmd = .closed) (hn : n.shows .closed = true)
    (hc : closeConditions s.block = true) : t.block.sw.breaker.state = .closed ∧ t.block.sw.breaker.timer = none := by
  have heq : s.block.sw.breaker.settle true n =
      (s.block.sw.breaker.closedBy n, false) := by
    rw [settle_travelling (by rw [hs]; rfl), hl, if_pos hn]
    rfl
  have hb := h.block
  rw [heq] at hb
  have hend := settle_staysClosed s.block false (b := s.block.setBreaker (s.block.sw.breaker.closedBy n))
    ⟨rfl, .inr rfl, hc, hp, hm⟩
  have hsame : t.block.sw.breaker = s.block.sw.breaker.closedBy n := by
    rw [hb]
    exact hend
  rw [hsame]
  exact ⟨rfl, rfl⟩

/-- A CLOSED breaker that shows open has tripped (R101). -/
theorem breaker_trips (h : BreakerRead n s t) (hp : Stopped s.block) (hm : s.block.cond.mode ≠ .waking)
    (hst : s.block.cond.standbyLowering = false) (hs : s.block.sw.breaker.state = .closed) (hn : n.shows .opened = true) :
    t.block.sw.breaker.state = .opened ∧ t.block.sw.breaker.source = .external ∧
      faultCount .switchFailed t.block = faultCount .switchFailed s.block := by
  have hno : n.shows .closed = false := by
    rw [shows_opened_iff.mp hn]
    rfl
  have heq : s.block.sw.breaker.settle true n = ({ s.block.sw.breaker with
      settled := n, state := .opened, lastCmd := .opened, source := .external, disagree := false, output := .opened },
      false) := by
    rw [settle_closed hs, hno, hn]
    rfl
  have hend := h.disengaged hp hm hst (by rw [heq]; exact ⟨TwoState.noConfusion, TwoState.noConfusion⟩)
  have hcount := h.count
  rw [heq] at hend hcount
  rw [hend]
  exact ⟨rfl, rfl, hcount⟩

/-- A reading that leaves the breaker disengaged. -/
theorem breaker_judged (h : BreakerRead n s t) (hp : Stopped s.block) (hm : s.block.cond.mode ≠ .waking)
    (hst : s.block.cond.standbyLowering = false) (h1 : s.block.sw.breaker.state ≠ .closing)
    (h2 : ¬(s.block.sw.breaker.state = .closed ∧ n = ⟨false, true⟩))
    (h3 : s.block.sw.breaker.state = .opening → s.block.sw.breaker.lastCmd = .opened) :
    JudgesReading true n s.block.sw.breaker t.block.sw.breaker s t := by
  refine judgesReading (h.disengaged hp hm hst ?_) h.count
  cases hs : s.block.sw.breaker.state
  case closing => exact absurd hs h1
  case opening =>
    rw [settle_travelling (by rw [hs]; rfl), h3 hs]
    split
    · exact ⟨TwoState.noConfusion, TwoState.noConfusion⟩
    · split
      · exact ⟨TwoState.noConfusion, TwoState.noConfusion⟩
      · simp [hs]
  case opened =>
    rw [settle_opened hs]
    simp [hs]
  case closed =>
    rw [settle_closed hs, if_neg fun hn => h2 ⟨hs, shows_closed_iff.mp hn⟩]
    split <;> exact ⟨TwoState.noConfusion, TwoState.noConfusion⟩
  case failed =>
    rw [settle_failed hs]
    simp [hs]

theorem interrupted_iff (v : TwoSw) : v.closeInterrupted = true ↔ Interrupted v := by
  have hiff : v.settled.shows .closed = false ↔ v.settled ≠ ⟨false, true⟩ := by
    rw [← Bool.not_eq_true, shows_closed_iff]
  simp only [TwoSw.closeInterrupted, Interrupted, Bool.and_eq_true, beq_iff_eq, Bool.not_eq_true', hiff, and_assoc]

theorem breaker_timeout (hp : Stopped s.block) (hm : s.block.cond.mode ≠ .waking)
    (hst : s.block.cond.standbyLowering = false) (ht : s.block.sw.breaker.state.travelling = true) :
    ∃ t, exec (.switchOperationTimeout .breaker) s = .next t ∧ t.block.kept = s.block.kept ∧
      (Interrupted s.block.sw.breaker → t.block.sw.breaker = s.block.sw.breaker ∧
        faultCount .switchFailed t.block = faultCount .switchFailed s.block) ∧
      (¬Interrupted s.block.sw.breaker → t.block.sw.breaker.state = .failed ∧
        t.block.sw.breaker.output = .opened ∧ Records .switchFailed s t) := by
  by_cases hi : Interrupted s.block.sw.breaker
  · have hg : switchTimeoutOf .breaker s.block = haltIfLeft s.block (failureIf false .breaker s.block) := by
      rw [switchTimeoutOf, takeTimeout, (interrupted_iff _).mpr hi, if_neg (by simp)]
      rfl
    obtain ⟨t, he, hmoved, hb⟩ := movement_moved hp hg rfl rfl
    refine ⟨t, he, hmoved.kept, fun _ => ⟨Moved.disengaged hb hp hm hst rfl rfl ?_, hmoved.count⟩, fun h => absurd hi h⟩
    rw [hi.1]
    exact ⟨TwoState.noConfusion, TwoState.noConfusion⟩
  · have hno : s.block.sw.breaker.closeInterrupted = false := by
      rw [← Bool.not_eq_true, interrupted_iff]
      exact hi
    have hg : switchTimeoutOf .breaker s.block = haltIfLeft s.block
        (failureIf true .breaker (s.block.setBreaker (s.block.sw.breaker.fail true))) := by
      rw [switchTimeoutOf, takeTimeout, hno, ht]
      rfl
    obtain ⟨t, he, hmoved, hb⟩ := movement_moved hp hg rfl rfl
    refine ⟨t, he, hmoved.kept, fun h => absurd h hi, fun _ => ?_⟩
    have hend := Moved.disengaged hb hp hm hst rfl rfl ⟨TwoState.noConfusion, TwoState.noConfusion⟩
    rw [hend]
    exact ⟨rfl, rfl, hmoved.count⟩

/-! ## The other switches, while no path runs -/

theorem isolator_read (p : Panto) (n : TwoPattern) (hp : Stopped s.block) :
    ∃ t, exec (.settledReading (.iso p n)) s = .next t ∧ t.block.kept = s.block.kept ∧
      JudgesReading false n (s.block.sw.iso.get p) (t.block.sw.iso.get p) s t := by
  obtain ⟨t, ht, hmoved, -⟩ := movement_moved (g := settledReading (.iso p n)) (i := .iso p)
    (f := ((s.block.sw.iso.get p).settle false n).2) (x := s.block.setIso p ((s.block.sw.iso.get p).settle false n).1)
    hp rfl rfl rfl
  refine ⟨t, ht, hmoved.kept, judgesReading ?_ hmoved.count⟩
  rw [hmoved.sw]
  exact PerP.get_set_self _ _ _

theorem earth_read (n : TwoPattern) (hp : Stopped s.block) :
    ∃ t, exec (.settledReading (.earth n)) s = .next t ∧
      { t.block.kept with earth := s.block.kept.earth } = s.block.kept ∧
      JudgesReading false n s.block.sw.earth t.block.sw.earth s t := by
  obtain ⟨t, ht, hmoved, -⟩ := movement_moved (g := settledReading (.earth n)) (i := .earth)
    (f := (s.block.sw.earth.settle false n).2) (x := s.block.setEarth (s.block.sw.earth.settle false n).1) hp rfl rfl rfl
  refine ⟨t, ht, congrArg (fun k : Kept => { k with earth := s.block.kept.earth }) hmoved.kept, judgesReading ?_ hmoved.count⟩
  rw [hmoved.sw]
  rfl

theorem selector_read (k : SelPattern) (hp : Stopped s.block) :
    ∃ t, exec (.settledReading (.selector k)) s = .next t ∧ t.block.kept = s.block.kept ∧
      t.block.sw.selector = (s.block.sw.selector.settle k).1 ∧ faultCount .switchFailed t.block =
        if (s.block.sw.selector.settle k).2 then oneMore .switchFailed s.block else faultCount .switchFailed s.block := by
  obtain ⟨t, ht, hmoved, -⟩ := movement_moved (g := settledReading (.selector k)) (i := .selector)
    (f := (s.block.sw.selector.settle k).2) (x := s.block.setSelector (s.block.sw.selector.settle k).1) hp rfl rfl rfl
  refine ⟨t, ht, hmoved.kept, ?_, hmoved.count⟩
  rw [hmoved.sw]
  rfl

theorem selector_judged (k : SelPattern) (hp : Stopped s.block) :
    ∃ t, exec (.settledReading (.selector k)) s = .next t ∧ t.block.kept = s.block.kept ∧
      (s.block.sw.selector.state = .moving → k.shows s.block.sw.selector.lastCmd = false → k.several = false →
        t.block.sw.selector = { s.block.sw.selector with settled := k } ∧
        faultCount .switchFailed t.block = faultCount .switchFailed s.block) ∧
      (s.block.sw.selector.state = .moving ∧ k.several = true ∨
          (∃ pos : SelPos, s.block.sw.selector.state = pos.atRest ∧ k.shows pos = false) →
        t.block.sw.selector.state = .failed ∧ t.block.sw.selector.drive = none ∧ t.block.sw.selector.timer = none ∧
        Records .switchFailed s t) := by
  obtain ⟨t, ht, hkept, hsel, hcount⟩ := selector_read k hp
  refine ⟨t, ht, hkept, fun hs hn hm => ?_, fun h => ?_⟩
  · rw [settle_moving hs, hn, hm] at hsel hcount
    exact ⟨hsel, hcount⟩
  · have heq : s.block.sw.selector.settle k = (SelSw.fail { s.block.sw.selector with settled := k }, true) := by
      rcases h with ⟨hs, hn⟩ | ⟨pos, hs, hn⟩
      · exact settle_moving_several hs hn
      · exact settle_rest_fails hs hn
    rw [heq] at hsel hcount
    rw [hsel]
    exact ⟨rfl, rfl, rfl, hcount⟩

theorem switchTimeoutOf_selector (h : b.sw.selector.state = .moving) : switchTimeoutOf .selector b =
    haltIfLeft b (failureIf true .selector (b.setSelector b.sw.selector.fail)) := by
  rw [switchTimeoutOf, takeTimeout, if_pos h]
  rfl

theorem switchTimeoutOf_iso (h : (b.sw.iso.get p).state.travelling = true) : switchTimeoutOf (.iso p) b =
    haltIfLeft b (failureIf true (.iso p) (b.setIso p ((b.sw.iso.get p).fail false))) := by
  rw [switchTimeoutOf, takeTimeout, if_pos h]
  rfl

theorem selector_timeout (hp : Stopped s.block) (hs : s.block.sw.selector.state = .moving) :
    ∃ t, exec (.switchOperationTimeout .selector) s = .next t ∧
      t.block.kept = s.block.kept ∧ t.block.sw.selector.state = .failed ∧ t.block.sw.selector.drive = none ∧
      t.block.sw.selector.timer = none ∧ Records .switchFailed s t := by
  obtain ⟨t, he, hmoved, -⟩ := movement_moved hp (switchTimeoutOf_selector hs) rfl rfl
  have hsw := hmoved.sw
  exact ⟨t, he, hmoved.kept, by rw [hsw]; rfl, by rw [hsw]; rfl, by rw [hsw]; rfl, hmoved.count⟩

theorem earth_timeout (hp : Stopped s.block) (hs : s.block.sw.earth.state.travelling = true) :
    ∃ t, exec (.switchOperationTimeout .earth) s = .next t ∧
      { t.block.kept with earth := s.block.kept.earth } = s.block.kept ∧ t.block.sw.earth.state = .failed ∧
      t.block.sw.earth.output = s.block.sw.earth.output ∧ t.block.sw.earth.timer = none ∧
      Records .switchFailed s t := by
  have hg : switchTimeoutOf .earth s.block = haltIfLeft s.block
      (failureIf true .earth (s.block.setEarth (s.block.sw.earth.fail false))) := by
    rw [switchTimeoutOf, takeTimeout, if_pos hs]
    rfl
  obtain ⟨t, he, hmoved, -⟩ := movement_moved hp hg rfl rfl
  have hsw := hmoved.sw
  exact ⟨t, he, congrArg (fun k : Kept => { k with earth := s.block.kept.earth }) hmoved.kept, by rw [hsw]; rfl,
    by rw [hsw]; rfl, by rw [hsw]; rfl, hmoved.count⟩

theorem isolator_timeout (hp : Stopped s.block) (hs : (s.block.sw.iso.get p).state.travelling = true) :
    ∃ t, exec (.switchOperationTimeout (.iso p)) s = .next t ∧ t.block.kept = s.block.kept ∧
      (t.block.sw.iso.get p).state = .failed ∧ (t.block.sw.iso.get p).output = (s.block.sw.iso.get p).output ∧
      Records .switchFailed s t := by
  obtain ⟨t, he, hmoved, -⟩ := movement_moved hp (switchTimeoutOf_iso hs) rfl rfl
  have hiso : t.block.sw.iso.get p = (s.block.sw.iso.get p).fail false := by
    rw [hmoved.sw]
    exact PerP.get_set_self _ _ _
  exact ⟨t, he, hmoved.kept, by rw [hiso]; rfl, by rw [hiso]; rfl, hmoved.count⟩

theorem settledReading_iso {v : TwoSw} (h : (b.sw.iso.get p).settle false n = (v, f)) :
    settledReading (.iso p n) b = haltIfLeft b (failureIf f (.iso p) (b.setIso p v)) := by
  simp only [settledReading, takeReading, h]

theorem settledReading_selector {v : SelSw} (h : b.sw.selector.settle k = (v, f)) :
    settledReading (.selector k) b = haltIfLeft b (failureIf f .selector (b.setSelector v)) := by
  simp only [settledReading, takeReading, h]

/-! ## Halts (R135, R137) -/

theorem faultCount_halt_switch (k : FaultKind) (b : Block) : faultCount k (halt .switch b) = faultCount k b := by
  refine faultCount_of_faults ?_ k
  unfold halt
  split
  · rfl
  · split <;> rfl
  · rw [enterHalt_eq (by decide), openBreaker_cond]
    cases b.seq.activeEntry <;> rfl

/-- The movement of a switch halts the path (R135, R137). -/
def HaltsPath (b x : Block) : Prop :=
  ((watchesSwitches b && leftPosition b x) || (worksSwitches b && workFails b x)) = true

theorem haltIfLeft_halts (h : HaltsPath b x) : haltIfLeft b x = halt .switch x := if_pos h

/-- A switch that fails halts the path. -/
theorem movement_halts {g : Block → Block} (hi : s.block.seq.phase ≠ .idle) (hh : s.block.seq.phase ≠ .halted)
    (hg : g s.block = haltIfLeft s.block (failureIf true i x)) (hx : x.seq = s.block.seq) (hc : x.cond = s.block.cond)
    (hleft : HaltsPath s.block x) :
    ∃ t, event s false g = .next t ∧ HaltedFor .switch t.block ∧ Records .switchFailed s t := by
  have hf := onlyFaults_failureIf true i x
  have hseq : (failureIf true i x).seq = s.block.seq := hf.seq.trans hx
  have hhalt : g s.block = halt .switch (failureIf true i x) := hg.trans (haltIfLeft_halts hleft)
  obtain ⟨hphase, hreason⟩ := halt_reason (h := .switch) (b := failureIf true i x) (by rw [hseq]; exact hi)
    (by rw [hseq]; exact hh)
  have hst := settle_stands s.block false (b := halt .switch (failureIf true i x)) (.inr hphase)
  refine ⟨_, rfl, ?_, ?_⟩
  · show HaltedFor .switch (settle s.block false (g s.block))
    rw [hhalt, HaltedFor, hst.seq]
    exact ⟨hphase, hreason⟩
  · show faultCount .switchFailed (settle s.block false (g s.block)) = _
    rw [hhalt, faultCount_of_faults hst.faults, faultCount_halt_switch, faultCount_failureIf, if_pos rfl, oneMore, oneMore,
      faultCount, faultCount, hc]

/-- In the switch work, a switch of it that fails (R135). -/
theorem work_fails (hp : b.seq.phase = .coast ∨ b.seq.phase = .probe) (hc : b.seq.candidate = some c)
    (hw : b.seq.work ∈ [.switches, .isolator, .ready]) (hs : HasSwitchWork b)
    (hf : workFails b x = true) :
    HaltsPath b x := by
  have hup : staysUp b = false := by
    rw [Bool.eq_false_iff]
    intro h
    simp only [staysUp, Bool.and_eq_true, beq_iff_eq, Bool.not_eq_true'] at h
    exact absurd ((hs.1 h.1).symm.trans h.2) (by decide)
  have hworks : worksSwitches b = true := by
    simp only [List.mem_cons, List.not_mem_nil, or_false] at hw
    simp only [worksSwitches, Bool.and_eq_true, Bool.or_eq_true, beq_iff_eq, hup, hc, Bool.not_false, Option.isSome_some,
      and_true, or_assoc]
    exact ⟨hp, hw⟩
  rw [HaltsPath, hworks, hf, Bool.and_true, Bool.or_true]

theorem running_of_work (hp : s.block.seq.phase = .coast ∨ s.block.seq.phase = .probe) :
    s.block.seq.phase ≠ .idle ∧ s.block.seq.phase ≠ .halted := by
  rcases hp with hp | hp <;> rw [hp] <;> decide

theorem workFails_iso {v : TwoSw} (h : (b.sw.iso.get p).state ≠ .failed) (hv : v.state = .failed) :
    workFails b (b.setIso p v) = true := by
  rw [workFails, Bool.or_eq_true, Panto.all_any]
  refine .inr ⟨p, ?_⟩
  simp [Block.setIso, hv, h]

theorem workFails_selector {v : SelSw} (h : b.sw.selector.state ≠ .failed) (hv : v.state = .failed) :
    workFails b (b.setSelector v) = true := by
  simp [workFails, Block.setSelector, h, hv]

theorem not_failed_of_travelling {v : TwoSw} (h : v.state.travelling = true) : v.state ≠ .failed := by
  intro hf
  rw [hf] at h
  cases h

theorem not_failed_of_rest {v : SelSw} {pos : SelPos} (h : v.state = pos.atRest) : v.state ≠ .failed := by
  rw [h]
  cases pos <;> decide

/-- The halts of the switch work (R135). -/
theorem work_halts (hp : s.block.seq.phase = .coast ∨ s.block.seq.phase = .probe) (hc : s.block.seq.candidate = some c)
    (hw : s.block.seq.work ∈ [.switches, .isolator, .ready]) (hs : HasSwitchWork s.block) (p : Panto) :
    ((s.block.sw.iso.get p).state.travelling = true → ∃ t, exec (.switchOperationTimeout (.iso p)) s = .next t ∧
      HaltedFor .switch t.block ∧ Records .switchFailed s t) ∧
    (s.block.sw.selector.state = .moving → ∃ t, exec (.switchOperationTimeout .selector) s = .next t ∧
      HaltedFor .switch t.block ∧ Records .switchFailed s t) ∧
    (∀ x, (s.block.sw.iso.get p).state.travelling = true ∧ x = ⟨true, true⟩ ∧
        x.shows (s.block.sw.iso.get p).lastCmd = false ∨
        (s.block.sw.iso.get p).state = .closed ∧ x ≠ ⟨false, true⟩ →
      ∃ t, exec (.settledReading (.iso p x)) s = .next t ∧ HaltedFor .switch t.block ∧ Records .switchFailed s t) ∧
    ∀ x, s.block.sw.selector.state = .moving ∧ x.several = true ∨
        (∃ pos : SelPos, s.block.sw.selector.state = pos.atRest ∧ x.shows pos = false) →
      ∃ t, exec (.settledReading (.selector x)) s = .next t ∧ HaltedFor .switch t.block ∧ Records .switchFailed s t := by
  obtain ⟨hi, hh⟩ := running_of_work hp
  refine ⟨fun ht => ?_, fun ht => ?_, fun x hx => ?_, fun x hx => ?_⟩
  · exact movement_halts hi hh (switchTimeoutOf_iso ht) rfl rfl
      (work_fails hp hc hw hs (workFails_iso (not_failed_of_travelling ht) rfl))
  · exact movement_halts hi hh (switchTimeoutOf_selector ht) rfl rfl
      (work_fails hp hc hw hs (workFails_selector (by rw [ht]; decide) rfl))
  · have heq : (s.block.sw.iso.get p).settle false x =
        (TwoSw.fail false { s.block.sw.iso.get p with settled := x }, true) := by
      rcases hx with ⟨ht, rfl, -⟩ | ⟨hclosed, hne⟩
      · exact settle_both ht
      · exact settle_closed_fails hclosed hne (by simp)
    have hno : (s.block.sw.iso.get p).state ≠ .failed := by
      rcases hx with ⟨ht, -, -⟩ | ⟨hclosed, -⟩
      · exact not_failed_of_travelling ht
      · rw [hclosed]
        decide
    exact movement_halts hi hh (settledReading_iso heq) rfl rfl (work_fails hp hc hw hs (workFails_iso hno rfl))
  · have heq : s.block.sw.selector.settle x = (SelSw.fail { s.block.sw.selector with settled := x }, true) := by
      rcases hx with ⟨ht, hn⟩ | ⟨pos, ht, hn⟩
      · exact settle_moving_several ht hn
      · exact settle_rest_fails ht hn
    have hno : s.block.sw.selector.state ≠ .failed := by
      rcases hx with ⟨ht, -⟩ | ⟨pos, ht, -⟩
      · rw [ht]
        decide
      · exact not_failed_of_rest ht
    exact movement_halts hi hh (settledReading_selector heq) rfl rfl
      (work_fails hp hc hw hs (workFails_selector hno rfl))

/-! ## Switches that leave their position (R137) -/

/-- The candidate's isolator or the selector leaves its position in a phase that watches them. -/
theorem watch_fails (hp : b.seq.phase ∈ [.confirm, .masterReady, .close]) (hl : leftPosition b x = true) :
    HaltsPath b x := by
  have hwatch : watchesSwitches b = true := by
    simp only [List.mem_cons, List.not_mem_nil, or_false] at hp
    simp only [watchesSwitches, Bool.or_eq_true, beq_iff_eq, or_assoc]
    exact hp
  rw [HaltsPath, hwatch, hl, Bool.and_true, Bool.true_or]

theorem leftPosition_iso {v : TwoSw} (hc : b.seq.candidate = some c) (h : (b.sw.iso.get c).state = .closed)
    (hv : v.state ≠ .closed) : leftPosition b (b.setIso c v) = true := by
  simp [leftPosition, hc, h, hv, Block.setIso]

theorem leftPosition_selector {v : SelSw} (hc : b.seq.candidate = some c)
    (h : b.sw.selector.state = (selFor (b.head c)).atRest) (hv : v.state ≠ (selFor (b.head c)).atRest) :
    leftPosition b (b.setSelector v) = true := by
  have hno : selectorAt (b.setSelector v) c = false := by
    rw [selectorAt, beq_eq_false_iff_ne]
    exact hv
  have hat : selectorAt b c = true := by
    rw [selectorAt, beq_iff_eq]
    exact h
  simp only [leftPosition, hc, hat, hno, Bool.not_false, Bool.and_true, Bool.or_true]

theorem running_of_watched (hp : s.block.seq.phase ∈ [.confirm, .masterReady, .close]) :
    s.block.seq.phase ≠ .idle ∧ s.block.seq.phase ≠ .halted := by
  simp only [List.mem_cons, List.not_mem_nil, or_false] at hp
  rcases hp with hp | hp | hp <;> rw [hp] <;> decide

theorem failed_ne_atRest (pos : SelPos) : SelState.failed ≠ pos.atRest := by cases pos <;> decide

theorem moving_ne_atRest (pos : SelPos) : SelState.moving ≠ pos.atRest := by cases pos <;> decide

/-- A Switch Command taken in WORKSHOP that halts the path. -/
theorem command_halts {owner : Block → Answer} {f : Block → Block × ReplyOutcome} (hq : Leads q s.block)
    (hi : s.block.seq.phase ≠ .idle) (hh : s.block.seq.phase ≠ .halted)
    (ha : owner (refresh q.link s.block) = answerUnless none (watched f) (refresh q.link s.block))
    (hf : f (refresh q.link s.block) = (x, .accepted)) (hx : x.seq = s.block.seq)
    (hl : x.kept.links = (refresh q.link s.block).kept.links) (hleft : HaltsPath (refresh q.link s.block) x) :
    ∃ t, request q 0x11 .leader owner s = .next t ∧ HaltedFor .switch t.block ∧
      Answered s t q.link (plainReply 0x11 q .accepted) := by
  have hw : watched f (refresh q.link s.block) = (halt .switch x, .accepted) := by
    rw [watched, hf, haltIfLeft_halts hleft]
  obtain ⟨hphase, hreason⟩ := halt_reason (h := .switch) (b := x) (by rw [hx]; exact hi) (by rw [hx]; exact hh)
  have hlinks : (halt .switch x).kept.links = (refresh q.link s.block).kept.links := (links_halt .switch x).trans hl
  generalize halt .switch x = y at hw hphase hreason hlinks
  obtain ⟨t, ht, he⟩ := taken_ends (code := 0x11) (examine_leader hq) ha rfl hw rfl hlinks
  refine ⟨t, ht, ?_, he.plain⟩
  have hst := settle_stands s.block false (b := pushReply q.link (plainReply 0x11 q .accepted) y) (.inr hphase)
  rw [← he.settles] at hst
  rw [HaltedFor, hst.seq]
  exact ⟨hphase, hreason⟩

/-- The halts of the phases that watch the candidate's switches (R137). -/
theorem watch_halts (hp : s.block.seq.phase ∈ [.confirm, .masterReady, .close]) (hc : s.block.seq.candidate = some c) :
    (∀ x, (s.block.sw.iso.get c).state = .closed → x ≠ ⟨false, true⟩ →
      ∃ t, exec (.settledReading (.iso c x)) s = .next t ∧ HaltedFor .switch t.block ∧ Records .switchFailed s t) ∧
    (∀ x, s.block.sw.selector.state = (selFor (s.block.head c)).atRest → x.shows (selFor (s.block.head c)) = false →
      ∃ t, exec (.settledReading (.selector x)) s = .next t ∧ HaltedFor .switch t.block ∧ Records .switchFailed s t) ∧
    ∀ q, Leads q s.block → s.block.cond.mode = .workshop → s.block.sw.breaker.isOpen = true →
      ((s.block.sw.iso.get c).state = .closed → ∃ t, exec (.switchCommandIsolator q c .opened) s = .next t ∧
        HaltedFor .switch t.block ∧ Answered s t q.link (plainReply 0x11 q .accepted)) ∧
      ∀ pos, s.block.sw.selector.state = (selFor (s.block.head c)).atRest → pos ≠ selFor (s.block.head c) →
        ∃ t, exec (.switchCommandSelector q pos) s = .next t ∧
          HaltedFor .switch t.block ∧ Answered s t q.link (plainReply 0x11 q .accepted) := by
  obtain ⟨hi, hh⟩ := running_of_watched hp
  refine ⟨fun x hs hx => ?_, fun x hs hx => ?_, fun q hq hm ho => ⟨fun hs => ?_, fun pos hs hpos => ?_⟩⟩
  · exact movement_halts hi hh (settledReading_iso (settle_closed_fails hs hx (by simp))) rfl rfl
      (watch_fails hp (leftPosition_iso hc hs TwoState.noConfusion))
  · exact movement_halts hi hh (settledReading_selector (settle_rest_fails hs hx)) rfl rfl
      (watch_fails hp (leftPosition_selector hc hs (failed_ne_atRest _)))
  · have hmove : moveIsolator c .opened (sourceOf q.link) (refresh q.link s.block) =
        ((refresh q.link s.block).setIso c ((s.block.sw.iso.get c).move .opened (sourceOf q.link)), .accepted) := by
      simp only [moveIsolator, refresh_sw, TwoSw.examine, hs, isolatorInterlock, ho, if_true]
    have ha := commandOwner (q := q) (f := fun b => answerUnless ((b.sw.iso.get c).examine .opened)
      (watched (moveIsolator c .opened (sourceOf q.link))) b) hm
    have hexam : ((refresh q.link s.block).sw.iso.get c).examine .opened = none := by
      simp only [refresh_sw, TwoSw.examine, hs]
    rw [hexam] at ha
    exact command_halts hq hi hh ha hmove rfl rfl
      (watch_fails (b := refresh q.link s.block) hp (leftPosition_iso (b := refresh q.link s.block) hc hs TwoState.noConfusion))
  · have hexam : s.block.sw.selector.examine pos = none := by
      rw [examine_selector (by rw [hs]; exact (moving_ne_atRest _).symm) (by rw [hs]; exact (failed_ne_atRest _).symm), if_neg]
      rw [hs]
      revert hpos
      generalize selFor (s.block.head c) = k
      cases pos <;> cases k <;> decide
    have hmove : moveSelector pos (sourceOf q.link) (refresh q.link s.block) =
        ((refresh q.link s.block).setSelector (s.block.sw.selector.move pos (sourceOf q.link)), .accepted) := by
      simp only [moveSelector, refresh_sw, hexam, ho, if_true]
    have ha := commandOwner (q := q) (f := fun b => answerUnless (b.sw.selector.examine pos)
      (watched (moveSelector pos (sourceOf q.link))) b) hm
    have hexam' : (refresh q.link s.block).sw.selector.examine pos = none := hexam
    rw [hexam'] at ha
    exact command_halts hq hi hh ha hmove rfl rfl
      (watch_fails (b := refresh q.link s.block) hp
        (leftPosition_selector (b := refresh q.link s.block) hc hs (moving_ne_atRest _)))

/-! ## The obligation -/

/-- Settles O50, by the judging of each reading and timeout, what the answers leave of a breaker that is not engaged, and
the halts of a running path (R98, R100, R101, R135, R137). -/
theorem settledReadingsEndMovements : Obligations.SettledReadingsEndMovements := by
  unfold Obligations.SettledReadingsEndMovements
  refine ⟨fun p c s hp hc hw hs => work_halts hp hc hw hs p, fun c s hp hc => watch_halts hp hc,
    fun s hp hm hst => ⟨fun x => ?_, fun x hs hx => ?_, fun p x hs hx => ?_, fun x hs hx => ?_,
      fun p x => isolator_read p x hp, fun x => earth_read x hp, fun x h1 h2 h3 => ?_, fun x => selector_judged x hp,
      fun hs => selector_timeout hp hs, fun hs => earth_timeout hp hs, fun hs => breaker_timeout hp hm hst hs,
      fun p hs => isolator_timeout hp hs⟩⟩
  · obtain ⟨t, ht, h⟩ := breaker_read x hp
    exact ⟨t, ht, h.kept, fun hs hl hn => breaker_opens h hp hm hst hs hl hn,
      fun hs hl hn hc => breaker_closes h hp hm hs hl hn hc, fun hs hn => breaker_trips h hp hm hst hs hn⟩
  · obtain ⟨t, ht, hkept, hsel, -⟩ := selector_read x hp
    rw [settle_moving hs, if_pos hx] at hsel
    exact ⟨t, ht, hkept, by rw [hsel], by rw [hsel]⟩
  · obtain ⟨t, ht, hkept, hj⟩ := isolator_read p x hp
    have hends := hj.ends hs hx
    exact ⟨t, ht, hkept, by rw [hends], by rw [hends]⟩
  · obtain ⟨t, ht, -, hj⟩ := earth_read x hp
    have hends := hj.ends hs hx
    exact ⟨t, ht, by rw [hends], by rw [hends]⟩
  · obtain ⟨t, ht, h⟩ := breaker_read x hp
    exact ⟨t, ht, breaker_judged h hp hm hst h1 h2 h3⟩

end Sys2Proof.Machine
end

section
/-!
The Section Queue through the answers: withdrawals and announcements (R118 to R120, R123, R143).
-/

namespace Sys2Proof.Machine

variable {q : Req} {s t : State} {b x y : Block} {w : Ending} {id : Nat} {o : ReplyOutcome}

/-! ## What the answers leave of the queue and of the pre-heat -/

theorem Act.preheat (h : Act w b x) (hb : b.ice.preheat = none) : x.ice.preheat = none := by
  cases h
  case opens => rw [openBreaker_frame]; exact hb
  case serves n _ => rw [frame_serveEntry]; exact hb
  case stores only => rw [only]; exact hb
  case ice only => exact only.preheat hb
  all_goals exact hb

theorem settle_preheat (a : Block) (judge : Bool) (hb : b.ice.preheat = none) : (settle a judge b).ice.preheat = none := by
  obtain ⟨y, hacts, hclosed⟩ := settle_acts a judge b
  rw [hclosed.ice]
  exact hacts.keep (fun _ _ hs ha => hs.preheat ha) hb

/-- An answer changes of the entries their served marks alone. -/
theorem Act.entries (h : Act w b x) : ∃ f : Entry → Entry,
    (∀ e, (f e).id = e.id ∧ (f e).active = e.active) ∧ x.queue.entries = b.queue.entries.map f := by
  have hid {l : List Entry} (hl : l = b.queue.entries) : ∃ f : Entry → Entry,
      (∀ e, (f e).id = e.id ∧ (f e).active = e.active) ∧ l = b.queue.entries.map f :=
    ⟨fun e => e, fun _ => ⟨rfl, rfl⟩, by simp [hl]⟩
  cases h
  case opens => exact hid (by rw [openBreaker_frame])
  case serves n _ =>
    cases n
    case none => exact hid rfl
    case some n =>
      refine ⟨fun e => if e.id = n ∧ e.active = true then { e with served := true } else e, fun e => ?_, rfl⟩
      dsimp only
      split <;> exact ⟨rfl, rfl⟩
  case stores only => exact hid (by rw [only])
  case ice only => exact hid (by rw [only.frame])
  all_goals exact hid rfl

/-- A property of ids and of ACTIVE marks that some entry has, an entry still has. -/
theorem settle_entry_exists {P : Nat → Bool → Prop} (a : Block) (judge : Bool)
    (hb : ∃ e ∈ b.queue.entries, P e.id e.active) : ∃ e ∈ (settle a judge b).queue.entries, P e.id e.active := by
  obtain ⟨y, hacts, hclosed⟩ := settle_acts a judge b
  rw [hclosed.queue]
  refine hacts.keep (P := fun y => ∃ e ∈ y.queue.entries, P e.id e.active) (fun c d hs ⟨e, he, hp⟩ => ?_) hb
  obtain ⟨f, hf, hd⟩ := hs.entries
  obtain ⟨h1, h2⟩ := hf e
  refine ⟨f e, by rw [hd]; exact List.mem_map_of_mem he, ?_⟩
  rw [h1, h2]
  exact hp

/-- No entry of an id comes back. -/
theorem settle_entry_gone (a : Block) (judge : Bool) (hb : ∀ e ∈ b.queue.entries, e.id ≠ id) :
    ∀ e ∈ (settle a judge b).queue.entries, e.id ≠ id := by
  obtain ⟨y, hacts, hclosed⟩ := settle_acts a judge b
  rw [hclosed.queue]
  refine hacts.keep (P := fun y => ∀ e ∈ y.queue.entries, e.id ≠ id) (fun c d hs hc e he => ?_) hb
  obtain ⟨f, hf, hd⟩ := hs.entries
  rw [hd] at he
  obtain ⟨e', he', rfl⟩ := List.mem_map.mp he
  rw [(hf e').1]
  exact hc e' he'

/-- Nothing changes but the links. -/
theorem OnlyLinks.keepsRest (h : OnlyLinks s t) : KeepsRest s t := by
  rw [KeepsRest, h]
  rfl

/-! ## Withdraw Marker (R123, R143) -/

theorem holdsId_iff : holdsId b id = true ↔ ∃ e ∈ b.queue.entries, e.id = id := by
  simp only [holdsId, List.any_eq_true, beq_iff_eq]

/-- With no id held twice, the entry of an id is the one found. -/
theorem find_of_ids (hids : b.queue.entries.Pairwise fun x y => x.id ≠ y.id) {e : Entry} (he : e ∈ b.queue.entries)
    (hid : e.id = id) : b.queue.entries.find? (fun e => e.id == id) = some e := by
  induction hl : b.queue.entries generalizing b with
  | nil => rw [hl] at he; cases he
  | cons x l ih =>
    rw [hl] at he hids
    obtain ⟨hx, hids'⟩ := List.pairwise_cons.mp hids
    rcases List.mem_cons.mp he with rfl | hmem
    · simp [hid]
    · have hne : x.id ≠ id := fun h => hx e hmem (h.trans hid.symm)
      rw [List.find?_cons_of_neg (by simpa using hne)]
      exact ih (b := b.setEntries l) hids' hmem rfl

theorem removeId_gone (id : Nat) (b : Block) : ∀ e ∈ (removeId id b).queue.entries, e.id ≠ id := by
  intro e he
  have := (List.mem_filter.mp he).2
  simpa using this

/-- A withdrawal that is taken: the entry has gone. -/
theorem withdraw_taken (hq : Protects q s.block) (hheld : holdsId s.block id = true)
    (hw : withdraw id (refresh q.link s.block) = (x, .done)) (hk : x.kept = (refresh q.link s.block).kept)
    (hgone : ∀ e ∈ x.queue.entries, e.id ≠ id) : ∃ t, exec (.withdrawMarker q id) s = .next t ∧ KeepsRest s t ∧
      (∀ e ∈ t.block.queue.entries, e.id ≠ id) ∧ Answered s t q.link (plainReply 0x22 q .done) ∧
      t.block = settle s.block false (pushReply q.link (plainReply 0x22 q .done) x) := by
  have hheld' : holdsId (refresh q.link s.block) id = true := hheld
  obtain ⟨t, ht, he⟩ := taken_ends (code := 0x22) (examine_protection hq)
    (owner := fun b => answerUnless (if holdsId b id then none else some .done) (withdraw id) b) rfl
    (by rw [hheld']; rfl) hw rfl (congrArg Kept.links hk)
  have hblock := he.settles
  refine ⟨t, ht, he.keepsRest_of_kept hk, ?_, he.plain, hblock⟩
  rw [hblock]
  exact settle_entry_gone s.block false (b := pushReply q.link (plainReply 0x22 q .done) x) hgone

theorem withdraw_refresh (l : Link) (id : Nat) (s : Block) : withdraw id (refresh l s) =
    match s.queue.entries.find? (fun e => e.id == id) with
    | none => (refresh l s, .done)
    | some e =>
      if e.active = false ∨ e.served = true ∨ s.seq.activeEntry ≠ some id then (removeId id (refresh l s), .done)
      else match s.seq.phase with
        | .idle => (removeId id (refresh l s), .done)
        | .halted => (removeId id (refresh l s), .done)
        | .armed => (endByWithdrawal (removeId id (refresh l s)), .done)
        | .tractionOff => (endByWithdrawal (removeId id (refresh l s)), .done)
        | _ => (refresh l s, .refused .markerLocked) := rfl

/-- What a withdrawal comes to, the entry of the id being `e`. -/
structure Withdraws (q : Req) (id : Nat) (e : Entry) (s t : State) : Prop where
  kept  : KeepsRest s t
  goes  : e.active = false ∨ e.served = true ∨ s.block.seq.activeEntry ≠ some id ∨ s.block.seq.phase = .idle ∨
      s.block.seq.phase = .halted →
    (∀ x ∈ t.block.queue.entries, x.id ≠ id) ∧ Answered s t q.link (plainReply 0x22 q .done)
  ends  : e.active = true → e.served = false → s.block.seq.activeEntry = some id →
    s.block.seq.phase = .armed ∨ s.block.seq.phase = .tractionOff →
    (∀ x ∈ t.block.queue.entries, x.id ≠ id) ∧ t.block.seq.phase = .idle ∧ t.block.seq.path = none ∧
    t.block.record.tractionOff = false ∧ t.block.ice.preheat = none ∧ Answered s t q.link (plainReply 0x22 q .done)
  locks : e.active = true → e.served = false → s.block.seq.activeEntry = some id →
    s.block.seq.phase ∉ [.idle, .halted, .armed, .tractionOff] →
    OnlyLinks s t ∧ Answered s t q.link (plainReply 0x22 q (.refused .markerLocked))

theorem withdraws {e : Entry} (hq : Protects q s.block) (hf : s.block.queue.entries.find? (fun e => e.id == id) = some e) :
    ∃ t, exec (.withdrawMarker q id) s = .next t ∧ Withdraws q id e s t := by
  have hheld : holdsId s.block id = true :=
    holdsId_iff.mpr ⟨e, List.mem_of_find?_eq_some hf, by simpa using List.find?_some hf⟩
  have hfound := withdraw_refresh q.link id s.block
  simp only [hf] at hfound
  by_cases hfree : e.active = false ∨ e.served = true ∨ s.block.seq.activeEntry ≠ some id
  · rw [if_pos hfree] at hfound
    obtain ⟨t, ht, hkept, hgone, hans, -⟩ := withdraw_taken hq hheld hfound rfl (removeId_gone id _)
    refine ⟨t, ht, hkept, fun _ => ⟨hgone, hans⟩, fun h1 h2 h3 => ?_, fun h1 h2 h3 => ?_⟩
    all_goals simp [h1, h2, h3] at hfree
  rw [if_neg hfree] at hfound
  by_cases hstop : s.block.seq.phase = .idle ∨ s.block.seq.phase = .halted
  · have hw : withdraw id (refresh q.link s.block) = (removeId id (refresh q.link s.block), .done) := by
      rcases hstop with hp | hp <;> simpa only [hp] using hfound
    obtain ⟨t, ht, hkept, hgone, hans, -⟩ := withdraw_taken hq hheld hw rfl (removeId_gone id _)
    refine ⟨t, ht, hkept, fun _ => ⟨hgone, hans⟩, fun _ _ _ hp => ?_, fun _ _ _ hp => ?_⟩
    · rcases hstop with h | h <;> simp [h] at hp
    · rcases hstop with h | h <;> simp [h] at hp
  by_cases hwait : s.block.seq.phase = .armed ∨ s.block.seq.phase = .tractionOff
  · have hw : withdraw id (refresh q.link s.block) = (endByWithdrawal (removeId id (refresh q.link s.block)), .done) := by
      rcases hwait with hp | hp <;> simpa only [hp] using hfound
    obtain ⟨t, ht, hkept, hgone, hans, hblock⟩ := withdraw_taken hq hheld hw rfl (removeId_gone id _)
    have hst := settle_stands s.block false (b := pushReply q.link (plainReply 0x22 q .done)
      (endByWithdrawal (removeId id (refresh q.link s.block)))) (.inl rfl)
    have hpre := settle_preheat s.block false (b := pushReply q.link (plainReply 0x22 q .done)
      (endByWithdrawal (removeId id (refresh q.link s.block)))) rfl
    rw [← hblock] at hst hpre
    have hrequest : t.block.record.tractionOff = false := by
      rcases hst.request with hr | ⟨hp, -⟩
      · exact hr
      · cases hp
    refine ⟨t, ht, hkept, fun h => ?_, fun _ _ _ _ => ?_, fun _ _ _ hp => ?_⟩
    · exact absurd h (by simp only [not_or] at hfree hstop ⊢; exact ⟨hfree.1, hfree.2.1, hfree.2.2, hstop⟩)
    · exact ⟨hgone, by rw [hst.seq]; rfl, by rw [hst.seq]; rfl, hrequest, hpre, hans⟩
    · rcases hwait with h | h <;> simp [h] at hp
  · have hw : withdraw id (refresh q.link s.block) = (refresh q.link s.block, .refused .markerLocked) := by
      rw [hfound]
      split <;> simp_all
    have hheld' : holdsId (refresh q.link s.block) id = true := hheld
    obtain ⟨t, ht, honly, hans⟩ := request_refused (code := 0x22) (c := .markerLocked) (s := s) (examine_protection hq)
      (owner := fun b => answerUnless (if holdsId b id then none else some .done) (withdraw id) b)
      (by simp only [hheld', if_true, answerUnless, hw]; rfl)
    refine ⟨t, ht, honly.keepsRest, fun h => ?_, fun _ _ _ hp => absurd hp hwait, fun _ _ _ _ => ⟨honly, hans⟩⟩
    exact absurd h (by simp only [not_or] at hfree hstop ⊢; exact ⟨hfree.1, hfree.2.1, hfree.2.2, hstop⟩)

/-- Settles O43, by the entry found for the id and what the answers leave of the queue. -/
theorem markerIsWithdrawn : Obligations.MarkerIsWithdrawn := by
  unfold Obligations.MarkerIsWithdrawn
  intro q id s hq hlaw
  obtain ⟨t, ht⟩ := exec_ends (.withdrawMarker q id) s
  refine ⟨t, ht, ?_⟩
  by_cases hnone : ∀ e ∈ s.block.queue.entries, e.id ≠ id
  · have hno : holdsId (refresh q.link s.block) id = false := by
      rw [← Bool.not_eq_true, holdsId_iff]
      rintro ⟨e, he, hid⟩
      exact hnone e he hid
    obtain ⟨honly, hans⟩ := holds_at ht (request_unchanged (code := 0x22) (o := .done) (d := .none) (examine_protection hq)
      (owner := fun b => answerUnless (if holdsId b id then none else some .done) (withdraw id) b)
      (by simp only [hno]; rfl))
    exact ⟨honly.keepsRest, fun _ => ⟨honly, hans⟩, fun e he hid => absurd hid (hnone e he)⟩
  · simp only [not_forall, not_not] at hnone
    obtain ⟨e, he, hid⟩ := hnone
    have hw := holds_at ht (withdraws hq (find_of_ids hlaw.ids he hid))
    refine ⟨hw.kept, fun h => absurd hid (h e he), fun e' he' hid' => ?_⟩
    have hsame : e' = e := Option.some.inj
      ((find_of_ids hlaw.ids he' hid').symm.trans (find_of_ids hlaw.ids he hid))
    subst hsame
    refine ⟨fun h => hw.goes (h.imp_right .inl), fun h1 h2 h3 => ⟨hw.ends h1 h2 h3, fun hp => hw.locks h1 h2 h3 ?_⟩,
      fun _ _ hp => hw.goes ?_⟩
    · rcases hp with hp | hp | hp | hp | hp | hp | hp <;> simp [hp]
    · rcases hp with hp | hp | hp
      · exact .inr (.inr (.inr (.inl hp)))
      · exact .inr (.inr (.inr (.inr hp)))
      · exact .inr (.inr (.inl hp))

end Sys2Proof.Machine
end

section
/-!
Announce Marker (R118 to R120), and the start of a path at a section found late.
-/

namespace Sys2Proof.Machine

variable {q : Req} {s t : State} {b x y : Block} {e : Entry} {m : Marker} {k : Path}

/-! ## The rows of R118 -/

theorem overlap_iff (a c d e : Nat) : overlap a c d e = true ↔ ¬(c ≤ d ∨ e ≤ a) := by
  simp only [overlap, Bool.and_eq_true, decide_eq_true_eq]
  omega

theorem holdsId_eq (b : Block) (n : Nat) : holdsId b n = b.queue.entries.any fun e => e.id == n := rfl

/-- A row that refuses where its condition is not met. -/
theorem unmet_row {p : Prop} [Decidable p] {row : Bool} {c : RefCode} {v : Option RefCode} (h : p ↔ row = false) :
    (if p then some c else v) = if row then v else some c := by
  cases row <;> simp_all

theorem markerRefusal_eq (m : Marker) (b : Block) : markerRefusal b m = firstUnmet (markerConditions m b) := by
  have hrange : markerInRange m = (1 ≤ m.length && (m.length ≤ if m.kind = .iceWatch then 50000 else 5000) &&
      (m.newSystem.isSome == (m.kind == .systemChange)) && m.start + m.length ≤ 4294967295) := by
    unfold markerInRange SectionKind.limit
    cases m.kind <;> rfl
  have hactive : (b.queue.entries.any fun e => e.active && e.id == m.id) =
      !(b.queue.entries.all fun e => !e.active || e.id != m.id) := by
    rw [List.not_all_eq_any_not]
    congr 1
    funext e
    simp [bne]
  have hstale : (m.start + m.length ≤ b.queue.position ∨
      (b.cond.mode ≠ .service ∧ (m.kind != .iceWatch) = true ∧ m.start ≤ b.queue.position)) ↔
      (b.queue.position < m.start + m.length &&
        (b.cond.mode == .service || m.kind == .iceWatch || b.queue.position < m.start)) = false := by
    simp only [Bool.and_eq_false_iff, Bool.or_eq_false_iff, decide_eq_false_iff_not, beq_eq_false_iff_ne, bne_iff_ne,
      Nat.not_lt, ne_eq, and_assoc]
  have hover : ((m.kind != .iceWatch) = true ∧ (b.queue.entries.any fun e =>
      e.id != m.id && e.kind != .iceWatch && overlap e.start e.stop m.start (m.start + m.length)) = true) ↔
      (m.kind == .iceWatch || b.queue.entries.all fun e => e.id == m.id || e.kind == .iceWatch ||
        e.start + e.length ≤ m.start || m.start + m.length ≤ e.start) = false := by
    rw [Bool.or_eq_false_iff, List.all_eq_false, List.any_eq_true, bne_iff_ne, beq_eq_false_iff_ne]
    refine and_congr Iff.rfl (exists_congr fun e => and_congr Iff.rfl ?_)
    simp only [Bool.and_eq_true, bne_iff_ne, overlap_iff, Entry.stop, Bool.or_eq_true, beq_iff_eq, decide_eq_true_eq]
    tauto
  have hlate : ((m.kind != .iceWatch) = true ∧ m.start ≤ b.queue.position ∧
      ¬(b.cond.mode = .service ∧ b.seq.phase = .idle ∧ (unservedActive b).isNone = true)) ↔
      (m.kind == .iceWatch || b.queue.position < m.start ||
        b.cond.mode == .service && b.seq.phase == .idle && b.queue.entries.all (fun e => !e.active || e.served)) = false := by
    have hnone : (unservedActive b).isNone = b.queue.entries.all (fun e => !e.active || e.served) := by
      rw [Bool.eq_iff_iff, Option.isNone_iff_eq_none, unservedActive, List.find?_eq_none, List.all_eq_true]
      refine forall₂_congr fun e _ => ?_
      cases e.active <;> cases e.served <;> decide
    rw [hnone]
    simp only [Bool.or_eq_false_iff, Bool.and_eq_false_iff, decide_eq_false_iff_not, beq_eq_false_iff_ne, bne_iff_ne,
      Nat.not_lt, ne_eq, and_assoc, not_and_or, Bool.not_eq_true, or_assoc]
  have hfull : (holdsId b m.id = false ∧ 8 ≤ b.queue.entries.length ∧
      b.queue.entries.any (fun e => !e.active && m.start < e.start) = false) ↔
      (b.queue.entries.any (fun e => e.id == m.id) || b.queue.entries.length < 8 ||
        b.queue.entries.any (fun e => !e.active && m.start < e.start)) = false := by
    simp only [holdsId, Bool.or_eq_false_iff, decide_eq_false_iff_not, Nat.not_lt, and_assoc]
  unfold markerRefusal markerConditions
  dsimp only
  rw [hrange, hactive, unmet_row hstale, unmet_row hover, unmet_row hlate, unmet_row hfull,
    unmet_row (Bool.not_eq_true' _).to_iff, unmet_row (Bool.not_eq_true' _).to_iff]
  simp only [firstUnmet_cons, firstUnmet_nil]

theorem evictedBy_eq (m : Marker) (b : Block) : evictedBy b m = farthestFor m b := by
  have hid : holdsId b m.id = false ↔ (b.queue.entries.all fun e => e.id != m.id) = true := by
    rw [← Bool.not_eq_true, holdsId_iff, List.all_eq_true]
    simp
  unfold evictedBy farthestFor
  simp only [hid]
  split
  · rw [← List.head?_filter, List.filter_reverse, List.head?_reverse]
  · rfl

/-! ## Insertion in the queue's order (R119) -/

theorem insertEntry_sorted {l : List Entry} (hl : l.Pairwise fun x y => x.start ≤ y.start) : insertEntry e l =
    l.filter (fun x => decide (x.start ≤ e.start)) ++ e :: l.filter (fun x => decide (e.start < x.start)) := by
  induction l with
  | nil => rfl
  | cons x l ih =>
    obtain ⟨hx, hl'⟩ := List.pairwise_cons.mp hl
    rw [insertEntry]
    by_cases hle : x.start ≤ e.start
    · simp [hle, Nat.not_lt.mpr hle, ih hl']
    · have hlt : e.start < x.start := by omega
      have hnone : l.filter (fun y => decide (y.start ≤ e.start)) = [] := by
        rw [List.filter_eq_nil_iff]
        intro y hy
        have := hx y hy
        simp only [decide_eq_true_eq]
        omega
      have hall : l.filter (fun y => decide (e.start < y.start)) = l := by
        rw [List.filter_eq_self]
        intro y hy
        have := hx y hy
        simp only [decide_eq_true_eq]
        omega
      simp [hle, hlt, hnone, hall]

/-! ## A section found late (R120) -/

/-- The Fault Record stays, and of the entries their served marks alone change. -/
structure Marks (b x : Block) : Prop where
  faults  : x.cond.faults = b.cond.faults
  entries : ∃ f : Entry → Entry, (∀ e, (f e).id = e.id ∧ (f e).active = e.active) ∧
    x.queue.entries = b.queue.entries.map f

theorem Marks.of_same (hf : x.cond.faults = b.cond.faults) (hq : x.queue.entries = b.queue.entries) : Marks b x :=
  ⟨hf, fun e => e, fun _ => ⟨rfl, rfl⟩, by simp [hq]⟩

theorem Marks.trans (h : Marks b x) (h' : Marks x y) : Marks b y := by
  obtain ⟨hf, f, hid, he⟩ := h
  obtain ⟨hf', f', hid', he'⟩ := h'
  refine ⟨hf'.trans hf, f' ∘ f, fun e => ?_, by rw [he', he, List.map_map]⟩
  exact ⟨(hid' _).1.trans (hid e).1, (hid' _).2.trans (hid e).2⟩

theorem Around.marks (h : Around b x) : Marks b x := .of_same h.faults (by rw [h.queue])

theorem marks_serveEntry (n : Option Nat) (b : Block) : Marks b (serveEntry n b) := by
  cases n
  case none => exact .of_same rfl rfl
  case some n =>
    refine ⟨rfl, fun e => if e.id = n ∧ e.active = true then { e with served := true } else e, fun e => ?_, rfl⟩
    dsimp only
    split <;> exact ⟨rfl, rfl⟩

theorem marks_finishPath (b : Block) : Marks b (finishPath b) :=
  Marks.trans (x := { b with
    seq := { b.seq with phase := .idle, path := none, activeEntry := none, work := .none, timer := none } })
    (.of_same rfl rfl) ((marks_serveEntry b.seq.activeEntry _).trans (.of_same rfl rfl))

theorem around_lowerUp {i : Bool} (h : ¬b.seq.NeedsContact) : Around b (lowerUp i b) :=
  around_eachPanto (f := fun p a => if (a.lc p).state.up then takeLower i p a else a) (fun p a ha => by
    split
    · exact touches_takeLower ha
    · exact .refl p a) h

theorem marks_enterBreakerOpen (b : Block) : Marks b (enterBreakerOpen b) := by
  have hopen : Marks b (openBreaker .internal { b with seq := { b.seq with phase := .breakerOpen, timer := none } }) :=
    .of_same (by rw [openBreaker_cond]) (by rw [openBreaker_frame])
  have hcalm : ¬(openBreaker .internal { b with seq := { b.seq with phase := .breakerOpen, timer := none } }).seq.NeedsContact := by
    rw [openBreaker_seq]
    simp [Seq.NeedsContact]
  unfold enterBreakerOpen
  dsimp only
  split
  · exact hopen.trans (around_lowerUp hcalm).marks
  · exact hopen

theorem marks_startPath {n : Option Nat} {late : Bool} {expected : Option LineSystem} {head : Option Head} {phase : Phase}
    (hp : phase ∉ [.confirm, .masterReady, .close]) (b : Block) : Marks b (startPath k n late expected head phase b) := by
  refine Marks.trans (x := pathRecords k n late expected head phase b) (.of_same rfl rfl) (around_clearForPath ?_).marks
  intro h
  refine hp ?_
  have hphase : (pathRecords k n late expected head phase b).seq.phase = phase := rfl
  rcases h with h | h | h <;> simp [← h, hphase]

theorem marks_offerEntry_late (e : Entry) (b : Block) : Marks b (offerEntry e true b) := by
  have hstart (k : Path) (expected : Option LineSystem) : Marks b
      (startPath k (some e.id) true expected none .breakerOpen b) := marks_startPath (by decide) b
  unfold offerEntry
  simp only [if_true]
  split
  · have hx := hstart .sectionChange e.newSystem
    generalize startPath .sectionChange (some e.id) true e.newSystem none .breakerOpen b = x at hx
    exact hx.trans (marks_enterBreakerOpen x)
  · exact .of_same rfl rfl
  · have hx := hstart (if e.kind = .neutral then neutralPath b else .zone) b.record.determined
    generalize startPath (if e.kind = .neutral then neutralPath b else .zone) (some e.id) true b.record.determined none
      .breakerOpen b = x at hx
    split
    · exact hx.trans (marks_enterBreakerOpen x)
    · exact hx.trans (marks_finishPath x)

/-- A marker taken late stands ACTIVE in the queue, with LATE_SECTION recorded once. -/
theorem takeLate_facts (he : e ∈ b.queue.entries) (hw : e.active = false) :
    faultCount .lateSection (takeLate e b) = oneMore .lateSection b ∧
      ∃ x ∈ (takeLate e b).queue.entries, x.id = e.id ∧ x.active = true := by
  have hmarks := marks_offerEntry_late { e with active := true, served := false }
    (recordFault .lateSection .none (activate e.id (dropServed b)))
  obtain ⟨hfaults, f, hid, hentries⟩ := hmarks
  refine ⟨?_, ?_⟩
  · exact (faultCount_of_faults hfaults _).trans (faultCount_recordFault_self _ _ _)
  · have hmem : { e with active := true, served := false } ∈ (activate e.id (dropServed b)).queue.entries := by
      refine List.mem_map.mpr ⟨e, List.mem_filter.mpr ⟨he, by simp [hw]⟩, ?_⟩
      rw [if_pos rfl]
    refine ⟨f { e with active := true, served := false }, ?_, (hid _).1, (hid _).2⟩
    rw [takeLate, hentries]
    exact List.mem_map_of_mem hmem

/-! ## The obligation -/

/-- The announcement of a marker that is refused nothing. -/
theorem announceMarker_taken (h : markerRefusal b m = none) :
    announceMarker m b = ⟨insertMarker m b, .done, .evicted (evictedBy b m), .others⟩ := by
  simp only [announceMarker, h]

/-- The entries besides which a marker is inserted. -/
theorem besides_eq (m : Marker) (b : Block) : besides m b =
    b.queue.entries.filter fun e => e.id != m.id && some e.id != farthestFor m b := by
  rw [besides, evictedBy_eq]

theorem insertMarker_waits (h : b.queue.position < m.start ∨ m.kind = .iceWatch) :
    insertMarker m b = handOver (report 9 (b.setEntries (insertEntry (entryOf m) (besides m b)))) := by
  unfold insertMarker
  dsimp only
  rw [if_neg]
  · rfl
  · rintro ⟨hk, hs⟩
    rcases h with h | h
    · omega
    · exact hk h

theorem insertMarker_late (hk : m.kind ≠ .iceWatch) (h : m.start ≤ b.queue.position) : insertMarker m b =
    takeLate (entryOf m) (handOver (report 9 (b.setEntries (insertEntry (entryOf m) (besides m b))))) := by
  unfold insertMarker
  dsimp only
  rw [if_pos ⟨hk, h⟩]
  rfl

/-- Settles O42, by the rows of R118, the insertion and what the answers leave of the queue. -/
theorem markerIsAnnounced : Obligations.MarkerIsAnnounced := by
  unfold Obligations.MarkerIsAnnounced
  intro q m s hq
  have hex := examine_protection hq
  obtain ⟨t, ht⟩ := exec_ends (.announceMarker q m) s
  have hrefusal : markerRefusal (refresh q.link s.block) m = firstUnmet (markerConditions m s.block) :=
    markerRefusal_eq m (refresh q.link s.block)
  refine ⟨t, ht, fun c hc => ?_, fun hnone => ?_⟩
  · refine holds_at ht (request_refused (code := 0x21) (owner := announceMarker m) hex ?_)
    simp only [announceMarker, hrefusal, hc]
  rw [hnone] at hrefusal
  have he := holds_at ht (request_ends_as (code := 0x21) (owner := announceMarker m) hex (announceMarker_taken hrefusal)
    (links_insertMarker m _))
  have hevicted : evictedBy (refresh q.link s.block) m = farthestFor m s.block := evictedBy_eq m (refresh q.link s.block)
  have hbesides : besides m (refresh q.link s.block) =
      s.block.queue.entries.filter fun e => e.id != m.id && some e.id != farthestFor m s.block :=
    besides_eq m (refresh q.link s.block)
  refine ⟨?_, fun hwait hrest => ?_, fun hk hlate => ?_⟩
  · have hans := he.answered
    rw [hevicted] at hans
    exact hans
  · rw [insertMarker_waits (b := refresh q.link s.block) hwait, hbesides] at he
    have hblock := he.block
    have hst := settle_stands s.block false (b := pushReply q.link ⟨0x21, q.tag, .done,
      .evicted (evictedBy (refresh q.link s.block) m)⟩ (handOver (report 9 ((refresh q.link s.block).setEntries
        (insertEntry (entryOf m) (s.block.queue.entries.filter fun e => e.id != m.id && some e.id != farthestFor m s.block))))))
      hrest.phase
    have hentries : t.block.queue.entries = insertEntry (entryOf m)
        (s.block.queue.entries.filter fun e => e.id != m.id && some e.id != farthestFor m s.block) := by
      rw [hblock]
      exact congrArg Queue.entries hst.queue
    refine ⟨hentries, he.keepsRest_of_kept rfl, fun hlaw => ⟨_, rfl, ?_⟩⟩
    rw [hentries]
    exact insertEntry_sorted (hlaw.ascending.sublist List.filter_sublist)
  · rw [insertMarker_late (b := refresh q.link s.block) hk hlate] at he
    have hblock := he.block
    obtain ⟨hcount, hexists⟩ := takeLate_facts (e := entryOf m) (b := handOver (report 9 ((refresh q.link s.block).setEntries
      (insertEntry (entryOf m) (besides m (refresh q.link s.block)))))) (mem_insertEntry.mpr (.inl rfl)) rfl
    generalize takeLate (entryOf m) (handOver (report 9 ((refresh q.link s.block).setEntries
      (insertEntry (entryOf m) (besides m (refresh q.link s.block)))))) = x at hblock hcount hexists
    have hfinish : t.block = settle s.block false (pushReply q.link ⟨0x21, q.tag, .done,
      .evicted (evictedBy (refresh q.link s.block) m)⟩ x) := hblock
    refine ⟨?_, ?_⟩
    · rw [Records, hfinish, settle_faultCount _ _ _ (by decide)]
      exact hcount
    · rw [hfinish]
      exact settle_entry_exists (P := fun n a => n = m.id ∧ a = true) s.block false hexists

end Sys2Proof.Machine
end

section
/-!
Set Ice Mode and the judging of the scraper (R10, R156, R157, R164 to R166).
-/

namespace Sys2Proof.Machine

variable {q : Req} {s t : State} {b x y : Block} {p r c : Panto} {w : Ending}

/-! ## The candidate (R164) -/

/-- What a search finds in a list in the order of the numbers. -/
theorem find_sorted_iff {f : Panto → Bool} {l : List Panto} (hl : l.Pairwise fun x y => x.num < y.num) :
    l.find? f = some p ↔ p ∈ l ∧ f p = true ∧ ∀ x ∈ l, f x = true → p.num ≤ x.num := by
  induction l with
  | nil => simp
  | cons y l ih =>
    obtain ⟨hy, hl'⟩ := List.pairwise_cons.mp hl
    rw [List.find?_cons]
    cases hf : f y
    case true =>
      refine ⟨fun h => ?_, fun ⟨hmem, _, hmin⟩ => ?_⟩
      · cases h
        refine ⟨List.mem_cons_self, hf, fun x hx _ => ?_⟩
        rcases List.mem_cons.mp hx with rfl | hx
        · exact Nat.le_refl _
        · exact (hy x hx).le
      · rcases List.mem_cons.mp hmem with rfl | hmem
        · rfl
        · exact absurd (hmin y List.mem_cons_self hf) (by have := hy p hmem; omega)
    case false =>
      refine (ih hl').trans ⟨fun ⟨hmem, hp, hmin⟩ => ⟨List.mem_cons_of_mem y hmem, hp, fun x hx hfx => ?_⟩,
        fun ⟨hmem, hp, hmin⟩ => ⟨?_, hp, fun x hx => hmin x (List.mem_cons_of_mem y hx)⟩⟩
      · rcases List.mem_cons.mp hx with rfl | hx
        · exact absurd (hf.symm.trans hfx) (by decide)
        · exact hmin x hx hfx
      · rcases List.mem_cons.mp hmem with rfl | hmem
        · exact absurd (hf.symm.trans hp) (by decide)
        · exact hmem

theorem find_panto_iff {f : Panto → Bool} :
    Panto.all.find? f = some p ↔ f p = true ∧ ∀ x, f x = true → p.num ≤ x.num := by
  rw [find_sorted_iff (by decide)]
  simp only [Panto.mem_all, true_and, true_implies]

theorem scraperCandidate_iff : scraperCandidate b = some p ↔ ∃ c, collector b = some c ∧ b.roofEnd c ≠ leadingEnd b ∧
    (b.head p = b.head c ∧ b.roofEnd p = leadingEnd b) ∧
    ∀ x, b.head x = b.head c → b.roofEnd x = leadingEnd b → p.num ≤ x.num := by
  unfold scraperCandidate
  cases collector b
  case none => simp
  case some c =>
    by_cases hend : b.roofEnd c = leadingEnd b
    · simp [hend]
    · dsimp only
      rw [if_neg hend, find_panto_iff]
      simp only [Bool.and_eq_true, beq_iff_eq, Option.some.injEq, exists_eq_left', ne_eq, hend, not_false_eq_true, true_and,
        and_imp]

/-! ## The conditions of R165 and R166 -/

theorem shows_iff {k : Chan} {v : Int} : k.Shows v ↔ k.heldValue = some v := by
  unfold Chan.Shows Chan.heldValue
  by_cases h : k.validity = .unknown <;> simp [h]

theorem airAtLeast_iff {n : Int} : airAtLeast b n = true ↔ ∃ v, b.sensors.reservoir.Shows v ∧ n ≤ v := by
  simp only [airAtLeast, shows_iff]
  cases b.sensors.reservoir.heldValue <;> simp

theorem collectorUp_iff : collectorUp b = true ↔ ∃ c, collector b = some c ∧ (b.lc c).state = .contact := by
  unfold collectorUp
  cases collector b <;> simp

theorem clearAhead_iff : clearAhead b = true ↔ ∀ d, b.ice.nearest = some d → b.nat .scrapeClear < d := by
  unfold clearAhead
  cases b.ice.nearest <;> simp

theorem rested_iff : rested b = true ↔ ∀ x, b.ice.lastLowering = some x → x + b.nat .scrapeRest ≤ b.queue.position := by
  unfold rested
  cases b.ice.lastLowering <;> simp

theorem wantsScraper_iff : WantsScraper p b ↔ scraperCandidate b = some p ∧ wantsScraper b p = true := by
  simp only [wantsScraper, channelsGood, sensorsGood, entryValid, isoOpen, Bool.and_eq_true, beq_iff_eq, Bool.not_eq_true',
    decide_eq_true_eq, collectorUp_iff, airAtLeast_iff, clearAhead_iff, rested_iff]
  constructor
  · rintro ⟨level, enable, mode, phase, hold, collector, candidate, stowed, free, entry, ⟨height, actuator, strip⟩, isolator,
      air, ahead, rested⟩
    exact ⟨candidate, ⟨⟨⟨⟨⟨⟨level, enable⟩, ⟨mode, phase⟩, hold⟩, collector⟩,
      ⟨⟨⟨stowed, free⟩, entry⟩, ⟨height, actuator⟩, strip⟩, isolator⟩, air⟩, ahead⟩, rested⟩
  · rintro ⟨candidate, ⟨⟨⟨⟨⟨⟨level, enable⟩, ⟨mode, phase⟩, hold⟩, collector⟩,
      ⟨⟨⟨stowed, free⟩, entry⟩, ⟨height, actuator⟩, strip⟩, isolator⟩, air⟩, ahead⟩, rested⟩
    exact ⟨level, enable, mode, phase, hold, collector, candidate, stowed, free, entry, ⟨height, actuator, strip⟩, isolator,
      air, ahead, rested⟩

theorem lowersScraper_iff : LowersScraper p b ↔ lowersScraper b p = true := by
  have hclear : clearAhead b = false ↔ ∃ d, b.ice.nearest = some d ∧ d ≤ b.nat .scrapeClear := by
    rw [← Bool.not_eq_true, clearAhead_iff]
    simp
  have hair : airAtLeast b (b.cfg .critAir) = false ↔ ∀ v, b.sensors.reservoir.Shows v → v < b.cfg .critAir := by
    rw [← Bool.not_eq_true, airAtLeast_iff]
    simp
  have hup : collectorUp b = false ↔ ∀ c, collector b = some c → (b.lc c).state ≠ .contact := by
    rw [← Bool.not_eq_true, collectorUp_iff]
    simp
  simp only [LowersScraper, lowersScraper, channelFaulty, sensorFaulty, entryValid, Bool.or_eq_true, Bool.not_eq_true', hclear,
    hair, hup, decide_eq_true_eq, bne_iff_ne, ne_eq, beq_iff_eq, beq_eq_false_iff_ne, or_assoc]

/-! ## The judging of the scraper -/

theorem scraping_none (h : ∀ x, b.role x ≠ .scraping) : scraping b = none := by
  rw [scraping, List.find?_eq_none]
  intro x _
  simpa using h x

theorem scraping_some (h : b.role p = .scraping) (ho : ∀ x, x ≠ p → b.role x ≠ .scraping) : scraping b = some p := by
  rw [scraping, find_panto_iff]
  refine ⟨by simpa using h, fun x hx => ?_⟩
  by_contra hlt
  exact ho x (fun hxp => hlt (hxp ▸ Nat.le_refl _)) (by simpa using hx)

theorem judgeScraper_idle (h : ∀ x, b.role x ≠ .scraping) (hw : ∀ p, ¬WantsScraper p b) : judgeScraper b = b := by
  unfold judgeScraper
  rw [scraping_none h]
  dsimp only
  split
  next p hp => rw [if_neg fun hwant => hw p (wantsScraper_iff.mpr ⟨hp, hwant⟩)]
  next => rfl

theorem judgeScraper_asks (h : ∀ x, b.role x ≠ .scraping) (hw : WantsScraper p b) : judgeScraper b = askScraper p b := by
  obtain ⟨hc, hwant⟩ := wantsScraper_iff.mp hw
  simp only [judgeScraper, scraping_none h, hc, hwant, if_true]

/-- Of the Roof Plan's conditions those that R165 leaves open are the earthing switch's and the air's (R10). -/
theorem scrapingRefusal_of_wants (hw : WantsScraper p b) : scrapingRefusal b p =
    if !earthOpen b then some .interlock else if !airAllows b p then some .airLimit else none := by
  obtain ⟨-, -, -, hphase, hhold, -, -, hstowed, hfree, hentry, ⟨hheight, hactuator, hstrip⟩, hiso, -⟩ := hw
  have hfaulty : channelFaulty b p = false := by simp [channelFaulty, sensorFaulty, hheight, hactuator, hstrip]
  have hvalid : entryValid b p = true := by simp [entryValid, hentry]
  have hopen : isoOpen b p = true := hiso
  simp [scrapingRefusal, hphase, hhold, hstowed, hfree, hfaulty, hvalid, hopen]

/-- The scraper's role and raise (R10, R29). -/
theorem becomesScraper (hs : (b.lc p).state = .stowed) (hh : (b.lc p).held = .none) (he : earthOpen b = true)
    (hv : ∀ n, b.cond.testStep ≠ .valves p n) :
    BecomesScraper p b (takeRaise p false (setScraper (some p) (setRole p .scraping .internal b))) := by
  have ht := takesRaise (p := p) (b := setScraper (some p) (setRole p .scraping .internal b)) he hh (.inl hs)
  have htouch := touches_takeRaise p false (setScraper (some p) (setRole p .scraping .internal b))
  obtain ⟨-, hothers⟩ := htouch.steady hv
  refine ⟨?_, ?_, fun hd ha => ?_, fun hd => ?_, fun hd ha => ?_, fun x hx => ⟨hothers x hx, ?_⟩, ?_⟩
  · rw [ht.role]
    exact PerP.get_set_self _ _ _
  · rw [htouch.ice]
    rfl
  · have hb := ht.begins hs hd ha
    exact ⟨hb.state, hb.commanded, hb.raiseTimer⟩
  · exact ht.dwells hs hd
  · exact ht.airs hs hd ha
  · rw [htouch.roles x hx]
    exact PerP.get_set_ne _ _ hx
  · rw [kept_takeRaise]
    rfl

theorem lc_beginLowering (p : Panto) (b : Block) : (beginLowering p b).lc p = (b.lc p).toLowering := by
  unfold beginLowering leaveContact
  dsimp only
  split
  · rw [halt_lc, lc_setLift_self]
  · rw [lc_setLift_self]

/-- A lower of a pantograph without a role and outside its VALVES step (R36). -/
theorem actOnLower_unrole (hr : b.role p = .none) (hv : ∀ n, b.cond.testStep ≠ .valves p n) : actOnLower false p b =
    match (b.lc p).state with
    | .raising | .contact => beginLowering p b
    | .stowed | .lowering => if (b.lc p).held ≠ .none then discardHeld p b else b
    | .searching => abortSearch p b
    | .dropped | .outOfService => b := by
  have hwaits : waitsForBreaker b false p = false := by simp [waitsForBreaker, hr]
  have hskip : skipValves p b = b := by
    unfold skipValves
    split
    next r n hstep =>
      refine if_neg ?_
      rintro rfl
      exact hv n hstep
    next => rfl
  unfold actOnLower
  rw [hwaits, hskip]
  cases (b.lc p).state <;> rfl

/-- What a lower of the scraper leaves (R36, R166). -/
theorem scraperComesDown (hr : b.cond.restart = none) (hv : ∀ n, b.cond.testStep ≠ .valves p n) :
    ScraperComesDown p b (lowerScraper p b) := by
  have hrole : (clearRole p b).role p = .none := role_clearRole_self p b
  have hentry : (clearRole p b).plan.roles.get p = ⟨.none, none⟩ := PerP.get_set_self _ _ _
  have hlow : takeLower false p (clearRole p b) = actOnLower false p (clearRole p b) :=
    if_neg (by simp [adoptionWaits, show (clearRole p b).cond.restart = none from hr])
  have hact := hlow.trans (actOnLower_unrole hrole (b := clearRole p b) hv)
  have hlc : (clearRole p b).lc p = b.lc p := rfl
  rw [hlc] at hact
  have hkept : (takeLower false p (clearRole p b)).kept = b.kept := by simp
  have hposition : (takeLower false p (clearRole p b)).queue.position = b.queue.position :=
    congrArg (fun k => k.motion.position) hkept
  have hdiscard : (discardHeld p (clearRole p b)).plan.roles.get p = ⟨.none, none⟩ := by
    rw [discardHeld_eq]
    exact PerP.get_set_self _ _ _
  refine ⟨?_, rfl, congrArg some hposition, fun hs => ?_, fun hs => ?_, fun hi x hx => ?_, by simp⟩
  · show (takeLower false p (clearRole p b)).plan.roles.get p = ⟨.none, none⟩
    rw [hact]
    split
    · rw [beginLowering_plan]
      exact hentry
    · rw [beginLowering_plan]
      exact hentry
    · split
      · exact hdiscard
      · exact hentry
    · split
      · exact hdiscard
      · exact hentry
    · rw [abortSearch_plan]
      exact hentry
    · exact hentry
    · exact hentry
  · have heq : takeLower false p (clearRole p b) = beginLowering p (clearRole p b) := by
      rw [hact]
      revert hs
      cases (b.lc p).state <;> simp [LiftState.up]
    show ((takeLower false p (clearRole p b)).lc p).state = .lowering ∧ ((takeLower false p (clearRole p b)).lc p).lowerTimer = some 0 ∧
      ((takeLower false p (clearRole p b)).lc p).commanded = (b.lc p).commanded
    rw [heq, lc_beginLowering]
    exact ⟨rfl, rfl, rfl⟩
  · have heq : takeLower false p (clearRole p b) =
        if (b.lc p).held ≠ .none then discardHeld p (clearRole p b) else clearRole p b := by
      rw [hact]
      rcases hs with hs | hs <;> rw [hs]
    show ((takeLower false p (clearRole p b)).lc p).state = (b.lc p).state ∧ ((takeLower false p (clearRole p b)).lc p).held = .none
    rw [heq]
    split
    next =>
      rw [lc_discardHeld_self]
      exact ⟨rfl, rfl⟩
    next hh => exact ⟨rfl, not_not.mp hh⟩
  · have hcalm : ¬b.seq.NeedsContact := not_needsContact_of_stopped (.inl hi)
    have htouch := touches_scrape (p := p) hcalm
    exact ⟨(htouch.steady hv).2 x hx, htouch.roles x hx⟩

/-! ## The judging at the end of an event -/

/-- Only the breaker may have changed. -/
def OnlyBreaker (b x : Block) : Prop := x = { b with sw := { b.sw with breaker := x.sw.breaker } }

theorem OnlyBreaker.trans (h : OnlyBreaker b x) (h' : OnlyBreaker x y) : OnlyBreaker b y := by
  rw [OnlyBreaker, h', h]

theorem onlyBreaker_guard (b : Block) : OnlyBreaker b (guardBreaker b) := by
  unfold guardBreaker
  split
  · exact openBreaker_frame _ b
  · rfl

theorem OnlyBreaker.resting (h : OnlyBreaker b x) (hb : Resting b) : Resting x := by
  rw [h]
  obtain ⟨h1, h2, h3, h4, h5, h6⟩ := hb
  exact ⟨h1, h2, h3, h4, h5, h6⟩

/-- A round of a resting part in IDLE guards the breaker, and that is all. -/
theorem round_resting (hb : Resting b) (hi : b.seq.phase = .idle) : OnlyBreaker b (round b) := by
  have hg := onlyBreaker_guard b
  have hrest := hg.resting hb
  have hphase : (guardBreaker b).seq.phase = .idle := by rw [hg]; exact hi
  unfold round
  generalize guardBreaker b = y at hg hrest hphase
  have hrelease (p : Panto) : releasePendingOf p y = y := if_neg (by simp [hrest.lowers])
  have h1 : releasePending y = y := by simp only [releasePending, eachPanto, hrelease]
  have h2 : seqStep y = y := by simp only [seqStep, hphase]
  have h3 : wakingCheck y = y := if_neg (by simp [hrest.mode])
  have h4 : standbyCheck y = y := if_neg (by simp [hrest.standby])
  rw [h1, h2, h3, h4]
  exact hg

theorem rounds_resting (n : Nat) (hb : Resting b) (hi : b.seq.phase = .idle) : OnlyBreaker b (rounds n b) := by
  induction n generalizing b with
  | zero => rfl
  | succ n ih =>
    have h := round_resting hb hi
    exact h.trans (ih (h.resting hb) (by rw [h]; exact hi))

/-- Of the Ice Unit's own only the estimate, the level and the heaters may have changed. -/
structure KeepsScraper (b x : Block) : Prop where
  only    : IceOnly b x
  scraper : x.ice.scraper = b.ice.scraper
  noted   : x.ice.lastLowering = b.ice.lastLowering

theorem KeepsScraper.refl (b : Block) : KeepsScraper b b := ⟨.refl b, rfl, rfl⟩

theorem KeepsScraper.trans (h : KeepsScraper b x) (h' : KeepsScraper x y) : KeepsScraper b y :=
  ⟨h.only.trans h'.only, h'.scraper.trans h.scraper, h'.noted.trans h.noted⟩

theorem keepsScraper_followLevel (s b : Block) : KeepsScraper b (followLevel s b) := by
  have hset (v : Option Nat) (a : Block) : KeepsScraper a (setAdvisory v a) := ⟨iceOnly_setAdvisory v a, rfl, rfl⟩
  refine KeepsScraper.trans (x := takeLevel b) ⟨iceOnly_takeLevel b, rfl, rfl⟩ ?_
  unfold followLevel adviseAfterRestart adviseOn
  split
  · split
    · split
      · exact hset _ _
      · exact .refl _
    · exact hset _ _
  · split
    · split
      · exact .refl _
      · exact hset _ _
    · split
      · exact hset _ _
      · exact .refl _

theorem keepsScraper_heaters (b : Block) : KeepsScraper b (shareBudget (endPreheat b)) := by
  have hend : KeepsScraper b (endPreheat b) := by
    refine ⟨iceOnly_endPreheat b, ?_, ?_⟩
    all_goals
      unfold endPreheat
      split
      · split <;> rfl
      · rfl
  refine hend.trans ⟨iceOnly_shareBudget _, ?_, ?_⟩
  all_goals
    unfold shareBudget
    split <;> rfl

/-- A scraper that the Ice Unit goes on with. -/
theorem followScraper_keeps (hp : b.ice.scraper = some p) (hr : b.role p = .scraping)
    (hs : (b.lc p).state.up = true ∨ (b.lc p).state = .stowed ∧ (b.lc p).held ≠ .none) : followScraper b = b := by
  have hgone : scraperGone b p = false := by
    unfold scraperGone
    rw [hr]
    rcases hs with hs | ⟨hs, hh⟩
    · revert hs
      cases (b.lc p).state <;> simp [LiftState.up]
    · rw [hs]
      simpa using hh
  simp [followScraper, hp, hr, hgone]

/-- The judging of a scraper whose enable is off, at the end of an event that moves nothing else. -/
theorem iceSettle_lowers (a : Block) (he : b.ice.enable = false) (hp : b.ice.scraper = some p) (hr : b.role p = .scraping)
    (ho : ∀ x, x ≠ p → b.role x ≠ .scraping)
    (hs : (b.lc p).state.up = true ∨ (b.lc p).state = .stowed ∧ (b.lc p).held ≠ .none)
    (hcoll : collector a = collector b) (hentries : a.queue.entries = b.queue.entries)
    (hw : b.cond.restart = none) (hwa : a.cond.restart = none) : ∃ y, KeepsScraper b y ∧
      iceSettle a true b = shareBudget (endPreheat (lowerScraper p y)) := by
  have hkeeps := keepsScraper_followLevel a b
  have hframe := hkeeps.only.frame
  refine ⟨followLevel a b, hkeeps, ?_⟩
  have h1 : followEntries a (followCollector a b) = b := by
    rw [followCollector, if_pos hcoll, followEntries, if_pos hentries]
  have hwaits : (adoptionWaits b || adoptionWaits a) = false := by simp [adoptionWaits, hw, hwa]
  unfold iceSettle
  dsimp only
  rw [h1, hwaits, followScraper_keeps hp hr hs, if_neg (by decide), Bool.true_or, if_pos rfl]
  have henable := hkeeps.only.enable.trans he
  have hscraper := hkeeps.scraper.trans hp
  generalize followLevel a b = y at hframe henable hscraper
  have hrole (x : Panto) : y.role x = b.role x := by rw [hframe]; rfl
  have hlows : lowersScraper y p = true := by simp [lowersScraper, henable]
  have hjudge : judgeScraper y = lowerScraper p y := by
    unfold judgeScraper
    rw [scraping_some (p := p) ((hrole p).trans hr) fun x hx => by rw [hrole]; exact ho x hx]
    exact if_pos ⟨hscraper, hlows⟩
  rw [hjudge]

/-- The scraper comes down at the end of such an event. -/
theorem settle_lowers (a : Block) (hrest : Resting b) (hi : b.seq.phase = .idle) (he : b.ice.enable = false)
    (hp : b.ice.scraper = some p) (hr : b.role p = .scraping) (ho : ∀ x, x ≠ p → b.role x ≠ .scraping)
    (hs : (b.lc p).state.up = true ∨ (b.lc p).state = .stowed ∧ (b.lc p).held ≠ .none)
    (hcoll : collector a = collector b) (hentries : a.queue.entries = b.queue.entries) (hwa : a.cond.restart = none) :
    ∃ y, ScraperComesDown p y (lowerScraper p y) ∧ y.lc p = b.lc p ∧ y.queue = b.queue ∧
      (settle a true b).role p = (lowerScraper p y).role p ∧ (settle a true b).lc p = (lowerScraper p y).lc p ∧
      (settle a true b).ice.scraper = none ∧ (settle a true b).ice.lastLowering = some b.queue.position := by
  have hb := rounds_resting roundLimit hrest hi
  rw [settle]
  generalize rounds roundLimit b = z at hb
  have hz : Resting z := hb.resting hrest
  have hice : z.ice = b.ice := by rw [hb]
  have hroles (x : Panto) : z.role x = b.role x := by rw [hb]; rfl
  have hlc (x : Panto) : z.lc x = b.lc x := by rw [hb]; rfl
  obtain ⟨y, hkeeps, hsettle⟩ := iceSettle_lowers a (b := z) (p := p) (by rw [hice]; exact he) (by rw [hice]; exact hp)
    ((hroles p).trans hr) (fun x hx => by rw [hroles]; exact ho x hx) (by rw [hlc]; exact hs) (by rw [hcoll, hb]; rfl)
    (by rw [hentries, hb]) hz.restart hwa
  rw [hsettle]
  have hframe := hkeeps.only.frame
  have hy : Resting y := by
    obtain ⟨h1, h2, h3, h4, h5, h6⟩ := hz
    rw [hframe]
    exact ⟨h1, h2, h3, h4, h5, h6⟩
  have hyq : y.queue = b.queue := by rw [hframe, hb]
  have hylc : y.lc p = b.lc p := by
    rw [← hlc, hframe]
    rfl
  have hdown := scraperComesDown (p := p) hy.restart (hy.valves p)
  have hphase : y.seq.phase = .idle := by
    rw [hframe, hb]
    exact hi
  have hstand : (lowerScraper p y).cond.standbyLowering = false :=
    (touches_scrape (p := p) (not_needsContact_of_stopped (.inl hphase))).standby.trans hy.standby
  refine ⟨y, hdown, hylc, hyq, ?_⟩
  have hrecord := hdown.record
  have hnoted := hdown.noted
  rw [hyq] at hnoted
  generalize lowerScraper p y = u at hstand hrecord hnoted
  have hheat := keepsScraper_heaters u
  have hu := hheat.only.frame
  have hnone := hheat.scraper.trans hrecord
  have hpos := hheat.noted.trans hnoted
  generalize shareBudget (endPreheat u) = v at hu hnone hpos
  have hcheck : standbyCheck v = v := if_neg (by
    rw [hu]
    simp [hstand])
  rw [hcheck]
  have hg := onlyBreaker_guard v
  generalize guardBreaker v = g at hg
  have hclosed := closed_close a g
  refine ⟨?_, ?_, ?_, ?_⟩
  · rw [hclosed.role, hg, hu]
    rfl
  · rw [Block.lc, hclosed.lift, hg, hu]
    rfl
  · rw [hclosed.ice, hg]
    exact hnone
  · rw [hclosed.ice, hg]
    exact hpos

/-- The final level is that of its parts at the end of every event that settles. -/
theorem settle_levelLaw (a : Block) (judge : Bool) (b : Block) : LevelLaw (settle a judge b) := by
  have h := answers_levelLaw a judge b
  have hclosed := closed_close a (answers a judge b)
  have hkept : (close a (answers a judge b)).kept = (answers a judge b).kept := kept_close _ _
  rw [settle_eq]
  exact h.of_grades (by rw [hclosed.ice]) (sensors_of_kept hkept) (by rw [hclosed.cond])

/-! ## Set Ice Mode (R156) -/

theorem setIceMode_awake {forced : Nat} {enable : Bool} (h : awakeMode b = true) : setIceMode forced enable b =
    if 3 < forced then refuse .outOfRange b
    else ⟨{ b with ice := { b.ice with forced := forced, enable := enable } }, .done, .none, .scraper⟩ := by
  unfold awakeMode at h
  unfold setIceMode
  cases hm : b.cond.mode <;> simp_all

/-- Settles O53, by the judging of the scraper and what the end of an event does with a scraper that is not wanted. -/
theorem iceModeIsSet : Obligations.IceModeIsSet := by
  unfold Obligations.IceModeIsSet
  refine ⟨fun q forced enable s hq => ?_, fun b p => scraperCandidate_iff, fun b p hno hw hh hv => ⟨_, rfl, fun he ha => ?_,
    fun h => ?_⟩, fun b hno hw => judgeScraper_idle hno hw, fun b p hr ho hs hw hv => ⟨_, rfl, fun hl => ?_, fun hl => ?_⟩⟩
  · have hex := examine_leader hq
    obtain ⟨t, ht⟩ := exec_ends (.setIceMode q forced enable) s
    refine ⟨t, ht, fun hm hf => ?_, fun hm hf => ?_, fun hm => ?_⟩
    · have ha := setIceMode_awake (b := refresh q.link s.block) (forced := forced) (enable := enable) hm
      rw [if_neg (by omega)] at ha
      have he := holds_at ht (request_ends_as (code := 0x0C) (owner := setIceMode forced enable) hex ha rfl)
      have hkept := he.kept s.block.kept.links
      have hblock : t.block = settle s.block true (pushReply q.link (plainReply 0x0C q .done)
        { refresh q.link s.block with ice := { s.block.ice with forced := forced, enable := enable } }) := he.block
      refine ⟨congrArg Kept.forced hkept, congrArg Kept.enable hkept, ?_, ?_, fun hoff hrest hi p hp hr ho => ?_, he.answered⟩
      · rw [hblock]
        exact settle_levelLaw _ _ _
      · exact congrArg (fun k : Kept => { k with forced := s.block.kept.forced, enable := s.block.kept.enable }) hkept
      · obtain ⟨h1, h2, h3, h4, h5, h6⟩ := hrest
        have hlow (hs : (s.block.lc p).state.up = true ∨ (s.block.lc p).state = .stowed ∧ (s.block.lc p).held ≠ .none) :=
          settle_lowers s.block (b := pushReply q.link (plainReply 0x0C q .done)
            { refresh q.link s.block with ice := { s.block.ice with forced := forced, enable := enable } })
            ⟨h1, h2, h3, h4, h5, h6⟩ hi hoff hp hr ho hs rfl rfl h3
        rw [← hblock] at hlow
        refine ⟨fun hs => ?_, fun hs hh => ?_⟩
        · obtain ⟨y, hdown, hlc, -, hrole, hstate, hscraper, hnoted⟩ := hlow (.inl hs)
          have hy : (y.lc p).state.up = true := by rw [hlc]; exact hs
          exact ⟨hrole.trans (congrArg RoleRec.role hdown.role), hscraper, by rw [hstate]; exact (hdown.lowers hy).1, hnoted⟩
        · obtain ⟨y, hdown, hlc, -, hrole, hstate, hscraper, hnoted⟩ := hlow (.inr ⟨hs, hh⟩)
          have hy : (y.lc p).state = .stowed := by rw [hlc]; exact hs
          exact ⟨hrole.trans (congrArg RoleRec.role hdown.role), hscraper,
            by rw [hstate]; exact (hdown.drops (.inl hy)).2, hnoted⟩
    · refine holds_at ht (request_refused (code := 0x0C) (owner := setIceMode forced enable) hex ?_)
      rw [setIceMode_awake (b := refresh q.link s.block) hm, if_pos hf]
    · refine holds_at ht (request_refused (code := 0x0C) (owner := setIceMode forced enable) hex ?_)
      have hm' : (refresh q.link s.block).cond.mode = .waking := hm
      simp only [setIceMode, hm']
  · rw [judgeScraper_asks hno hw, askScraper, scrapingRefusal_of_wants hw]
    have he' : earthOpen b = true := he
    have ha' : airAllows b p = true := decide_eq_true ha
    rw [he', ha']
    exact becomesScraper hw.stowed hh he hv
  · rw [judgeScraper_asks hno hw, askScraper, scrapingRefusal_of_wants hw]
    rcases h with h | h
    · have he' : earthOpen b = false := h
      rw [he']
      rfl
    · have ha' : airAllows b p = false := decide_eq_false (by
        have : countP (fun x => x == p || committed b x) = Panto.all.countP (fun x => x == p || committed b x) := rfl
        omega)
      rw [ha']
      cases earthOpen b <;> rfl
  · have hjudge : judgeScraper b = lowerScraper p b := by
      unfold judgeScraper
      rw [scraping_some hr ho]
      exact if_pos ⟨hs, lowersScraper_iff.mp hl⟩
    rw [hjudge]
    exact scraperComesDown hw hv
  · unfold judgeScraper
    rw [scraping_some hr ho]
    exact if_neg fun h => hl (lowersScraper_iff.mpr h.2)

end Sys2Proof.Machine
end

section
/-!
The arcs and the ice score. The score is taken at each record; the blocks' answers leave it, and take it anew where they
change the collector.
-/

namespace Sys2Proof.Machine

variable {b c s x y z : Block} {p : Panto}

/-! ## What the score is taken from -/

theorem collector_congr (h : ∀ r, x.role r = .collecting ↔ b.role r = .collecting) : collector x = collector b := by
  unfold collector
  congr 1
  funext r
  rw [Bool.eq_iff_iff, beq_iff_eq, beq_iff_eq]
  exact h r

theorem collector_of_plan (h : x.plan = b.plan) : collector x = collector b :=
  collector_congr fun r => by rw [Block.role, h, Block.role]

theorem scoreOf_congr (hc : collector x = collector b) (hk : x.kept = b.kept) : scoreOf x = scoreOf b := by
  unfold scoreOf
  rw [hc, show x.ice.history = b.ice.history from congrArg Kept.history hk,
    show x.queue.position = b.queue.position from congrArg (fun k : Kept => k.motion.position) hk,
    show x.nat .iceWindow = b.nat .iceWindow from congrArg (fun k : Kept => (cfgGet k.cfg .iceWindow).toNat) hk]

/-- The score held is that of the block as it stands. -/
def Scored (b : Block) : Prop := b.ice.score = scoreOf b

/-- The score and the collector stay. -/
structure SameScore (b x : Block) : Prop where
  score     : x.ice.score = b.ice.score
  collector : collector x = collector b

theorem SameScore.trans (h : SameScore b x) (h' : SameScore x y) : SameScore b y :=
  ⟨h'.score.trans h.score, h'.collector.trans h.collector⟩

theorem SameScore.of_plan (hi : x.ice.score = b.ice.score) (hp : x.plan = b.plan) : SameScore b x := ⟨hi, collector_of_plan hp⟩

theorem SameScore.scored (h : SameScore b x) (hk : x.kept = b.kept) (hb : Scored b) : Scored x := by
  unfold Scored
  rw [h.score, hb, scoreOf_congr h.collector hk]

theorem prim_score {sc : Scope} (he : ¬sc.estimates) (h : Prim sc b x) : x.ice.score = b.ice.score := by
  cases h
  case ice i level parts =>
    have hparts := parts.resolve_right he
    simp only [Ice.levelParts, Prod.mk.injEq] at hparts
    obtain ⟨-, -, -, -, hscore, -⟩ := hparts
    exact hscore
  case lose l =>
    obtain ⟨-, -, -, -, -, -, -, -, hice, -⟩ := linkLost_frame l b
    rw [hice]
  all_goals rfl

theorem Prims.score {sc : Scope} (he : ¬sc.estimates) (h : Prims sc b x) : x.ice.score = b.ice.score :=
  h.keep (P := fun y => y.ice.score = b.ice.score) (fun _ _ hs hp => (prim_score he hs).trans hp) rfl

theorem rounds_score (n : Nat) (b : Block) : (rounds n b).ice.score = b.ice.score :=
  Prims.score (sc := Scope.ungraded) id (prims_rounds trivial n (fun _ => trivial) False.elim)

/-! ## The evaluation -/

theorem judgeLevel_eq (fall : Bool) (raw : Nat) (b : Block) : judgeLevel fall raw b = { b with ice := { b.ice with
    raw := raw, hysteresis := (judgeLevel fall raw b).ice.hysteresis
    fallStart := (judgeLevel fall raw b).ice.fallStart } } := by
  unfold judgeLevel
  dsimp only
  repeat' split
  all_goals rfl

theorem evaluateScore_eq (fall : Bool) (b : Block) : evaluateScore fall b = { b with ice := { b.ice with
    score := scoreOf b, raw := rawOf b (scoreOf b), hysteresis := (evaluateScore fall b).ice.hysteresis
    fallStart := (evaluateScore fall b).ice.fallStart } } := by
  unfold evaluateScore
  dsimp only
  rw [judgeLevel_eq]
  rfl

theorem scored_evaluateScore (fall : Bool) (b : Block) : Scored (evaluateScore fall b) := by
  unfold Scored
  rw [evaluateScore_eq]
  rfl

/-- The hysteresis level is judged as R155 has it. -/
theorem judgesLevel (fall : Bool) (raw : Nat) (b : Block) (h : x = judgeLevel fall raw b) : JudgesLevel fall b x := by
  have hraw : x.ice.raw = raw := by rw [h, judgeLevel_eq]
  rcases Nat.lt_trichotomy b.ice.hysteresis raw with hlt | heq | hgt
  · have hx : x = { b with ice := { b.ice with raw := raw, hysteresis := raw, fallStart := none } } := by
      rw [h, judgeLevel, if_pos hlt]
    refine ⟨fun _ => ?_, fun hr => ?_, fun hr => ?_, fun _ _ hr => ?_, fun _ _ hr => ?_⟩
    · rw [hx]; exact ⟨rfl, rfl⟩
    all_goals omega
  · have hx : x = { b with ice := { b.ice with raw := raw, fallStart := none } } := by
      rw [h, judgeLevel, if_neg (by omega), if_pos heq.symm]
    refine ⟨fun hr => ?_, fun _ => ?_, fun hr => ?_, fun _ _ hr => ?_, fun _ _ hr => ?_⟩
    · omega
    · rw [hx]; exact ⟨rfl, rfl⟩
    all_goals omega
  · rw [judgeLevel, if_neg (by omega), if_neg (by omega)] at h
    refine ⟨fun hr => ?_, fun hr => ?_, fun _ hn => ?_, fun v hv _ hf hd => ?_, fun v hv _ hw => ?_⟩
    · omega
    · omega
    · rw [hn] at h
      rw [h]
      exact ⟨rfl, rfl⟩
    · rw [hv] at h
      dsimp only at h
      rw [if_pos ⟨hf, hd⟩] at h
      rw [h]
      exact ⟨rfl, rfl⟩
    · rw [hv] at h
      dsimp only at h
      rw [if_neg fun hn => hw.elim (fun e => by rw [e] at hn; exact absurd hn.1 (by decide)) fun e => by omega] at h
      rw [h]
      exact ⟨rfl, rfl⟩

/-! ## The answers of the blocks -/

theorem takeRaise_plan (he : earthOpen b = true) : (takeRaise p false b).plan = b.plan := by
  have hbegin : (beginRaise p (skipValves p b)).plan = b.plan := skipValves_plan p b
  unfold takeRaise
  dsimp only
  rw [if_pos he]
  split
  · split
    · rfl
    · split
      · rfl
      · split
        · rfl
        · exact hbegin
  · split <;> rfl
  all_goals rfl

theorem takeLower_role (i : Bool) (p : Panto) {r : Panto} (hr : r ≠ p) (b : Block) : (takeLower i p b).role r = b.role r := by
  have of_plan {v w : Block} (h : v.plan = w.plan) : v.role r = w.role r := by rw [Block.role, h, Block.role]
  have hdiscard (v : Block) : (discardHeld p v).role r = v.role r := by
    rw [Block.role, (touches_discardHeld p v).roles r hr, Block.role]
  have hpend : (pendLower p b).plan = b.plan := by
    unfold pendLower
    split
    · rfl
    · exact openBreaker_plan _ _
  have hskip : (skipValves p b).plan = b.plan := skipValves_plan p b
  unfold takeLower actOnLower
  split
  · split
    · exact of_plan hpend
    · rfl
  · split
    · split
      · exact (hdiscard _).trans (of_plan hskip)
      · exact of_plan hskip
    · exact of_plan (beginLowering_plan p b)
    · split
      · exact of_plan hpend
      · exact of_plan (beginLowering_plan p b)
    · split
      · exact hdiscard b
      · rfl
    · exact of_plan (abortSearch_plan p b)
    · rfl
    · rfl

theorem scrapingRefusal_earth (h : scrapingRefusal b p = none) : earthOpen b = true := by
  by_contra he
  unfold scrapingRefusal at h
  rw [if_pos (c := (!earthOpen b) = true) (by simpa using he)] at h
  split at h
  · cases h
  · split at h <;> cases h

theorem sameScore_askScraper (p : Panto) (b : Block) : SameScore b (askScraper p b) := by
  unfold askScraper
  split
  · exact ⟨rfl, rfl⟩
  next h =>
    have he := scrapingRefusal_earth h
    have hr := scrapingRefusal_role h
    have hplan := takeRaise_plan (p := p) (b := setScraper (some p) (setRole p .scraping .internal b)) he
    refine ⟨by rw [(touches_takeRaise p false _).ice]; rfl, (collector_of_plan hplan).trans (collector_congr fun r => ?_)⟩
    change (setRole p .scraping .internal b).role r = _ ↔ _
    by_cases hrp : r = p
    · subst hrp
      rw [role_setRole_self, hr]
      decide
    · rw [role_setRole_ne _ _ _ hrp]

theorem sameScore_lowerScraper (h : b.role p = .scraping) : SameScore b (lowerScraper p b) := by
  have hlower (v : Block) : (takeLower false p v).ice.score = v.ice.score :=
    Prims.score (sc := Scope.ungraded) id (prims_takeLower false p v)
  refine ⟨(hlower (clearRole p b)).trans rfl, collector_congr fun r => ?_⟩
  change (takeLower false p (clearRole p b)).role r = _ ↔ _
  by_cases hrp : r = p
  · subst hrp
    have hnone : (takeLower false r (clearRole r b)).role r = .none :=
      (rolesFall_takeLower false r _).none (role_clearRole_self r b)
    rw [hnone, h]
    decide
  · rw [takeLower_role _ _ hrp, role_clearRole_ne _ hrp]

theorem sameScore_judgeScraper (b : Block) : SameScore b (judgeScraper b) := by
  unfold judgeScraper
  split
  next p hp =>
    split
    · exact sameScore_lowerScraper (by simpa using List.find?_some hp)
    · exact ⟨rfl, rfl⟩
  next =>
    split
    · split
      · exact sameScore_askScraper _ b
      · exact ⟨rfl, rfl⟩
    · exact ⟨rfl, rfl⟩

theorem sameScore_followLevel (s b : Block) : SameScore b (followLevel s b) := by
  have hscore : (followLevel s b).ice.score = b.ice.score := by
    unfold followLevel adviseOn adviseAfterRestart
    repeat' split
    all_goals rfl
  have hplan : (followLevel s b).plan = b.plan := by
    unfold followLevel adviseOn adviseAfterRestart
    repeat' split
    all_goals rfl
  exact .of_plan hscore hplan

theorem sameScore_heaters (b : Block) : SameScore b (shareBudget (endPreheat b)) := by
  have hpre : SameScore b (endPreheat b) := by
    unfold endPreheat
    repeat' split
    all_goals exact ⟨rfl, rfl⟩
  have hshare (v : Block) : SameScore v (shareBudget v) := by
    unfold shareBudget
    split <;> exact ⟨rfl, rfl⟩
  exact hpre.trans (hshare _)

theorem sameScore_follow (b : Block) : SameScore b (followScraper b) ∧ SameScore b (followReleased b) := by
  constructor
  · unfold followScraper
    repeat' split
    all_goals exact ⟨rfl, rfl⟩
  · unfold followReleased
    repeat' split
    all_goals exact ⟨rfl, rfl⟩

theorem sameScore_followEntries (s b : Block) : SameScore b (followEntries s b) := by
  unfold followEntries
  split <;> exact ⟨rfl, rfl⟩

/-- What follows the evaluation within the Ice Unit's part of an event changes neither score nor collector. -/
theorem sameScore_iceSettle (s : Block) (judge : Bool) (b : Block) :
    SameScore (followCollector s b) (iceSettle s judge b) := by
  have hentries := sameScore_followEntries s (followCollector s b)
  unfold iceSettle
  dsimp only
  split
  · exact ((hentries.trans (sameScore_follow _).2).trans (sameScore_followLevel s _)).trans (sameScore_heaters _)
  · have hlevel := (hentries.trans (sameScore_follow _).1).trans (sameScore_followLevel s _)
    split
    · exact (hlevel.trans (sameScore_judgeScraper _)).trans (sameScore_heaters _)
    · exact hlevel.trans (sameScore_heaters _)

/-- A held search is a held raise. -/
def HeldSearches (b : Block) : Prop := ∀ p, (b.lc p).heldSearch = true → (b.lc p).held ≠ .none

theorem LiftAct.heldSearch {w : Ending} {l : Lift} (h : LiftAct w b p l)
    (hb : (b.lc p).heldSearch = true → (b.lc p).held ≠ .none) : l.heldSearch = true → l.held ≠ .none := by
  cases h
  case drops => exact fun e => absurd e Bool.false_ne_true
  case holds => exact fun e => absurd e Bool.false_ne_true
  case raises taken stowed free rested =>
    have hraised : ((beginRaise p b).lc p).heldSearch = false := by simp [beginRaise, evaluate]
    exact fun e => absurd (hraised.symm.trans e) (by decide)
  all_goals exact hb

theorem Act.heldSearches {w : Ending} (h : Act w b x) (hb : HeldSearches b) : HeldSearches x := fun p => by
  rcases h.lc_eq_or p with hl | hl
  · rw [hl]
    exact hb p
  · exact hl.heldSearch (hb p)

/-- With no search begun or held there is none to abort. -/
theorem abortSearches_none (hs : ∀ p, (b.lc p).state ≠ .searching) (hh : ∀ p, (b.lc p).heldSearch = false) :
    abortSearches b = b := by
  have hp (p : Panto) : (if (b.lc p).state = .searching then abortSearch p b
      else if (b.lc p).heldSearch then discardHeld p b else b) = b := by
    rw [if_neg (hs p), hh p, if_neg Bool.false_ne_true]
  unfold abortSearches onceAdopted
  split
  · rfl
  · simp only [eachPanto, hp]

/-- STANDBY, entered with the roof at rest and no raise held, finds no search to abort. -/
theorem sameScore_standbyCheck (hb : HeldSearches b) : SameScore b (standbyCheck b) := by
  unfold standbyCheck
  split
  next h =>
    simp only [Bool.and_eq_true] at h
    obtain ⟨⟨-, hrest⟩, hheld⟩ := h
    rw [setMode, abortSearches_none]
    · exact ⟨rfl, rfl⟩
    · intro p hs
      have hp := roofAtRest_iff.mp hrest p
      rw [show (b.lc p).state = .searching from hs] at hp
      exact absurd hp (by decide)
    · intro p
      have hp : (b.lc p).held = .none := by
        have hall := List.all_eq_true.mp hheld p (by cases p <;> decide)
        simpa using hall
      exact Bool.eq_false_iff.mpr fun e => hb p e hp
  next => exact ⟨rfl, rfl⟩

/-- An event that takes the score from its own start ends with the score of its end. -/
theorem settle_scored (s : Block) (judge : Bool) (hb : Scored b) (hc : collector b = collector s) (hh : HeldSearches b) :
    Scored (settle s judge b) := by
  have hfollow : Scored (followCollector s (rounds roundLimit b)) := by
    unfold followCollector
    split
    next h => exact SameScore.scored ⟨rounds_score _ _, h.symm.trans hc.symm⟩ (kept_rounds _ _) hb
    next => exact scored_evaluateScore _ _
  have hheld : HeldSearches (iceSettle s judge (rounds roundLimit b)) :=
    (((reactions_rounds roundLimit b).trans (reactions_iceSettle s judge _)).acts).keep (fun _ _ hs => hs.heldSearches) hh
  have hsettled := (sameScore_iceSettle s judge _).scored (by simp [followCollector]; split <;> simp) hfollow
  have hstandby := (sameScore_standbyCheck hheld).scored (by simp) hsettled
  change Scored (close s (guardBreaker (standbyCheck (iceSettle s judge (rounds roundLimit b)))))
  generalize standbyCheck (iceSettle s judge (rounds roundLimit b)) = v at hstandby
  have hguard : SameScore v (guardBreaker v) :=
    .of_plan (by rw [ice_guardBreaker]) (by rw [onlyBreaker_guard v])
  have hclose : SameScore (guardBreaker v) (close s (guardBreaker v)) :=
    ⟨by rw [close_ice], collector_congr fun r => by rw [close_role]⟩
  exact hclose.scored (kept_close _ _) (hguard.scored (by simp) hstandby)

/-! ## The pulses -/

/-- What the capture of a pulse leaves. -/
structure CapturesOnly (b x : Block) : Prop where
  kept : { x.kept with capture := b.kept.capture, arcCount := b.kept.arcCount, history := b.kept.history } = b.kept
  lift : x.lift = b.lift
  plan : x.plan = b.plan

/-- The record that the arc of `p` makes (R151). -/
def arcRecord (p : Panto) (us : Nat) (counted : Bool) (b : Block) : ArcRecord :=
  ⟨wrapSucc b.ice.arcCount, p, b.queue.position, us, b.queue.speed, severityOf us, counted⟩

theorem makeArc_eq (p : Panto) (us : Nat) (counted : Bool) (b : Block) : ∃ i : Ice, makeArc p us counted b = { b with ice := i } ∧
    i.capture = b.ice.capture ∧ i.arcCount = wrapSucc b.ice.arcCount ∧
    i.history = (arcRecord p us counted b :: b.ice.history).take 32 ∧
    CapturesOnly b (makeArc p us counted b) := by
  rw [makeArc, evaluateScore_eq]
  exact ⟨_, rfl, rfl, rfl, rfl, rfl, rfl, rfl⟩

theorem CapturesOnly.settles (s : Block) (judge : Bool) (h : CapturesOnly s x) :
    { (settle s judge x).kept with
      capture := s.kept.capture, arcCount := s.kept.arcCount, history := s.kept.history } = s.kept := by
  rw [kept_settle]
  exact h.kept

/-- A made record stands at the event's end, with the score of its end. -/
theorem arc_recorded (judge : Bool) {us : Nat} {counted : Bool} {i : Ice}
    (hx : x = makeArc p us counted { s with ice := { s.ice with capture := i.capture } }) :
    (settle s judge x).ice.arcCount = (s.ice.arcCount + 1) % 65536 ∧
      (settle s judge x).ice.history = (⟨(settle s judge x).ice.arcCount, p, s.queue.position, us, s.queue.speed,
        severityOf us, counted⟩ :: s.ice.history).take 32 ∧
      (settle s judge x).ice.capture = i.capture ∧
      CapturesOnly s x ∧ (SearchLaw s → Scored (settle s judge x)) := by
  obtain ⟨j, hmade, hcapture, hcount, hhistory, honly⟩ := makeArc_eq p us counted { s with ice := { s.ice with capture := i.capture } }
  rw [← hx] at hmade honly
  have hk := kept_settle s judge x
  have hcount' : (settle s judge x).ice.arcCount = wrapSucc s.ice.arcCount := by
    rw [show (settle s judge x).ice.arcCount = x.ice.arcCount from congrArg Kept.arcCount hk, hmade]
    exact hcount
  refine ⟨hcount', ?_, ?_, ⟨?_, ?_, ?_⟩, fun hl => settle_scored s judge ?_ ?_ ?_⟩
  · rw [hcount', show (settle s judge x).ice.history = x.ice.history from congrArg Kept.history hk, hmade]
    exact hhistory
  · rw [show (settle s judge x).ice.capture = x.ice.capture from congrArg Kept.capture hk, hmade]
    exact hcapture
  · exact congrArg (fun k : Kept => { k with
      capture := s.kept.capture, arcCount := s.kept.arcCount, history := s.kept.history }) honly.kept
  · rw [hmade]
  · rw [hmade]
  · rw [hx]
    exact scored_evaluateScore _ _
  · rw [hmade]; rfl
  · intro r hr
    rw [hmade] at hr ⊢
    exact (hl r hr).1

theorem scoreSum_eq (c : Panto) (position window : Nat) (l : List ArcRecord) : scoreSum c position window l =
    ((l.filter fun r => r.panto == c && r.counted && decide (position ≤ r.position + window)).map fun r =>
      r.severity.weight).sum := by
  induction l with
  | nil => rfl
  | cons r l ih =>
    rw [scoreSum, ih, List.filter_cons, scored]
    split
    · rw [List.map_cons, List.sum_cons]
    · rw [Nat.zero_add]

theorem arcStart_frame (p : Panto) (edge : ArcEdge) (b : Block) :
    arcStart p edge b = { b with ice := { b.ice with capture := (arcStart p edge b).ice.capture } } := by
  unfold arcStart
  dsimp only
  split <;> rfl

theorem arcStart_rising (p : Panto) (b : Block) :
    ((b.ice.capture.get p).state = .low → (arcStart p .rising b).ice.capture =
      b.ice.capture.set p ⟨.timing, 0, b.role p == .collecting⟩) ∧
    ((b.ice.capture.get p).state ≠ .low → (arcStart p .rising b).ice.capture = b.ice.capture) := by
  unfold arcStart
  dsimp only
  cases (b.ice.capture.get p).state
  case low => exact ⟨fun _ => rfl, fun h => absurd rfl h⟩
  all_goals exact ⟨fun h => absurd h (by decide), fun _ => rfl⟩

theorem arcStart_low (p : Panto) (b : Block) :
    ((b.ice.capture.get p).state = .waitLow → (arcStart p .low b).ice.capture =
      b.ice.capture.set p { b.ice.capture.get p with state := .low }) ∧
    ((b.ice.capture.get p).state ≠ .waitLow → (arcStart p .low b).ice.capture = b.ice.capture) := by
  unfold arcStart
  dsimp only
  cases (b.ice.capture.get p).state
  case waitLow => exact ⟨fun _ => rfl, fun h => absurd rfl h⟩
  all_goals exact ⟨fun h => absurd h (by decide), fun _ => rfl⟩

/-- The start of a pulse changes the capture alone. -/
theorem arcStart_ends (p : Panto) (edge : ArcEdge) (s : State) : ∃ t, exec (.arcPulseStart p edge) s = .next t ∧
    t.block.ice.capture = (arcStart p edge s.block).ice.capture ∧
    { t.block.kept with capture := s.block.kept.capture } = s.block.kept := by
  refine ⟨⟨s.pending, close s.block (arcStart p edge s.block)⟩, rfl, by rw [close_ice], ?_⟩
  rw [kept_close, arcStart_frame]
  rfl

/-- The end of a pulse shorter than ArcMin, or of one not timed. -/
theorem arcEnd_unrecorded {us : Nat} (hus : us ≤ 65535)
    (h : ¬((b.ice.capture.get p).state = .timing ∧ b.nat .arcMin ≤ us)) :
    ∃ v, arcEnd p us b = { b with ice := { b.ice with capture := v } } ∧ (v.get p).state = .low := by
  have hset (c : Capture) (hc : c.state = .low) : ((b.ice.capture.set p c).get p).state = .low := by
    rw [PerP.get_set_self, hc]
  unfold arcEnd
  rw [show min us pulseLimit = us from Nat.min_eq_left hus]
  dsimp only
  cases hs : (b.ice.capture.get p).state
  case timing =>
    dsimp only
    rw [if_neg fun hm => h ⟨hs, hm⟩]
    exact ⟨_, rfl, hset _ rfl⟩
  case heldHigh => exact ⟨_, rfl, hset _ rfl⟩
  case waitLow => exact ⟨_, rfl, hset _ rfl⟩
  case low => exact ⟨_, rfl, hs⟩

/-- The end of a timed pulse of ArcMin or more. -/
theorem arcEnd_records {us : Nat} (hus : us ≤ 65535) (hs : (b.ice.capture.get p).state = .timing) (hm : b.nat .arcMin ≤ us) :
    arcEnd p us b = makeArc p us (b.ice.capture.get p).mark
      (b.setCapture p { b.ice.capture.get p with state := .low, timer := us }) := by
  unfold arcEnd
  rw [show min us pulseLimit = us from Nat.min_eq_left hus]
  dsimp only
  rw [hs]
  dsimp only
  exact if_pos hm

/-- Settles O54, by the frame of a pulse and by what the blocks' answers leave of the score. -/
theorem arcsAreRecorded : Obligations.ArcsAreRecorded := by
  unfold Obligations.ArcsAreRecorded
  refine ⟨fun p s => ?_, fun p s => ?_, fun p us s hus => ?_, fun p s hs => ?_, fun us => ?_, fun b => ?_, fun fall b => ?_,
    fun _ => rfl, fun s => ?_⟩
  · obtain ⟨hlow, hother⟩ := arcStart_rising p s.block
    obtain ⟨t, ht, hcapture, hkept⟩ := arcStart_ends p .rising s
    exact ⟨t, ht, fun h => hcapture.trans (hlow h), fun h => hcapture.trans (hother h), hkept⟩
  · obtain ⟨hwait, hother⟩ := arcStart_low p s.block
    obtain ⟨t, ht, hcapture, hkept⟩ := arcStart_ends p .low s
    exact ⟨t, ht, fun h => hcapture.trans (hwait h), fun h => hcapture.trans (hother h), hkept⟩
  · refine ⟨_, rfl, ?_⟩
    change ((settle s.block false (arcEnd p us s.block)).ice.capture.get p).state = .low ∧ _
    by_cases h : (s.block.ice.capture.get p).state = .timing ∧ s.block.nat .arcMin ≤ us
    · obtain ⟨hcount, hhistory, hcapture, honly, hscored⟩ := arc_recorded (s := s.block) false
        (i := { s.block.ice with
          capture := s.block.ice.capture.set p { s.block.ice.capture.get p with state := .low, timer := us } }) (arcEnd_records hus h.1 h.2)
      refine ⟨?_, honly.settles s.block false, fun _ _ => ⟨hcount, hhistory, hscored⟩, fun hn => absurd h hn⟩
      rw [hcapture, PerP.get_set_self]
    · obtain ⟨v, hv, hlow⟩ := arcEnd_unrecorded hus h
      have hk := kept_settle s.block false (arcEnd p us s.block)
      refine ⟨?_, CapturesOnly.settles s.block false (by rw [hv]; exact ⟨rfl, rfl, rfl⟩), fun ht hm => absurd ⟨ht, hm⟩ h,
        fun _ => ⟨?_, ?_⟩⟩
      · have hcapture := congrArg Kept.capture hk
        rw [hv] at hcapture ⊢
        exact (congrArg (fun c : PerP Capture => (c.get p).state) hcapture).trans hlow
      · exact (congrArg Kept.arcCount hk).trans (by rw [hv]; rfl)
      · exact (congrArg Kept.history hk).trans (by rw [hv]; rfl)
  · refine ⟨_, rfl, ?_⟩
    change ((settle s.block false (arcExpiry p s.block)).ice.capture.get p).state = .heldHigh ∧ _
    have hx : arcExpiry p s.block = makeArc p 65535 (s.block.ice.capture.get p).mark
        (s.block.setCapture p { s.block.ice.capture.get p with state := .heldHigh, timer := 65535 }) := by
      unfold arcExpiry
      dsimp only
      rw [hs]
      rfl
    obtain ⟨hcount, hhistory, hcapture, -, hscored⟩ := arc_recorded (s := s.block) false
      (i := { s.block.ice with
        capture := s.block.ice.capture.set p { s.block.ice.capture.get p with state := .heldHigh, timer := 65535 } }) hx
    refine ⟨?_, hcount, hhistory, hscored⟩
    rw [hcapture, PerP.get_set_self]
  · unfold severityOf
    refine ⟨fun h => if_pos h, fun h h' => ?_, fun h => ?_⟩
    · rw [if_neg (by omega), if_pos h']
    · rw [if_neg (by omega), if_neg (by omega)]
  · refine ⟨fun h => ?_, fun c hc huniq => ?_⟩
    · rw [scoreOf, show collector b = none from List.find?_eq_none.mpr fun r _ e => h r (by simpa using e)]
    · rw [scoreOf, show collector b = some c from find_panto_iff.mpr ?_]
      · refine (scoreSum_eq c b.queue.position (b.nat .iceWindow) b.ice.history).trans (congrArg List.sum ?_)
        refine List.map_congr_left fun r _ => ?_
        cases r.severity <;> rfl
      · exact ⟨beq_iff_eq.mpr hc, fun x hx => (huniq x (beq_iff_eq.mp hx)) ▸ Nat.le_refl _⟩
  · refine ⟨_, rfl, ?_, ?_, ?_⟩
    · conv => lhs; rw [evaluateScore_eq]
      rw [evaluateScore_eq]
    · rw [evaluateScore_eq]
    · have hraw : (evaluateScore fall b).ice.raw = rawOf b (scoreOf b) := by rw [evaluateScore_eq]
      rw [hraw]
      refine ⟨fun h => if_pos h, fun h1 h2 => ?_, fun h1 h2 h3 => ?_, fun h1 h2 h3 => ?_, ?_⟩
      · rw [rawOf, if_neg (by omega), if_pos h2]
      · rw [rawOf, if_neg (by omega), if_neg (by omega), if_pos h3]
      · rw [rawOf, if_neg (by omega), if_neg (by omega), if_neg (by omega)]
      · obtain ⟨hr, hs, hst, hf, hw⟩ := judgesLevel fall (rawOf b (scoreOf b))
          { b with ice := { b.ice with score := scoreOf b } } rfl
        exact ⟨hr, hs, hst, hf, hw⟩
  · exact ⟨_, rfl, close_frame_of_same rfl rfl⟩

end Sys2Proof.Machine
end

section
/-!
The start of a path takes nothing from the links: two blocks that differ in their links alone are taken to two such blocks.
-/

namespace Sys2Proof.Machine

variable {b c x y z : Block} {p : Panto}

/-- The two blocks differ in their links alone. -/
def LinksApart (b x : Block) : Prop := ∃ l : PerL LinkRec, x = { b with links := l }

/-- The operation takes nothing from the links, and changes nothing else by them. -/
def IgnoresLinks (f : Block → Block) : Prop := ∀ b x, LinksApart b x → LinksApart (f b) (f x)

theorem LinksApart.refl (b : Block) : LinksApart b b := ⟨b.links, rfl⟩

theorem IgnoresLinks.comp {f g : Block → Block} (hf : IgnoresLinks f) (hg : IgnoresLinks g) : IgnoresLinks fun b => f (g b) :=
  fun b x h => hf _ _ (hg b x h)

theorem ignoresLinks_report (n : Nat) : IgnoresLinks (report n) := by
  rintro b x ⟨l, rfl⟩
  exact ⟨_, rfl⟩

/-- An operation that does not touch the links and is the same with others. -/
theorem ignoresLinks_of {f : Block → Block} (h : ∀ b l, f { b with links := l } = { f b with links := l }) : IgnoresLinks f := by
  rintro b x ⟨l, rfl⟩
  exact ⟨l, h b l⟩

theorem apart_ite {u v u' v' : Block} {c d : Prop} [Decidable c] [Decidable d] (hc : d ↔ c) (ht : LinksApart u v)
    (he : LinksApart u' v') : LinksApart (if c then u else u') (if d then v else v') := by
  by_cases h : c
  · rw [if_pos h, if_pos (hc.mpr h)]
    exact ht
  · rw [if_neg h, if_neg fun hd => h (hc.mp hd)]
    exact he

theorem ignoresLinks_eachPanto {f : Panto → Block → Block} (h : ∀ p, IgnoresLinks (f p)) : IgnoresLinks (eachPanto f) :=
  fun b x hx => h .p4 _ _ (h .p3 _ _ (h .p2 _ _ (h .p1 b x hx)))

/-! ## The operations on one pantograph -/

theorem ignoresLinks_openBreaker (v : Source) : IgnoresLinks (openBreaker v) := ignoresLinks_of fun b l => by
  unfold openBreaker
  dsimp only
  cases b.sw.breaker.state <;> rfl

theorem ignoresLinks_clearRole (p : Panto) : IgnoresLinks (clearRole p) := ignoresLinks_of fun _ _ => rfl

theorem ignoresLinks_serveEntry (n : Option Nat) : IgnoresLinks (serveEntry n) := ignoresLinks_of fun _ _ => by
  cases n <;> rfl

theorem ignoresLinks_halt_raise : IgnoresLinks (halt .raise) := by
  have henter (b : Block) (l : PerL LinkRec) : LinksApart (enterHalt .raise b) (enterHalt .raise { b with links := l }) := by
    rw [enterHalt_eq (by decide), enterHalt_eq (by decide)]
    refine ignoresLinks_openBreaker _ _ _ ?_
    change LinksApart _ (setPreheat none { serveEntry b.seq.activeEntry { b with links := l } with
      seq := { (serveEntry b.seq.activeEntry { b with links := l }).seq with
        phase := .halted, haltReason := some .raise, timer := none, work := .none } })
    obtain ⟨l', hl⟩ := ignoresLinks_serveEntry b.seq.activeEntry b _ ⟨l, rfl⟩
    rw [hl]
    exact ⟨l', rfl⟩
  rintro b x ⟨l, rfl⟩
  unfold halt
  dsimp only
  cases b.seq.phase
  case idle => exact ⟨l, rfl⟩
  case halted => exact ⟨l, rfl⟩
  all_goals exact henter b l

theorem ignoresLinks_leaveContact (p : Panto) (f : Lift → Lift) : IgnoresLinks fun b => leaveContact p (f (b.lc p)) b := by
  rintro b x ⟨l, rfl⟩
  exact apart_ite Iff.rfl (ignoresLinks_halt_raise _ _ ⟨l, rfl⟩) ⟨l, rfl⟩

theorem ignoresLinks_beginLowering (p : Panto) : IgnoresLinks (beginLowering p) := ignoresLinks_leaveContact p Lift.toLowering

theorem ignoresLinks_changeEntry (p : Panto) (f : CalFields → CalFields) : IgnoresLinks (changeEntry p f) := by
  refine (ignoresLinks_report 7).comp (ignoresLinks_of fun b l => ?_)
  unfold offerWrite
  dsimp only
  cases b.mem.inFlight
  case none => rfl
  case some w => dsimp only; split <;> rfl

theorem ignoresLinks_abortSearch (p : Panto) : IgnoresLinks (abortSearch p) :=
  (ignoresLinks_beginLowering p).comp (ignoresLinks_changeEntry p _)

theorem ignoresLinks_discardHeld (p : Panto) : IgnoresLinks (discardHeld p) := by
  rintro b x ⟨l, rfl⟩
  refine ignoresLinks_clearRole p _ _ ?_
  have habort : LinksApart (if (b.lc p).heldSearch then abortEntry p b else b)
      (if (b.lc p).heldSearch then abortEntry p { b with links := l } else { b with links := l }) :=
    apart_ite Iff.rfl (ignoresLinks_changeEntry p _ _ _ ⟨l, rfl⟩) ⟨l, rfl⟩
  obtain ⟨l', hl⟩ := habort
  exact ⟨l', congrArg (fun a : Block => a.setLift p { a.lc p with
    held := .none, heldSearch := false, airTimer := none
    search := if (b.lc p).heldSearch then none else (b.lc p).search }) hl⟩

theorem ignoresLinks_valvesFrom (ps : List Panto) : IgnoresLinks (valvesFrom ps) := by
  induction ps with
  | nil => exact ignoresLinks_of fun _ _ => rfl
  | cons p ps ih =>
    rintro b x ⟨l, rfl⟩
    exact apart_ite Iff.rfl ⟨l, rfl⟩ (ih _ _ ⟨l, rfl⟩)

theorem ignoresLinks_skipValves (p : Panto) : IgnoresLinks (skipValves p) := by
  rintro b x ⟨l, rfl⟩
  unfold skipValves
  dsimp only
  cases b.cond.testStep
  case valves q n => exact apart_ite Iff.rfl (ignoresLinks_valvesFrom _ _ _ ⟨l, rfl⟩) ⟨l, rfl⟩
  all_goals exact ⟨l, rfl⟩

theorem ignoresLinks_pendLower (p : Panto) : IgnoresLinks (pendLower p) := by
  rintro b x ⟨l, rfl⟩
  exact apart_ite Iff.rfl ⟨l, rfl⟩ (ignoresLinks_openBreaker _ _ _ ⟨l, rfl⟩)

theorem ignoresLinks_actOnLower (i : Bool) (p : Panto) : IgnoresLinks (actOnLower i p) := by
  rintro b x ⟨l, rfl⟩
  have hskip := ignoresLinks_skipValves p b { b with links := l } ⟨l, rfl⟩
  have hlower := ignoresLinks_beginLowering p b { b with links := l } ⟨l, rfl⟩
  unfold actOnLower
  change LinksApart _ (match (b.lc p).state with
    | .stowed => if (b.lc p).held ≠ .none then discardHeld p (skipValves p { b with links := l })
      else skipValves p { b with links := l }
    | .raising => beginLowering p { b with links := l }
    | .contact => if waitsForBreaker b i p then pendLower p { b with links := l } else beginLowering p { b with links := l }
    | .lowering => if (b.lc p).held ≠ .none then discardHeld p { b with links := l } else { b with links := l }
    | .searching => abortSearch p { b with links := l }
    | .dropped => { b with links := l }
    | .outOfService => { b with links := l })
  cases (b.lc p).state
  case stowed => exact apart_ite Iff.rfl (ignoresLinks_discardHeld p _ _ hskip) hskip
  case raising => exact hlower
  case contact => exact apart_ite Iff.rfl (ignoresLinks_pendLower p _ _ ⟨l, rfl⟩) hlower
  case lowering => exact apart_ite Iff.rfl (ignoresLinks_discardHeld p _ _ ⟨l, rfl⟩) ⟨l, rfl⟩
  case searching => exact ignoresLinks_abortSearch p _ _ ⟨l, rfl⟩
  case dropped => exact ⟨l, rfl⟩
  case outOfService => exact ⟨l, rfl⟩

theorem ignoresLinks_takeLower (i : Bool) (p : Panto) : IgnoresLinks (takeLower i p) := by
  rintro b x ⟨l, rfl⟩
  exact apart_ite Iff.rfl (apart_ite Iff.rfl (ignoresLinks_pendLower p _ _ ⟨l, rfl⟩) ⟨l, rfl⟩)
    (ignoresLinks_actOnLower i p _ _ ⟨l, rfl⟩)

/-! ## The start of a path -/

theorem ignoresLinks_abortSearches : IgnoresLinks abortSearches := by
  have hone (p : Panto) : IgnoresLinks fun b => if (b.lc p).state = .searching then abortSearch p b
      else if (b.lc p).heldSearch then discardHeld p b else b := by
    rintro b x ⟨l, rfl⟩
    exact apart_ite Iff.rfl (ignoresLinks_abortSearch p _ _ ⟨l, rfl⟩)
      (apart_ite Iff.rfl (ignoresLinks_discardHeld p _ _ ⟨l, rfl⟩) ⟨l, rfl⟩)
  rintro b x ⟨l, rfl⟩
  exact apart_ite Iff.rfl ⟨l, rfl⟩ (ignoresLinks_eachPanto hone _ _ ⟨l, rfl⟩)

theorem ignoresLinks_discardAllHeld : IgnoresLinks discardAllHeld := ignoresLinks_eachPanto fun p => by
  rintro b x ⟨l, rfl⟩
  exact apart_ite Iff.rfl (ignoresLinks_discardHeld p _ _ ⟨l, rfl⟩) ⟨l, rfl⟩

theorem ignoresLinks_lowerScrapers : IgnoresLinks lowerScrapers := ignoresLinks_eachPanto fun p => by
  rintro b x ⟨l, rfl⟩
  exact apart_ite Iff.rfl (ignoresLinks_takeLower false p _ _ (ignoresLinks_clearRole p _ _ ⟨l, rfl⟩)) ⟨l, rfl⟩

theorem ignoresLinks_lowerUp (i : Bool) : IgnoresLinks (lowerUp i) := ignoresLinks_eachPanto fun p => by
  rintro b x ⟨l, rfl⟩
  exact apart_ite Iff.rfl (ignoresLinks_takeLower i p _ _ ⟨l, rfl⟩) ⟨l, rfl⟩

theorem ignoresLinks_startPath (k : Path) (entry : Option Nat) (late : Bool) (expected : Option LineSystem)
    (head : Option Head) (phase : Phase) : IgnoresLinks (startPath k entry late expected head phase) := by
  rintro b x ⟨l, rfl⟩
  exact ignoresLinks_report 5 _ _ (ignoresLinks_lowerScrapers _ _ (ignoresLinks_discardAllHeld _ _
    (ignoresLinks_abortSearches _ _ ⟨l, rfl⟩)))

theorem ignoresLinks_enterBreakerOpen : IgnoresLinks enterBreakerOpen := by
  rintro b x ⟨l, rfl⟩
  have hopen := ignoresLinks_openBreaker .internal { b with seq := { b.seq with phase := .breakerOpen, timer := none } }
    { b with links := l, seq := { b.seq with phase := .breakerOpen, timer := none } } ⟨l, rfl⟩
  exact apart_ite Iff.rfl (ignoresLinks_lowerUp true _ _ hopen) hopen

theorem ignoresLinks_finishPath : IgnoresLinks finishPath := by
  rintro b x ⟨l, rfl⟩
  obtain ⟨l', hl⟩ := ignoresLinks_serveEntry b.seq.activeEntry
    { b with seq := { b.seq with phase := .idle, path := none, activeEntry := none, work := .none, timer := none } }
    { b with links := l, seq := { b.seq with phase := .idle, path := none, activeEntry := none, work := .none, timer := none } }
    ⟨l, rfl⟩
  exact ⟨l', congrArg (setTractionOff false) hl⟩

theorem ignoresLinks_setCandidate (c : Option Panto) : IgnoresLinks (setCandidate c) := by
  rintro b x ⟨l, rfl⟩
  exact apart_ite Iff.rfl ⟨l, rfl⟩ ⟨l, rfl⟩

/-! ## The offer of an entry -/

/-- What follows the start of the path of a NEUTRAL or ZONE entry (R130). -/
def goOn (k : Path) (late : Bool) (b : Block) : Block :=
  if late then (if (collector b).isSome then enterBreakerOpen b else finishPath b)
  else if k = .zone then setCandidate (collector b) b
  else b

/-- What follows the start of the path of a SYSTEM_CHANGE entry, the ice level being `level` (R130, R163). -/
def goChange (level : Nat) (late : Bool) (b : Block) : Block :=
  if late then enterBreakerOpen b
  else if 1 ≤ level then setPreheat (chooseCandidate b) (setCandidate (chooseCandidate b) b)
  else setCandidate (chooseCandidate b) b

/-- The start of the path of an offered entry. -/
def startFor (e : Entry) (late : Bool) (b : Block) : Block :=
  startPath (pathFor e b) (some e.id) late (if e.kind = .systemChange then e.newSystem else b.record.determined) none
    (if late then .breakerOpen else .armed) b

theorem offerEntry_change {e : Entry} (late : Bool) (h : e.kind = .systemChange) (b : Block) :
    offerEntry e late b = goChange b.ice.level late (startFor e late b) := by
  unfold offerEntry startFor pathFor
  rw [h]
  rfl

theorem offerEntry_other {e : Entry} (late : Bool) (hc : e.kind ≠ .systemChange) (hi : e.kind ≠ .iceWatch) (b : Block) :
    offerEntry e late b = goOn (pathFor e b) late (startFor e late b) := by
  unfold offerEntry startFor pathFor
  cases hk : e.kind
  case systemChange => exact absurd hk hc
  case iceWatch => exact absurd hk hi
  all_goals rfl

theorem ignoresLinks_goOn (k : Path) (late : Bool) : IgnoresLinks (goOn k late) := by
  rintro b x ⟨l, rfl⟩
  exact apart_ite Iff.rfl (apart_ite Iff.rfl (ignoresLinks_enterBreakerOpen _ _ ⟨l, rfl⟩)
    (ignoresLinks_finishPath _ _ ⟨l, rfl⟩)) (apart_ite Iff.rfl (ignoresLinks_setCandidate _ _ _ ⟨l, rfl⟩) ⟨l, rfl⟩)

theorem ignoresLinks_goChange (n : Nat) (late : Bool) : IgnoresLinks (goChange n late) := by
  rintro b x ⟨l, rfl⟩
  have hcandidate := ignoresLinks_setCandidate (chooseCandidate b) b { b with links := l } ⟨l, rfl⟩
  refine apart_ite Iff.rfl (ignoresLinks_enterBreakerOpen _ _ ⟨l, rfl⟩) (apart_ite Iff.rfl ?_ hcandidate)
  obtain ⟨m, hm⟩ := hcandidate
  exact ⟨m, congrArg (setPreheat (chooseCandidate b)) hm⟩

theorem ignoresLinks_startFor (e : Entry) (late : Bool) : IgnoresLinks (startFor e late) := by
  rintro b x ⟨l, rfl⟩
  exact ignoresLinks_startPath (pathFor e b) _ _ _ _ _ b _ ⟨l, rfl⟩

theorem ignoresLinks_offerEntry (e : Entry) (late : Bool) : IgnoresLinks (offerEntry e late) := by
  intro b x h
  by_cases hi : e.kind = .iceWatch
  · unfold offerEntry
    rw [hi]
    exact h
  have hs := ignoresLinks_startFor e late b x h
  obtain ⟨l, rfl⟩ := h
  by_cases hc : e.kind = .systemChange
  · rw [offerEntry_change late hc, offerEntry_change late hc]
    exact ignoresLinks_goChange b.ice.level late _ _ hs
  · rw [offerEntry_other late hc hi, offerEntry_other late hc hi]
    exact ignoresLinks_goOn (pathFor e b) late _ _ hs

/-! ## Activation and the removal pass -/

theorem ignoresLinks_takeLate (e : Entry) : IgnoresLinks (takeLate e) :=
  (ignoresLinks_offerEntry _ true).comp (ignoresLinks_of fun _ _ => rfl)

theorem ignoresLinks_takeArmed (e : Entry) : IgnoresLinks (takeArmed e) :=
  (ignoresLinks_offerEntry _ false).comp (ignoresLinks_of fun _ _ => rfl)

theorem ignoresLinks_activation : IgnoresLinks activation := by
  rintro b x ⟨l, rfl⟩
  refine apart_ite Iff.rfl ?_ ⟨l, rfl⟩
  change LinksApart _ (match unservedActive b with
    | some e =>
      if e.start ≤ b.queue.position then offerEntry e true { b with links := l }
      else if e.start ≤ b.queue.position + reach b then offerEntry e false { b with links := l }
      else { b with links := l }
    | none =>
      match b.queue.entries.find? (fun e => !e.active && e.kind != .iceWatch) with
      | none => { b with links := l }
      | some e =>
        if e.start ≤ b.queue.position then takeLate e { b with links := l }
        else if e.start ≤ b.queue.position + reach b then takeArmed e { b with links := l }
        else { b with links := l })
  cases unservedActive b
  case some e =>
    exact apart_ite Iff.rfl (ignoresLinks_offerEntry e true _ _ ⟨l, rfl⟩)
      (apart_ite Iff.rfl (ignoresLinks_offerEntry e false _ _ ⟨l, rfl⟩) ⟨l, rfl⟩)
  case none =>
    cases b.queue.entries.find? fun e => !e.active && e.kind != .iceWatch
    case none => exact ⟨l, rfl⟩
    case some e =>
      exact apart_ite Iff.rfl (ignoresLinks_takeLate e _ _ ⟨l, rfl⟩)
        (apart_ite Iff.rfl (ignoresLinks_takeArmed e _ _ ⟨l, rfl⟩) ⟨l, rfl⟩)

theorem ignoresLinks_recordMissed (es : List Entry) : IgnoresLinks (recordMissed es) := by
  induction es with
  | nil => exact fun _ _ h => h
  | cons e es ih => exact ih.comp (ignoresLinks_of fun _ _ => rfl)

theorem ignoresLinks_removalPass : IgnoresLinks removalPass := by
  rintro b x ⟨l, rfl⟩
  exact ignoresLinks_recordMissed _ _ _ ⟨l, rfl⟩

end Sys2Proof.Machine
end

section
/-!
Motion Reports, the removal pass and activation (R114 to R116, R121, R122, R130).
-/

namespace Sys2Proof.Machine

variable {q : Req} {s t : State} {b u v x y z : Block} {p : Panto} {e : Entry} {late : Bool} {w : Ending}

/-! ## The removal pass -/

theorem removalOf_row (b : Block) (e : Entry) :
    (removalOf b e == .keep) = !leaves b e ∧ (removalOf b e == .missed) = missed b e := by
  unfold removalOf leaves missed wellPast Entry.stop
  generalize decide (e.start + e.length + b.nat .clearance ≤ b.queue.position) = gone
  by_cases hi : e.kind = .iceWatch
  · simp only [hi, if_true]
    split <;> simp_all
  · simp only [hi, if_false]
    have hk : (e.kind != .iceWatch) = true := by simpa using hi
    cases e.active
    · by_cases hm : b.cond.mode = .service
      · cases gone <;> simp [hm, hk]
      · have hm' : (b.cond.mode == .service) = false := by simpa using hm
        by_cases hs : e.start ≤ b.queue.position <;> simp [hm, hm', hs]
    · cases e.served <;> cases gone <;> by_cases hp : b.seq.phase = .idle <;> simp [hp, hk]

theorem removalPass_eq (b : Block) : removalPass b = recordMissed (b.queue.entries.filter (missed b))
    (b.setEntries (b.queue.entries.filter fun e => !leaves b e)) := by
  unfold removalPass
  rw [List.filter_congr (q := missed b) fun e _ => (removalOf_row b e).2,
    List.filter_congr (q := fun e => !leaves b e) fun e _ => (removalOf_row b e).1]

/-- What the recording of missed sections does to the block. -/
theorem recordMissed_facts (es : List Entry) (b : Block) :
    recordMissed es b = { b with cond := (recordMissed es b).cond } ∧
      { (recordMissed es b).cond with faults := b.cond.faults } = b.cond ∧
      (FaultLaw b → faultCount .missedSection (recordMissed es b) = min 255 (faultCount .missedSection b + es.length)) ∧
      ∀ k, k ≠ .missedSection → faultCount k (recordMissed es b) = faultCount k b := by
  induction es generalizing b with
  | nil => exact ⟨rfl, rfl, fun h => (Nat.min_eq_right (h .missedSection)).symm, fun _ _ => rfl⟩
  | cons e es ih =>
    obtain ⟨hframe, hcond, hcount, hother⟩ := ih (recordFault .missedSection .none b)
    refine ⟨hframe, congrArg (fun c : Cond => { c with faults := b.cond.faults }) hcond, fun h => ?_, fun k hk => ?_⟩
    · refine (hcount (h.recordFault)).trans ?_
      rw [faultCount_recordFault_self, oneMore, List.length_cons]
      omega
    · exact (hother k hk).trans (faultCount_recordFault_ne hk _ _)

/-! ## The start of an offered path -/

/-- What the start of an offered entry's path leaves. -/
structure StartsFor (e : Entry) (late : Bool) (b x : Block) : Prop where
  seq     : x.seq = { phase := if late then .breakerOpen else .armed, path := some (pathFor e b), activeEntry := some e.id
                      lateMark := late, expected := if e.kind = .systemChange then e.newSystem else b.record.determined
                      expectedHead := none, candidate := none, retry := false, mismatch := false, work := .none
                      timer := none, haltReason := none }
  serial  : x.record.serial = (b.record.serial + 1) % 65536
  request : late = true → x.record.tractionOff = true
  queue   : x.queue = b.queue
  faults  : x.cond.faults = b.cond.faults
  mode    : x.cond.mode = b.cond.mode
  scrap   : ∀ p, x.role p ≠ .scraping

theorem startsFor (e : Entry) (late : Bool) (b : Block) : StartsFor e late b (startFor e late b) := by
  have hcalm : ¬(pathRecords (pathFor e b) (some e.id) late (if e.kind = .systemChange then e.newSystem
      else b.record.determined) none (if late then .breakerOpen else .armed) b).seq.NeedsContact := by
    cases late <;> simp [pathRecords, Seq.NeedsContact]
  have ha := around_clearForPath hcalm
  unfold startFor
  rw [startPath_eq]
  have hscrap := clearForPath_released (pathRecords (pathFor e b) (some e.id) late (if e.kind = .systemChange then e.newSystem
      else b.record.determined) none (if late then .breakerOpen else .armed) b)
  generalize clearForPath _ = x at ha hscrap ⊢
  refine ⟨ha.seq, by rw [ha.record]; rfl, fun hl => ?_, ha.queue, ha.faults, ha.mode, hscrap⟩
  rw [ha.record, hl]
  rfl

theorem lowerUp_plan (i : Bool) (b : Block) : (lowerUp i b).plan = b.plan := by
  have hone (p : Panto) (a : Block) : (if (a.lc p).state.up then takeLower i p a else a).plan = a.plan := by
    have hpend : (pendLower p a).plan = a.plan := by
      unfold pendLower
      split
      · rfl
      · exact openBreaker_plan _ _
    split
    next hup =>
      unfold takeLower actOnLower
      split
      · split
        · exact hpend
        · rfl
      · cases hs : (a.lc p).state
        case raising => exact beginLowering_plan p a
        case contact =>
          dsimp only
          split
          · exact hpend
          · exact beginLowering_plan p a
        all_goals exact absurd (hs ▸ hup) (by decide)
    next => rfl
  exact ((hone .p4 _).trans (hone .p3 _)).trans ((hone .p2 _).trans (hone .p1 b))

/-- What the entry to BREAKER_OPEN leaves. -/
theorem enterBreakerOpen_around (b : Block) :
    (enterBreakerOpen b).seq = { b.seq with phase := .breakerOpen, timer := none } ∧
      (enterBreakerOpen b).plan = b.plan ∧ (enterBreakerOpen b).record = b.record ∧
      (enterBreakerOpen b).queue = b.queue ∧ (enterBreakerOpen b).cond.faults = b.cond.faults ∧
      breakerEngaged (enterBreakerOpen b) = false := by
  have hcalm : ¬(openBreaker .internal { b with seq := { b.seq with phase := .breakerOpen, timer := none } }).seq.NeedsContact := by
    rw [openBreaker_seq]
    simp [Seq.NeedsContact]
  have hopen := openBreaker_disengages .internal { b with seq := { b.seq with phase := .breakerOpen, timer := none } }
  have hframe := openBreaker_frame .internal { b with seq := { b.seq with phase := .breakerOpen, timer := none } }
  unfold enterBreakerOpen
  dsimp only
  split
  · have ha := around_lowerUp (i := true) hcalm
    refine ⟨ha.seq.trans (openBreaker_seq _ _), (lowerUp_plan true _).trans (openBreaker_plan _ _), ha.record.trans ?_,
      ha.queue.trans ?_, ha.faults.trans ?_, ha.disengaged hopen⟩ <;> rw [hframe]
  · refine ⟨openBreaker_seq _ _, openBreaker_plan _ _, ?_, ?_, ?_, hopen⟩ <;> rw [hframe]

theorem finishPath_facts (b : Block) :
    (finishPath b).seq = { b.seq with phase := .idle, path := none, activeEntry := none, work := .none, timer := none } ∧
      (finishPath b).plan = b.plan ∧ (finishPath b).record = { b.record with tractionOff := false } ∧
      (finishPath b).cond = b.cond ∧
      ∀ n, b.seq.activeEntry = some n → ∀ x ∈ (finishPath b).queue.entries, x.id = n → x.active = true → x.served = true := by
  rw [finishPath_eq, frame_serveEntry]
  refine ⟨rfl, rfl, rfl, rfl, fun n hn x hx hid ha => ?_⟩
  rw [hn] at hx
  obtain ⟨y, -, rfl⟩ := List.mem_map.mp hx
  split
  · rfl
  next h =>
    rw [if_neg h] at hid ha
    exact absurd ⟨hid, ha⟩ h

/-- The motion values stay. -/
def SameMotion (b x : Block) : Prop := { x.queue with entries := [] } = { b.queue with entries := [] }

theorem SameMotion.of_kept (h : x.kept = b.kept) : SameMotion b x := congrArg Kept.motion h

theorem SameMotion.of_queue (h : x.queue = b.queue) : SameMotion b x := by rw [SameMotion, h]

theorem SameMotion.trans (h : SameMotion b x) (h' : SameMotion x y) : SameMotion b y := Eq.trans h' h

/-- What an offer leaves of the faults and the entries, and where it goes. -/
structure Offers (e : Entry) (late : Bool) (b x : Block) : Prop where
  takes  : TakesEntry e late b x
  faults : x.cond.faults = b.cond.faults
  ids    : x.queue.entries.map Entry.id = b.queue.entries.map Entry.id
  armed  : late = false → x.queue = b.queue ∧ x.cond.mode = b.cond.mode
  motion : SameMotion b x

theorem offers_opened (hx : StartsFor e true b x) (hc : e.kind = .systemChange ∨ ∃ p, x.role p = .collecting) :
    Offers e true b (enterBreakerOpen x) := by
  obtain ⟨hseq, hplan, hrecord, hqueue, hfaults, hopen⟩ := enterBreakerOpen_around x
  rw [hx.seq] at hseq
  have hrole (p : Panto) : (enterBreakerOpen x).role p = x.role p := by rw [Block.role, hplan, Block.role]
  refine ⟨⟨?_, fun h => absurd h (by decide), fun _ _ => ?_, fun _ hk hn => ?_, fun hk => ?_, fun p => ?_⟩, hfaults.trans hx.faults,
    by rw [hqueue, hx.queue], fun h => absurd h (by decide), by rw [SameMotion, hqueue, hx.queue]⟩
  · rw [hrecord, hx.serial]
  · rw [hseq]
    exact ⟨rfl, rfl, rfl, rfl, hopen, by rw [hrecord, hx.request rfl]⟩
  · obtain ⟨p, hp⟩ := hc.resolve_left hk
    exact absurd ((hrole p).trans hp) (hn p)
  · rw [hseq, if_pos hk]
  · rw [hrole]
    exact hx.scrap p

theorem offers_finished (hx : StartsFor e true b x) (hk : e.kind ≠ .systemChange) (hn : ∀ p, x.role p ≠ .collecting) :
    Offers e true b (finishPath x) := by
  obtain ⟨hseq, hplan, hrecord, hcond, hserved⟩ := finishPath_facts x
  have hrole (p : Panto) : (finishPath x).role p = x.role p := by rw [Block.role, hplan, Block.role]
  obtain ⟨-, f, hid, hentries⟩ := marks_finishPath x
  refine ⟨⟨?_, fun h => absurd h (by decide), fun _ hc => ?_, fun _ _ _ => ?_, fun h => absurd h hk, fun p => ?_⟩,
    by rw [hcond, hx.faults], ?_, fun h => absurd h (by decide), ?_⟩
  · rw [hrecord]
    exact hx.serial
  · obtain ⟨p, hp⟩ := hc.resolve_left hk
    exact absurd ((hrole p).symm.trans hp) (hn p)
  · rw [hseq, hrecord]
    exact ⟨rfl, rfl, rfl, hserved e.id (by rw [hx.seq])⟩
  · rw [hrole]
    exact hx.scrap p
  · rw [hentries, hx.queue, List.map_map]
    exact List.map_congr_left fun a _ => (hid a).1
  · exact (SameMotion.of_queue hx.queue).trans (.of_kept (kept_finishPath x))

/-- An offer that only names its candidate after the start of the path. -/
theorem offers_armed (hx : StartsFor e false b x) (hseq : y.seq = { x.seq with candidate := y.seq.candidate })
    (hframe : y = { x with seq := y.seq, ice := y.ice }) : Offers e false b y := by
  rw [hx.seq] at hseq
  refine ⟨⟨?_, fun _ => ?_, fun h => absurd h (by decide), fun h => absurd h (by decide), fun hk => ?_, fun p => ?_⟩, ?_, ?_,
    fun _ => ⟨?_, ?_⟩, ?_⟩
  · rw [hframe]
    exact hx.serial
  · rw [hseq]
    exact ⟨rfl, rfl, rfl, rfl⟩
  · rw [hseq]
    exact if_pos hk
  · rw [hframe]
    exact hx.scrap p
  · rw [hframe]
    exact hx.faults
  · rw [hframe]
    exact congrArg (fun v : Queue => v.entries.map Entry.id) hx.queue
  · rw [hframe]
    exact hx.queue
  · rw [hframe]
    exact hx.mode
  · exact .of_queue (by rw [hframe]; exact hx.queue)

theorem collector_isSome : (collector b).isSome = true ↔ ∃ p, b.role p = .collecting := by
  rw [collector, List.find?_isSome]
  simp [Panto.mem_all]

theorem setCandidate_eq (c : Option Panto) (b : Block) :
    setCandidate c b = { b with seq := { b.seq with candidate := c }, ice := (setCandidate c b).ice } := by
  unfold setCandidate
  dsimp only
  split <;> rfl

/-- An offer is taken (R122, R128, R130). -/
theorem offers_offerEntry (hi : e.kind ≠ .iceWatch) (late : Bool) (b : Block) : Offers e late b (offerEntry e late b) := by
  have hx := startsFor e late b
  by_cases hc : e.kind = .systemChange
  · rw [offerEntry_change late hc]
    generalize startFor e late b = x at hx
    cases late
    case true => exact offers_opened hx (.inl hc)
    case false =>
      have hframe : goChange b.ice.level false x = { x with
          seq := { x.seq with candidate := (goChange b.ice.level false x).seq.candidate }
          ice := (goChange b.ice.level false x).ice } := by
        unfold goChange
        simp only [Bool.false_eq_true, if_false]
        split
        · conv => lhs; rw [setCandidate_eq]
          rw [setCandidate_eq]
          rfl
        · conv => lhs; rw [setCandidate_eq]
          rw [setCandidate_eq]
      refine offers_armed hx (congrArg Block.seq hframe) ?_
      conv => lhs; rw [hframe]
      rw [hframe]
  · rw [offerEntry_other late hc hi]
    generalize startFor e late b = x at hx
    unfold goOn
    cases late
    case true =>
      simp only [if_true]
      split
      next h => exact offers_opened hx (.inr (collector_isSome.mp h))
      next h => exact offers_finished hx hc fun p hp => h (collector_isSome.mpr ⟨p, hp⟩)
    case false =>
      simp only [Bool.false_eq_true, if_false]
      split
      · have hframe := setCandidate_eq (collector x) x
        refine offers_armed hx ?_ ?_
        · rw [hframe]
        · conv => lhs; rw [hframe]
          rw [hframe]
      · exact offers_armed hx rfl rfl

/-! ## Activation -/

/-- What TakesEntry asks of the block before holds of the entry made ACTIVE too. -/
theorem TakesEntry.of_active {f : Entry} {a : Block} (h : TakesEntry f late a x) (hid : f.id = e.id) (hk : f.kind = e.kind)
    (hn : f.newSystem = e.newSystem) (hserial : a.record = b.record) (hplan : a.plan = b.plan) : TakesEntry e late b x := by
  have hpath : pathFor f a = pathFor e b := by
    unfold pathFor
    rw [hk, collector_of_plan hplan, hserial]
  obtain ⟨h1, h2, h3, h4, h5, h6⟩ := h
  rw [hk, hid, hn, hserial, hpath] at *
  exact ⟨h1, h2, h3, h4, h5, h6⟩

theorem activation_off (h : b.cond.mode ≠ .service ∨ b.seq.phase ≠ .idle) : activation b = b := by
  unfold activation
  exact if_neg fun hn => h.elim (fun e => e hn.1) fun e => e hn.2

theorem activation_active (hm : b.cond.mode = .service) (hp : b.seq.phase = .idle)
    (hf : b.queue.entries.find? (fun x => x.active && !x.served) = some e) : activation b =
    if e.start ≤ b.queue.position then offerEntry e true b
    else if e.start ≤ b.queue.position + reach b then offerEntry e false b
    else b := by
  unfold activation unservedActive
  rw [if_pos ⟨hm, hp⟩, hf]

theorem activation_waiting (hm : b.cond.mode = .service) (hp : b.seq.phase = .idle)
    (hf : b.queue.entries.find? (fun x => x.active && !x.served) = none)
    (hw : b.queue.entries.find? (fun x => !x.active && x.kind != .iceWatch) = some e) : activation b =
    if e.start ≤ b.queue.position then takeLate e b
    else if e.start ≤ b.queue.position + reach b then takeArmed e b
    else b := by
  unfold activation unservedActive
  rw [if_pos ⟨hm, hp⟩, hf]
  dsimp only
  rw [hw]

theorem takeLate_taken (hi : e.kind ≠ .iceWatch) (b : Block) : TakesEntry e true b (takeLate e b) ∧
    (faultCount .lateSection (takeLate e b) = oneMore .lateSection b ∧
      (takeLate e b).queue.entries.map Entry.id = (activated e b).map Entry.id) ∧ SameMotion b (takeLate e b) := by
  have ho := offers_offerEntry (e := { e with active := true, served := false }) hi true
    (recordFault .lateSection .none (activate e.id (dropServed b)))
  exact ⟨ho.takes.of_active rfl rfl rfl rfl rfl,
    ⟨(faultCount_of_faults ho.faults _).trans (faultCount_recordFault_self _ _ _), ho.ids⟩, ho.motion⟩

theorem takeArmed_taken (hi : e.kind ≠ .iceWatch) (b : Block) : TakesEntry e false b (takeArmed e b) ∧
    (takeArmed e b).queue.entries = activated e b ∧
    faultCount .lateSection (takeArmed e b) = faultCount .lateSection b ∧ (takeArmed e b).cond.mode = b.cond.mode ∧
    SameMotion b (takeArmed e b) := by
  have ho := offers_offerEntry (e := { e with active := true, served := false }) hi false (activate e.id (dropServed b))
  obtain ⟨hqueue, hmode⟩ := ho.armed rfl
  exact ⟨ho.takes.of_active rfl rfl rfl rfl rfl, congrArg Queue.entries hqueue, faultCount_of_faults ho.faults _, hmode, ho.motion⟩

/-- An activation does nothing, or takes an entry armed or late. -/
theorem activation_cases (b : Block) : activation b = b ∨
    ∃ e late, TakesEntry e late b (activation b) ∧ SameMotion b (activation b) ∧ (late = false → (activation b).cond.mode = .service) := by
  by_cases h : b.cond.mode = .service ∧ b.seq.phase = .idle
  swap
  · exact .inl (activation_off (by tauto))
  obtain ⟨hm, hp⟩ := h
  cases hf : b.queue.entries.find? fun x => x.active && !x.served
  case some e =>
    rw [activation_active hm hp hf]
    by_cases hi : e.kind = .iceWatch
    · have hoff (late : Bool) : offerEntry e late b = b := by simp only [offerEntry, hi]
      simp only [hoff, ite_self, true_or]
    have ho (late : Bool) := offers_offerEntry hi late b
    split
    · exact .inr ⟨e, true, (ho true).takes, (ho true).motion, fun h => absurd h (by decide)⟩
    · split
      · exact .inr ⟨e, false, (ho false).takes, (ho false).motion, fun _ => ((ho false).armed rfl).2.trans hm⟩
      · exact .inl rfl
  case none =>
    cases hw : b.queue.entries.find? fun x => !x.active && x.kind != .iceWatch
    case none =>
      left
      unfold activation unservedActive
      rw [if_pos ⟨hm, hp⟩, hf]
      dsimp only
      rw [hw]
    case some e =>
      have hi : e.kind ≠ .iceWatch := by
        have hsome := List.find?_some hw
        simp only [Bool.and_eq_true, bne_iff_ne] at hsome
        exact hsome.2
      rw [activation_waiting hm hp hf hw]
      split
      · obtain ⟨htakes, -, hmotion⟩ := takeLate_taken hi b
        exact .inr ⟨e, true, htakes, hmotion, fun h => absurd h (by decide)⟩
      · split
        · obtain ⟨htakes, -, -, hmode, hmotion⟩ := takeArmed_taken hi b
          exact .inr ⟨e, false, htakes, hmotion, fun _ => hmode.trans hm⟩
        · exact .inl rfl

theorem sameMotion_activation (b : Block) : SameMotion b (activation b) := by
  rcases activation_cases b with h | ⟨e, late, -, h, -⟩
  · rw [h]; rfl
  · exact h

theorem sameMotion_removalPass (b : Block) : SameMotion b (removalPass b) := by
  rw [removalPass_eq]
  obtain ⟨hframe, -⟩ := recordMissed_facts (b.queue.entries.filter (missed b))
    (b.setEntries (b.queue.entries.filter fun e => !leaves b e))
  rw [hframe]
  rfl

/-! ## What follows the activation of an accepted report -/

/-- The entry with its served mark left out. -/
def Entry.unserved (e : Entry) : Entry := { e with served := false }

/-- The entries but for their served marks, the faults of the route and what `Kept` names stay. -/
structure RouteKept (b x : Block) : Prop where
  entries : x.queue.entries.map Entry.unserved = b.queue.entries.map Entry.unserved
  missed  : faultCount .missedSection x = faultCount .missedSection b
  late    : faultCount .lateSection x = faultCount .lateSection b
  kept    : { x.kept with links := b.kept.links } = b.kept

theorem RouteKept.of_same (hq : x.queue.entries = b.queue.entries) (hf : x.cond.faults = b.cond.faults)
    (hk : { x.kept with links := b.kept.links } = b.kept) : RouteKept b x :=
  ⟨by rw [hq], faultCount_of_faults hf _, faultCount_of_faults hf _, hk⟩

theorem kept_apart {j k : Kept} {l : PerL LinkRec} (h : { j with links := l } = k) (l' : PerL LinkRec) :
    { j with links := l' } = { k with links := l' } := by
  rw [← h]

theorem RouteKept.trans (h : RouteKept b x) (h' : RouteKept x y) : RouteKept b y :=
  ⟨h'.entries.trans h.entries, h'.missed.trans h.missed, h'.late.trans h.late,
    (kept_apart h'.kept b.kept.links).trans h.kept⟩

theorem map_unserved {f : Entry → Entry} (hf : ∀ e, (f e).unserved = e.unserved) (l : List Entry) :
    (l.map f).map Entry.unserved = l.map Entry.unserved := by
  rw [List.map_map]
  exact List.map_congr_left fun e _ => hf e

theorem unserved_serveEntry (n : Option Nat) (b : Block) :
    (serveEntry n b).queue.entries.map Entry.unserved = b.queue.entries.map Entry.unserved := by
  cases n
  case none => rfl
  case some n =>
    refine map_unserved (fun e => ?_) _
    split <;> rfl

theorem Act.unserved (h : Act w b x) : x.queue.entries.map Entry.unserved = b.queue.entries.map Entry.unserved := by
  cases h
  case opens => rw [openBreaker_frame]
  case serves n _ => exact unserved_serveEntry n b
  case stores only => rw [only]
  case ice only => rw [only.frame]
  all_goals rfl

theorem Acts.routeKept (h : Acts w b x) (hk : { x.kept with links := b.kept.links } = b.kept) : RouteKept b x :=
  ⟨h.keep (P := fun y => y.queue.entries.map Entry.unserved = b.queue.entries.map Entry.unserved)
    (fun _ _ hs ha => hs.unserved.trans ha) rfl, h.faultCount (by decide), h.faultCount (by decide), hk⟩

theorem routeKept_settle (s : Block) (judge : Bool) (b : Block) : RouteKept b (settle s judge b) := by
  obtain ⟨y, hacts, hclosed⟩ := settle_acts s judge b
  refine ⟨?_, settle_faultCount s judge b (by decide), settle_faultCount s judge b (by decide), by rw [kept_settle]⟩
  rw [hclosed.queue]
  exact hacts.keep (P := fun y => y.queue.entries.map Entry.unserved = b.queue.entries.map Entry.unserved)
    (fun _ _ hs ha => hs.unserved.trans ha) rfl

theorem routeKept_speedAbort (b : Block) : RouteKept b (speedAbort b) := by
  unfold speedAbort
  split
  · exact (acts_abortSearches (w := ⟨True, True⟩) b).routeKept (by rw [kept_abortSearches])
  · exact .of_same rfl rfl rfl

theorem routeKept_motionExits (before : Phase) (b : Block) : RouteKept b (motionExits before b) := by
  unfold motionExits
  split
  · exact .of_same rfl rfl rfl
  · split
    · unfold leaveArmed
      split
      · refine ⟨unserved_serveEntry _ _, ?_, ?_, ?_⟩ <;> cases b.seq.activeEntry <;> rfl
      · exact .of_same rfl rfl rfl
    · split
      · obtain ⟨-, -, -, hqueue, hfaults, -⟩ := enterBreakerOpen_around b
        exact .of_same (by rw [hqueue]) hfaults (by rw [kept_enterBreakerOpen])
      · exact .of_same rfl rfl rfl

/-- The breaker is not engaged, and no path waits for readiness to close it. -/
structure NoClose (b : Block) : Prop where
  phase : b.seq.phase ≠ .masterReady
  open_ : breakerEngaged b = false

theorem Act.noClose (h : Act w b x) (hb : NoClose b) : NoClose x := by
  obtain ⟨hphase, hopen⟩ := hb
  cases h
  case opens => exact ⟨by rw [openBreaker_seq]; exact hphase, openBreaker_disengages _ b⟩
  case closes hp _ _ _ => exact absurd hp hphase
  case serves n _ => exact ⟨by rw [seq_serveEntry]; exact hphase, by rw [frame_serveEntry]; exact hopen⟩
  case halts => exact ⟨by simp, hopen⟩
  case moves q may =>
    refine ⟨fun hq => ?_, hopen⟩
    rcases may.phase with h | h
    · exact hphase (h.symm.trans hq)
    · change q.phase = .masterReady at hq
      rw [hq] at h
      simp [phaseSteps] at h
  case finishes => exact ⟨by simp, hopen⟩
  case stores only => rw [only]; exact ⟨hphase, hopen⟩
  case ice only => rw [only.frame]; exact ⟨hphase, hopen⟩
  all_goals exact ⟨hphase, hopen⟩

theorem Act.lateMark (h : Act w b x) : x.seq.lateMark = b.seq.lateMark := by
  cases h
  case opens => rw [openBreaker_seq]
  case serves n _ => rw [seq_serveEntry]
  case moves q may =>
    change q.lateMark = _
    rw [may.frame]
  case stores only => rw [only]
  case ice only => rw [only.frame]
  all_goals rfl

theorem settle_noClose (s : Block) (judge : Bool) (hb : NoClose b) : breakerEngaged (settle s judge b) = false ∧
    (settle s judge b).seq.lateMark = b.seq.lateMark := by
  obtain ⟨y, hacts, hclosed⟩ := settle_acts s judge b
  refine ⟨hclosed.engaged.trans (hacts.keep (fun _ _ hs => hs.noClose) hb).open_, ?_⟩
  rw [hclosed.seq]
  exact hacts.keep (P := fun y => y.seq.lateMark = b.seq.lateMark) (fun _ _ hs ha => hs.lateMark.trans ha) rfl

/-! ## Accepted reports -/

theorem pushReply_links (l : Link) (r : Reply) (b : Block) : pushReply l r b = { b with links := (pushReply l r b).links } := rfl

theorem heldAt_eq (position speed : Nat) (direction : Direction) (b : Block) :
    holdMotion position speed direction b = b.heldAt position speed direction := by
  cases direction <;> rfl

theorem motionReport_taken {position speed : Nat} {direction : Direction} (hp : b.queue.position ≤ position)
    (hd : direction = .standstill → speed = 0) : motionReport position speed direction b =
    ⟨scoreAtMotion (acceptMotion position speed direction b), if 400 < speed then .clamped else .done, .none, .scraper⟩ := by
  have hr : motionRefused b position speed direction = false := by
    simp only [motionRefused, decide_eq_false (Nat.not_lt.mpr hp), Bool.false_or, Bool.and_eq_false_imp, beq_iff_eq]
    intro h
    simp [hd h]
  simp [motionReport, hr]

theorem motionReport_refused {position speed : Nat} {direction : Direction}
    (h : position < b.queue.position ∨ direction = .standstill ∧ speed ≠ 0) :
    motionReport position speed direction b = refuse .outOfRange b := by
  have hr : motionRefused b position speed direction = true := by
    simpa [motionRefused] using h
  simp [motionReport, hr]

/-- What an accepted report does after the activation has come to `v`. -/
def closeReport (before : Phase) (v : Block) : Block := scoreAtMotion (handOver (motionExits before (speedAbort v)))

theorem acceptMotion_straight {position speed : Nat} {direction : Direction}
    (h : direction = .standstill ∨ b.queue.lastDirection = none ∨ b.queue.lastDirection = some direction) :
    scoreAtMotion (acceptMotion position speed direction b) =
      closeReport b.seq.phase (activation (removalPass (b.heldAt position speed direction))) := by
  have hd : directionChange b direction = false := by
    rcases h with rfl | h | h
    · rfl
    · cases direction <;> simp [directionChange, Direction.running, h]
    · cases direction <;> simp [directionChange, Direction.running, h]
  simp only [closeReport, acceptMotion, hd, Bool.false_eq_true, if_false, heldAt_eq]

theorem routeKept_closeReport (before : Phase) (v : Block) : RouteKept v (closeReport before v) := by
  have hm := (routeKept_speedAbort v).trans (routeKept_motionExits before _)
  unfold closeReport
  refine hm.trans (.of_same ?_ ?_ ?_)
  · rw [scoreAtMotion_frame]; rfl
  · rw [scoreAtMotion_frame]; rfl
  · rw [scoreAtMotion, kept_evaluateScore, kept_handOver]

/-- A report that finds the Sequencer in IDLE does no more to it after the activation. -/
theorem closeReport_idle (hv : ¬v.seq.NeedsContact) : Around v (speedAbort v) ∧
    (closeReport .idle v).seq = v.seq ∧ (closeReport .idle v).queue = v.queue ∧
    (closeReport .idle v).sw = (speedAbort v).sw ∧ (closeReport .idle v).cond.mode = v.cond.mode := by
  have ha := around_speedAbort hv
  have hexits : motionExits .idle (speedAbort v) = speedAbort v := by
    unfold motionExits
    split
    · rfl
    · rw [if_neg (by decide), if_neg (by simp)]
  unfold closeReport
  rw [hexits, scoreAtMotion_frame]
  exact ⟨ha, ha.seq, ha.queue, rfl, ha.mode⟩

/-- What the activation leaves at `v` runs on to the end of the report. -/
theorem runsRoute (s : Block) (judge : Bool) {l : PerL LinkRec} (hv : v = activation (removalPass b))
    (hy : y = { closeReport b.seq.phase v with links := l }) : RunsRoute b v (settle s judge y) := by
  have hk : RouteKept v y := (routeKept_closeReport b.seq.phase v).trans (.of_same (by rw [hy]) (by rw [hy]) (by rw [hy]; rfl))
  have hroute := hk.trans (routeKept_settle s judge y)
  have hpass : (removalPass b).seq = b.seq ∧ (removalPass b).cond.mode = b.cond.mode := by
    rw [removalPass_eq]
    obtain ⟨hframe, hcond, -, -⟩ := recordMissed_facts (b.queue.entries.filter (missed b))
      (b.setEntries (b.queue.entries.filter fun e => !leaves b e))
    exact ⟨by rw [hframe]; rfl, (congrArg Cond.mode hcond :)⟩
  have hcases := activation_cases (removalPass b)
  rw [← hv] at hcases
  have hcalm {ph : List Phase} (hmem : v.seq.phase ∈ ph) (hd : ∀ a ∈ ph, a ∉ [.confirm, .masterReady, .close]) :
      ¬v.seq.NeedsContact := fun hn => hd _ hmem (by rcases hn with h | h | h <;> rw [h] <;> decide)
  refine ⟨hroute.entries, hroute.missed, hroute.late, hroute.kept, fun hb hm => ?_, fun hb hm => ?_⟩
  · obtain ⟨-, hseq, hqueue, -, hmode⟩ := closeReport_idle (hcalm hm (by decide))
    rw [hb] at hy
    have hst : Stands y (settle s judge y) := by
      rcases List.mem_cons.mp hm with hp | hp
      · exact settle_stands s judge (.inl (by rw [hy]; exact (congrArg Seq.phase hseq).trans hp))
      · rw [List.mem_singleton] at hp
        refine settle_stands_awake s judge ?_ (by rw [hy]; change (closeReport .idle v).seq.phase ∈ _; rw [hseq, hp]; decide)
        rw [hy]
        change (closeReport .idle v).cond.mode ≠ .waking
        rw [hmode]
        rcases hcases with hsame | ⟨e, late, htakes, -, hservice⟩
        · rw [hsame, hpass.1, hb] at hp
          exact absurd hp (by decide)
        · cases late
          case false => rw [hservice rfl]; decide
          case true =>
            exfalso
            by_cases hc : e.kind = .systemChange ∨ ∃ p, v.role p = .collecting
            · exact absurd (hp.symm.trans (htakes.opens rfl hc).1) (by decide)
            · rw [not_or, not_exists] at hc
              exact absurd (hp.symm.trans (htakes.ends rfl hc.1 hc.2).1) (by decide)
    rw [hst.seq, hst.queue, hy]
    exact ⟨hseq, congrArg Queue.entries hqueue⟩
  · obtain ⟨ha, hseq, -, hsw, -⟩ := closeReport_idle (hcalm (ph := [.breakerOpen]) (by rw [hm]; decide) (by decide))
    rw [hb] at hy
    have hlate : breakerEngaged v = false ∧ v.seq.lateMark = true := by
      rcases hcases with hsame | ⟨e, late, htakes, -, -⟩
      · rw [hsame, hpass.1, hb] at hm
        exact absurd hm (by decide)
      · cases late
        case false => exact absurd (hm.symm.trans (htakes.armed rfl).1) (by decide)
        case true =>
          by_cases hc : e.kind = .systemChange ∨ ∃ p, v.role p = .collecting
          · obtain ⟨-, -, -, hl, ho, -⟩ := htakes.opens rfl hc
            exact ⟨ho, hl⟩
          · rw [not_or, not_exists] at hc
            exact absurd (hm.symm.trans (htakes.ends rfl hc.1 hc.2).1) (by decide)
    have hno : NoClose y := by
      refine ⟨?_, ?_⟩
      · rw [hy]
        change (closeReport .idle v).seq.phase ≠ .masterReady
        rw [hseq, hm]
        decide
      · refine (breakerEngaged_of_breaker (b := speedAbort v) ?_).trans (ha.disengaged hlate.1)
        rw [hy]
        change (closeReport .idle v).sw.breaker = _
        rw [hsw]
    obtain ⟨hopen, hl⟩ := settle_noClose s judge hno
    refine ⟨hopen, hl.trans ?_⟩
    rw [hy]
    exact (congrArg Seq.lateMark hseq).trans hlate.2

/-- The block after the activation may be taken with other links. -/
theorem RunsRoute.of_apart {c : Block} (h : RunsRoute c v y) (hb : c.seq = b.seq) (hu : LinksApart u v) : RunsRoute b u y := by
  obtain ⟨l, rfl⟩ := hu
  obtain ⟨h1, h2, h3, h4, h5, h6⟩ := h
  rw [hb] at h5 h6
  exact ⟨h1, h2, h3, kept_apart h4 _, h5, h6⟩

/-- The values that an accepted report brings are held to its end. -/
theorem sameMotion_acceptMotion (position speed : Nat) (direction : Direction) (b : Block) :
    SameMotion (b.heldAt position speed direction) (acceptMotion position speed direction b) := by
  unfold acceptMotion
  rw [heldAt_eq]
  dsimp only
  generalize b.heldAt position speed direction = c
  have hroute : SameMotion c (if directionChange b direction = true then reverseRoute c else c) := by
    split
    · exact .of_kept ((kept_halt .routeReversed (by decide) _).trans rfl)
    · rfl
  have hv := (hroute.trans (sameMotion_removalPass _)).trans (sameMotion_activation _)
  generalize activation (removalPass _) = v at hv
  have hk := ((routeKept_speedAbort v).trans (routeKept_motionExits b.seq.phase _)).kept
  exact hv.trans (congrArg Kept.motion hk)

/-- The rest of a report runs on what the activation leaves, whatever the links. -/
theorem settle_runsRoute {c : Block} (happart : LinksApart b c) (hseq : c.seq = b.seq) (s : Block) (k : Link) (r : Reply) :
    RunsRoute b (activation (removalPass b))
      (finish s .scraper (pushReply k r (closeReport c.seq.phase (activation (removalPass c))))) := by
  have hrun := runsRoute (b := c) s true rfl (pushReply_links k r _)
  exact hrun.of_apart hseq (ignoresLinks_activation _ _ (ignoresLinks_removalPass _ _ happart))

section

variable {position speed : Nat} {direction : Direction} {o : ReplyOutcome} {d : ReplyData}
  (he : EndsAs s t q 0x20 ⟨scoreAtMotion (acceptMotion position speed direction (refresh q.link s.block)), o, d, .scraper⟩)

include he

/-- The end of an accepted report holds the values that it brought. -/
theorem report_motion : t.block.queue.position = position ∧ t.block.queue.speed = min speed 400 ∧
    t.block.queue.direction = direction ∧ t.block.queue.motionAge = 0 ∧ t.block.queue.stale = false ∧
    t.block.queue.lastDirection = if direction = .standstill then s.block.queue.lastDirection else some direction := by
  have hk := congrArg Kept.motion (he.kept s.block.kept.links)
  have hscore : (scoreAtMotion (acceptMotion position speed direction (refresh q.link s.block))).kept =
      (acceptMotion position speed direction (refresh q.link s.block)).kept := kept_evaluateScore _ _
  dsimp only at hk
  rw [hscore] at hk
  have hm := hk.trans (sameMotion_acceptMotion position speed direction (refresh q.link s.block))
  exact ⟨congrArg Queue.position hm, congrArg Queue.speed hm, congrArg Queue.direction hm, congrArg Queue.motionAge hm,
    congrArg Queue.stale hm, congrArg Queue.lastDirection hm⟩

/-- A report that turns no direction round runs the route. -/
theorem report_runsRoute
    (h : direction = .standstill ∨ s.block.queue.lastDirection = none ∨ s.block.queue.lastDirection = some direction) :
    RunsRoute (s.block.heldAt position speed direction)
      (activation (removalPass (s.block.heldAt position speed direction))) t.block := by
  have hblock := he.block
  simp only at hblock
  rw [acceptMotion_straight (b := refresh q.link s.block) h] at hblock
  rw [hblock]
  exact settle_runsRoute ⟨(refresh q.link s.block).links, rfl⟩ rfl _ _ _

end

/-- Settles O40, by the removal pass, the offers, and what the rest of a report and the settling leave of them. -/
theorem motionIsHeld : Obligations.MotionIsHeld := by
  unfold Obligations.MotionIsHeld
  refine ⟨fun b hb => ?_, fun b => activation_off, fun b e reach hm hp hi hr => ⟨fun hf => ?_, fun hf hw => ?_⟩,
    fun q position speed direction s hq => ?_, fun s => ?_⟩
  · obtain ⟨hframe, hcond, hcount, hother⟩ := recordMissed_facts (b.queue.entries.filter (missed b))
      (b.setEntries (b.queue.entries.filter fun e => !leaves b e))
    rw [← removalPass_eq] at hframe hcond hcount hother
    exact ⟨_, rfl, hframe, hcond, hcount hb, hother⟩
  · rw [activation_active hm hp hf, show Machine.reach b = reach from hr.symm]
    have ho (late : Bool) := offers_offerEntry hi late b
    refine ⟨fun h => ?_, fun h1 h2 => ?_, fun h => ?_⟩
    · rw [if_pos h]
      exact ⟨(ho true).takes, faultCount_of_faults (ho true).faults _⟩
    · rw [if_neg (by omega), if_pos h2]
      exact (ho false).takes
    · rw [if_neg (by omega), if_neg (by omega)]
  · rw [activation_waiting hm hp hf hw, show Machine.reach b = reach from hr.symm]
    refine ⟨fun h => ?_, fun h1 h2 => ?_, fun h => ?_⟩
    · rw [if_pos h]
      obtain ⟨htakes, ⟨hfaults, hids⟩, -⟩ := takeLate_taken hi b
      exact ⟨htakes, hfaults, hids⟩
    · rw [if_neg (by omega), if_pos h2]
      obtain ⟨htakes, hentries, hfaults, -, -⟩ := takeArmed_taken hi b
      exact ⟨htakes, hentries, hfaults⟩
    · rw [if_neg (by omega), if_neg (by omega)]
  · have hex := examine_protection hq
    obtain ⟨t, ht⟩ := exec_ends (.motionReport q position speed direction) s
    refine ⟨t, ht, fun h => ?_, fun hp hd => ?_⟩
    · exact holds_at ht (request_refused hex (motionReport_refused (b := refresh q.link s.block) h))
    · have he := holds_at ht (request_ends_as (code := 0x20) hex (motionReport_taken (b := refresh q.link s.block) hp hd)
        (by rw [← motionReport_taken (b := refresh q.link s.block) hp hd]; exact links_motionReport _ _ _ _))
      have hk := he.kept s.block.kept.links
      obtain ⟨h1, h2, h3, h4, h5, h6⟩ := report_motion he
      exact ⟨h1, h2, h3, h4, h5, h6, he.answered, fun hstraight => ⟨_, rfl, report_runsRoute he hstraight⟩⟩
  · exact ⟨_, rfl, close_frame_of_same rfl rfl⟩

end Sys2Proof.Machine
end

section
/-!
The windows of the Line Monitor (R80 to R90), and what the Sequencer makes of a window's result (R89 to R95).
-/

namespace Sys2Proof.Machine

variable {s t : State} {b c x y : Block} {p : Panto} {w : Ending} {sys : LineSystem} {r : WindowResult}

/-! ## Capture and classification -/

theorem capturesCrossing (v : Int) (l : LineMon) : CapturesCrossing v l (l.capture v) := by
  refine ⟨fun ha hv => ?_, fun hn => ?_⟩
  · have hcross : l.crosses v = true := by simp [LineMon.crosses, ha, hv]
    have harm : l.armedAfter v = false := by rw [LineMon.armedAfter, if_neg (by omega), hcross, if_pos rfl]
    rw [LineMon.capture, if_pos hcross, harm]
    rfl
  · have hcross : l.crosses v = false := by
      rw [LineMon.crosses, Bool.and_eq_false_iff, decide_eq_false_iff_not]
      by_cases ha : l.armed = true
      · exact .inr fun hv => hn ⟨ha, hv⟩
      · exact .inl (by simpa using ha)
    have harm : l.armedAfter v = (l.armed || decide (v ≤ -100)) := by
      rw [LineMon.armedAfter, hcross]
      split
      next h => rw [decide_eq_true h, Bool.or_true]
      next h => rw [decide_eq_false h, Bool.or_false]; rfl
    rw [LineMon.capture, hcross, harm]
    rfl

theorem within_iff {lo hi v : Int} : within lo hi v = true ↔ Between lo hi v := by
  simp [within, Between]

theorem classifiesByTable (c : CfgRec) (w : WindowFigures) : ClassifiesByTable c w (classify c w) := by
  have hlive (h : cfgGet c .deadLevel ≤ (w.meanAbs : Int)) : ¬(w.meanAbs : Int) < cfgGet c .deadLevel := by omega
  have hno (hv : w.periodValid = false) (h : cfgGet c .deadLevel ≤ (w.meanAbs : Int)) : classify c w =
      if 0 ≤ w.mean then
        (if within (cfgGet c .meanLowDC3) (cfgGet c .meanHighDC3) w.mean then .sys .dc3
          else if within (cfgGet c .meanLowDC15) (cfgGet c .meanHighDC15) w.mean then .sys .dc15
          else .unknown)
      else .unknown := by
    unfold classify
    rw [if_neg (hlive h), hv]
  have hperiod (f : Nat) (hf : w.freq = some f) (hv : w.periodValid = true) (h : cfgGet c .deadLevel ≤ (w.meanAbs : Int)) :
      classify c w =
        if within (cfgGet c .freqLowAC25) (cfgGet c .freqHighAC25) f then
          (if within (cfgGet c .vrLowAC25) (cfgGet c .vrHighAC25) w.rms then .sys .ac25 else .unknown)
        else if within (cfgGet c .freqLowAC15) (cfgGet c .freqHighAC15) f then
          (if within (cfgGet c .vrLowAC15) (cfgGet c .vrHighAC15) w.rms then .sys .ac15 else .unknown)
        else .unknown := by
    unfold classify
    rw [if_neg (hlive h), hv, hf]
  have hin {lo hi v : Int} (h : Between lo hi v) : within lo hi v = true := within_iff.mpr h
  have hout {lo hi v : Int} (h : ¬Between lo hi v) : ¬within lo hi v = true := fun e => h (within_iff.mp e)
  refine ⟨fun h => if_pos h, fun f hf h hv h25 => ?_, fun f hf h hv h25 h15 => ?_, fun f hf h hv h25 h15 => ?_,
    fun h hv hm => ?_, fun h hv hm => ?_⟩
  · rw [hperiod f hf hv h, if_pos (hin h25)]
    exact ⟨fun e => if_pos (hin e), fun e => if_neg (hout e)⟩
  · rw [hperiod f hf hv h, if_neg (hout h25), if_pos (hin h15)]
    exact ⟨fun e => if_pos (hin e), fun e => if_neg (hout e)⟩
  · rw [hperiod f hf hv h, if_neg (hout h25), if_neg (hout h15)]
  · rw [hno hv h, if_pos hm]
    refine ⟨fun e => if_pos (hin e), fun e => ?_⟩
    rw [if_neg (hout e)]
    exact ⟨fun e => if_pos (hin e), fun e => if_neg (hout e)⟩
  · rw [hno hv h, if_neg (by omega)]

/-! ## The detections -/

theorem collectorInContact_some (h : collectorInContact b = some p) : b.role p = .collecting ∧ (b.lc p).state = .contact := by
  simpa using List.find?_some h

theorem collectorInContact_one (hr : b.role p = .collecting) (hs : (b.lc p).state = .contact)
    (hone : ∀ x, b.role x = .collecting → x = p) : collectorInContact b = some p := by
  refine find_panto_iff.mpr ⟨by simp [hr, hs], fun x hx => ?_⟩
  simp only [Bool.and_eq_true, beq_iff_eq] at hx
  rw [hone x hx.1]

theorem collector_one (hr : b.role p = .collecting) (hone : ∀ x, b.role x = .collecting → x = p) : collector b = some p := by
  refine find_panto_iff.mpr ⟨by simp [hr], fun x hx => ?_⟩
  rw [hone x (by simpa using hx)]

theorem collector_none (h : ∀ x, b.role x ≠ .collecting) : collector b = none :=
  List.find?_eq_none.mpr fun x _ e => h x (by simpa using e)

theorem wrongLine_of_wrongSystem (h : wrongSystem b = some sys) : WrongLine sys b := by
  cases hd : b.record.determined
  case none => simp [wrongSystem, hd] at h
  case some d =>
    cases hc : b.line.confirmed
    case none => simp [wrongSystem, hd, hc] at h
    case some cls =>
      cases cls
      case dead => simp [wrongSystem, hd, hc] at h
      case unknown => simp [wrongSystem, hd, hc] at h
      case sys sys' =>
        simp only [wrongSystem, hd, hc, Option.ite_none_right_eq_some, Bool.or_eq_true, Option.some.injEq] at h
        obtain ⟨⟨hne, he⟩, rfl⟩ := h
        refine ⟨hc, ⟨d, hd, hne⟩, he.imp_right fun he => ?_⟩
        cases hp : collectorInContact b
        case none => rw [hp] at he; exact absurd he Bool.false_ne_true
        case some p =>
          rw [hp] at he
          obtain ⟨hr, hs⟩ := collectorInContact_some hp
          exact ⟨p, hr, hs, by simpa using he⟩

theorem wrongSystem_of_wrongLine (hone : OneCollector b) (h : WrongLine sys b) : wrongSystem b = some sys := by
  obtain ⟨hc, ⟨d, hd, hne⟩, he⟩ := h
  unfold wrongSystem
  rw [hd, hc]
  dsimp only
  refine if_pos ⟨hne, ?_⟩
  rw [Bool.or_eq_true]
  refine he.imp_right fun ⟨p, hr, hs, hi⟩ => ?_
  rw [collectorInContact_one hr hs fun x hx => hone x p hx hr]
  simpa using hi

/-- What a wrong-system detection starts, but for the candidate and the preparation (R91). -/
structure StartsWrong (sys : LineSystem) (b a : Block) : Prop where
  around : Around (pathRecords .identify none false (some sys) none .probe (setPreheat none (setTractionOff true
    (openBreaker .internal (recordFault .wrongSystem (collectorSubject b) b))))) a
  kept   : a.kept = { b.kept with serial := wrapSucc b.record.serial, readyA := none, readyB := none }
  roles  : RolesFall b a
  opened : breakerEngaged b = true → a.sw.breaker.state = .opening
  open_  : breakerEngaged a = false

/-- The breaker on its way to OPEN, with no path that closes it. -/
structure KeepsOpening (b : Block) : Prop where
  phase   : b.seq.phase ≠ .masterReady
  opening : b.sw.breaker.state = .opening

theorem Act.keepsOpening (h : Act w b x) (hb : KeepsOpening b) : KeepsOpening x := by
  obtain ⟨hphase, hopening⟩ := hb
  cases h
  case opens =>
    have hsame : openBreaker .internal b = b := by rw [openBreaker, hopening]
    rw [hsame]
    exact ⟨hphase, hopening⟩
  case closes hp _ _ _ => exact absurd hp hphase
  case serves n _ => exact ⟨by rw [seq_serveEntry]; exact hphase, by rw [frame_serveEntry]; exact hopening⟩
  case halts => exact ⟨by simp, hopening⟩
  case moves q may =>
    refine ⟨fun hq => ?_, hopening⟩
    rcases may.phase with h | h
    · exact hphase (h.symm.trans hq)
    · change q.phase = .masterReady at hq
      rw [hq] at h
      simp [phaseSteps] at h
  case finishes => exact ⟨by simp, hopening⟩
  case stores only => rw [only]; exact ⟨hphase, hopening⟩
  case ice only => rw [only.frame]; exact ⟨hphase, hopening⟩
  all_goals exact ⟨hphase, hopening⟩

theorem startsWrong (sys : LineSystem) (b : Block) : StartsWrong sys b
    (startPath .identify none false (some sys) none .probe (setPreheat none (setTractionOff true
      (openBreaker .internal (recordFault .wrongSystem (collectorSubject b) b))))) := by
  have hopen := openBreaker_disengages .internal (recordFault .wrongSystem (collectorSubject b) b)
  have hkept : (openBreaker .internal (recordFault .wrongSystem (collectorSubject b) b)).kept = b.kept := by
    rw [kept_openBreaker, kept_recordFault]
  have hplan := openBreaker_plan .internal (recordFault .wrongSystem (collectorSubject b) b)
  have hopening (he : breakerEngaged b = true) :
      (openBreaker .internal (recordFault .wrongSystem (collectorSubject b) b)).sw.breaker.state = .opening := by
    have hs : (recordFault .wrongSystem (collectorSubject b) b).sw.breaker.state = .closing ∨
        (recordFault .wrongSystem (collectorSubject b) b).sw.breaker.state = .closed := by
      simpa [breakerEngaged] using he
    unfold openBreaker
    rcases hs with hs | hs <;> rw [hs] <;> rfl
  generalize hv : openBreaker .internal (recordFault .wrongSystem (collectorSubject b) b) = v at hopen hkept hplan hopening ⊢
  rw [startPath_eq]
  have hcalm : ¬(pathRecords .identify none false (some sys) none .probe (setPreheat none (setTractionOff true v))).seq.NeedsContact := by
    simp [pathRecords, Seq.NeedsContact]
  have ha := around_clearForPath hcalm
  have hk := kept_clearForPath (pathRecords .identify none false (some sys) none .probe (setPreheat none (setTractionOff true v)))
  have hroles := rolesFall_clearForPath (pathRecords .identify none false (some sys) none .probe
    (setPreheat none (setTractionOff true v)))
  have hacts := acts_clearForPath (w := ⟨True, True⟩) (pathRecords .identify none false (some sys) none .probe
    (setPreheat none (setTractionOff true v)))
  generalize clearForPath (pathRecords .identify none false (some sys) none .probe
    (setPreheat none (setTractionOff true v))) = a at ha hk hroles hacts ⊢
  refine ⟨by rw [hv]; exact ha, ?_, fun r => ?_, fun he => ?_, ha.disengaged hopen⟩
  · rw [hk]
    have hserial : wrapSucc v.record.serial = wrapSucc b.record.serial :=
      congrArg (fun k : Kept => wrapSucc k.serial) hkept
    refine Eq.trans (b := { v.kept with serial := wrapSucc v.record.serial, readyA := none, readyB := none }) rfl ?_
    rw [hkept, hserial]
  · have hrole : b.role r = v.role r := by rw [Block.role, Block.role, hplan]; rfl
    rw [hrole]
    exact hroles r
  · exact (hacts.keep (fun _ _ hs => hs.keepsOpening) ⟨by simp [pathRecords], hopening he⟩).opening

/-- The path of a wrong-system detection as it stands at its start. -/
def wrongSeq (sys : LineSystem) (c : Option Panto) (work : Work) : Seq where
  phase := .probe
  path := some .identify
  activeEntry := none
  lateMark := false
  expected := some sys
  expectedHead := none
  candidate := c
  retry := false
  mismatch := false
  work := work
  timer := none
  haltReason := none

theorem StartsWrong.seq (h : StartsWrong sys b x) : x.seq = wrongSeq sys none .none := h.around.seq

theorem StartsWrong.preheat (h : StartsWrong sys b x) : x.ice.preheat = none := by
  rw [h.around.ice]
  rfl

theorem StartsWrong.record (h : StartsWrong sys b x) : x.record =
    { b.record with serial := wrapSucc b.record.serial, tractionOff := true } := by
  rw [h.around.record]
  simp only [pathRecords, setPreheat, setTractionOff]
  rw [openBreaker_frame]
  rfl

theorem StartsWrong.queue (h : StartsWrong sys b x) : x.queue = b.queue := by
  rw [h.around.queue]
  simp only [pathRecords, setPreheat, setTractionOff]
  rw [openBreaker_frame]
  rfl

theorem StartsWrong.faults (h : StartsWrong sys b x) :
    x.cond.faults = (recordFault .wrongSystem (collectorSubject b) b).cond.faults := by
  rw [h.around.faults]
  simp only [pathRecords, setPreheat, setTractionOff]
  rw [openBreaker_cond]

theorem StartsWrong.mode (h : StartsWrong sys b x) : x.cond.mode = b.cond.mode := by
  rw [h.around.mode]
  simp only [pathRecords, setPreheat, setTractionOff]
  rw [openBreaker_cond]
  rfl

/-- A pantograph in CONTACT with no raise held stays up as it is at the start of the path. -/
theorem startsWrong_spares (hr : b.role p = .collecting) (hs : (b.lc p).state = .contact) (hh : (b.lc p).held = .none)
    (hx : (b.lc p).heldSearch = false) (hstart : x = startPath .identify none false (some sys) none .probe (setPreheat none
      (setTractionOff true (openBreaker .internal (recordFault .wrongSystem (collectorSubject b) b))))) :
    x.role p = .collecting ∧ (x.lc p).state = .contact := by
  have hframe := openBreaker_frame .internal (recordFault .wrongSystem (collectorSubject b) b)
  generalize openBreaker .internal (recordFault .wrongSystem (collectorSubject b) b) = v at hframe hstart
  have hlc : v.lc p = b.lc p := by rw [hframe]; rfl
  have hrole : v.role p = b.role p := by rw [hframe]; rfl
  rw [startPath_eq] at hstart
  have hspared := spared_clearForPath (p := p) (b := pathRecords .identify none false (some sys) none .probe
    (setPreheat none (setTractionOff true v))) (by simp [pathRecords, Seq.NeedsContact]) (by
      have hlc' : (pathRecords .identify none false (some sys) none .probe (setPreheat none (setTractionOff true v))).lc p =
        b.lc p := hlc
      refine ⟨?_, ?_, ?_, ?_⟩
      · rw [hlc', hs]; decide
      · rw [hlc', hh]
      · rw [hlc', hx]
      · change v.role p ≠ .scraping
        rw [hrole, hr]
        decide)
  rw [← hstart] at hspared
  obtain ⟨hrole', n, hn, -⟩ := hspared
  refine ⟨?_, ?_⟩
  · rw [Block.role, hrole']
    exact hrole.trans hr
  · rw [hn]
    exact (congrArg Lift.state hlc).trans hs

/-- The actions of the detection, after the start of the path. -/
theorem startWrongSystem_eq (sys : LineSystem) (b : Block) (hx : x = startPath .identify none false (some sys) none .probe
    (setPreheat none (setTractionOff true (openBreaker .internal (recordFault .wrongSystem (collectorSubject b) b))))) :
    (∃ p, collectorInContact x = some p ∧ serves (x.head p) sys = true ∧
      startWrongSystem sys b = { x with seq := wrongSeq sys (some p) .raising }) ∨
    (∀ p, collectorInContact x = some p → serves (x.head p) sys = false) ∧
      startWrongSystem sys b = { x with seq := wrongSeq sys none .awaitOpen } := by
  have hstart : StartsWrong sys b x := hx ▸ startsWrong sys b
  have hseq := hstart.seq
  have hpre := hstart.preheat
  have hmove (c : Option Panto) : setCandidate c x = { x with seq := { x.seq with candidate := c } } := by
    unfold setCandidate
    dsimp only
    rw [hpre]
    rfl
  unfold startWrongSystem
  dsimp only
  rw [← hx]
  cases hc : collectorInContact x
  case none =>
    refine .inr ⟨fun p hp => absurd hp (by simp), ?_⟩
    simp only [setWork, hseq]
    rfl
  case some p =>
    dsimp only
    cases hserves : serves (x.head p) sys
    case true =>
      refine .inl ⟨p, rfl, hserves, ?_⟩
      simp only [setWork, hmove, hseq, if_true]
      rfl
    case false =>
      refine .inr ⟨fun q hq => ?_, ?_⟩
      · rw [← Option.some.inj hq]
        exact hserves
      · simp only [setWork, hseq, Bool.false_eq_true, if_false]
        rfl

/-- What the detection leaves, whatever candidate it takes. -/
theorem startWrongSystem_facts (sys : LineSystem) (b : Block) : ∃ a c work, StartsWrong sys b a ∧
    startWrongSystem sys b = { a with seq := wrongSeq sys c work } := by
  rcases startWrongSystem_eq sys b rfl with ⟨p, -, -, h⟩ | ⟨-, h⟩
  · exact ⟨_, _, _, startsWrong sys b, h⟩
  · exact ⟨_, _, _, startsWrong sys b, h⟩

theorem first_wrongSystem (v : Subject) (h : b.cond.faults.first = none) :
    ∃ f, (recordFault .wrongSystem v b).cond.faults.first = some f ∧ f.kind = .wrongSystem ∧ f.subject = v := by
  refine ⟨⟨.wrongSystem, v, b.queue.position, b.queue.speed, b.seq.phase, b.cond.mode⟩, ?_, rfl, rfl⟩
  simp only [recordFault, h]
  rw [if_neg]
  rw [Bool.and_eq_true]
  exact fun hn => absurd hn.2 (by decide)

/-- The detection's actions, as R91 has them. -/
theorem detectsWrongSystem (hone : OneCollector b)
    (hup : ∀ p, (b.lc p).state = .contact → (b.lc p).held = .none ∧ (b.lc p).heldSearch = false) :
    DetectsWrongSystem sys b (startWrongSystem sys b) := by
  obtain ⟨a, c, work, hstart, heq⟩ := startWrongSystem_facts sys b
  refine ⟨?_, ?_, fun hf => ?_, ?_, ?_, ?_, ?_, ?_, ?_, fun p hr hs hserves => ?_, ?_⟩
  · rw [heq]
    exact ⟨hstart.open_, hstart.opened⟩
  · rw [heq]
    exact (faultCount_of_faults (b := recordFault .wrongSystem (collectorSubject b) b) hstart.faults _).trans
      (faultCount_recordFault_self _ _ _)
  · obtain ⟨f, hfirst, hkind, hsubject⟩ := first_wrongSystem (collectorSubject b) hf
    refine ⟨f, ?_, hkind, fun p hp => ?_, fun hn => ?_⟩
    · rw [heq]
      exact (congrArg FaultRecord.first hstart.faults).trans hfirst
    · rw [hsubject, collectorSubject, collector_one hp fun x hx => hone x p hx hp]
    · rw [hsubject, collectorSubject, collector_none hn]
  · rw [heq]
    exact congrArg LineRecord.tractionOff hstart.record
  · rw [heq]
    exact congrArg LineRecord.serial hstart.record
  · rw [heq]
    exact (congrArg LineRecord.determined hstart.record :)
  · rw [heq]
    exact ⟨congrArg Kept.readyA hstart.kept, congrArg Kept.readyB hstart.kept⟩
  · rw [heq]
    exact hstart.preheat
  · rw [heq]
    exact ⟨rfl, rfl, rfl⟩
  · obtain ⟨hh, hx⟩ := hup p hs
    obtain ⟨hrole, hstate⟩ := startsWrong_spares (sys := sys) hr hs hh hx rfl
    have hst := startsWrong sys b
    have hform := startWrongSystem_eq sys b rfl
    generalize startPath .identify none false (some sys) none .probe (setPreheat none (setTractionOff true
      (openBreaker .internal (recordFault .wrongSystem (collectorSubject b) b)))) = x at hrole hstate hst hform
    have hin : collectorInContact x = some p := by
      refine collectorInContact_one hrole hstate fun r hr' => hone r p ?_ hr
      rcases hst.roles r with h | h
      · exact h.symm.trans hr'
      · exact absurd (h.symm.trans hr') (by decide)
    have hhead : x.head p = b.head p := by
      have hcfg : x.cond.cfg = b.cond.cfg := congrArg Kept.cfg hst.kept
      rw [Block.head, Block.cfg, hcfg, Block.head, Block.cfg]
    rcases hform with ⟨p', hp', -, h⟩ | ⟨hno, -⟩
    · obtain rfl : p = p' := Option.some.inj (hin.symm.trans hp')
      rw [h]
      exact ⟨rfl, hstate, hrole⟩
    · exact absurd ((hno p hin).symm.trans ((congrArg (serves · sys) hhead).trans hserves)) (by decide)
  · rw [heq]
    exact hstart.queue

end Sys2Proof.Machine
end

section
/-!
The close of a window: the figures, the run, and the result handed to the Sequencer (R80 to R95).
-/

namespace Sys2Proof.Machine

variable {s t : State} {b c u x y z : Block} {p : Panto} {w : Ending} {sys : LineSystem} {r : WindowResult}

/-! ## What the Sequencer makes of a result -/

/-- The block with the class of a window taken in. -/
def measuredAs (r : WindowResult) (b : Block) : Block := { b with record := { b.record with measured := r.cls } }

theorem takeWindow_eq (r : WindowResult) (b : Block) : takeWindow r b =
    match b.seq.phase with
    | .idle =>
      match wrongSystem b with
      | some s => startWrongSystem s (measuredAs r b)
      | none => lostLine (measuredAs r b)
    | .armed =>
      match wrongSystem b with
      | some s => startWrongSystem s (measuredAs r b)
      | none => measuredAs r b
    | .tractionOff =>
      match wrongSystem b with
      | some s => startWrongSystem s (measuredAs r b)
      | none => if r.tractionOff then enterBreakerOpen (measuredAs r b) else measuredAs r b
    | .confirm => confirmStep (measuredAs r b)
    | _ => measuredAs r b := rfl

theorem takeWindow_wrong (hp : b.seq.phase ∈ [.idle, .armed, .tractionOff]) (h : wrongSystem b = some sys) :
    takeWindow r b = startWrongSystem sys (measuredAs r b) := by
  simp only [List.mem_cons, List.not_mem_nil, or_false] at hp
  rcases hp with hp | hp | hp <;> simp only [takeWindow_eq, hp, h]

theorem takeWindow_idle (hp : b.seq.phase = .idle) (h : wrongSystem b = none) : takeWindow r b = lostLine (measuredAs r b) := by
  simp only [takeWindow_eq, hp, h]

theorem takeWindow_armed (hp : b.seq.phase = .armed) (h : wrongSystem b = none) : takeWindow r b = measuredAs r b := by
  simp only [takeWindow_eq, hp, h]

theorem takeWindow_tractionOff (hp : b.seq.phase = .tractionOff) (h : wrongSystem b = none) : takeWindow r b =
    if r.tractionOff then enterBreakerOpen (measuredAs r b) else measuredAs r b := by
  simp only [takeWindow_eq, hp, h]

theorem takeWindow_confirm (hp : b.seq.phase = .confirm) : takeWindow r b = confirmStep (measuredAs r b) := by
  simp only [takeWindow_eq, hp]

theorem takeWindow_other (hp : b.seq.phase ∈ [.breakerOpen, .lowering, .coast, .probe, .masterReady, .close, .halted]) :
    takeWindow r b = measuredAs r b := by
  simp only [List.mem_cons, List.not_mem_nil, or_false] at hp
  rcases hp with hp | hp | hp | hp | hp | hp | hp <;> simp only [takeWindow_eq, hp]

/-- The phases, by what a window result does in them. -/
theorem phase_window (b : Block) : b.seq.phase ∈ [.idle, .armed, .tractionOff] ∨ b.seq.phase = .confirm ∨
    b.seq.phase ∈ [.breakerOpen, .lowering, .coast, .probe, .masterReady, .close, .halted] := by
  cases b.seq.phase <;> decide

/-! ### Another Fault Record -/

theorem rel_ite {R : Block → Block → Prop} {u v u' v' : Block} {c d : Prop} [Decidable c] [Decidable d] (hc : d ↔ c)
    (ht : R u v) (he : R u' v') : R (if c then u else u') (if d then v else v') := by
  by_cases h : c
  · rw [if_pos h, if_pos (hc.mpr h)]
    exact ht
  · rw [if_neg h, if_neg fun hd => h (hc.mp hd)]
    exact he

/-- The two blocks differ in their Fault Records alone, and neither records a wrong system or a lost line more. -/
structure FaultsApart (b x : Block) : Prop where
  frame  : ∃ f : FaultRecord, x = { b with cond := { b.cond with faults := f } }
  wrong  : faultCount .wrongSystem x = faultCount .wrongSystem b
  noLine : faultCount .noLine x = faultCount .noLine b

/-- What the two results have in common. -/
structure Alike (u y : Block) : Prop where
  kept   : y.kept = u.kept
  wrong  : faultCount .wrongSystem y = faultCount .wrongSystem u
  noLine : faultCount .noLine y = faultCount .noLine u

theorem FaultsApart.alike (h : FaultsApart b x) : Alike b x := by
  obtain ⟨f, hf⟩ := h.frame
  exact ⟨by rw [hf]; rfl, h.wrong, h.noLine⟩

/-- Operations that record neither fault give like results where what they keep is alike. -/
theorem Alike.of_silent (h : Alike b x) (hu : u.kept = b.kept) (hy : y.kept = x.kept)
    (hub : ∀ k ∈ [FaultKind.wrongSystem, .noLine], faultCount k u = faultCount k b)
    (hyx : ∀ k ∈ [FaultKind.wrongSystem, .noLine], faultCount k y = faultCount k x) : Alike u y :=
  ⟨hy.trans (h.kept.trans hu.symm),
    ((hyx _ (by decide)).trans h.wrong).trans (hub _ (by decide)).symm,
    ((hyx _ (by decide)).trans h.noLine).trans (hub _ (by decide)).symm⟩

theorem faultCount_startWrongSystem (sys : LineSystem) (b : Block) :
    faultCount .wrongSystem (startWrongSystem sys b) = oneMore .wrongSystem b ∧
      faultCount .noLine (startWrongSystem sys b) = faultCount .noLine b := by
  obtain ⟨a, c, work, hstart, heq⟩ := startWrongSystem_facts sys b
  have hcount (k : FaultKind) : faultCount k (startWrongSystem sys b) =
      faultCount k (recordFault .wrongSystem (collectorSubject b) b) := by
    rw [heq]
    exact faultCount_of_faults hstart.faults k
  exact ⟨(hcount _).trans (faultCount_recordFault_self _ _ _), (hcount _).trans (faultCount_recordFault_ne (by decide) _ _)⟩

theorem alike_startWrongSystem (sys : LineSystem) (h : FaultsApart b x) :
    Alike (startWrongSystem sys b) (startWrongSystem sys x) := by
  obtain ⟨a, c, work, hstart, heq⟩ := startWrongSystem_facts sys b
  obtain ⟨a', c', work', hstart', heq'⟩ := startWrongSystem_facts sys x
  obtain ⟨hw, hn⟩ := faultCount_startWrongSystem sys b
  obtain ⟨hw', hn'⟩ := faultCount_startWrongSystem sys x
  refine ⟨?_, ?_, hn'.trans (h.noLine.trans hn.symm)⟩
  · have hserial : x.record.serial = b.record.serial := by
      obtain ⟨f, hf⟩ := h.frame
      rw [hf]
    rw [heq, heq']
    refine (hstart'.kept.trans ?_).trans hstart.kept.symm
    rw [h.alike.kept, hserial]
  · rw [hw, hw', oneMore, oneMore, h.wrong]

theorem alike_recordFault {k : FaultKind} {v v' : Subject} (h : Alike b x) :
    Alike (recordFault k v b) (recordFault k v' x) := by
  have hcount (j : FaultKind) (hj : faultCount j x = faultCount j b) :
      faultCount j (recordFault k v' x) = faultCount j (recordFault k v b) := by
    by_cases hk : j = k
    · subst hk
      rw [faultCount_recordFault_self, faultCount_recordFault_self, oneMore, oneMore, hj]
    · rw [faultCount_recordFault_ne hk, faultCount_recordFault_ne hk, hj]
  exact ⟨by rw [kept_recordFault, kept_recordFault, h.kept], hcount _ h.wrong, hcount _ h.noLine⟩

theorem Alike.of_faults (h : Alike b x) (hu : u.cond.faults = b.cond.faults) (hy : y.cond.faults = x.cond.faults)
    (hk : y.kept = u.kept) : Alike u y :=
  ⟨hk, by rw [faultCount_of_faults hu, faultCount_of_faults hy, h.wrong],
    by rw [faultCount_of_faults hu, faultCount_of_faults hy, h.noLine]⟩

theorem alike_lostLine (h : FaultsApart b x) : Alike (lostLine b) (lostLine x) := by
  have halike := h.alike
  have hrecorded : Alike (setTractionOff true (recordFault .noLine (collectorSubject b) b))
      (setTractionOff true (recordFault .noLine (collectorSubject x) x)) :=
    (alike_recordFault halike).of_faults rfl rfl (alike_recordFault halike).kept
  have hdrawn : Alike (setTractionOff false b) (setTractionOff false x) := halike.of_faults rfl rfl halike.kept
  obtain ⟨f, rfl⟩ := h.frame
  exact rel_ite (R := Alike) Iff.rfl hrecorded (rel_ite Iff.rfl hdrawn halike)

theorem cond_enterMasterReady (sys : LineSystem) (b : Block) : (enterMasterReady sys b).cond = b.cond := by
  unfold enterMasterReady setDetermined
  dsimp only
  split <;> rfl

theorem alike_enterMasterReady (sys : LineSystem) (h : FaultsApart b x) :
    Alike (enterMasterReady sys b) (enterMasterReady sys x) := by
  refine h.alike.of_faults (by rw [cond_enterMasterReady]) (by rw [cond_enterMasterReady]) ?_
  obtain ⟨f, rfl⟩ := h.frame
  exact rel_ite (R := fun u v => v.kept = u.kept) Iff.rfl rfl rfl

theorem enterHalt_mismatch (b : Block) :
    (enterHalt .mismatch b).kept = (setDetermined none none (recordFault .wrongSystem (candidateSubject b) b)).kept ∧
      (enterHalt .mismatch b).cond = (recordFault .wrongSystem (candidateSubject b) b).cond := by
  have hcond (v : Block) : (setDetermined none none v).cond = v.cond := by
    unfold setDetermined
    dsimp only
    split <;> rfl
  have hserve (n : Option Nat) (v : Block) : (serveEntry n v).cond = v.cond := by cases n <;> rfl
  unfold enterHalt
  dsimp only
  rw [if_pos rfl]
  refine ⟨?_, ?_⟩
  · rw [kept_openBreaker, kept_setPreheat]
    exact kept_serveEntry _ _
  · rw [openBreaker_cond]
    exact (hserve _ _).trans (hcond _)

theorem alike_probeOther (sys : LineSystem) (hp : b.seq.phase = .confirm) (h : FaultsApart b x) :
    Alike (probeOther sys b) (probeOther sys x) := by
  have hlower : Alike (enterLowering { b with seq := { b.seq with retry := true, expected := some sys } })
      (enterLowering { x with seq := { x.seq with retry := true, expected := some sys } }) := by
    have hcount (k : FaultKind) (hk : k ∉ answerKinds) (v : Block) : faultCount k (enterLowering v) = faultCount k v :=
      (acts_lowerUp (w := ⟨True, True⟩) false { v with seq := { v.seq with phase := .lowering, timer := none } }).faultCount hk
    refine h.alike.of_silent (kept_enterLowering _) (kept_enterLowering _) (fun k hk => ?_) fun k hk => ?_
    all_goals
      refine (hcount k ?_ _).trans rfl
      simp only [List.mem_cons, List.not_mem_nil, or_false] at hk
      rcases hk with rfl | rfl <;> decide
  have hhalt : Alike (enterHalt .mismatch b) (enterHalt .mismatch x) := by
    obtain ⟨hk, hc⟩ := enterHalt_mismatch b
    obtain ⟨hk', hc'⟩ := enterHalt_mismatch x
    refine (alike_recordFault h.alike).of_faults (congrArg Cond.faults hc) (congrArg Cond.faults hc') ?_
    rw [hk, hk']
    obtain ⟨f, rfl⟩ := h.frame
    exact rel_ite (R := fun u v => v.kept = u.kept) Iff.rfl rfl rfl
  have hx : x.seq = b.seq := by
    obtain ⟨f, hf⟩ := h.frame
    rw [hf]
  unfold probeOther
  rw [hx]
  split
  · simp only [halt, hx, hp]
    exact hhalt
  · rw [hx] at hlower
    exact hlower

theorem alike_confirmStep (hp : b.seq.phase = .confirm) (h : FaultsApart b x) : Alike (confirmStep b) (confirmStep x) := by
  have hmarked (sys : LineSystem) : Alike (enterMasterReady sys { b with seq := { b.seq with mismatch := true } })
      (enterMasterReady sys { x with seq := { x.seq with mismatch := true } }) := by
    refine alike_enterMasterReady sys ⟨?_, h.wrong, h.noLine⟩
    obtain ⟨f, rfl⟩ := h.frame
    exact ⟨f, rfl⟩
  have hready (sys : LineSystem) := alike_enterMasterReady sys h
  have hother (sys : LineSystem) := alike_probeOther sys hp h
  have halike := h.alike
  obtain ⟨f, rfl⟩ := h.frame
  unfold confirmStep
  dsimp only
  cases b.line.confirmed
  case none => exact halike
  case some cls =>
    cases cls
    case dead => exact halike
    case unknown => exact halike
    case sys s =>
      exact rel_ite (R := Alike) Iff.rfl (hready s)
        (rel_ite Iff.rfl (rel_ite Iff.rfl (hready s) (hmarked s)) (hother s))

/-- The result of a window does the same to the rest, whatever the Fault Record holds. -/
theorem alike_takeWindow (r : WindowResult) (h : FaultsApart b x) : Alike (takeWindow r b) (takeWindow r x) := by
  have hm : FaultsApart (measuredAs r b) (measuredAs r x) := by
    refine ⟨?_, h.wrong, h.noLine⟩
    obtain ⟨f, rfl⟩ := h.frame
    exact ⟨f, rfl⟩
  have hx : x.seq.phase = b.seq.phase := by
    obtain ⟨f, hf⟩ := h.frame
    rw [hf]
  have hw : wrongSystem x = wrongSystem b := by
    obtain ⟨f, hf⟩ := h.frame
    rw [hf]
    rfl
  rcases phase_window b with hp | hp | hp
  · cases hs : wrongSystem b
    case some sys =>
      rw [takeWindow_wrong hp hs, takeWindow_wrong (hx ▸ hp) (hw.trans hs)]
      exact alike_startWrongSystem sys hm
    case none =>
      simp only [List.mem_cons, List.not_mem_nil, or_false] at hp
      rcases hp with hp | hp | hp
      · rw [takeWindow_idle hp hs, takeWindow_idle (hx.trans hp) (hw.trans hs)]
        exact alike_lostLine hm
      · rw [takeWindow_armed hp hs, takeWindow_armed (hx.trans hp) (hw.trans hs)]
        exact hm.alike
      · rw [takeWindow_tractionOff hp hs, takeWindow_tractionOff (hx.trans hp) (hw.trans hs)]
        split
        · refine hm.alike.of_faults (enterBreakerOpen_around _).2.2.2.2.1 (enterBreakerOpen_around _).2.2.2.2.1 ?_
          rw [kept_enterBreakerOpen, kept_enterBreakerOpen, hm.alike.kept]
        · exact hm.alike
  · rw [takeWindow_confirm hp, takeWindow_confirm (hx.trans hp)]
    exact alike_confirmStep hp hm
  · rw [takeWindow_other hp, takeWindow_other (hx ▸ hp)]
    exact hm.alike

end Sys2Proof.Machine
end

section
/-!
The end of the event that closes a window, and the slots within one (R79 to R95).
-/

namespace Sys2Proof.Machine

variable {s t : State} {b c u x y z : Block} {p : Panto} {w : Ending} {sys : LineSystem} {r : WindowResult} {slot : SampleSlot}
  {l : LineMon} {n : Nat}

/-! ## The result taken -/

/-- A block in which the Line Monitor and the measured class stand as in `b`, and the Sequencer is past TRACTION_OFF. -/
structure PastWindow (b v : Block) : Prop where
  line     : v.kept.line = b.line
  measured : v.kept.measured = b.record.measured
  phase    : v.seq.phase ∉ [.idle, .armed, .tractionOff]

theorem PastWindow.ite {v v' : Block} (c : Prop) [Decidable c] (h : PastWindow b v) (h' : PastWindow b v') :
    PastWindow b (if c then v else v') := by
  split
  · exact h
  · exact h'

theorem pastWindow_confirmStep (hp : b.seq.phase = .confirm) : PastWindow b (confirmStep b) := by
  have hphase (v : Block) {ph : Phase} (h : v.seq.phase = ph) (hn : ph ∉ [.idle, .armed, .tractionOff]) :
      v.seq.phase ∉ [.idle, .armed, .tractionOff] := h ▸ hn
  have hready (sys : LineSystem) (v : Block) (hv : v.line = b.line ∧ v.record.measured = b.record.measured) :
      PastWindow b (enterMasterReady sys v) := by
    unfold enterMasterReady setDetermined
    dsimp only
    split <;> exact ⟨hv.1, hv.2, hphase _ (ph := .masterReady) rfl (by decide)⟩
  have hother (sys : LineSystem) : PastWindow b (probeOther sys b) := by
    unfold probeOther
    split
    · have hdetermined (v : Block) : (setDetermined none none v).kept.line = v.line ∧
          (setDetermined none none v).kept.measured = v.record.measured := by
        unfold setDetermined
        dsimp only
        split <;> exact ⟨rfl, rfl⟩
      have hk := (enterHalt_mismatch b).1
      simp only [halt, hp]
      refine ⟨by rw [hk]; exact (hdetermined _).1, by rw [hk]; exact (hdetermined _).2, ?_⟩
      refine hphase _ (ph := .halted) ?_ (by decide)
      unfold enterHalt
      dsimp only
      rw [openBreaker_seq]
      rfl
    · have hcalm : ¬Seq.NeedsContact { b.seq with retry := true, expected := some sys, phase := .lowering, timer := none } := by
        simp [Seq.NeedsContact]
      have hseq := (around_lowerUp (i := false) (b := { b with
        seq := { b.seq with retry := true, expected := some sys, phase := .lowering, timer := none } }) hcalm).seq
      refine ⟨by rw [kept_enterLowering]; rfl, by rw [kept_enterLowering]; rfl, ?_⟩
      change (lowerUp false { b with
        seq := { b.seq with retry := true, expected := some sys, phase := .lowering, timer := none } }).seq.phase ∉ _
      rw [hseq]
      exact hphase { b with seq := { b.seq with phase := .lowering } } (ph := .lowering) rfl (by decide)
  have hsame : PastWindow b b :=
    ⟨rfl, rfl, by rw [hp]; decide⟩
  unfold confirmStep
  cases b.line.confirmed
  case none => exact hsame
  case some cls =>
    cases cls
    case dead => exact hsame
    case unknown => exact hsame
    case sys sys =>
      exact .ite _ (hready sys b ⟨rfl, rfl⟩) (.ite _ (.ite _ (hready sys b ⟨rfl, rfl⟩) (hready sys _ ⟨rfl, rfl⟩)) (hother sys))

/-- Taking a result leaves the Line Monitor, and writes the measured class. -/
theorem takeWindow_line (r : WindowResult) (b : Block) :
    (takeWindow r b).kept.line = b.line ∧ (takeWindow r b).kept.measured = r.cls := by
  rcases phase_window b with hp | hp | hp
  · cases hs : wrongSystem b
    case some sys =>
      obtain ⟨a, c, work, hstart, heq⟩ := startWrongSystem_facts sys (measuredAs r b)
      rw [takeWindow_wrong hp hs, heq]
      exact ⟨congrArg Kept.line hstart.kept, congrArg Kept.measured hstart.kept⟩
    case none =>
      simp only [List.mem_cons, List.not_mem_nil, or_false] at hp
      rcases hp with hp | hp | hp
      · rw [takeWindow_idle hp hs]
        unfold lostLine
        repeat' split
        all_goals exact ⟨rfl, rfl⟩
      · rw [takeWindow_armed hp hs]
        exact ⟨rfl, rfl⟩
      · rw [takeWindow_tractionOff hp hs]
        split
        · rw [kept_enterBreakerOpen]
          exact ⟨rfl, rfl⟩
        · exact ⟨rfl, rfl⟩
  · rw [takeWindow_confirm hp]
    obtain ⟨h1, h2, -⟩ := pastWindow_confirmStep (b := measuredAs r b) hp
    exact ⟨h1, h2⟩
  · rw [takeWindow_other hp]
    exact ⟨rfl, rfl⟩

/-- A Sequencer that a result leaves in IDLE, ARMED or TRACTION_OFF is left so whatever the Fault Record holds. -/
theorem takeWindow_rests (h : FaultsApart b x) (hu : (takeWindow r b).seq.phase ∈ [.idle, .armed, .tractionOff]) :
    (takeWindow r x).seq = (takeWindow r b).seq ∧
      (takeWindow r x).record.tractionOff = (takeWindow r b).record.tractionOff ∧
      (takeWindow r x).cond.mode = b.cond.mode := by
  obtain ⟨f, hf⟩ := h.frame
  have hx : x.seq = b.seq := by rw [hf]
  have hw : wrongSystem x = wrongSystem b := by rw [hf]; rfl
  have hmode : x.cond.mode = b.cond.mode := by rw [hf]
  have hrequest : x.record.tractionOff = b.record.tractionOff := by rw [hf]
  rcases phase_window b with hp | hp | hp
  · cases hs : wrongSystem b
    case some sys =>
      obtain ⟨a, c, work, -, heq⟩ := startWrongSystem_facts sys (measuredAs r b)
      rw [takeWindow_wrong hp hs, heq] at hu
      exact absurd hu (by simp [wrongSeq])
    case none =>
      simp only [List.mem_cons, List.not_mem_nil, or_false] at hp
      rcases hp with hp | hp | hp
      · rw [takeWindow_idle hp hs, takeWindow_idle (by rw [hx]; exact hp) (hw.trans hs)]
        have hlost (v : Block) : (lostLine v).seq = v.seq ∧ (lostLine v).cond.mode = v.cond.mode := by
          unfold lostLine
          repeat' split
          all_goals exact ⟨rfl, rfl⟩
        refine ⟨(hlost (measuredAs r x)).1.trans (hx.trans (hlost (measuredAs r b)).1.symm), ?_, (hlost (measuredAs r x)).2.trans hmode⟩
        rw [hf]
        exact rel_ite (R := fun u v => v.record.tractionOff = u.record.tractionOff) Iff.rfl rfl
          (rel_ite (R := fun u v => v.record.tractionOff = u.record.tractionOff) Iff.rfl rfl rfl)
      · rw [takeWindow_armed hp hs, takeWindow_armed (by rw [hx]; exact hp) (hw.trans hs)]
        exact ⟨hx, hrequest, hmode⟩
      · rw [takeWindow_tractionOff hp hs] at hu ⊢
        rw [takeWindow_tractionOff (by rw [hx]; exact hp) (hw.trans hs)]
        split at hu
        next hr =>
          rw [(enterBreakerOpen_around _).1] at hu
          exact absurd hu (by simp)
        next hr =>
          rw [if_neg hr, if_neg hr]
          exact ⟨hx, hrequest, hmode⟩
  · rw [takeWindow_confirm hp] at hu
    exact absurd hu (pastWindow_confirmStep (b := measuredAs r b) hp).phase
  · rw [takeWindow_other hp] at hu
    exfalso
    have hu' : b.seq.phase ∈ [.idle, .armed, .tractionOff] := hu
    revert hp hu'
    cases b.seq.phase <;> decide

/-! ## The end of the event -/

/-- An IDENTIFY path of a wrong system on its way, or halted, with the breaker not engaged. -/
structure Probing (sys : LineSystem) (b : Block) : Prop where
  phase    : b.seq.phase ∈ [.probe, .confirm, .halted]
  path     : b.seq.path = some .identify
  expected : b.seq.expected = some sys
  open_    : breakerEngaged b = false

theorem Act.probing (h : Act w b x) (hb : Probing sys b) : Probing sys x := by
  obtain ⟨hphase, hpath, hexpected, hopen⟩ := hb
  have hno {ph : Phase} (hn : ph ∉ [.probe, .confirm, .halted]) : b.seq.phase ≠ ph := fun e => hn (e ▸ hphase)
  cases h
  case opens => exact ⟨by rw [openBreaker_seq]; exact hphase, by rw [openBreaker_seq]; exact hpath,
    by rw [openBreaker_seq]; exact hexpected, openBreaker_disengages _ b⟩
  case closes hp _ _ _ => exact absurd hp (hno (by decide))
  case serves n _ => exact ⟨by rw [seq_serveEntry]; exact hphase, by rw [seq_serveEntry]; exact hpath,
    by rw [seq_serveEntry]; exact hexpected, by rw [frame_serveEntry]; exact hopen⟩
  case halts => exact ⟨by simp, hpath, hexpected, hopen⟩
  case moves q may =>
    refine ⟨?_, ?_, ?_, hopen⟩
    · rcases may.phase with h | h
      · change q.phase ∈ _
        rw [h]
        exact hphase
      · change q.phase ∈ _
        revert h hphase
        cases b.seq.phase <;> cases q.phase <;> decide
    · change q.path = _
      rw [may.frame]
      exact hpath
    · change q.expected = _
      rw [may.frame]
      exact hexpected
  case finishes phase =>
    rcases phase with ⟨hp, -⟩ | ⟨hp, -⟩
    · exact absurd hp (hno (by decide))
    · exact absurd hp (hno (by decide))
  case stores only => rw [only]; exact ⟨hphase, hpath, hexpected, hopen⟩
  case ice only => rw [only.frame]; exact ⟨hphase, hpath, hexpected, hopen⟩
  all_goals exact ⟨hphase, hpath, hexpected, hopen⟩

/-- What a window close leaves, the result being taken on a block with another Fault Record. -/
theorem appliesWindow (a : Block) (judge : Bool) (h : FaultsApart b x) :
    AppliesWindow b (takeWindow r b) (settle a judge (takeWindow r x)) := by
  have halike := alike_takeWindow r h
  refine ⟨?_, ?_, ?_, fun hu => ?_, fun sys hp hwrong hone => ?_⟩
  · rw [kept_settle, halike.kept]
  · exact (settle_faultCount a judge _ (by decide)).trans halike.wrong
  · exact (settle_faultCount a judge _ (by decide)).trans halike.noLine
  · have hphase : (takeWindow r b).seq.phase ∈ [.idle, .armed, .tractionOff] := by
      rcases hu with hu | ⟨hu, -⟩
      · rw [hu]; decide
      · exact List.mem_cons_of_mem _ hu
    obtain ⟨hseq, hrequest, hmode⟩ := takeWindow_rests h hphase
    have hst : Stands (takeWindow r x) (settle a judge (takeWindow r x)) := by
      rcases hu with hu | ⟨hu, hm⟩
      · exact settle_stands a judge (.inl (by rw [hseq, hu]))
      · exact settle_stands_awake a judge (by rw [hmode]; exact hm) (by rw [hseq]; exact hu)
    refine ⟨hst.seq.trans hseq, ?_⟩
    rcases hst.request with hr | ⟨hr, -⟩
    · exact hr.trans hrequest
    · rw [hseq] at hr
      rw [hr] at hphase
      exact absurd hphase (by decide)
  · obtain ⟨f, hf⟩ := h.frame
    have hx : x.seq.phase ∈ [.idle, .armed, .tractionOff] := by rw [hf]; exact hp
    have hsame : wrongSystem x = wrongSystem b := by rw [hf]; rfl
    have hw : wrongSystem x = some sys := hsame.trans (wrongSystem_of_wrongLine hone hwrong)
    obtain ⟨v, c, work, hstart, heq⟩ := startWrongSystem_facts sys (measuredAs r x)
    rw [takeWindow_wrong hx hw, heq]
    have hprobing : Probing sys { v with seq := wrongSeq sys c work } := ⟨by simp [wrongSeq], rfl, rfl, hstart.open_⟩
    obtain ⟨y, hacts, hclosed⟩ := settle_acts a judge { v with seq := wrongSeq sys c work }
    obtain ⟨h1, h2, h3, h4⟩ := hacts.keep (fun _ _ hs => hs.probing) hprobing
    rw [hclosed.seq, hclosed.engaged]
    exact ⟨h4, h2, h3, h1⟩

end Sys2Proof.Machine
end

section
/-!
The figures of a window and its run (R80 to R90), and the obligation about the Line Monitor.
-/

namespace Sys2Proof.Machine

variable {s t : State} {b c u x y z : Block} {p : Panto} {sys : LineSystem} {r : WindowResult} {slot : SampleSlot}
  {l : LineMon} {n : Nat} {cls : LineClass}

/-! ## Slots -/

theorem capture_frame (v : Int) (l : LineMon) : l.capture v = { l with
    armed := (l.capture v).armed, lastPeriod := (l.capture v).lastPeriod, crossSeen := (l.capture v).crossSeen
    crossCount := (l.capture v).crossCount } := by
  unfold LineMon.capture
  split <;> rfl

/-- A slot changes of the Line Monitor the window in progress and the capture alone. -/
theorem takeSlot_frame (slot : SampleSlot) (l : LineMon) : l.takeSlot slot = { l with
    pairCount := l.pairCount + 1, voltSum := (l.takeSlot slot).voltSum, absVoltSum := (l.takeSlot slot).absVoltSum
    absCurSum := (l.takeSlot slot).absCurSum, unmeasured := (l.takeSlot slot).unmeasured
    armed := (l.takeSlot slot).armed, lastPeriod := (l.takeSlot slot).lastPeriod
    crossSeen := (l.takeSlot slot).crossSeen, crossCount := (l.takeSlot slot).crossCount } := by
  cases slot
  case pair v i =>
    simp only [LineMon.takeSlot]
    rw [capture_frame]
  case unmeasured => rfl

theorem takeSlot_pair (v i : Int) (l : LineMon) :
    (l.takeSlot (.pair v i)).voltSum = l.voltSum + v ∧
      (l.takeSlot (.pair v i)).absVoltSum = l.absVoltSum + v.natAbs ∧
      (l.takeSlot (.pair v i)).absCurSum = l.absCurSum + i.natAbs ∧
      (l.takeSlot (.pair v i)).unmeasured = l.unmeasured := by
  refine ⟨rfl, rfl, rfl, ?_⟩
  simp only [LineMon.takeSlot]
  rw [capture_frame]

theorem takeSlot_unmeasured (h : slot = .unmeasured ∨ l.unmeasured = true) : (l.takeSlot slot).unmeasured = true := by
  cases slot
  case pair v i => rw [(takeSlot_pair v i l).2.2.2]; exact h.resolve_left (by simp)
  case unmeasured => rfl

/-! ## The run -/

/-- The confirmed class after a window (R88). -/
theorem confirmedAfter_cases (l : LineMon) (n : Nat) (cls : LineClass) :
    (l.runClass = some cls → l.runAfter cls = min 255 (l.runLength + 1)) ∧
    (l.runClass ≠ some cls → l.runAfter cls = 1) ∧
    (cls ≠ .unknown → n ≤ l.runAfter cls → l.confirmedAfter n cls = some cls) ∧
    (cls ≠ .unknown → l.runClass = some cls → l.confirmed = some cls → l.confirmedAfter n cls = some cls) ∧
    (cls = .unknown → l.confirmedAfter n cls = none) ∧
    (l.runAfter cls < n → l.runClass ≠ some cls ∨ l.confirmed ≠ some cls → l.confirmedAfter n cls = none) ∧
    (l.runClass ≠ some cls → 2 ≤ n → l.confirmedAfter n cls = none) := by
  have hbreak (hr : l.runAfter cls < n) (hc : l.runClass ≠ some cls ∨ l.confirmed ≠ some cls) :
      l.confirmedAfter n cls = none := by
    have hrun : ¬(l.runClass = some cls ∧ l.confirmed = some cls) := fun h => hc.elim (fun e => e h.1) fun e => e h.2
    simp only [LineMon.confirmedAfter, if_neg (Nat.not_le.mpr hr), if_neg hrun, ite_self]
  have hone (hr : l.runClass ≠ some cls) : l.runAfter cls = 1 := if_neg hr
  refine ⟨fun h => if_pos h, hone, fun hc hr => ?_, fun hc hr hk => ?_, fun hc => if_pos hc, hbreak,
    fun hr hn => hbreak (by rw [hone hr]; omega) (.inl hr)⟩
  · rw [LineMon.confirmedAfter, if_neg hc, if_pos hr]
  · rw [LineMon.confirmedAfter, if_neg hc]
    split
    · rfl
    · exact if_pos ⟨hr, hk⟩

/-! ## The close of a window -/

/-- The Line Monitor after the slot that closes a window. -/
def closedLine (b : Block) (slot : SampleSlot) : LineMon :=
  (b.line.takeSlot slot).record (b.nat .confirmCount) (windowResult b (b.line.takeSlot slot)).1
    (windowResult b (b.line.takeSlot slot)).2

/-- The slot that closes a window ends with its result taken, whatever SENSOR_FAULT it records. -/
theorem closeWindow_takes (b : Block) (slot : SampleSlot) : ∃ x,
    FaultsApart { b with line := closedLine b slot } x ∧
      closeWindow (takeSlot slot b) = takeWindow (windowResult b (b.line.takeSlot slot)).1 x := by
  by_cases h : ((b.line.takeSlot slot).unmeasured && !(b.line.takeSlot slot).measureFaulty) = true
  · refine ⟨recordFault .sensorFault .none { b with line := closedLine b slot }, ⟨⟨_, rfl⟩, ?_, ?_⟩, ?_⟩
    · exact faultCount_recordFault_ne (by decide) _ _
    · exact faultCount_recordFault_ne (by decide) _ _
    · unfold closeWindow
      dsimp only
      rw [if_pos (by exact h)]
      rfl
  · refine ⟨{ b with line := closedLine b slot }, ⟨⟨_, rfl⟩, rfl, rfl⟩, ?_⟩
    unfold closeWindow
    dsimp only
    rw [if_neg (by exact h)]
    rfl

theorem exec_slot {c : Instr} (hc : c = .samplePair slot ∨ c = .windowClose slot) (s : State) : exec c s =
    if lastSlot s.block then event s false (fun b => closeWindow (takeSlot slot b)) else quietEvent s (takeSlot slot) := by
  rcases hc with rfl | rfl <;> rfl

/-- A slot within a window has no effect beyond the Line Monitor. -/
theorem slot_within {c : Instr} (hc : c = .samplePair slot ∨ c = .windowClose slot) (hn : s.block.line.pairCount + 1 < 320) :
    ∃ t, exec c s = .next t ∧
      t.block = { s.block with line := s.block.line.takeSlot slot, links := t.block.links } := by
  have hlast : lastSlot s.block = false := by
    rw [lastSlot, decide_eq_false_iff_not]
    exact Nat.not_le.mpr hn
  rw [exec_slot hc, hlast]
  exact ⟨_, rfl, close_frame_of_same rfl rfl⟩

/-- The slot that closes a window (R82). -/
theorem slot_closes {c : Instr} (hc : c = .samplePair slot ∨ c = .windowClose slot) (hn : 320 ≤ s.block.line.pairCount + 1) :
    ∃ t, exec c s = .next t ∧ t.block.line = closedLine s.block slot ∧
      t.block.record.measured = (windowResult s.block (s.block.line.takeSlot slot)).1.cls ∧
      AppliesWindow { s.block with line := closedLine s.block slot }
        (takeWindow (windowResult s.block (s.block.line.takeSlot slot)).1
          { s.block with line := closedLine s.block slot }) t.block := by
  have hlast : lastSlot s.block = true := decide_eq_true hn
  obtain ⟨x, hx, htake⟩ := closeWindow_takes s.block slot
  obtain ⟨t, ht, hblock⟩ := event_ends s false fun b => closeWindow (takeSlot slot b)
  rw [exec_slot hc, hlast]
  refine ⟨t, ht, ?_, ?_, ?_⟩
  all_goals rw [hblock, htake]
  · have hline := (takeWindow_line (windowResult s.block (s.block.line.takeSlot slot)).1 x).1
    rw [show (settle _ _ _).line = _ from congrArg Kept.line (kept_settle s.block false _), hline]
    obtain ⟨f, hf⟩ := hx.frame
    rw [hf]
  · rw [show (settle _ _ _).record.measured = _ from congrArg Kept.measured (kept_settle s.block false _)]
    exact (takeWindow_line _ x).2
  · exact appliesWindow s.block false hx

/-- The figures of an unmeasured window. -/
theorem windowResult_unmeasured (h : l.unmeasured = true) : windowResult b l =
    (⟨none, none, none, none, false, none, l.lastPeriod, .unknown, false, false⟩, 0) := if_pos h

/-- The figures of a measured window: the quotients, the period and the class by the table (R81, R84 to R86, R90). -/
theorem windowResult_measured (h : l.unmeasured = false) : windowResult b l =
    (⟨some (l.voltSum.tdiv 320), some (l.absVoltSum / 320), some (l.absVoltSum / 320 * 71 / 64), some (l.absCurSum / 320),
      l.periodValid, (if l.periodValid then l.lastPeriod.map fun n => 640000 / n else none), l.lastPeriod,
      classify b.cond.cfg ⟨l.voltSum.tdiv 320, l.absVoltSum / 320, l.absVoltSum / 320 * 71 / 64, l.absCurSum / 320,
        l.periodValid, if l.periodValid then l.lastPeriod.map fun n => 640000 / n else none⟩,
      l.confirmed.isNone && (l.confirmedAfter (b.nat .confirmCount) (classify b.cond.cfg l.figures)).isSome,
      (if l.absCurSum / 320 < b.nat .iOff then min 2 (l.lowCount + 1) else 0) == 2⟩,
      if l.absCurSum / 320 < b.nat .iOff then min 2 (l.lowCount + 1) else 0) := if_neg (by rw [h]; decide)

/-- The result says whether the window made the confirmation (R88). -/
theorem windowResult_confirmation (b : Block) (l : LineMon) : (windowResult b l).1.confirmation =
    (l.confirmed.isNone && (l.confirmedAfter (b.nat .confirmCount) (windowResult b l).1.cls).isSome) := by
  cases h : l.unmeasured
  case true =>
    rw [windowResult_unmeasured h]
    exact (Bool.and_false _).symm
  case false =>
    rw [windowResult_measured h]
    rfl

theorem windowResult_lastPeriod (b : Block) (l : LineMon) : (windowResult b l).1.lastPeriod = l.lastPeriod := by
  unfold windowResult
  split <;> rfl

theorem wrongLine_measuredAs (h : WrongLine sys b) : WrongLine sys (measuredAs r b) := by
  obtain ⟨h1, h2, h3⟩ := h
  exact ⟨h1, h2, h3⟩

/-- The actions of the detection do not depend on the class measured. -/
theorem DetectsWrongSystem.of_measuredAs (h : DetectsWrongSystem sys (measuredAs r b) x) : DetectsWrongSystem sys b x := by
  obtain ⟨h1, h2, h3, h4, h5, h6, h7, h8, h9, h10, h11⟩ := h
  exact ⟨h1, h2, h3, h4, h5, h6, h7, h8, h9, h10, h11⟩

/-- Settles O56, by the figures and the run of a window and by what a result does in each phase. -/
theorem windowsAreMeasured : Obligations.WindowsAreMeasured := by
  unfold Obligations.WindowsAreMeasured
  refine ⟨fun c slot s hc => ⟨fun hn => ?_, fun hn => ?_⟩, classifiesByTable, capturesCrossing,
    fun b r sys hp hwrong hup hone => ?_, fun b r hp hno => ⟨_, rfl, fun hlost => ?_, fun hreq hdet => ?_, fun hlost hdet => ?_⟩,
    fun b r hp => takeWindow_other hp⟩
  · obtain ⟨t, ht, hblock⟩ := slot_within hc hn
    have hline : t.block.line = s.block.line.takeSlot slot := by rw [hblock]
    refine ⟨t, ht, by rw [hline]; exact hblock, by rw [hline, takeSlot_frame], fun v i hs => ?_, fun hs => ?_⟩
    · rw [hline, hs]
      exact takeSlot_pair v i _
    · rw [hline, hs]
      exact ⟨rfl, rfl⟩
  · obtain ⟨t, ht, hline, hmeasured, happlies⟩ := slot_closes hc hn
    obtain ⟨hrun, hanew, hmade, hstays, hunknown, hbelow, hbreak⟩ := confirmedAfter_cases (s.block.line.takeSlot slot)
      (s.block.nat .confirmCount) (windowResult s.block (s.block.line.takeSlot slot)).1.cls
    have hslot : (s.block.line.takeSlot slot).runClass = s.block.line.runClass ∧
        (s.block.line.takeSlot slot).runLength = s.block.line.runLength ∧
        (s.block.line.takeSlot slot).confirmed = s.block.line.confirmed ∧
        (s.block.line.takeSlot slot).lowCount = s.block.line.lowCount := by
      rw [takeSlot_frame]
      exact ⟨rfl, rfl, rfl, rfl⟩
    obtain ⟨hclass, hlength, hconfirmed, hlow⟩ := hslot
    rw [hclass] at hrun hanew hstays hbelow hbreak
    rw [hlength] at hrun
    rw [hconfirmed] at hstays hbelow
    have hlineConfirmed : t.block.line.confirmed = (s.block.line.takeSlot slot).confirmedAfter (s.block.nat .confirmCount)
        (windowResult s.block (s.block.line.takeSlot slot)).1.cls := by rw [hline]; rfl
    have hlineRun : t.block.line.runLength = (s.block.line.takeSlot slot).runAfter
        (windowResult s.block (s.block.line.takeSlot slot)).1.cls := by rw [hline]; rfl
    refine ⟨t, ht, (windowResult s.block (s.block.line.takeSlot slot)).1, by rw [hline]; rfl, by rw [hline]; rfl,
      by rw [hline]; rfl, by rw [hline]; rfl, by rw [hline]; rfl, by rw [hline]; rfl, by rw [hline]; rfl, hmeasured, ?_, ?_,
      ⟨_, rfl, by rw [hline]; exact happlies⟩, ?_⟩
    · rw [hlineConfirmed, windowResult_confirmation, hconfirmed]
    · rw [hline, windowResult_lastPeriod]
      rfl
    rw [hlineConfirmed, hlineRun]
    refine ⟨hrun, hanew, hmade, hstays, hunknown, hbelow, hbreak, fun hu => ?_, fun v i hs hm => ?_⟩
    · have hun := takeSlot_unmeasured hu
      rw [windowResult_unmeasured hun, hline]
      exact ⟨rfl, rfl, rfl, rfl, rfl, rfl, rfl, rfl, hun⟩
    · subst hs
      obtain ⟨hvolt, habs, hcur, hun⟩ := takeSlot_pair v i s.block.line
      rw [hm] at hun
      have hresult := windowResult_measured (b := s.block) hun
      rw [hvolt, habs, hcur, hlow] at hresult
      have hlowCount : t.block.line.lowCount = (windowResult s.block (s.block.line.takeSlot (.pair v i))).2 := by
        rw [hline]; rfl
      have hlast : t.block.line.lastPeriod = (s.block.line.takeSlot (.pair v i)).lastPeriod := by rw [hline]; rfl
      have hcross : t.block.line.crossCount = (s.block.line.takeSlot (.pair v i)).crossCount := by rw [hline]; rfl
      have hfaulty : t.block.line.measureFaulty = (s.block.line.takeSlot (.pair v i)).unmeasured := by rw [hline]; rfl
      rw [hlowCount, hlast, hcross, hfaulty, hresult]
      exact ⟨rfl, rfl, rfl, rfl, rfl, rfl, rfl, (beq_eq_decide _ _), rfl, hun⟩
  · have hw := wrongSystem_of_wrongLine hone hwrong
    have hp' : b.seq.phase ∈ [.idle, .armed, .tractionOff] := by
      rcases hp with hp | hp | hp <;> rw [hp] <;> decide
    rw [takeWindow_wrong hp' hw]
    refine ⟨(detectsWrongSystem (b := measuredAs r b) hone hup).of_measuredAs, ?_⟩
    obtain ⟨a, c, work, hstart, heq⟩ := startWrongSystem_facts sys (measuredAs r b)
    rw [heq]
    exact congrArg Kept.measured hstart.kept
  all_goals
    have hw : wrongSystem b = none := by
      cases h : wrongSystem b
      case none => rfl
      case some sys => exact absurd (wrongLine_of_wrongSystem h) (hno sys)
    rw [takeWindow_idle hp hw]
  · obtain ⟨h1, h2, h3, h4⟩ := hlost
    have hl : lostLine (measuredAs r b) = setTractionOff true (recordFault .noLine (collectorSubject (measuredAs r b))
        (measuredAs r b)) := if_pos ⟨h1, h2, h3, h4⟩
    rw [hl]
    exact ⟨rfl, faultCount_recordFault_self _ _ _, rfl, rfl⟩
  · obtain ⟨sys, hd, hc⟩ := hdet
    have hl : lostLine (measuredAs r b) = setTractionOff false (measuredAs r b) := by
      unfold lostLine
      rw [if_neg, if_pos]
      · refine ⟨hreq, by rw [measuredAs, hd]; rfl, ?_⟩
        change b.line.confirmed = b.record.determined.map .sys
        rw [hd, hc]
        rfl
      · exact fun h => absurd (h.2.2.2.symm.trans hreq) (by decide)
    rw [hl]
    rfl
  · have hl : lostLine (measuredAs r b) = measuredAs r b := by
      unfold lostLine
      rw [if_neg, if_neg]
      · rintro ⟨h1, h2, h3⟩
        obtain ⟨sys, hd⟩ := Option.isSome_iff_exists.mp h2
        refine hdet ⟨h1, sys, hd, h3.trans ?_⟩
        rw [hd]
        rfl
      · rintro ⟨h1, h2, h3, h4⟩
        exact hlost ⟨h1, h2, h3, h4⟩
    rw [hl]
    rfl

end Sys2Proof.Machine
end

section
/-!
The touch search: its start by the conditions of R11 and R65, and what a scan decides of a settled step (R66 to R72).
-/

namespace Sys2Proof.Machine

variable {q : Req} {s t : State} {b c x : Block} {p r : Panto} {l : Link} {rec : SearchRec} {h before : Int}

/-! ## The conditions in their order (R11, R65) -/

theorem refuses_cons {P : Prop} [Decidable P] {met : Bool} {d : RefCode} {k m : Option RefCode} (hp : P ↔ met = false)
    (hk : k = m) : (if P then some d else k) = if met = true then m else some d := by
  subst hk
  cases met <;> simp [hp]

theorem searchRefusal_eq (p : Panto) (b : Block) : searchRefusal b p = firstUnmet (searchConditions p b) := by
  have havail : available b p = ((b.lc p).state != .dropped && (b.lc p).state != .outOfService &&
      (b.sensors.height.get p).validity == .good && (b.sensors.actuator.get p).validity == .good) := by
    simp only [available, sensorsGood, Bool.and_assoc]
  have hnot (met : Bool) : (!met) = true ↔ met = false := iff_of_eq (Bool.not_eq_true' met)
  simp only [searchConditions, firstUnmet_cons, firstUnmet_nil, searchRefusal, havail]
  refine refuses_cons (by simp) (refuses_cons (hnot _) (refuses_cons (hnot _) (refuses_cons (hnot _) (refuses_cons
    (by simp) (refuses_cons (by simp) (refuses_cons (by simp) (refuses_cons (hnot _) (refuses_cons (by simp)
    (refuses_cons (hnot _) rfl)))))))))

theorem startTouchSearch_unmet {d : RefCode} (hd : firstUnmet (searchConditions p b) = some d) :
    startTouchSearch l p b = refuse d b := by
  rw [startTouchSearch, searchRefusal_eq, hd]

theorem MaySearch.unrefused (hm : MaySearch p b) : searchRefusal b p = none := by
  obtain ⟨hhold, hearth, havail, hmode, hspeed, hstate, hfree, hiso, hphase, hair⟩ := hm
  have hmode' : (b.cond.mode == .workshop || inService b) = true := by
    rcases hmode with hw | ⟨hs, hl⟩
    · simp [hw]
    · simp [inService, hs, hl]
  simp [searchRefusal, hhold, hearth, havail, hmode', Nat.not_lt.mpr hspeed, hstate, hfree, hiso, hphase, hair]

/-- The part with CALIBRATING given to the pantograph. -/
def grantedSearch (l : Link) (p : Panto) (b : Block) : Block := setRole p .calibrating (originOf l) b

theorem startTouchSearch_taken (hm : searchRefusal b p = none) :
    startTouchSearch l p b = effect .accepted (takeRaise p true (grantedSearch l p b)) := by
  rw [startTouchSearch, hm]
  rfl

/-! ## What a search taken leaves of the pantograph (R29, R67) -/

/-- By the dwell and the air: it begins, or it is held. -/
structure TakesSearch (p : Panto) (b x : Block) : Prop where
  role   : x.plan.roles.get p = b.plan.roles.get p
  busy   : (x.lc p).state = .searching ∨ (x.lc p).state = .stowed ∧ (x.lc p).held ≠ .none
  begins : (b.lc p).dwellTimer = none → airSufficient b = true →
    BeginsSearch (min (b.nat .searchStart) (b.nat .pmax)) (b.lc p) (x.lc p)
  dwells : (b.lc p).dwellTimer.isSome = true →
    (x.lc p).state = .stowed ∧ (x.lc p).held = .dwell ∧ (x.lc p).heldSearch = true
  airs   : (b.lc p).dwellTimer = none → airSufficient b = false →
    (x.lc p).state = .stowed ∧ (x.lc p).held = .air ∧ (x.lc p).heldSearch = true

theorem takesSearch (he : earthOpen b = true) (hh : (b.lc p).held = .none) (hs : (b.lc p).state = .stowed) :
    TakesSearch p b (takeRaise p true b) := by
  cases hd : (b.lc p).dwellTimer
  case some n =>
    rw [takeRaise_dwell hs hh (by simp [hd])]
    constructor <;> simp [lc_holdRaise, plan_setLift_roles, hs, hd]
  case none =>
    cases ha : airSufficient b
    case false =>
      rw [takeRaise_air hs hh hd ha]
      constructor <;> simp [lc_holdRaise, plan_setLift_roles, hs, hd, ha]
    case true =>
      rw [takeRaise_begins hs hh hd ha he]
      have hb := beginsSearch_beginWork p b
      refine ⟨by rw [beginWork_plan], .inl hb.state, fun _ _ => hb, ?_, ?_⟩ <;> simp [hd, ha]

/-! ## What the answers spare of a pantograph that searches or has a search held -/

/-- No path runs, WAKING is over, and the pantograph calibrates: it searches, or waits STOWED. -/
structure Calibrates (p : Panto) (b : Block) : Prop where
  phase : b.seq.phase = .idle ∨ b.seq.phase = .halted
  mode  : b.cond.mode ≠ .waking
  role  : b.role p = .calibrating
  busy  : (b.lc p).state = .searching ∨ (b.lc p).state = .stowed ∧ (b.lc p).held ≠ .none

theorem Calibrates.of_spared (ha : Calibrates p b) (hs : Spared p b x)
    (hphase : x.seq.phase = b.seq.phase) (hmode : x.cond.mode = b.cond.mode) : Calibrates p x := by
  obtain ⟨hrole, n, hn, -⟩ := hs
  exact ⟨hphase ▸ ha.phase, hmode ▸ ha.mode, by rw [Block.role, hrole, ← Block.role, ha.role], by rw [hn]; exact ha.busy⟩

theorem Calibrates.calm (ha : Calibrates p b) : (b.lc p).state ≠ .contact := by
  rcases ha.busy with h | ⟨h, -⟩ <;> simp [h]

theorem Calibrates.keepsStandby (ha : Calibrates p b) : roofAtRest b = false ∨ noHeldRaise b = false := by
  rcases ha.busy with h | ⟨-, h⟩
  · exact .inl (List.all_eq_false.mpr ⟨p, Panto.mem_all p, by simp [h, LiftState.atRest]⟩)
  · exact .inr (List.all_eq_false.mpr ⟨p, Panto.mem_all p, by simpa using h⟩)

theorem Calibrates.touches (ha : Calibrates p b) (ht : Touches r b x) (hr : p ≠ r) : Calibrates p x ∧ Spared p b x :=
  have hs := ht.spared hr
  ⟨ha.of_spared hs (congrArg Seq.phase ht.seq) ht.mode, hs⟩

/-- No reaction reaches a pantograph that calibrates, while no path runs. -/
theorem Reaction.calibrates (hr : Reaction b x) (ha : Calibrates p b) : Calibrates p x ∧ Spared p b x := by
  have hcalm := not_needsContact_of_stopped ha.phase
  cases hr
  case guard =>
    have hs : Spared p b (openBreaker .internal b) := .of_same (by rw [openBreaker_plan]) (openBreaker_lc _ _ _)
    exact ⟨ha.of_spared hs (by rw [openBreaker_seq]) (touches_openBreaker p .internal b).mode, hs⟩
  case release r pending contact _ _ =>
    rw [beginLowering_of_calm hcalm]
    exact ha.touches (touches_setLift r _ b) fun h => ha.calm (h ▸ contact)
  case advance =>
    rcases ha.phase with hp | hp
    · have heq : seqStep b = b := by simp only [seqStep, hp]
      rw [heq]
      exact ⟨ha, .refl p b⟩
    · have heq : seqStep b = withdrawInHalt b := by simp only [seqStep, hp]
      rw [heq]
      unfold withdrawInHalt
      split
      · exact ⟨ha.of_spared (.of_same rfl rfl) rfl rfl, .of_same rfl rfl⟩
      · exact ⟨ha, .refl p b⟩
  case wake waking _ _ _ => exact absurd waking ha.mode
  case lowered rest held =>
    rcases ha.keepsStandby with h | h
    · exact absurd (h.symm.trans rest) Bool.false_ne_true
    · exact absurd (h.symm.trans held) Bool.false_ne_true
  case ice only =>
    have hs : Spared p b x := .of_same (by rw [only.frame]) (by rw [only.frame]; rfl)
    exact ⟨ha.of_spared hs (by rw [only.frame]) (by rw [only.frame]), hs⟩
  case ask r _ granted _ _ =>
    have hset : Spared p b (setScraper (some r) b) := .of_same rfl rfl
    have hpr : p ≠ r := by
      rintro rfl
      have hnone : b.role p = .none := scrapingRefusal_role granted
      exact absurd (hnone.symm.trans ha.role) (by decide)
    obtain ⟨hc, hs⟩ := (ha.of_spared hset rfl rfl).touches (touches_ask r b) hpr
    exact ⟨hc, hset.trans hs⟩
  case scrape r holds _ =>
    refine ha.touches (touches_scrape hcalm) ?_
    rintro rfl
    exact absurd (holds.symm.trans ha.role) (by decide)

theorem settle_calibrates (s : Block) (judge : Bool) (ha : Calibrates p b) : Spared p b (settle s judge b) := by
  have hall : Calibrates p (answers s judge b) ∧ Spared p b (answers s judge b) :=
    (reactions_answers s judge b).keep (P := fun y => Calibrates p y ∧ Spared p b y)
      (fun _ _ hr ⟨hc, hs⟩ => ⟨(hr.calibrates hc).1, hs.trans (hr.calibrates hc).2⟩) ⟨ha, .refl p b⟩
  exact hall.2.trans (.of_same (close_roles s (answers s judge b)) (close_lc s (answers s judge b) p))

/-! ## Start Touch Search -/

theorem searchStarts (hq : Leads q s.block) (hm : MaySearch p s.block) (hh : (s.block.lc p).held = .none) :
    ∃ t, exec (.startTouchSearch q p) s = .next t ∧ Answered s t q.link (plainReply 0x0D q .accepted) ∧
      KeepsRest s t ∧ t.block.plan.roles.get p = ⟨.calibrating, some (originOf q.link)⟩ ∧
      ((s.block.lc p).dwellTimer = none → airSufficient s.block = true →
        (t.block.lc p).state = .searching ∧
        (t.block.lc p).commanded = min (s.block.nat .searchStart) (s.block.nat .pmax) ∧
        ∃ r, (t.block.lc p).search = some r ∧ r.phase = .rise ∧ r.step = 1 ∧ r.settle = some 0) ∧
      ((s.block.lc p).dwellTimer.isSome = true →
        (t.block.lc p).state = .stowed ∧ (t.block.lc p).held = .dwell ∧ (t.block.lc p).heldSearch = true) ∧
      ((s.block.lc p).dwellTimer = none → airSufficient s.block = false →
        (t.block.lc p).state = .stowed ∧ (t.block.lc p).held = .air ∧ (t.block.lc p).heldSearch = true) := by
  have hunref : searchRefusal (refresh q.link s.block) p = none := hm.unrefused
  have htaken := startTouchSearch_taken (l := q.link) hunref
  have hkept : (takeRaise p true (grantedSearch q.link p (refresh q.link s.block))).kept = (refresh q.link s.block).kept :=
    (kept_takeRaise p true _).trans rfl
  obtain ⟨t, ht, he⟩ := request_ends_as (code := 0x0D) (examine_leader hq) htaken (congrArg Kept.links hkept)
  refine ⟨t, ht, he.plain, he.keepsRest_of_kept hkept, ?_⟩
  have htakes : TakesSearch p (grantedSearch q.link p (refresh q.link s.block))
      (takeRaise p true (grantedSearch q.link p (refresh q.link s.block))) := takesSearch hm.earth hh hm.state
  have htouch := touches_takeRaise p true (grantedSearch q.link p (refresh q.link s.block))
  have hfresh : (grantedSearch q.link p (refresh q.link s.block)).plan.roles.get p =
      ⟨.calibrating, some (originOf q.link)⟩ := PerP.get_set_self _ _ _
  have hair : airSufficient (grantedSearch q.link p (refresh q.link s.block)) = airSufficient s.block := rfl
  have hseq : (grantedSearch q.link p (refresh q.link s.block)).seq = s.block.seq := rfl
  have hmode : (grantedSearch q.link p (refresh q.link s.block)).cond.mode = s.block.cond.mode := rfl
  have hlc : (grantedSearch q.link p (refresh q.link s.block)).lc p = s.block.lc p := rfl
  have hnat (i : Item) : (grantedSearch q.link p (refresh q.link s.block)).nat i = s.block.nat i := rfl
  have hblock := he.settles
  generalize grantedSearch q.link p (refresh q.link s.block) = c at htakes htouch hfresh hair hseq hmode hlc hnat hblock
  generalize takeRaise p true c = x at htakes htouch hblock
  obtain ⟨hrole, hbusy, hbegins, hdwells, hairs⟩ := htakes
  rw [hair] at hbegins hairs
  rw [hlc] at hbegins hdwells hairs
  rw [hnat, hnat] at hbegins
  have hcal : Calibrates p (pushReply q.link (plainReply 0x0D q .accepted) x) := by
    refine ⟨.inl ?_, ?_, ?_, hbusy⟩
    · change x.seq.phase = _
      rw [htouch.seq, hseq, hm.phase]
    · change x.cond.mode ≠ _
      rw [htouch.mode, hmode]
      rcases hm.mode with h | ⟨h, -⟩ <;> simp [h]
    · change (x.plan.roles.get p).role = _
      rw [hrole, hfresh]
  have hreply : Spared p x (pushReply q.link (plainReply 0x0D q .accepted) x) := .of_same rfl rfl
  have hspared := hreply.trans (settle_calibrates s.block false hcal)
  rw [← hblock] at hspared
  obtain ⟨hroles, n, hn, hsame⟩ := hspared
  rw [hn]
  refine ⟨hroles.trans (hrole.trans hfresh), fun hd ha => ?_, hdwells, hairs⟩
  have hb := hbegins hd ha
  exact ⟨hb.state, (hsame (by simp [hb.state])).trans hb.commanded, hb.record⟩

/-! ## The limit under which a step was commanded (R66) -/

theorem LiftAct.hystLimit {w : Ending} {m : Lift} (ha : LiftAct w b p m) : m.hystLimit = (b.lc p).hystLimit := by
  cases ha
  case raises => rw [beginRaise, evaluate, setLift_setLift, lc_setLift_self, lc_setLift_self]
  all_goals rfl

theorem Act.hystLimit {w : Ending} (ha : Act w b x) (p : Panto) : (x.lc p).hystLimit = (b.lc p).hystLimit := by
  rcases ha.lc_eq_or p with h | h
  · rw [h]
  · exact h.hystLimit

theorem settle_hystLimit (s : Block) (judge : Bool) (b : Block) (p : Panto) :
    ((settle s judge b).lc p).hystLimit = (b.lc p).hystLimit := by
  obtain ⟨y, hacts, hclosed⟩ := settle_acts s judge b
  have hy : (y.lc p).hystLimit = (b.lc p).hystLimit :=
    hacts.keep (P := fun y => (y.lc p).hystLimit = (b.lc p).hystLimit) (fun _ _ hs ha => (hs.hystLimit p).trans ha) rfl
  rw [Block.lc, hclosed.lift, ← Block.lc, hy]

theorem writeHystMax_lc (v : Int) (p : Panto) (b : Block) :
    ((writeConfigurationItem (some .hystMax) v b).block.lc p) = b.lc p := by
  unfold writeConfigurationItem
  dsimp only
  split
  · rfl
  · split <;> rfl

theorem write_keeps_hystLimit (q : Req) (v : Int) (s : State) (hq : Leads q s.block) :
    ∃ t, exec (.writeConfigurationItem q (some .hystMax) v) s = .next t ∧
      ∀ p, (t.block.lc p).hystLimit = (s.block.lc p).hystLimit := by
  obtain ⟨t, ht, he⟩ := request_ends (code := 0x14) (examine_leader hq)
    (owner := writeConfigurationItem (some .hystMax) v) (by
      unfold writeConfigurationItem
      dsimp only
      split
      · rfl
      · split <;> simp [effect, refuse])
  refine ⟨t, ht, fun p => ?_⟩
  rw [he.block]
  have hlc := writeHystMax_lc v p (refresh q.link s.block)
  generalize writeConfigurationItem (some .hystMax) v (refresh q.link s.block) = a at hlc
  unfold finish
  split
  · rw [close_lc]
    exact congrArg Lift.hystLimit hlc
  all_goals
    rw [settle_hystLimit]
    exact congrArg Lift.hystLimit hlc

end Sys2Proof.Machine
end

section
/-!
The steps of a touch search judged at a scan (R68 to R72), and the obligation about the search.
-/

namespace Sys2Proof.Machine

variable {b c x : Block} {p r : Panto} {rec : SearchRec} {h before : Int} {f : CalFields → CalFields} {v : SearchResult}

/-! ## What the commands and the ends of a search leave -/

theorem commandsStep_commandStep (pressure : Nat) (hs : (b.lc p).state = .searching) :
    CommandsStep p b (commandStep p rec pressure b) rec pressure := by
  unfold commandStep
  dsimp only
  constructor
  case entry => rfl
  all_goals rw [lc_setLift_self]
  case state => exact hs

/-- The position, the entries, the role and the pressure agree, so that one end of a search is the other's. -/
theorem EndsSearch.of_same {g : CalFields} (he : EndsSearch p x c rec v g) (hq : x.queue = b.queue) (hcal : x.cal = b.cal)
    (hc : (x.lc p).commanded = (b.lc p).commanded) (hr : x.plan = b.plan) : EndsSearch p b c rec v g where
  entry := hq ▸ he.entry
  others r hne := hcal ▸ he.others r hne
  state := he.state
  timer := he.timer
  commanded := he.commanded.trans hc
  record := he.record
  role := he.role.trans (by rw [Block.role, hr, Block.role])

theorem beginLowering_of_searching (hs : (b.lc p).state = .searching) :
    beginLowering p b = b.setLift p (b.lc p).toLowering := by
  unfold beginLowering leaveContact
  exact if_neg fun hc => by simp [hs] at hc

/-- A search ends: the entry as given, LOWERING, and nothing recorded (R71, R72). -/
theorem endsSearch_endSearch (v : SearchResult) (f : CalFields → CalFields) (hs : (b.lc p).state = .searching)
    (hr : (b.lc p).search = some rec) :
    EndsSearch p b (endSearch p v f b) rec v (f (b.cal.get p).fields) ∧ (endSearch p v f b).cond = b.cond := by
  unfold endSearch
  dsimp only
  generalize hg : (fun c => { f c with lastResult := some v, calPos := some b.queue.position }) = g
  have hframe := changeEntry_frame p g b
  generalize changeEntry p g b = x at hframe
  have hlc (r : Panto) : x.lc r = b.lc r := by rw [hframe]; rfl
  have hcal : x.cal = b.cal.set p ⟨g (b.cal.get p).fields, false⟩ := by rw [hframe]
  rw [beginLowering_of_searching (by rwa [hlc])]
  refine ⟨⟨?_, fun r hne => ?_, ?_, ?_, ?_, ?_, ?_⟩, by rw [hframe]; rfl⟩
  · change x.cal.get p = _
    rw [hcal, PerP.get_set_self, ← hg]
  · change x.cal.get r = _
    rw [hcal, PerP.get_set_ne _ _ hne]
  · rw [lc_setLift_self]
    rfl
  · rw [lc_setLift_self]
    rfl
  · rw [lc_setLift_self, hlc]
    rfl
  · rw [lc_setLift_self, hlc]
    exact hr
  · change x.role p = b.role p
    rw [hframe]
    rfl

theorem failSearch_fails (v : SearchResult) (hs : (b.lc p).state = .searching) (hr : (b.lc p).search = some rec) :
    EndsSearch p b (failSearch p v b) rec v { (b.cal.get p).fields with status := .failed } ∧
      faultCount .calibrationFailed (failSearch p v b) = oneMore .calibrationFailed b := by
  obtain ⟨hends, hcond⟩ := endsSearch_endSearch (b := recordFault .calibrationFailed (.panto p) b) v
    (fun c => { c with status := .failed }) hs hr
  exact ⟨hends.of_same rfl rfl rfl rfl,
    (faultCount_of_faults (congrArg Cond.faults hcond) _).trans (faultCount_recordFault_self _ _ _)⟩

/-- The entry of a search whose release pressure is decided (R71). -/
def measured (rise release : Nat) (status : CalStatus) (f : CalFields) : CalFields :=
  { f with touch := (rise + release + 1) / 2, release := release, hysteresis := rise - release, status := status }

theorem finishSearch_finishes (rise release : Nat) (hs : (b.lc p).state = .searching) (hr : (b.lc p).search = some rec) :
    (rise - release ≤ (b.lc p).hystLimit →
      EndsSearch p b (finishSearch p rise release b) rec .ok (measured rise release .valid (b.cal.get p).fields)) ∧
    ((b.lc p).hystLimit < rise - release →
      EndsSearch p b (finishSearch p rise release b) rec .hysteresisHigh
        (measured rise release .suspect (b.cal.get p).fields)) ∧
    (finishSearch p rise release b).cond = b.cond := by
  have hok := endsSearch_endSearch .ok (measured rise release .valid) hs hr
  have hhigh := endsSearch_endSearch .hysteresisHigh (measured rise release .suspect) hs hr
  have heq : finishSearch p rise release b = if rise - release ≤ (b.lc p).hystLimit then
      endSearch p .ok (measured rise release .valid) b else
      endSearch p .hysteresisHigh (measured rise release .suspect) b := rfl
  by_cases hlim : rise - release ≤ (b.lc p).hystLimit
  · rw [heq, if_pos hlim]
    exact ⟨fun _ => hok.1, fun hn => absurd hlim (Nat.not_le.mpr hn), hok.2⟩
  · rw [heq, if_neg hlim]
    exact ⟨fun hn => absurd hn hlim, fun _ => hhigh.1, hhigh.2⟩

/-! ## The scan that finds a step settled (R68) -/

/-- The part as a step of the search is judged: the height noted, the count of low strips at 0. -/
def judgedAt (p : Panto) (h : Int) (b : Block) : Block :=
  b.setLift p { b.lc p with history := (h :: (b.lc p).history).take historyLength, lowStrip := 0 }

theorem judgedAt_lc (p : Panto) (h : Int) (b : Block) : (judgedAt p h b).lc p =
    { b.lc p with history := (h :: (b.lc p).history).take historyLength, lowStrip := 0 } := lc_setLift_self _ _ _

theorem Chan.Reads.reading {c : Chan} (hr : c.Reads h) : c.reading = some h := by
  obtain ⟨hgood, hv⟩ := hr
  simp [Chan.reading, hgood, hv]

theorem judgedAt_before (hb : (b.lc p).history[29]? = some before) : ((judgedAt p h b).lc p).heightBefore = some before := by
  rw [judgedAt_lc]
  simp [Lift.heightBefore, historyLength, hb]

/-- A settled step is judged by its phase. -/
def judgeStep (p : Panto) (rec : SearchRec) (h : Int) (b : Block) : Block :=
  match rec.phase with
  | .rise => judgeRise p rec h (b.lc p).heightBefore b
  | .release => judgeRelease p rec h b
  | .held => b

theorem SettledStep.scans (hd : SettledStep p b rec h) :
    liftScan dropPanto p b = judgeStep p rec h (judgedAt p h b) := by
  obtain ⟨hstate, hrecord, ⟨n, hn, hlong⟩, hheight, hwithin, hact, ⟨v, hv, hwhole⟩⟩ := hd
  have hread := hheight.reading
  have hscan : liftScan dropPanto p b = checked dropPanto searchChecks p (b.setLift p ((b.lc p).addHeight h)) := by
    simp only [liftScan, hstate, noteHeight, hread]
  have hcount : countStrip (b.setLift p ((b.lc p).addHeight h)) p = 0 := by
    have hshows : ((b.setLift p ((b.lc p).addHeight h)).sensors.strip.get p).heldValue = some v := heldValue_eq_some.mpr hv
    simp only [countStrip, hshows]
    exact if_neg (not_lt.mpr hwhole)
  have hjudged : (b.setLift p ((b.lc p).addHeight h)).setLift p
      { (b.setLift p ((b.lc p).addHeight h)).lc p with lowStrip := 0 } = judgedAt p h b := by
    rw [lc_setLift_self, setLift_setLift]
    rfl
  have hfaulty : sensorFaulty (judgedAt p h b) p = false := by
    have hgood : ((judgedAt p h b).sensors.height.get p).validity = .good := hheight.1
    have hact' : ((judgedAt p h b).sensors.actuator.get p).validity ≠ .faulty := hact
    simp [sensorFaulty, hgood, hact']
  have hread' : ((judgedAt p h b).sensors.height.get p).reading = some h := hread
  have habove : aboveHMax (judgedAt p h b) p = false := by
    simp only [aboveHMax, hread']
    exact decide_eq_false (not_lt.mpr hwithin)
  have hrec' : ((judgedAt p h b).lc p).search = some rec := by rw [judgedAt_lc]; exact hrecord
  have hdue : 400 ≤ rec.settle.getD 0 := by simpa [hn] using hlong
  rw [hscan, checked, hcount]
  dsimp only
  rw [hjudged, if_neg (by decide)]
  unfold searchChecks
  rw [hfaulty, habove, hrec', hread']
  dsimp only
  rw [if_neg Bool.false_ne_true, if_neg Bool.false_ne_true, if_pos hdue]
  cases hphase : rec.phase <;> simp only [judgeStep, hphase]

/-- A block that differs in the heights and the low strips of the pantograph serves the commands of the other. -/
theorem CommandsStep.of_judgedAt {n : Nat} (hc : CommandsStep p (judgedAt p h b) c rec n) : CommandsStep p b c rec n :=
  ⟨hc.state, hc.commanded, hc.record, hc.entry, hc.limit⟩

theorem EndsSearch.of_judgedAt {g : CalFields} (he : EndsSearch p (judgedAt p h b) c rec v g) :
    EndsSearch p b c rec v g :=
  he.of_same rfl rfl (by rw [judgedAt_lc]) rfl

/-! ## A rise step (R69) -/

theorem touchFound_iff : touchFound b h (some before) = true ↔ b.cfg .hWork ≤ h ∧ h - before < 3 := by
  simp [touchFound]

theorem judgeRise_tooHigh (ht : touchFound b h (some before) = true) (h1 : rec.step = 1) :
    judgeRise p rec h (some before) b =
      failSearch p .startTooHigh (b.setLift p { b.lc p with search := some rec.touched }) :=
  (if_pos ht).trans (if_pos h1)

theorem judgeRise_touches (ht : touchFound b h (some before) = true) (h1 : rec.step ≠ 1) :
    judgeRise p rec h (some before) b =
      commandStep p { rec.touched with phase := .release, step := 1, reference := some h }
        (rec.pressure - b.nat .searchStep) b :=
  (if_pos ht).trans (if_neg h1)

theorem judgeRise_noTouch (ht : ¬touchFound b h (some before) = true)
    (hend : 255 ≤ rec.step ∨ rec.clamped = true ∨ b.nat .searchMax < rec.pressure + b.nat .searchStep) :
    judgeRise p rec h (some before) b = failSearch p .noTouch b := by
  refine (if_neg ht).trans ?_
  by_cases hstep : 255 ≤ rec.step
  · exact if_pos hstep
  · exact (if_neg hstep).trans (if_pos (hend.resolve_left hstep))

theorem judgeRise_rises (ht : ¬touchFound b h (some before) = true) (hstep : rec.step < 255) (hc : rec.clamped = false)
    (hmax : rec.pressure + b.nat .searchStep ≤ b.nat .searchMax) :
    judgeRise p rec h (some before) b =
      commandStep p { rec with step := rec.step + 1 } (rec.pressure + b.nat .searchStep) b := by
  refine (if_neg ht).trans ((if_neg (Nat.not_le.mpr hstep)).trans (if_neg ?_))
  rintro (hn | hn)
  · exact Bool.false_ne_true (hc.symm.trans hn)
  · omega

theorem judgedAt_state (hd : SettledStep p b rec h) : ((judgedAt p h b).lc p).state = .searching := by
  rw [judgedAt_lc]
  exact hd.state

theorem judgedAt_search (hd : SettledStep p b rec h) : ((judgedAt p h b).lc p).search = some rec := by
  rw [judgedAt_lc]
  exact hd.record

theorem judgedAt_nat (p : Panto) (h : Int) (b : Block) (i : Item) : (judgedAt p h b).nat i = b.nat i := rfl

theorem judgesRise (hd : SettledStep p b rec h) (hphase : rec.phase = .rise) (hb : (b.lc p).history[29]? = some before) :
    ∃ t, t = liftScan dropPanto p b ∧
      (b.cfg .hWork ≤ h → h - before < 3 → rec.step = 1 →
        EndsSearch p b t { rec with rise := some rec.pressure } .startTooHigh
          { (b.cal.get p).fields with status := .failed } ∧
        faultCount .calibrationFailed t = oneMore .calibrationFailed b) ∧
      (b.cfg .hWork ≤ h → h - before < 3 → rec.step ≠ 1 →
        CommandsStep p b t { rec with phase := .release, step := 1, rise := some rec.pressure, reference := some h }
          (rec.pressure - b.nat .searchStep)) ∧
      (¬(b.cfg .hWork ≤ h ∧ h - before < 3) →
        (255 ≤ rec.step ∨ rec.clamped = true ∨ b.nat .searchMax < rec.pressure + b.nat .searchStep →
          EndsSearch p b t rec .noTouch { (b.cal.get p).fields with status := .failed } ∧
          faultCount .calibrationFailed t = oneMore .calibrationFailed b) ∧
        (rec.step < 255 → rec.clamped = false → rec.pressure + b.nat .searchStep ≤ b.nat .searchMax →
          CommandsStep p b t { rec with step := rec.step + 1 } (rec.pressure + b.nat .searchStep))) := by
  have hstate := judgedAt_state hd
  have hsearch := judgedAt_search hd
  have hscan := hd.scans
  simp only [judgeStep, hphase, judgedAt_before hb] at hscan
  have hfound : touchFound (judgedAt p h b) h (some before) = true ↔ b.cfg .hWork ≤ h ∧ h - before < 3 := touchFound_iff
  refine ⟨_, rfl, fun hw hf h1 => ?_, fun hw hf h1 => ?_, fun hn => ⟨fun hend => ?_, fun hstep hc hmax => ?_⟩⟩
  · rw [hscan, judgeRise_tooHigh (hfound.mpr ⟨hw, hf⟩) h1]
    have hfails := failSearch_fails (b := (judgedAt p h b).setLift p
      { (judgedAt p h b).lc p with search := some rec.touched }) (p := p) (rec := rec.touched) .startTooHigh
      (by rw [lc_setLift_self]; exact hstate) (by rw [lc_setLift_self])
    exact ⟨hfails.1.of_same rfl rfl (by rw [lc_setLift_self, judgedAt_lc]) rfl, hfails.2⟩
  · rw [hscan, judgeRise_touches (hfound.mpr ⟨hw, hf⟩) h1]
    exact (commandsStep_commandStep _ hstate).of_judgedAt
  · rw [hscan, judgeRise_noTouch (fun ht => hn (hfound.mp ht)) hend]
    obtain ⟨hends, hcount⟩ := failSearch_fails (rec := rec) .noTouch hstate hsearch
    exact ⟨hends.of_judgedAt, hcount⟩
  · rw [hscan, judgeRise_rises (fun ht => hn (hfound.mp ht)) hstep hc hmax]
    exact (commandsStep_commandStep _ hstate).of_judgedAt

/-! ## A release step (R70) -/

theorem judgeRelease_decides {rise : Nat} {reference : Int} (hr : rec.rise = some rise)
    (hf : rec.reference = some reference) (hd : 10 < reference - h ∨ rec.pressure = 0) :
    judgeRelease p rec h b = finishSearch p rise rec.pressure b := by
  simp only [judgeRelease, hr, hf, Option.getD_some]
  by_cases hfall : 10 < reference - h
  · exact if_pos hfall
  · have hzero := hd.resolve_left hfall
    exact (if_neg hfall).trans ((if_pos hzero).trans (by rw [hzero]))

theorem judgeRelease_falls {reference : Int} (hf : rec.reference = some reference)
    (hd : ¬(10 < reference - h ∨ rec.pressure = 0)) :
    judgeRelease p rec h b =
      commandStep p { rec with step := rec.step + 1, reference := some h } (rec.pressure - b.nat .searchStep) b := by
  simp only [judgeRelease, hf, Option.getD_some]
  exact (if_neg (hd ∘ .inl)).trans (if_neg (hd ∘ .inr))

theorem judgesRelease {rise : Nat} {reference : Int} (hd : SettledStep p b rec h) (hphase : rec.phase = .release)
    (hr : rec.rise = some rise) (hf : rec.reference = some reference) :
    ∃ t, t = liftScan dropPanto p b ∧
      (10 < reference - h ∨ rec.pressure = 0 →
        (rise - rec.pressure ≤ (b.lc p).hystLimit →
          EndsSearch p b t rec .ok { (b.cal.get p).fields with
            touch := (rise + rec.pressure + 1) / 2, release := rec.pressure, hysteresis := rise - rec.pressure
            status := .valid }) ∧
        ((b.lc p).hystLimit < rise - rec.pressure →
          EndsSearch p b t rec .hysteresisHigh { (b.cal.get p).fields with
            touch := (rise + rec.pressure + 1) / 2, release := rec.pressure, hysteresis := rise - rec.pressure
            status := .suspect }) ∧
        faultCount .calibrationFailed t = faultCount .calibrationFailed b) ∧
      (¬(10 < reference - h ∨ rec.pressure = 0) →
        CommandsStep p b t { rec with step := rec.step + 1, reference := some h }
          (rec.pressure - b.nat .searchStep)) := by
  have hstate := judgedAt_state hd
  have hscan := hd.scans
  simp only [judgeStep, hphase] at hscan
  refine ⟨_, rfl, fun hend => ?_, fun hn => ?_⟩
  · rw [hscan, judgeRelease_decides hr hf hend]
    have hlim : ((judgedAt p h b).lc p).hystLimit = (b.lc p).hystLimit := by rw [judgedAt_lc]
    obtain ⟨hok, hhigh, hcond⟩ := finishSearch_finishes rise rec.pressure hstate (judgedAt_search hd)
    rw [hlim] at hok hhigh
    exact ⟨fun hle => (hok hle).of_judgedAt, fun hlt => (hhigh hlt).of_judgedAt,
      faultCount_of_faults (congrArg Cond.faults hcond) _⟩
  · rw [hscan, judgeRelease_falls hf hn]
    exact (commandsStep_commandStep _ hstate).of_judgedAt

/-- Settles O20, by the conditions in their order, by what the answers spare of a pantograph that calibrates, and by the
judging of each step. -/
theorem touchSearchBegins : Obligations.TouchSearchBegins := by
  unfold Obligations.TouchSearchBegins
  refine ⟨fun q p s d hq hd => ?_, fun q p s hq hm hh => searchStarts hq hm hh,
    fun p b rec h before hd hphase hb => judgesRise hd hphase hb, fun q v s hq => write_keeps_hystLimit q v s hq,
    fun p b rec h rise reference hd hphase hr hf => judgesRelease hd hphase hr hf⟩
  exact request_refused (code := 0x0D) (examine_leader hq) (startTouchSearch_unmet (b := refresh q.link s.block) hd)

end Sys2Proof.Machine
end

section
/-!
The warm restart: what its reload and its guard leave of the blocks it has brought about (R21, R44, R111, R126, R148).
-/

namespace Sys2Proof.Machine

variable {q : Req} {s : State} {b x y : Block} {p : Panto} {k : Contacts}

/-! ## The reload -/

theorem reloaded_modeTimer (b : Block) : (reloaded b).cond.modeTimer = b.cond.modeTimer := by
  have hload : (loadConfig b).cond.modeTimer = b.cond.modeTimer := by
    cases hc : b.mem.image.config with
    | some c => rw [loadConfig_some hc]
    | none => rw [loadConfig_none hc]; rfl
  exact hload

theorem reloaded_frame_cond (b : Block) : reloaded b = { b with cal := (reloaded b).cal, cond := (reloaded b).cond } :=
  (reloaded_frame b).1

/-- The reload writes the records, the mode that WAKING leads to and the pressures. -/
theorem reload_writes (b : Block) :
    reload b = { b with cal := (reload b).cal, cond := (reload b).cond, lift := (reload b).lift } := by
  rw [reload_eq]
  split
  · rw [clampCommanded_eq, reloaded_frame_cond b]
  · rw [ventAll, reloaded_frame_cond b]

theorem reload_holds (h : (reload b).cfg .holdOver = 1) (p : Panto) :
    (reload b).lc p = (b.lc p).within ((reload b).nat .pmax) := by
  have hcond := (reload_frame b).2.1
  have hon : (reloaded b).on .holdOver = true := by
    rw [Block.on, decide_eq_true_iff, Block.cfg, ← hcond]
    exact h
  have hnat : (reload b).nat .pmax = (reloaded b).nat .pmax := congrArg (fun c : Cond => cfgNat c.cfg .pmax) hcond
  rw [hnat, reload_eq, if_pos hon, clampCommanded_eq, lc_eachLift fun _ l => l.within ((reloaded b).nat .pmax),
    reloaded_frame_cond b]
  rfl

theorem reload_vents (h : (reload b).cfg .holdOver ≠ 1) (p : Panto) :
    (reload b).lc p = { b.lc p with commanded := 0, quickVent := false } := by
  have hcond := (reload_frame b).2.1
  have hon : ¬(reloaded b).on .holdOver = true := by
    rw [Block.on, decide_eq_true_iff, Block.cfg, ← hcond]
    exact h
  rw [reload_eq, if_neg hon, ventAll, lc_eachLift fun _ l => { l with commanded := 0, quickVent := false },
    reloaded_frame_cond b]
  rfl

/-! ## From the restarted blocks to the end of the event -/

/-- What the faults, the reload and the guard of a warm restart leave of the blocks `y`. -/
structure Restarts (y x : Block) : Prop where
  plan      : x.plan = y.plan
  queue     : x.queue = y.queue
  seq       : x.seq = y.seq
  links     : x.links = y.links
  mode      : x.cond.mode = y.cond.mode
  timer     : x.cond.modeTimer = y.cond.modeTimer
  standby   : x.cond.standbyLowering = y.cond.standbyLowering
  lift p    : ∃ n v r, x.lc p = { y.lc p with commanded := n, quickVent := v, search := r }
  reloads   : y.cond.reloadPending = true → y.mem.inFlight = none → x.cond.reloadPending = false ∧
    (x.cfg .holdOver ≠ 1 → ∀ p, x.lc p = { y.lc p with commanded := 0, quickVent := false }) ∧
    (x.cfg .holdOver = 1 → ∀ p, x.lc p = (y.lc p).within (x.nat .pmax))
  opens     : y.sw.breaker.state = .opening → x.sw.breaker = y.sw.breaker

theorem Noted.restarts (h : Noted y b) (h' : Restarts b x) : Restarts y x := by
  obtain ⟨f, u, rfl⟩ := h
  exact ⟨h'.plan, h'.queue, h'.seq, h'.links, h'.mode, h'.timer, h'.standby, h'.lift, h'.reloads, h'.opens⟩

theorem restarts_reloadIfIdle (b : Block) : Restarts b (reloadIfIdle b) := by
  unfold reloadIfIdle
  split
  next h =>
    have heq := reload_writes b
    have hcond := (reload_frame b).2.1
    obtain ⟨-, -, hmode, hstandby, hpending, -⟩ := reloaded_frame b
    have htimer := reloaded_modeTimer b
    rw [← hcond] at hmode hstandby hpending htimer
    refine ⟨by rw [heq], by rw [heq], by rw [heq], by rw [heq], hmode, htimer, hstandby, fun p => ?_,
      fun _ _ => ⟨hpending, fun hh p => reload_vents hh p, fun hh p => reload_holds hh p⟩, fun _ => by rw [heq]⟩
    by_cases hh : (reload b).cfg .holdOver = 1
    · exact ⟨_, _, _, reload_holds hh p⟩
    · exact ⟨_, _, _, reload_vents hh p⟩
  next h => exact ⟨rfl, rfl, rfl, rfl, rfl, rfl, rfl, fun _ => ⟨_, _, _, rfl⟩, fun hp hf => absurd ⟨hp, hf⟩ h, fun _ => rfl⟩

theorem guardBreaker_eq (b : Block) : guardBreaker b = { b with sw := (guardBreaker b).sw } := by
  unfold guardBreaker openBreaker
  split
  · split <;> rfl
  · rfl

theorem Restarts.guards (h : Restarts y b) : Restarts y (guardBreaker b) := by
  have heq := guardBreaker_eq b
  have hopening (ho : y.sw.breaker.state = .opening) : (guardBreaker b).sw.breaker = y.sw.breaker := by
    have hb := h.opens ho
    have hfree : breakerEngaged b = false := by simp [breakerEngaged, hb, ho]
    rw [guardBreaker, if_neg (by simp [hfree]), hb]
  rw [heq] at hopening ⊢
  exact ⟨h.plan, h.queue, h.seq, h.links, h.mode, h.timer, h.standby, h.lift, h.reloads, hopening⟩

theorem restarts_warmRestart (k : Contacts) (b : Block) : Restarts (restartBase k b) (warmRestart k b) :=
  (noted_restartBlocks k b).restarts (restarts_reloadIfIdle _).guards

theorem restartBase_lc (k : Contacts) (b : Block) (p : Panto) : (restartBase k b).lc p = (b.lc p).atRestart := by
  cases p <;> rfl

theorem restartBase_link (k : Contacts) (b : Block) (l : Link) :
    (restartBase k b).links.get l = (b.links.get l).atRestart := by
  cases l <;> rfl

theorem breakerAtRestart_closing {r : TwoPattern} {w : TwoSw} (h : w.state = .closing) :
    (breakerAtRestart r w).1.state = .opening := by
  rw [breakerAtRestart, if_pos h]
  rfl

theorem seq_atRestart_stopped {v : Seq} (h : v.phase = .idle ∨ v.phase = .halted) :
    v.atRestart.phase = v.phase ∧ v.atRestart.haltReason = v.haltReason := by
  rw [Seq.atRestart, if_pos h]
  exact ⟨rfl, rfl⟩

theorem seq_atRestart_running {v : Seq} (hi : v.phase ≠ .idle) (hh : v.phase ≠ .halted) :
    v.atRestart.phase = .halted ∧ v.atRestart.haltReason = some .restart := by
  rw [Seq.atRestart, if_neg (by simp [hi, hh])]
  exact ⟨rfl, rfl⟩

/-- What a warm restart keeps of the roof and of the route, and what it ends (R21, R44, R111, R126, R148, R178). -/
theorem warmRestart_keeps (k : Contacts) (s : State) : ∃ t, exec (.warmRestart k) s = .next t ∧
    t.block.plan = { s.block.plan with lead := none } ∧
    (∀ p, (t.block.lc p).state = (s.block.lc p).state ∧ (t.block.lc p).held = .none ∧
      (t.block.lc p).lowerPending = false ∧ (t.block.lc p).raiseTimer = none ∧ (t.block.lc p).lowerTimer = none ∧
      (t.block.lc p).dwellTimer = none ∧ (t.block.lc p).airTimer = none ∧ (t.block.lc p).devTimer = none) ∧
    (s.block.sw.breaker.state = .closing → t.block.sw.breaker.state = .opening) ∧
    t.block.sw.breaker.state ≠ .closing ∧
    t.block.queue.entries = s.block.queue.entries.map (fun e => { e with active := false, served := false }) ∧
    t.block.queue.position = s.block.queue.position ∧ t.block.queue.stale = true ∧
    (s.block.seq.phase = .idle ∨ s.block.seq.phase = .halted →
      t.block.seq.phase = s.block.seq.phase ∧ t.block.seq.haltReason = s.block.seq.haltReason) ∧
    (s.block.seq.phase ≠ .idle → s.block.seq.phase ≠ .halted →
      t.block.seq.phase = .halted ∧ t.block.seq.haltReason = some .restart) ∧
    t.block.cond.mode = .waking ∧ t.block.cond.modeTimer = 0 ∧ t.block.cond.standbyLowering = false ∧
    (s.block.mem.inFlight = none → t.block.cond.reloadPending = false ∧
      (t.block.cfg .holdOver ≠ 1 → ∀ p, (t.block.lc p).commanded = 0 ∧ (t.block.lc p).quickVent = false) ∧
      (t.block.cfg .holdOver = 1 → ∀ p,
        (t.block.lc p).commanded = min (s.block.lc p).commanded (t.block.nat .pmax))) ∧
    ∀ l, (t.block.links.get l).present = false ∧ (t.block.links.get l).mask = 0xFFFF ∧
      (t.block.links.get l).badFrames = 0 := by
  refine ⟨{ s with block := warmRestart k s.block }, rfl, ?_⟩
  have hclosing := warmRestart_breaker k s.block
  have h := restarts_warmRestart k s.block
  have hlc := restartBase_lc k s.block
  have hlink := restartBase_link k s.block
  dsimp only
  generalize warmRestart k s.block = x at h hclosing
  refine ⟨h.plan, fun p => ?_, fun hc => ?_, hclosing, by rw [h.queue]; rfl, by rw [h.queue]; rfl, by rw [h.queue]; rfl,
    fun hs => ?_, fun hi hh => ?_, h.mode, h.timer, h.standby, fun hf => ?_, fun l => ?_⟩
  · obtain ⟨n, v, r, hp⟩ := h.lift p
    rw [hp, hlc]
    exact ⟨rfl, rfl, rfl, rfl, rfl, rfl, rfl, rfl⟩
  · have hopening : (restartBase k s.block).sw.breaker.state = .opening := breakerAtRestart_closing hc
    rw [h.opens hopening, hopening]
  · rw [h.seq]
    exact seq_atRestart_stopped hs
  · rw [h.seq]
    exact seq_atRestart_running hi hh
  · obtain ⟨hpending, hvents, hholds⟩ := h.reloads rfl hf
    refine ⟨hpending, fun hh p => ?_, fun hh p => ?_⟩
    · rw [hvents hh p]
      exact ⟨rfl, rfl⟩
    · rw [hholds hh p, hlc]
      rfl
  · rw [h.links, hlink]
    exact ⟨rfl, rfl, rfl⟩

/-- The Restart request is answered and changes nothing but the links (R182). -/
theorem restart_accepted (q : Req) (s : State) (hq : Leads q s.block) :
    ∃ t, exec (.restart q) s = .next t ∧ OnlyLinks s t ∧ Answered s t q.link (plainReply 0x16 q .accepted) :=
  request_unchanged (code := 0x16) (examine_leader hq) rfl

end Sys2Proof.Machine
end

section
/-!
The adoption scan (R45, R46, R112, R137): who is adopted within MaxUp, what becomes of the others, of the candidate's path
and of the breaker.
-/

namespace Sys2Proof.Machine

variable {b x y z t : Block} {p r c : Panto} {chosen : List Panto}

/-! ## One pantograph after the other -/

/-- What each change brings about at its pantograph, which the changes before it have left alone, holds in the end. -/
theorem eachPanto_judges {f : Panto → Block → Block} {Q : Block → Prop} {R P : Panto → Block → Prop}
    (keep : ∀ p b, Q b → Q (f p b)) (before : ∀ p r b, p ≠ r → R p b → R p (f r b))
    (own : ∀ p b, Q b → R p b → P p (f p b)) (after : ∀ p r b, p ≠ r → P p b → P p (f r b))
    (hb : Q b) (hr : ∀ p, R p b) : Q (eachPanto f b) ∧ ∀ p, P p (eachPanto f b) := by
  have h1 := keep .p1 b hb
  have h2 := keep .p2 _ h1
  have h3 := keep .p3 _ h2
  refine ⟨keep .p4 _ h3, fun p => ?_⟩
  unfold eachPanto
  cases p
  case p1 =>
    exact after _ .p4 _ (by decide) (after _ .p3 _ (by decide) (after _ .p2 _ (by decide) (own .p1 b hb (hr .p1))))
  case p2 =>
    exact after _ .p4 _ (by decide) (after _ .p3 _ (by decide) (own .p2 _ h1 (before _ .p1 _ (by decide) (hr .p2))))
  case p3 =>
    exact after _ .p4 _ (by decide) (own .p3 _ h2 (before _ .p2 _ (by decide) (before _ .p1 _ (by decide) (hr .p3))))
  case p4 =>
    exact own .p4 _ h3 (before _ .p3 _ (by decide) (before _ .p2 _ (by decide) (before _ .p1 _ (by decide) (hr .p4))))

/-! ## What the adoption makes of one pantograph -/

theorem adoptOne_plan (chosen : List Panto) (p : Panto) (b : Block) :
    (adoptOne chosen p b).plan = if chosen.contains p then b.plan else (clearRole p b).plan := by
  cases h : chosen.contains p with
  | true =>
    rw [adoptOne_chosen h]
    rfl
  | false =>
    rw [adoptOne_rest h, settleDown_eq, clearRole, leaveContact_plan]
    rfl

theorem adoptOne_roles_ne (h : r ≠ p) (chosen : List Panto) (b : Block) :
    (adoptOne chosen p b).plan.roles.get r = b.plan.roles.get r := by
  rw [adoptOne_plan]
  split
  · rfl
  · exact PerP.get_set_ne _ _ h

theorem adoptOne_hold (chosen : List Panto) (p : Panto) (b : Block) : (adoptOne chosen p b).plan.hold = b.plan.hold :=
  congrArg Kept.hold (kept_adoptOne chosen p b)

/-- A pantograph that is the candidate of a path in CONFIRM, MASTER_READY or CLOSE leaves CONTACT (R137). -/
def LosesCandidate (chosen : List Panto) (p : Panto) (b : Block) : Prop :=
  chosen.contains p = false ∧ (b.lc p).state = .contact ∧ b.seq.candidate = some p ∧ b.seq.NeedsContact

theorem sw_openBreaker_congr (v : Source) (h : x.sw = b.sw) : (openBreaker v x).sw = (openBreaker v b).sw := by
  unfold openBreaker
  rw [h]
  split <;> simp only [Block.setBreaker, h]

theorem sw_enterHalt_opens {v : HaltReason} (hm : v ≠ .mismatch) (b : Block) :
    (enterHalt v b).sw = (openBreaker .internal b).sw := by
  have hfault : (haltFault v b).sw = b.sw := by cases v <;> rfl
  have hserve (n : Option Nat) (a : Block) : (serveEntry n a).sw = a.sw := by cases n <;> rfl
  rw [enterHalt_eq hm]
  exact sw_openBreaker_congr _ ((hserve _ _).trans hfault)

theorem leaveContact_halts {l : Lift} (hc : (b.lc p).state = .contact) (hcand : b.seq.candidate = some p)
    (hneeds : b.seq.NeedsContact) : leaveContact p l b = enterHalt .raise (b.setLift p l) := by
  have hi : b.seq.phase ≠ .idle := by rcases hneeds with h | h | h <;> simp [h]
  have hh : b.seq.phase ≠ .halted := by rcases hneeds with h | h | h <;> simp [h]
  rw [leaveContact, if_pos ⟨hc, hcand, hneeds⟩]
  exact halt_running (b := b.setLift p l) hi hh

theorem leaveContact_stays {l : Lift} (h : ¬((b.lc p).state = .contact ∧ b.seq.candidate = some p ∧ b.seq.NeedsContact)) :
    leaveContact p l b = b.setLift p l := if_neg h

theorem adoptOne_halts (h : LosesCandidate chosen p b) : (adoptOne chosen p b).seq.phase = .halted ∧
    (adoptOne chosen p b).seq.haltReason = some .raise ∧ (adoptOne chosen p b).sw = (openBreaker .internal b).sw := by
  obtain ⟨hrest, hcontact, hcand, hneeds⟩ := h
  rw [adoptOne_rest hrest, settleDown_eq,
    leaveContact_halts (b := b.setLift p _) (by rw [lc_setLift_self]; exact hcontact) hcand hneeds]
  change (enterHalt _ _).seq.phase = _ ∧ (enterHalt _ _).seq.haltReason = _ ∧ (enterHalt _ _).sw = _
  rw [seq_enterHalt, sw_enterHalt_opens (by decide)]
  exact ⟨rfl, rfl, sw_openBreaker_congr _ rfl⟩

theorem adoptOne_path (h : ¬LosesCandidate chosen p b) :
    (adoptOne chosen p b).seq = b.seq ∧ (adoptOne chosen p b).sw = b.sw := by
  cases hc : chosen.contains p with
  | true =>
    rw [adoptOne_chosen hc]
    exact ⟨rfl, rfl⟩
  | false =>
    rw [adoptOne_rest hc, settleDown_eq, leaveContact_stays]
    · exact ⟨rfl, rfl⟩
    · rintro ⟨hcontact, hcand, hneeds⟩
      rw [lc_setLift_self] at hcontact
      exact h ⟨hc, hcontact, hcand, hneeds⟩

theorem readsStowed_of_kept (h : x.kept = b.kept) (p : Panto) : readsStowed x p = readsStowed b p := by
  have hsensors : x.sensors = b.sensors := congrArg Kept.sensors h
  have hcfg : x.cond.cfg = b.cond.cfg := congrArg Kept.cfg h
  rw [readsStowed, readsStowed, hsensors, Block.cfg, Block.cfg, hcfg]

/-- What has come of the path and the breaker while the pantographs are judged. -/
structure Judging (chosen : List Panto) (z x : Block) : Prop where
  kept    : x.kept = z.kept
  contact : ∀ p, (x.lc p).state = .contact → (z.lc p).state = .contact ∨ chosen.contains p = true
  path    : x.seq = z.seq ∧ x.sw = z.sw ∨ (∃ p, LosesCandidate chosen p z) ∧ x.seq.phase = .halted ∧
    x.seq.haltReason = some .raise ∧ x.sw = (openBreaker .internal z).sw

theorem not_losesCandidate_of_halted (h : b.seq.phase = .halted) : ¬LosesCandidate chosen p b :=
  fun hl => not_needsContact_of_stopped (.inr h) hl.2.2.2

theorem Judging.loses (h : Judging chosen z x) (hl : LosesCandidate chosen p x) :
    LosesCandidate chosen p z ∧ x.seq = z.seq ∧ x.sw = z.sw := by
  rcases h.path with ⟨hseq, hsw⟩ | ⟨-, hh, -⟩
  · obtain ⟨hrest, hcontact, hcand, hneeds⟩ := hl
    have hz := (h.contact p hcontact).resolve_right (by rw [hrest]; exact Bool.false_ne_true)
    exact ⟨⟨hrest, hz, hseq ▸ hcand, hseq ▸ hneeds⟩, hseq, hsw⟩
  · exact absurd hl (not_losesCandidate_of_halted hh)

theorem Judging.step (h : Judging chosen z x) (p : Panto) : Judging chosen z (adoptOne chosen p x) where
  kept := (kept_adoptOne chosen p x).trans h.kept
  contact r hr := by
    by_cases hrp : r = p
    · subst hrp
      exact .inr ((adoptedAs_adoptOne chosen r x).raised (by rw [hr]; rfl))
    · rw [lc_adoptOne_ne hrp] at hr
      exact h.contact r hr
  path := by
    by_cases hl : LosesCandidate chosen p x
    · obtain ⟨hz, -, hsw⟩ := h.loses hl
      obtain ⟨hphase, hreason, hopen⟩ := adoptOne_halts hl
      exact .inr ⟨⟨p, hz⟩, hphase, hreason, hopen.trans (sw_openBreaker_congr _ hsw)⟩
    · obtain ⟨hseq, hsw⟩ := adoptOne_path hl
      rw [hseq, hsw]
      exact h.path

/-- What has come of a pantograph that is judged. -/
structure JudgedAs (chosen : List Panto) (z : Block) (p : Panto) (x : Block) : Prop where
  taken : chosen.contains p = true → (x.lc p).state = .contact ∧ (x.lc p).commanded = (z.lc p).commanded ∧
    (x.lc p).quickVent = false ∧ x.plan.roles.get p = z.plan.roles.get p
  down  : chosen.contains p = false →
    x.lc p = ({ z.lc p with lowerNoted := false } : Lift).notAdopted (readsStowed z p) ∧
      x.plan.roles.get p = ⟨.none, none⟩
  halts : LosesCandidate chosen p z → x.seq.phase = .halted

theorem judgedAs_adoptOne (h : Judging chosen z x) (hlc : x.lc p = z.lc p)
    (hrole : x.plan.roles.get p = z.plan.roles.get p) : JudgedAs chosen z p (adoptOne chosen p x) where
  taken hc := by
    rw [adoptOne_plan, if_pos hc, adoptOne_chosen hc]
    unfold enterContact evaluate
    simp only [lc_setLift_self, hlc]
    exact ⟨trivial, trivial, trivial, hrole⟩
  down hc := by
    rw [adoptOne_plan, if_neg (by rw [hc]; exact Bool.false_ne_true), adoptOne_rest hc, clearRole_lc,
      settleDown_eq, leaveContact_lc, lc_setLift_self,
      lc_setLift_self, readsStowed_of_kept (b := z) ((kept_setLift _ _ _).trans h.kept), hlc]
    exact ⟨rfl, PerP.get_set_self _ _ _⟩
  halts hl := by
    by_cases hx : LosesCandidate chosen p x
    · exact (adoptOne_halts hx).1
    · rw [(adoptOne_path hx).1]
      rcases h.path with ⟨hseq, -⟩ | ⟨-, hh, -⟩
      · exact absurd ⟨hl.1, hlc ▸ hl.2.1, hseq ▸ hl.2.2.1, hseq ▸ hl.2.2.2⟩ hx
      · exact hh

theorem JudgedAs.step (h : JudgedAs chosen z p x) (hr : p ≠ r) : JudgedAs chosen z p (adoptOne chosen r x) where
  taken := by
    rw [lc_adoptOne_ne hr, adoptOne_roles_ne hr]
    exact h.taken
  down := by
    rw [lc_adoptOne_ne hr, adoptOne_roles_ne hr]
    exact h.down
  halts hl := by
    have hh := h.halts hl
    rw [(adoptOne_path (not_losesCandidate_of_halted hh)).1]
    exact hh

theorem judges_all (chosen : List Panto) (z : Block) :
    Judging chosen z (eachPanto (adoptOne chosen) z) ∧ ∀ p, JudgedAs chosen z p (eachPanto (adoptOne chosen) z) :=
  eachPanto_judges (Q := Judging chosen z) (P := JudgedAs chosen z)
    (R := fun p x => x.lc p = z.lc p ∧ x.plan.roles.get p = z.plan.roles.get p)
    (fun p _ h => h.step p)
    (fun _ _ _ hr ⟨hlc, hrole⟩ => ⟨(lc_adoptOne_ne hr _).trans hlc, (adoptOne_roles_ne hr _ _).trans hrole⟩)
    (fun _ _ h ⟨hlc, hrole⟩ => judgedAs_adoptOne h hlc hrole) (fun _ _ _ hr h => h.step hr)
    ⟨rfl, fun _ h => .inl h, .inl ⟨rfl, rfl⟩⟩ fun _ => ⟨rfl, rfl⟩

/-! ## Who is adopted (R45) -/

theorem reading_eq_some {c : Chan} {v : Int} : c.reading = some v ↔ c.Reads v := by
  unfold Chan.reading Chan.Reads
  by_cases h : c.validity = .good <;> simp [h]

/-- The blocks agree in what R45 asks of a pantograph. -/
structure SameAdoption (b z : Block) : Prop where
  roles   : z.plan.roles = b.plan.roles
  noted p : (z.lc p).lowerNoted = (b.lc p).lowerNoted
  sensors : z.sensors = b.sensors
  cfg     : ∀ i, i ≠ .maxUp → z.cfg i = b.cfg i
  sw      : z.sw = b.sw
  speed   : z.queue.speed = b.queue.speed
  level   : z.ice.level = b.ice.level
  cal     : z.cal = b.cal

theorem SameAdoption.nat (h : SameAdoption b z) {i : Item} (hi : i ≠ .maxUp) : z.nat i = b.nat i :=
  congrArg Int.toNat (h.cfg i hi)

theorem SameAdoption.head (h : SameAdoption b z) (p : Panto) : z.head p = b.head p := by
  unfold Block.head
  rw [h.cfg _ (by cases p <;> decide)]

theorem SameAdoption.forceItems (h : SameAdoption b z) (hd : Head) :
    Sys2Proof.Machine.forceItems z hd = Sys2Proof.Machine.forceItems b hd := by
  have hnat {i : Item} (hi : i ≠ .maxUp) : z.nat i = b.nat i := h.nat hi
  cases hd <;> simp only [Machine.forceItems, hnat, ne_eq, reduceCtorEq,
    not_false_eq_true]

theorem SameAdoption.targetPressure (h : SameAdoption b z) (p : Panto) : targetPressureOf z p = targetPressureOf b p := by
  have hrole : z.role p = b.role p := by rw [Block.role, h.roles, Block.role]
  unfold targetPressureOf rawPressure targetForceOf rawForce touchInUse uncalibrated
  rw [h.head, h.forceItems, hrole, h.speed, h.level, h.cal, h.nat (i := .kice) (by decide),
    h.nat (i := .scrapeExtra) (by decide),
    h.nat (i := .pressGain) (by decide), h.nat (i := .pmax) (by decide), h.nat (i := .defaultTouch) (by decide)]

end Sys2Proof.Machine
end

section
/-!
The adoption scan as a whole, and the obligation about the warm restart.
-/

namespace Sys2Proof.Machine

variable {b x y z t : Block} {p r c : Panto} {chosen : List Panto} {n : Nat}

/-! ## Who is adopted (R45) -/

/-- The fit collectors and the fit scrapers, in the order of R45. -/
def fitCollectors (b : Block) : List Panto := (Panto.all.filter (adoptable b)).filter fun p => b.role p == .collecting

/-- The fit scrapers. -/
def fitScrapers (b : Block) : List Panto := (Panto.all.filter (adoptable b)).filter fun p => b.role p != .collecting

theorem adopted_eq (b : Block) : adopted b = (fitCollectors b ++ fitScrapers b).take (b.nat .maxUp) := rfl

theorem mem_fitCollectors : p ∈ fitCollectors b ↔ adoptable b p = true ∧ b.role p = .collecting := by
  simp [fitCollectors, Panto.mem_all, and_comm]

theorem mem_fitScrapers : p ∈ fitScrapers b ↔ adoptable b p = true ∧ b.role p ≠ .collecting := by
  simp [fitScrapers, Panto.mem_all, and_comm]

theorem adoptable_role (h : adoptable b p = true) : b.role p = .collecting ∨ b.role p = .scraping := by
  simp only [adoptable, Bool.and_eq_true, Bool.or_eq_true, beq_iff_eq] at h
  obtain ⟨⟨⟨⟨⟨hrole, -⟩, -⟩, -⟩, -⟩, -⟩ := h
  exact hrole

/-- A list without repetition whose elements are all one is that one or empty. -/
theorem eq_singleton_of_all {l : List Panto} (hn : l.Nodup) (h : ∀ x ∈ l, x = p) (hp : p ∈ l) : l = [p] := by
  cases l with
  | nil => exact absurd hp List.not_mem_nil
  | cons x xs =>
    obtain rfl := h x List.mem_cons_self
    cases xs with
    | nil => rfl
    | cons y ys =>
      obtain rfl := h y (List.mem_cons_of_mem _ List.mem_cons_self)
      exact absurd hn (by simp)

theorem nodup_fit (g : Panto → Bool) (b : Block) : ((Panto.all.filter (adoptable b)).filter g).Nodup :=
  List.Nodup.filter g (List.Nodup.filter _ (by decide))

theorem fitCollectors_eq (h1 : OneCollector b) (ha : adoptable b p = true) (hr : b.role p = .collecting) :
    fitCollectors b = [p] :=
  eq_singleton_of_all (nodup_fit _ b) (fun x hx => h1 x p (mem_fitCollectors.mp hx).2 hr) (mem_fitCollectors.mpr ⟨ha, hr⟩)

theorem fitScrapers_eq (h1 : ∀ x, x ≠ p → b.role x ≠ .scraping) (ha : adoptable b p = true) (hr : b.role p = .scraping) :
    fitScrapers b = [p] := by
  refine eq_singleton_of_all (nodup_fit _ b) (fun x hx => ?_) (mem_fitScrapers.mpr ⟨ha, by rw [hr]; decide⟩)
  obtain ⟨hfit, hne⟩ := mem_fitScrapers.mp hx
  by_contra hxp
  exact h1 x hxp ((adoptable_role hfit).resolve_left hne)

theorem fitCollectors_nil (h : ∀ x, b.role x = .collecting → ¬adoptable b x = true) : fitCollectors b = [] :=
  List.eq_nil_iff_forall_not_mem.mpr fun x hx => h x (mem_fitCollectors.mp hx).2 (mem_fitCollectors.mp hx).1

/-- The collector that is fit is adopted, where one may be. -/
theorem adopts_collector (h1 : OneCollector b) (ha : adoptable b p = true) (hr : b.role p = .collecting)
    (hn : 1 ≤ b.nat .maxUp) : (adopted b).contains p = true := by
  rw [adopted_eq, fitCollectors_eq h1 ha hr, List.contains_iff_mem]
  obtain ⟨m, hm⟩ := Nat.exists_eq_add_of_le' hn
  rw [hm]
  exact List.mem_cons_self

/-- The one scraper that is fit is adopted, where two may be, or one with no fit collector. -/
theorem adopts_scraper (h1 : OneCollector b) (hone : ∀ x, x ≠ p → b.role x ≠ .scraping) (ha : adoptable b p = true)
    (hr : b.role p = .scraping)
    (hn : 2 ≤ b.nat .maxUp ∨ 1 ≤ b.nat .maxUp ∧ ∀ x, b.role x = .collecting → ¬adoptable b x = true) :
    (adopted b).contains p = true := by
  rw [adopted_eq, fitScrapers_eq hone ha hr, List.contains_iff_mem]
  have alone (hnil : fitCollectors b = []) (hm : 1 ≤ b.nat .maxUp) :
      p ∈ (fitCollectors b ++ [p]).take (b.nat .maxUp) := by
    obtain ⟨m, hm⟩ := Nat.exists_eq_add_of_le' hm
    rw [hnil, hm]
    exact List.mem_cons_self
  rcases hn with hn | ⟨hn, hnone⟩
  · by_cases hc : ∃ x, b.role x = .collecting ∧ adoptable b x = true
    · obtain ⟨x, hx, hfit⟩ := hc
      obtain ⟨m, hm⟩ := Nat.exists_eq_add_of_le' hn
      rw [fitCollectors_eq h1 hfit hx, hm]
      exact List.mem_cons_of_mem _ List.mem_cons_self
    · exact alone (fitCollectors_nil fun x hx hfit => hc ⟨x, hx, hfit⟩) (by omega)
  · exact alone (fitCollectors_nil hnone) hn

/-- With one place the fit collector takes it. -/
theorem collector_excludes {w : Panto} (h1 : OneCollector b) (hx : b.role w = .collecting) (hfit : adoptable b w = true)
    (hr : b.role p = .scraping) (hn : b.nat .maxUp = 1) : (adopted b).contains p = false := by
  rw [adopted_eq, fitCollectors_eq h1 hfit hx, hn]
  refine Bool.eq_false_iff.mpr fun hc => ?_
  have hp : p = w := by simpa using hc
  rw [hp, hx] at hr
  cases hr

theorem SameAdoption.adoptable (h : SameAdoption b z) (p : Panto) : adoptable z p = true ↔ MayBeAdopted p b := by
  have hrole : z.role p = b.role p := by rw [Block.role, h.roles, Block.role]
  have hearth : earthOpen z = b.sw.earth.isOpen := by rw [earthOpen, h.sw]
  unfold Machine.adoptable
  rw [hrole, h.noted, h.sensors, h.targetPressure, h.cfg _ (by decide), h.cfg _ (by decide), hearth]
  simp only [Bool.and_eq_true, Bool.or_eq_true, beq_iff_eq, Bool.not_eq_true']
  constructor
  · rintro ⟨⟨⟨⟨⟨hr, hl⟩, hh⟩, ha⟩, hs⟩, he⟩
    refine ⟨hr, hl, ?_, ?_, ?_, he⟩
    · revert hh
      cases hread : (b.sensors.height.get p).reading with
      | none => simp
      | some v => exact fun hh => ⟨v, reading_eq_some.mp hread, of_decide_eq_true hh⟩
    · revert ha
      cases hread : (b.sensors.actuator.get p).reading with
      | none => simp
      | some v => exact fun ha => ⟨v, reading_eq_some.mp hread, of_decide_eq_true ha⟩
    · revert hs
      cases hread : (b.sensors.strip.get p).reading with
      | none => simp
      | some v => exact fun hs => ⟨v, reading_eq_some.mp hread, of_decide_eq_true hs⟩
  · rintro ⟨hr, hl, ⟨vh, hh, hh'⟩, ⟨va, ha, ha'⟩, ⟨vs, hs, hs'⟩, he⟩
    rw [reading_eq_some.mpr hh, reading_eq_some.mpr ha, reading_eq_some.mpr hs]
    exact ⟨⟨⟨⟨⟨hr, hl⟩, decide_eq_true hh'⟩, decide_eq_true ha'⟩, decide_eq_true hs'⟩, he⟩

/-! ## The block at which the pantographs are judged -/

theorem sameAdoption_ready (b : Block) : SameAdoption b (readyToAdopt (takeMaxUp b)) := by
  obtain ⟨heq, -, -, -, -, -, -, hcfg, -⟩ := takeMaxUp_frame b
  have hy : SameAdoption b (takeMaxUp b) := by
    generalize takeMaxUp b = y at heq hcfg
    rw [heq]
    exact ⟨rfl, fun _ => rfl, rfl, hcfg, rfl, rfl, rfl, rfl⟩
  unfold readyToAdopt
  split
  · exact ⟨hy.roles, fun p => by rw [takePressures_lc]; exact hy.noted p,
      hy.sensors, hy.cfg, hy.sw, hy.speed, hy.level, hy.cal⟩
  · exact hy

/-- The pressures from which the pantographs are judged. -/
theorem ready_commanded (b : Block) (p : Panto) :
    ((readyToAdopt (takeMaxUp b)).lc p).commanded =
      if b.cfg .holdOver = 1 then adoptedPressure (takeMaxUp b) p else (b.lc p).commanded := by
  obtain ⟨heq, -, -, -, -, -, -, hcfg, -⟩ := takeMaxUp_frame b
  have hlc : (takeMaxUp b).lc p = b.lc p := by rw [heq]; rfl
  have hon : (takeMaxUp b).on .holdOver = true ↔ b.cfg .holdOver = 1 := by
    rw [Block.on, decide_eq_true_iff, Block.cfg, hcfg _ (by decide), Block.cfg]
  unfold readyToAdopt
  by_cases hh : b.cfg .holdOver = 1
  · rw [if_pos (hon.mpr hh), if_pos hh, takePressures_lc]
  · rw [if_neg (hon.not.mpr hh), if_neg hh, hlc]

theorem ready_state (b : Block) (p : Panto) : ((readyToAdopt (takeMaxUp b)).lc p).state = (b.lc p).state := by
  have hlc : (takeMaxUp b).lc p = b.lc p := by rw [(takeMaxUp_frame b).1]; rfl
  unfold readyToAdopt
  split
  · rw [takePressures_lc, hlc]
  · rw [hlc]

theorem ready_seq (b : Block) : (readyToAdopt (takeMaxUp b)).seq = b.seq := by
  have hseq : (takeMaxUp b).seq = b.seq := by rw [(takeMaxUp_frame b).1]
  unfold readyToAdopt
  split <;> exact hseq

theorem ready_hold (b : Block) : (readyToAdopt (takeMaxUp b)).plan.hold = b.plan.hold := by
  rw [(readyToAdopt_frame _ .p1).1, (takeMaxUp_frame b).1]

theorem adoptedPressure_reads (h : b.ReadsPressure p n) : adoptedPressure (takeMaxUp b) p = n := by
  obtain ⟨heq, -, -, -, -, -, -, hcfg, -⟩ := takeMaxUp_frame b
  obtain ⟨v, hv, rfl⟩ := h
  have hsensors : (takeMaxUp b).sensors = b.sensors := by rw [heq]
  have hnat : (takeMaxUp b).nat .pmax = b.nat .pmax := congrArg Int.toNat (hcfg _ (by decide))
  rw [adoptedPressure, hsensors, reading_eq_some.mpr hv, hnat]

/-- Those adopted, and why. -/
theorem chosenAt_eq (b : Block) : chosenAt (takeMaxUp b) =
    if b.cfg .holdOver = 1 then adopted (readyToAdopt (takeMaxUp b)) else [] := by
  obtain ⟨-, -, -, -, -, -, -, hcfg, -⟩ := takeMaxUp_frame b
  have hon : (takeMaxUp b).on .holdOver = true ↔ b.cfg .holdOver = 1 := by
    rw [Block.on, decide_eq_true_iff, Block.cfg, hcfg _ (by decide), Block.cfg]
  unfold chosenAt readyToAdopt
  by_cases hh : b.cfg .holdOver = 1
  · rw [if_pos (hon.mpr hh), if_pos hh, if_pos (hon.mpr hh)]
  · rw [if_neg (hon.not.mpr hh), if_neg hh]

/-! ## What becomes of a pantograph -/

theorem readsStowed_true (h : ∃ v, (b.sensors.height.get p).Reads v ∧ v ≤ b.cfg .hStow) : readsStowed b p = true := by
  obtain ⟨v, hv, hle⟩ := h
  rw [readsStowed, reading_eq_some.mpr hv]
  exact decide_eq_true hle

theorem readsStowed_false (h : ∀ v, (b.sensors.height.get p).Reads v → b.cfg .hStow < v) : readsStowed b p = false := by
  unfold readsStowed
  cases hr : (b.sensors.height.get p).reading with
  | none => rfl
  | some v => exact decide_eq_false (not_le.mpr (h v (reading_eq_some.mp hr)))

theorem SameAdoption.readsStowed (h : SameAdoption b z) (p : Panto) : readsStowed z p = readsStowed b p := by
  rw [Machine.readsStowed, Machine.readsStowed, h.sensors, h.cfg _ (by decide)]

/-- One that is not adopted comes down by its height (R45, R46). -/
theorem JudgedAs.settlesDown (h : JudgedAs chosen z p x) (hs : SameAdoption b z) (hc : chosen.contains p = false)
    (hn : (z.lc p).commanded = n) (hlift : t.lc p = x.lc p) (hrole : t.plan = x.plan) : SettlesDown p n b t := by
  obtain ⟨hlc, hnone⟩ := h.down hc
  rw [hs.readsStowed] at hlc
  have ht := hlift.trans hlc
  refine ⟨fun hh => ?_, fun hh => ?_, ?_, by rw [hrole, hnone]⟩
  · rw [ht, readsStowed_true hh]
    exact ⟨rfl, rfl⟩
  · rw [ht, readsStowed_false hh]
    exact ⟨rfl, rfl, hn⟩
  · rw [ht]
    cases readsStowed b p <;> rfl

theorem JudgedAs.isAdopted (h : JudgedAs chosen z p x) (hs : SameAdoption b z) (hc : chosen.contains p = true)
    (hn : ∀ n, b.ReadsPressure p n → (z.lc p).commanded = n) (hlift : t.lc p = x.lc p) (hrole : t.plan = x.plan) :
    IsAdopted p b t := by
  obtain ⟨hstate, hcom, hvent, hkeeps⟩ := h.taken hc
  rw [← hlift] at hstate hcom hvent
  exact ⟨hstate, fun n hr => hcom.trans (hn n hr), hvent, by rw [hrole, hkeeps, hs.roles]⟩

/-! ## The breaker and the path at the end -/

theorem adoptBreaker_eq (b : Block) : adoptBreaker b = { b with sw := (adoptBreaker b).sw } := by
  have hopen (a : Block) : openBreaker .internal a = { a with sw := (openBreaker .internal a).sw } := by
    unfold openBreaker
    split <;> rfl
  unfold adoptBreaker
  dsimp only
  split <;> split
  · rw [hopen (openBreaker .internal b), hopen b]
  · exact hopen b
  · exact hopen b
  · rfl

theorem openBreaker_from_closed (h : b.sw.breaker.state = .closed) :
    (openBreaker .internal b).sw.breaker.state = .opening ∧ (openBreaker .internal b).sw.breaker.source = .internal := by
  simp only [openBreaker, h]
  exact ⟨rfl, rfl⟩

theorem openBreaker_from_opening (h : b.sw.breaker.state = .opening) : openBreaker .internal b = b := by
  simp only [openBreaker, h]

/-- The breaker after its conditions have been judged (R112). -/
def adoptGuard (b : Block) : Block :=
  if b.sw.breaker.state = .closed ∧ (b.plan.hold = true ∨ closeConditions b = false) then openBreaker .internal b else b

theorem adoptBreaker_guards (b : Block) : adoptBreaker b =
    if (adoptGuard b).seq.phase = .halted ∧ (adoptGuard b).seq.haltReason = some .restart then
      openBreaker .internal (adoptGuard b) else adoptGuard b := rfl

/-- The breaker found CLOSED at the end of the adoption is opened for the hold, for want of a condition, or for the halt
of the restart (R112, R148). -/
theorem adoptBreaker_opens (hc : b.sw.breaker.state = .closed)
    (h : (b.plan.hold = true ∨ closeConditions b = false) ∨ b.seq.phase = .halted ∧ b.seq.haltReason = some .restart) :
    (adoptBreaker b).sw.breaker.state = .opening ∧ (adoptBreaker b).sw.breaker.source = .internal := by
  obtain ⟨hstate, hsource⟩ := openBreaker_from_closed hc
  rw [adoptBreaker_guards]
  by_cases hfirst : b.plan.hold = true ∨ closeConditions b = false
  · have hguard : adoptGuard b = openBreaker .internal b := if_pos ⟨hc, hfirst⟩
    rw [hguard, openBreaker_from_opening hstate, ite_self]
    exact ⟨hstate, hsource⟩
  · have hguard : adoptGuard b = b := if_neg (hfirst ·.2)
    rw [hguard, if_pos (h.resolve_left hfirst)]
    exact ⟨hstate, hsource⟩

theorem adoptBreaker_opening (ho : b.sw.breaker.state = .opening) : adoptBreaker b = b := by
  have hguard : adoptGuard b = b := if_neg fun h => absurd (ho.symm.trans h.1) (by decide)
  rw [adoptBreaker_guards, hguard, openBreaker_from_opening ho, ite_self]

theorem adoptBreaker_leaves (hhold : b.plan.hold = false) (hm : closeConditions b = true)
    (hr : ¬(b.seq.phase = .halted ∧ b.seq.haltReason = some .restart)) : adoptBreaker b = b := by
  have hguard : adoptGuard b = b := if_neg <| by
    rintro ⟨-, h | h⟩
    · exact Bool.false_ne_true (hhold.symm.trans h)
    · exact Bool.false_ne_true (h.symm.trans hm)
  rw [adoptBreaker_guards, hguard, if_neg hr]

end Sys2Proof.Machine
end

section
/-!
The obligation about the warm restart and the adoption scan after it.
-/

namespace Sys2Proof.Machine

variable {b x y z t : Block} {p r c : Panto} {chosen : List Panto} {n : Nat}

/-! ## The end of the adoption -/

theorem adoptBreaker_sw (b : Block) : (adoptBreaker b).sw = { b.sw with breaker := (adoptBreaker b).sw.breaker } := by
  have hopen (a : Block) : (openBreaker .internal a).sw = { a.sw with breaker := (openBreaker .internal a).sw.breaker } := by
    rw [openBreaker_frame]
  have hguard : (adoptGuard b).sw = { b.sw with breaker := (adoptGuard b).sw.breaker } := by
    unfold adoptGuard
    split
    · exact hopen b
    · rfl
  rw [adoptBreaker_guards]
  split
  · rw [hopen, hguard]
  · exact hguard

theorem closeConditions_adoptBreaker (b : Block) : closeConditions (adoptBreaker b) = closeConditions b := by
  have hsw := adoptBreaker_sw b
  obtain ⟨hlift, hplan, hcond⟩ := adoptBreaker_frame b
  have hrecord : (adoptBreaker b).record = b.record := by rw [adoptBreaker_eq]
  exact closeConditions_congr hlift (by rw [hplan]) (by rw [hrecord]) (by rw [hcond])
    (by rw [hsw]) (by rw [hsw]) (by rw [hsw])

/-- The adoption scan: the block `x` in which all are judged, and what its end leaves of it. -/
structure Adopts (b x t : Block) : Prop where
  judging : Judging (chosenAt (takeMaxUp b)) (readyToAdopt (takeMaxUp b)) x
  each p  : JudgedAs (chosenAt (takeMaxUp b)) (readyToAdopt (takeMaxUp b)) p x
  lift p  : t.lc p = x.lc p
  plan    : t.plan = x.plan
  seq     : t.seq = x.seq
  cfg     : t.cond.cfg = x.cond.cfg
  restart : t.cond.restart = none
  breaker : ∃ w : Block, w.sw = x.sw ∧ w.plan = x.plan ∧ w.seq = x.seq ∧ closeConditions w = closeConditions t ∧
    t = adoptBreaker w

theorem adopts_adoption (b : Block) : ∃ x, Adopts b x (adoption b) := by
  obtain ⟨hjudging, heach⟩ := judges_all (chosenAt (takeMaxUp b)) (readyToAdopt (takeMaxUp b))
  rw [adoption_eq]
  generalize eachPanto (adoptOne (chosenAt (takeMaxUp b))) (readyToAdopt (takeMaxUp b)) = x at hjudging heach
  obtain ⟨hlift, hplan, hcond⟩ := adoptionEnd_frame x
  have hseq : (adoptionEnd x).seq = x.seq := by rw [adoptionEnd, adoptBreaker_eq]; rfl
  exact ⟨x, hjudging, heach, fun p => by rw [Block.lc, hlift, Block.lc], hplan, hseq, by rw [hcond], by rw [hcond],
    adoptScraper { x with cond := { x.cond with restart := none } }, rfl, rfl, rfl,
    (closeConditions_adoptBreaker _).symm, rfl⟩

theorem Adopts.maxUp (h : Adopts b x t) : t.nat .maxUp = (readyToAdopt (takeMaxUp b)).nat .maxUp := by
  have hcfg : x.cond.cfg = (readyToAdopt (takeMaxUp b)).cond.cfg := congrArg Kept.cfg h.judging.kept
  rw [Block.nat, Block.nat, h.cfg, hcfg]

/-! ## The pantographs (R45, R46) -/

/-- A pantograph not chosen settles down, from the pressure at which it is judged. -/
theorem Adopts.settlesDown (h : Adopts b x t) (hc : (chosenAt (takeMaxUp b)).contains p = false)
    (hn : ((readyToAdopt (takeMaxUp b)).lc p).commanded = n) : SettlesDown p n b t :=
  (h.each p).settlesDown (sameAdoption_ready b) hc hn (h.lift p) h.plan

theorem ready_reads (hh : b.cfg .holdOver = 1) (hr : b.ReadsPressure p n) :
    ((readyToAdopt (takeMaxUp b)).lc p).commanded = n := by
  rw [ready_commanded, if_pos hh, adoptedPressure_reads hr]

theorem Adopts.isAdopted (h : Adopts b x t) (hh : b.cfg .holdOver = 1)
    (hc : (chosenAt (takeMaxUp b)).contains p = true) : IsAdopted p b t :=
  (h.each p).isAdopted (sameAdoption_ready b) hc (fun _ hr => ready_reads hh hr) (h.lift p) h.plan

theorem oneCollector_ready (h : OneCollector b) : OneCollector (readyToAdopt (takeMaxUp b)) := by
  have hs := sameAdoption_ready b
  intro p r hp hr
  rw [Block.role, hs.roles, ← Block.role] at hp hr
  exact h p r hp hr

/-- What the adoption makes of each pantograph with HoldOver on. -/
theorem Adopts.holdsOver (h : Adopts b x t) (hone : OneCollector b) (hh : b.cfg .holdOver = 1) (p : Panto) :
    (¬MayBeAdopted p b → ∀ n, b.ReadsPressure p n → SettlesDown p n b t) ∧
    (MayBeAdopted p b → b.role p = .collecting → 1 ≤ t.nat .maxUp → IsAdopted p b t) ∧
    (MayBeAdopted p b → b.role p = .scraping → (∀ x, x ≠ p → b.role x ≠ .scraping) →
      (2 ≤ t.nat .maxUp ∨ 1 ≤ t.nat .maxUp ∧ (∀ x, b.role x = .collecting → ¬MayBeAdopted x b) →
        IsAdopted p b t) ∧
      (t.nat .maxUp = 1 → (∃ x, b.role x = .collecting ∧ MayBeAdopted x b) →
        ∀ n, b.ReadsPressure p n → SettlesDown p n b t)) := by
  have hs := sameAdoption_ready b
  have hone' := oneCollector_ready hone
  have hrole (r : Panto) : (readyToAdopt (takeMaxUp b)).role r = b.role r := by rw [Block.role, hs.roles, Block.role]
  have hchosen : chosenAt (takeMaxUp b) = adopted (readyToAdopt (takeMaxUp b)) := (chosenAt_eq b).trans (if_pos hh)
  have down (hc : (chosenAt (takeMaxUp b)).contains p = false) (n : Nat) (hr : b.ReadsPressure p n) : SettlesDown p n b t :=
    h.settlesDown hc (ready_reads hh hr)
  rw [h.maxUp]
  refine ⟨fun hn => down ?_, fun hm hcol hmax => ?_, fun hm hscr hother => ⟨fun hmax => ?_, fun hmax hx => down ?_⟩⟩
  · rw [hchosen]
    exact Bool.eq_false_iff.mpr fun hc => hn ((hs.adoptable p).mp (mem_adopted (List.contains_iff_mem.mp hc)))
  · refine h.isAdopted hh ?_
    rw [hchosen]
    exact adopts_collector hone' ((hs.adoptable p).mpr hm) ((hrole p).trans hcol) hmax
  · refine h.isAdopted hh ?_
    rw [hchosen]
    refine adopts_scraper hone' (fun r hr => (hrole r) ▸ hother r hr) ((hs.adoptable p).mpr hm) ((hrole p).trans hscr)
      (hmax.imp_right fun ⟨h1, hnone⟩ => ⟨h1, fun r hr hfit => hnone r ((hrole r).symm.trans hr) ((hs.adoptable r).mp hfit)⟩)
  · obtain ⟨r, hr, hfit⟩ := hx
    rw [hchosen]
    exact collector_excludes hone' ((hrole r).trans hr) ((hs.adoptable r).mpr hfit) ((hrole p).trans hscr) hmax

/-- What the adoption makes of each pantograph with HoldOver off. -/
theorem Adopts.vents (h : Adopts b x t) (hh : b.cfg .holdOver ≠ 1) (p : Panto) : SettlesDown p (b.lc p).commanded b t :=
  h.settlesDown (by rw [chosenAt_eq, if_neg hh]; rfl) (by rw [ready_commanded, if_neg hh])

/-! ## The candidate's path (R137) -/

theorem needsContact_iff (v : Seq) : v.NeedsContact ↔ v.phase ∈ [.confirm, .masterReady, .close] := by
  simp [Seq.NeedsContact]

theorem Adopts.candidate (h : Adopts b x t) : CandidateAtAdoption b t := by
  have hseq := ready_seq b
  constructor
  · intro c hcand hphase hcontact hleft
    have hrest : (chosenAt (takeMaxUp b)).contains c = false := by
      refine Bool.eq_false_iff.mpr fun hc => hleft ?_
      rw [h.lift]
      exact ((h.each c).taken hc).1
    have hl : LosesCandidate (chosenAt (takeMaxUp b)) c (readyToAdopt (takeMaxUp b)) :=
      ⟨hrest, (ready_state b c).trans hcontact, by rw [hseq, hcand], by rw [hseq]; exact (needsContact_iff _).mpr hphase⟩
    have hhalted := (h.each c).halts hl
    rw [h.seq]
    rcases h.judging.path with ⟨hsame, -⟩ | ⟨-, -, hreason, -⟩
    · refine absurd hl (not_losesCandidate_of_halted ?_)
      rw [← hsame, hhalted]
    · exact ⟨hhalted, hreason⟩
  · intro hstays
    rw [h.seq]
    rcases h.judging.path with ⟨hsame, -⟩ | ⟨⟨c, hrest, -, hcand, hneeds⟩, -⟩
    · exact hsame.trans hseq
    · rw [hseq] at hcand hneeds
      rcases hstays with hup | hphase
      · have hdown := ((h.each c).down hrest).1
        have hcontact := hup c hcand
        rw [h.lift, hdown] at hcontact
        exact absurd hcontact (Lift.notAdopted_rests _ _).2.1
      · exact absurd ((needsContact_iff _).mp hneeds) hphase

/-! ## The breaker (R112, R148) -/

theorem Adopts.hold (h : Adopts b x t) : x.plan.hold = b.plan.hold :=
  (congrArg Kept.hold h.judging.kept).trans (ready_hold b)

theorem Adopts.breakerAt (h : Adopts b x t) (hclosed : b.sw.breaker.state = .closed) :
    (b.plan.hold = false → closeConditions t = true → b.seq.phase = .idle ∨ b.seq.phase = .halted →
      ¬(b.seq.phase = .halted ∧ b.seq.haltReason = some .restart) → t.sw.breaker = b.sw.breaker) ∧
    (b.plan.hold = true ∨ closeConditions t = false ∨ b.seq.phase = .halted ∧ b.seq.haltReason = some .restart →
      t.sw.breaker.state = .opening ∧ t.sw.breaker.source = .internal) := by
  have hseq := ready_seq b
  have hsw := (sameAdoption_ready b).sw
  have hhold := h.hold
  obtain ⟨w, hwsw, hwplan, hwseq, hwclose, rfl⟩ := h.breaker
  rw [← hwclose]
  have hwhold : w.plan.hold = b.plan.hold := by rw [hwplan, hhold]
  rcases h.judging.path with ⟨hsame, hswsame⟩ | ⟨⟨c, -, -, -, hneeds⟩, hphase, hreason, hopened⟩
  · have hpath : w.seq = b.seq := hwseq.trans (hsame.trans hseq)
    have hbreaker : w.sw = b.sw := hwsw.trans (hswsame.trans hsw)
    refine ⟨fun hoff hmet _ hnot => ?_, fun hopen => ?_⟩
    · rw [adoptBreaker_leaves (hwhold.trans hoff) hmet (hpath ▸ hnot), hbreaker]
    · refine adoptBreaker_opens (by rw [hbreaker, hclosed]) ?_
      rw [hwhold, hpath]
      tauto
  · have hclosed' : (readyToAdopt (takeMaxUp b)).sw.breaker.state = .closed := by rw [hsw, hclosed]
    obtain ⟨hstate, hsource⟩ := openBreaker_from_closed hclosed'
    rw [← hopened, ← hwsw] at hstate hsource
    refine ⟨fun _ _ hstopped _ => ?_, fun _ => ?_⟩
    · rw [hseq] at hneeds
      exact absurd hneeds (not_needsContact_of_stopped hstopped)
    · rw [adoptBreaker_opening hstate]
      exact ⟨hstate, hsource⟩

/-- Settles O39, by what the reload and the guard leave of the restarted blocks, and by the judging of each pantograph at
the adoption scan. -/
theorem warmRestartKeepsTheRoof : Obligations.WarmRestartKeepsTheRoof := by
  unfold Obligations.WarmRestartKeepsTheRoof
  refine ⟨warmRestart_keeps, restart_accepted, fun b hwaits hloaded hone => ⟨_, rfl, ?_⟩⟩
  have heq : liftPart b = adoption b := by simp [liftPart, adoptionWaits, hwaits, hloaded]
  rw [heq]
  obtain ⟨x, h⟩ := adopts_adoption b
  exact ⟨h.restart, fun hh p => h.vents hh p, fun hh p => h.holdsOver hone hh p, h.candidate, h.breakerAt⟩

end Sys2Proof.Machine
end

section
/-!
The waits of the changeover that expire, and the exits of TRACTION_OFF (R132, R137, R139).
-/

namespace Sys2Proof.Machine

variable {s t : State} {b x y : Block} {w : Ending} {h : HaltReason}

/-! ## A path that has left TRACTION_OFF -/

/-- The path is past TRACTION_OFF and not yet at MASTER_READY, or is over. -/
def BeforeReady (b : Block) : Prop := b.seq.phase ∉ [.armed, .tractionOff, .masterReady, .close]

theorem Act.beforeReady (ha : Act w b x) (hb : BeforeReady b) : BeforeReady x := by
  unfold BeforeReady at hb ⊢
  cases ha
  case opens => rwa [openBreaker_seq]
  case serves n _ => rwa [seq_serveEntry]
  case halts => simp
  case moves q may =>
    rcases may.phase with hq | hq
    · rwa [← hq] at hb
    · revert hb hq
      cases b.seq.phase <;> cases q.phase <;> simp [phaseSteps]
  case finishes => simp
  case stores only => rwa [only]
  case ice only => rwa [only.frame]
  all_goals exact hb

theorem settle_beforeReady (s : Block) (judge : Bool) (hb : BeforeReady b) : BeforeReady (settle s judge b) := by
  obtain ⟨y, hacts, hclosed⟩ := settle_acts s judge b
  unfold BeforeReady
  rw [hclosed.seq]
  exact hacts.keep (fun _ _ hs => hs.beforeReady) hb

/-! ## A phase other than MASTER_READY records no master not ready -/

theorem act_keepsMasterCount (ha : Act w b x) (hb : b.seq.phase ≠ .masterReady) :
    x.seq.phase ≠ .masterReady ∧ faultCount .masterNotReady x = faultCount .masterNotReady b := by
  cases ha
  case opens => exact ⟨by rwa [openBreaker_seq], faultCount_of_faults (by rw [openBreaker_cond]) _⟩
  case records k v runs kind =>
    refine ⟨hb, faultCount_recordFault_ne ?_ v b⟩
    rcases kind with hk | ⟨-, hp⟩
    · rintro rfl
      exact absurd hk (by decide)
    · exact absurd hp hb
  case serves n _ => exact ⟨by rwa [seq_serveEntry], faultCount_of_faults (by cases n <;> rfl) _⟩
  case halts => exact ⟨by simp, rfl⟩
  case moves q may =>
    refine ⟨fun hq => ?_, rfl⟩
    change q.phase = .masterReady at hq
    rcases may.phase with hsame | hstep
    · exact hb (hsame.symm.trans hq)
    · rw [hq] at hstep
      simp [phaseSteps] at hstep
  case finishes => exact ⟨by simp, rfl⟩
  case tests c _ _ only => exact ⟨hb, faultCount_of_faults (by rw [only]) _⟩
  case tries c _ _ _ only => exact ⟨hb, faultCount_of_faults (by rw [only]) _⟩
  case stores only => exact ⟨by rwa [only], faultCount_of_faults (by rw [only]) _⟩
  case ice only => exact ⟨by rwa [only.frame], faultCount_of_faults (by rw [only.frame]) _⟩
  all_goals exact ⟨hb, rfl⟩

theorem settle_keepsMasterCount (s : Block) (judge : Bool) (hb : b.seq.phase ≠ .masterReady) :
    faultCount .masterNotReady (settle s judge b) = faultCount .masterNotReady b := by
  obtain ⟨y, hacts, hclosed⟩ := settle_acts s judge b
  have hy : y.seq.phase ≠ .masterReady ∧ faultCount .masterNotReady y = faultCount .masterNotReady b :=
    hacts.keep (P := fun y => y.seq.phase ≠ .masterReady ∧ faultCount .masterNotReady y = faultCount .masterNotReady b)
      (fun _ _ hs ⟨hp, hn⟩ => ⟨(act_keepsMasterCount hs hp).1, (act_keepsMasterCount hs hp).2.trans hn⟩) ⟨hb, rfl⟩
  exact (hclosed.faultCount _).trans hy.2

/-! ## The halt of an expired wait -/

theorem faults_enterHalt (hm : h ≠ .mismatch) (b : Block) : (enterHalt h b).cond.faults = (haltFault h b).cond.faults := by
  rw [enterHalt_eq hm, openBreaker_cond]
  cases b.seq.activeEntry <;> rfl

/-- A running path that is halted and settled: HALTED for the reason, the breaker not engaged, the faults of the halt. -/
theorem halts_settle (hm : h ≠ .mismatch) (hi : b.seq.phase ≠ .idle) (hh : b.seq.phase ≠ .halted)
    (s : Block) (judge : Bool) :
    (settle s judge (halt h b)).seq.phase = .halted ∧ (settle s judge (halt h b)).seq.haltReason = some h ∧
      breakerEngaged (settle s judge (halt h b)) = false ∧
      (settle s judge (halt h b)).cond.faults = (haltFault h b).cond.faults := by
  have hstands := settle_stands s judge (halt_stopped h b)
  obtain ⟨hphase, hreason⟩ := halt_reason (h := h) hi hh
  have hdis : breakerEngaged (halt h b) = false := by rw [halt_running hi hh]; exact enterHalt_disengages h b
  have hfaults : (halt h b).cond.faults = (haltFault h b).cond.faults := by rw [halt_running hi hh, faults_enterHalt hm]
  exact ⟨by rw [hstands.seq, hphase], by rw [hstands.seq, hreason], hstands.disengaged hdis, hstands.faults.trans hfaults⟩

/-! ## The three expiries -/

theorem tractionOffWait_expires (s : State) : ∃ t, exec .tractionOffWaitExpiry s = .next t ∧ t.block.kept = s.block.kept ∧
    (s.block.seq.phase = .tractionOff → Records .tractionNotReduced s t ∧ breakerEngaged t.block = false ∧
      t.block.seq.phase ≠ .tractionOff) ∧
    (s.block.seq.phase ≠ .tractionOff →
      faultCount .tractionNotReduced t.block = faultCount .tractionNotReduced s.block) := by
  obtain ⟨t, ht, hblock⟩ := event_ends s false tractionOffExpiry
  refine ⟨t, ht, ?_, fun hp => ?_, fun hp => ?_⟩
  · rw [hblock, kept_settle, tractionOffExpiry]
    split
    · rw [kept_enterBreakerOpen, kept_recordFault]
    · rfl
  · have heq : tractionOffExpiry s.block = enterBreakerOpen (recordFault .tractionNotReduced .none s.block) := if_pos hp
    obtain ⟨hseq, -, -, -, hfaults, hdis⟩ := enterBreakerOpen_around (recordFault .tractionNotReduced .none s.block)
    rw [heq] at hblock
    generalize enterBreakerOpen (recordFault .tractionNotReduced .none s.block) = x at hblock hseq hfaults hdis
    have hnot : x.seq.phase ≠ .masterReady := by rw [hseq]; simp
    refine ⟨?_, ?_, fun htr => ?_⟩
    · rw [Records, hblock, settle_faultCount s.block false x (by decide), faultCount_of_faults hfaults,
        faultCount_recordFault_self]
    · rw [hblock]
      exact (settle_noClose s.block false ⟨hnot, hdis⟩).1
    · have hbefore : BeforeReady t.block :=
        hblock ▸ settle_beforeReady s.block false (by unfold BeforeReady; rw [hseq]; simp)
      rw [BeforeReady, htr] at hbefore
      exact hbefore (by decide)
  · have heq : tractionOffExpiry s.block = s.block := if_neg hp
    rw [hblock, heq, settle_faultCount s.block false s.block (by decide)]

theorem confirmWait_expires (s : State) : ∃ t, exec .confirmWaitExpiry s = .next t ∧ t.block.kept = s.block.kept ∧
    (s.block.seq.phase = .confirm → t.block.seq.phase = .halted ∧ t.block.seq.haltReason = some .noLine ∧
      Records .noLine s t ∧ breakerEngaged t.block = false) ∧
    (s.block.seq.phase ≠ .confirm → faultCount .noLine t.block = faultCount .noLine s.block) := by
  obtain ⟨t, ht, hblock⟩ := event_ends s false confirmExpiry
  refine ⟨t, ht, ?_, fun hp => ?_, fun hp => ?_⟩
  · rw [hblock, kept_settle, confirmExpiry]
    split
    · exact kept_halt _ (by decide) _
    · rfl
  · have heq : confirmExpiry s.block = halt .noLine s.block := if_pos hp
    obtain ⟨hphase, hreason, hdis, hfaults⟩ :=
      halts_settle (h := .noLine) (b := s.block) (by decide) (by rw [hp]; decide) (by rw [hp]; decide) s.block false
    rw [hblock, heq, Records, hblock, heq]
    exact ⟨hphase, hreason, (faultCount_of_faults hfaults _).trans (faultCount_recordFault_self _ _ _), hdis⟩
  · have heq : confirmExpiry s.block = s.block := if_neg hp
    rw [hblock, heq, settle_faultCount s.block false s.block (by decide)]

theorem readyWait_expires (s : State) : ∃ t, exec .readyWaitExpiry s = .next t ∧ t.block.kept = s.block.kept ∧
    (s.block.seq.phase = .masterReady → t.block.seq.phase = .halted ∧
      t.block.seq.haltReason = some .masterNotReady ∧ Records .masterNotReady s t ∧
      breakerEngaged t.block = false) ∧
    (s.block.seq.phase ≠ .masterReady →
      faultCount .masterNotReady t.block = faultCount .masterNotReady s.block) := by
  obtain ⟨t, ht, hblock⟩ := event_ends s false readyExpiry
  refine ⟨t, ht, ?_, fun hp => ?_, fun hp => ?_⟩
  · rw [hblock, kept_settle, readyExpiry]
    split
    · exact kept_halt _ (by decide) _
    · rfl
  · have heq : readyExpiry s.block = halt .masterNotReady s.block := if_pos hp
    obtain ⟨hphase, hreason, hdis, hfaults⟩ :=
      halts_settle (h := .masterNotReady) (b := s.block) (by decide) (by rw [hp]; decide) (by rw [hp]; decide) s.block false
    rw [hblock, heq, Records, hblock, heq]
    exact ⟨hphase, hreason, (faultCount_of_faults hfaults _).trans (faultCount_recordFault_self _ _ _), hdis⟩
  · have heq : readyExpiry s.block = s.block := if_neg hp
    rw [hblock, heq]
    exact settle_keepsMasterCount s.block false hp

/-! ## The exits of TRACTION_OFF (R132) -/

theorem tractionOff_leftAtWindow {r : WindowResult} (hp : b.seq.phase = .tractionOff) (hno : ∀ sys, ¬WrongLine sys b)
    (hr : r.tractionOff = true) :
    (takeWindow r b).seq.phase = .breakerOpen ∧ breakerEngaged (takeWindow r b) = false := by
  have hnone : wrongSystem b = none := by
    cases hw : wrongSystem b
    case none => rfl
    case some sys => exact absurd (wrongLine_of_wrongSystem hw) (hno sys)
  obtain ⟨hseq, -, -, -, -, hdis⟩ := enterBreakerOpen_around (measuredAs r b)
  rw [takeWindow_tractionOff hp hnone, if_pos hr, hseq]
  exact ⟨rfl, hdis⟩

theorem nearStart_iff : nearStart b = true ↔
    ∃ e ∈ b.queue.entries, some e.id = b.seq.activeEntry ∧ e.active = true ∧ e.start ≤ b.queue.position + 150 := by
  simp only [nearStart, List.any_eq_true, Bool.and_eq_true, beq_iff_eq, decide_eq_true_eq, and_assoc]

theorem motionExits_tractionOff (hp : b.seq.phase = .tractionOff) :
    motionExits .tractionOff b = if nearStart b = true then enterBreakerOpen b else b := by
  have hnot : ¬b.seq.phase ≠ .tractionOff := not_not.mpr hp
  rw [motionExits, if_neg hnot, if_neg (by decide)]
  simp only [true_and]

theorem tractionOff_leftAtReport (hp : b.seq.phase = .tractionOff) :
    ((∃ e ∈ b.queue.entries, some e.id = b.seq.activeEntry ∧ e.active = true ∧ e.start ≤ b.queue.position + 150) →
      (motionExits .tractionOff b).seq.phase = .breakerOpen ∧ breakerEngaged (motionExits .tractionOff b) = false) ∧
    ((∀ e ∈ b.queue.entries, some e.id = b.seq.activeEntry → e.active = true → b.queue.position + 150 < e.start) →
      motionExits .tractionOff b = b) := by
  rw [motionExits_tractionOff hp]
  refine ⟨fun hnear => ?_, fun hfar => if_neg fun hnear => ?_⟩
  · obtain ⟨hseq, -, -, -, -, hdis⟩ := enterBreakerOpen_around b
    rw [if_pos (nearStart_iff.mpr hnear), hseq]
    exact ⟨rfl, hdis⟩
  · obtain ⟨e, he, hid, ha, hle⟩ := nearStart_iff.mp hnear
    exact absurd (hfar e he hid ha) (Nat.not_lt.mpr hle)

end Sys2Proof.Machine
end

section
/-!
The exits of BREAKER_OPEN and of LOWERING (R133, R134).
-/

namespace Sys2Proof.Machine

variable {b x y : Block} {p r c : Panto} {i : Bool}

/-! ## A roof that is lowered with nothing to wait for -/

/-- Lowers of what is up wait for nothing: no adoption, no candidate's CONTACT, and no breaker where they are ordinary. -/
structure LowersAtOnce (i : Bool) (b : Block) : Prop extends Lowering b where
  free : i = true ∨ holdsLower b = false

/-- The lower of a pantograph that is up. -/
def lowerIfUp (i : Bool) (p : Panto) (b : Block) : Block := if (b.lc p).state.up then takeLower i p b else b

theorem lowerUp_eq (i : Bool) (b : Block) : lowerUp i b = Panto.all.foldl (fun a r => lowerIfUp i r a) b := rfl

theorem lowerIfUp_atOnce (h : LowersAtOnce i b) (p : Panto) :
    lowerIfUp i p b = if (b.lc p).state.up then b.setLift p (b.lc p).toLowering else b := by
  obtain ⟨⟨hcalm, hadopted⟩, hfree⟩ := h
  have hnot : waitsForBreaker b i p = false := by
    rcases hfree with rfl | hfree
    · simp [waitsForBreaker]
    · simp [waitsForBreaker, hfree]
  unfold lowerIfUp
  split
  next hup =>
    rw [takeLower, if_neg (by simp [adoptionWaits, hadopted])]
    unfold actOnLower
    cases hs : (b.lc p).state <;> simp only [hs, LiftState.up, Bool.false_eq_true] at hup
    case raising => exact beginLowering_of_calm hcalm
    case contact => simp only [hnot, Bool.false_eq_true, if_false, beginLowering_of_calm hcalm]
  next => rfl

theorem LowersAtOnce.keep (h : LowersAtOnce i b) (p : Panto) : LowersAtOnce i (lowerIfUp i p b) := by
  rw [lowerIfUp_atOnce h]
  split <;> exact ⟨⟨h.calm, h.adopted⟩, h.free⟩

theorem lowerUp_lowers (h : LowersAtOnce i b) (p : Panto) :
    ((lowerUp i b).lc p).state ≠ .raising ∧ ((lowerUp i b).lc p).state ≠ .contact := by
  have hdown := (foldl_each (f := lowerIfUp i) (I := LowersAtOnce i)
    (Q := fun p a => (a.lc p).state.up = false) (ps := Panto.all)
    (fun r a ha => ha.keep r)
    (fun r a ha => by
      rw [lowerIfUp_atOnce ha]
      split
      · rw [lc_setLift_self]
        rfl
      next hn => exact Bool.eq_false_iff.mpr hn)
    (fun r p a hr ha hq => by
      rw [lowerIfUp_atOnce ha]
      split
      · rw [lc_setLift_ne _ _ hr]
        exact hq
      · exact hq) h).2 p (.inl (Panto.mem_all p))
  rw [← lowerUp_eq] at hdown
  constructor <;>
  · intro hs
    rw [hs] at hdown
    cases hdown

/-! ## The entry to COAST -/

theorem startWork_phase (hi : b.seq.phase ≠ .idle) (hh : b.seq.phase ≠ .halted) :
    (startWork c b).seq.phase = b.seq.phase ∨ (startWork c b).seq.phase = .halted := by
  obtain ⟨hrefused, htaken⟩ := startWork_ends (c := c) hi hh
  by_cases hr : RefusesWork c b
  · exact .inr (hrefused hr).1
  · rw [(htaken hr).1]
    exact .inl rfl

theorem coastWork_phase (hp : b.seq.phase = .coast) :
    (coastWork b).seq.phase = .coast ∨ (coastWork b).seq.phase = .halted := by
  unfold coastWork
  split
  · exact .inl ((setCandidate_phase _ _).trans hp)
  · split
    · exact .inr (halt_of_running (by rw [hp]; decide))
    next c _ =>
      have hc : (setCandidate (some c) b).seq.phase = .coast := (setCandidate_phase _ _).trans hp
      dsimp only
      split
      · exact .inl hc
      · exact (startWork_phase (by rw [hc]; decide) (by rw [hc]; decide)).imp_left (·.trans hc)

theorem enterCoast_phase (b : Block) : (enterCoast b).seq.phase = .coast ∨ (enterCoast b).seq.phase = .halted := by
  have hw := coastWork_phase (b := { b with seq := { b.seq with phase := .coast, timer := none } }) rfl
  unfold enterCoast
  dsimp only
  split
  next h => exact .inr (halt_of_running (by rw [h.1]; decide))
  next => exact hw

/-! ## The entry to LOWERING -/

theorem enterLowering_lowers (hr : b.cond.restart = none) (hfree : holdsLower b = false) :
    (enterLowering b).seq = { b.seq with phase := .lowering, timer := none } ∧
      ∀ p, ((enterLowering b).lc p).state ≠ .raising ∧ ((enterLowering b).lc p).state ≠ .contact := by
  have hcalm : ¬Seq.NeedsContact { b.seq with phase := .lowering, timer := none } := by simp [Seq.NeedsContact]
  have hlow : LowersAtOnce false { b with seq := { b.seq with phase := .lowering, timer := none } } :=
    ⟨⟨hcalm, hr⟩, .inr hfree⟩
  exact ⟨(around_lowerUp hcalm).seq, lowerUp_lowers hlow⟩

theorem breakerFailedHalt_halts (hp : b.seq.phase = .breakerOpen) (hr : b.cond.restart = none) :
    (breakerFailedHalt b).seq.phase = .halted ∧ (breakerFailedHalt b).seq.haltReason = some .breaker ∧
      ∀ p, ((breakerFailedHalt b).lc p).state ≠ .raising ∧ ((breakerFailedHalt b).lc p).state ≠ .contact := by
  have hcalm : ¬b.seq.NeedsContact := by simp [Seq.NeedsContact, hp]
  have hseq := (around_lowerUp (i := true) hcalm).seq
  have hlow : LowersAtOnce true b := ⟨⟨hcalm, hr⟩, .inl rfl⟩
  obtain ⟨hphase, hreason⟩ := halt_reason (h := .breaker) (b := lowerUp true b)
    (by rw [hseq, hp]; decide) (by rw [hseq, hp]; decide)
  refine ⟨hphase, hreason, fun p => ?_⟩
  rw [breakerFailedHalt, halt_lc]
  exact lowerUp_lowers hlow p

/-! ## BREAKER_OPEN (R133) -/

theorem servesExpected_iff : servesExpected b p = true ↔ Wanted p b := by
  unfold servesExpected Wanted
  cases b.seq.expected with
  | some sys => simp
  | none =>
    cases b.seq.expectedHead with
    | none => simp
    | some hd =>
      simp only [beq_iff_eq, reduceCtorEq, false_implies, implies_true, true_and, forall_const, Option.some.injEq]
      exact eq_comm

theorem up_iff {v : LiftState} : v.up = true ↔ v ∈ [.raising, .contact] := by cases v <;> simp [LiftState.up]

theorem unwanted_iff : (Panto.all.any fun p => (b.lc p).state.up && !servesExpected b p) = true ↔
    ∃ p, (b.lc p).state ∈ [.raising, .contact] ∧ ¬Wanted p b := by
  simp only [List.any_eq_true, Panto.mem_all, true_and, Bool.and_eq_true, up_iff, Bool.not_eq_true', ← servesExpected_iff,
    Bool.not_eq_true]

theorem isOpen_free (ho : b.sw.breaker.isOpen = true) : holdsLower b = false := by
  have hs : b.sw.breaker.state = .opened := by
    simp only [TwoSw.isOpen, Bool.and_eq_true, beq_iff_eq] at ho
    exact ho.1
  simp [holdsLower, hs]

theorem breakerOpen_lowers (hp : b.seq.phase = .breakerOpen) (hr : b.cond.restart = none) (ho : b.sw.breaker.isOpen = true)
    (hpass : passesLowering b = true) : (seqStep b).seq.phase = .lowering ∧
      ∀ p, ((seqStep b).lc p).state ≠ .raising ∧ ((seqStep b).lc p).state ≠ .contact := by
  have heq : seqStep b = enterLowering b := by simp only [seqStep, hp, ho, hpass, if_true]
  obtain ⟨hseq, hdown⟩ := enterLowering_lowers hr (isOpen_free ho)
  rw [heq, hseq]
  exact ⟨rfl, hdown⟩

theorem breakerOpen_coasts (hp : b.seq.phase = .breakerOpen) (ho : b.sw.breaker.isOpen = true)
    (hpass : passesLowering b = false) : (seqStep b).seq.phase = .coast ∨ (seqStep b).seq.phase = .halted := by
  have heq : seqStep b = enterCoast b := by simp only [seqStep, hp, ho, hpass, if_true, Bool.false_eq_true, if_false]
  rw [heq]
  exact enterCoast_phase b

theorem breakerOpen_isLeft (hp : b.seq.phase = .breakerOpen) (hr : b.cond.restart = none) : ∃ t, t = seqStep b ∧
    (b.sw.breaker.isOpen = true →
      (b.seq.path = some .sectionChange ∨ b.seq.path = some .zone →
        t.seq.phase = .lowering ∧ ∀ p, (t.lc p).state ≠ .raising ∧ (t.lc p).state ≠ .contact) ∧
      (b.seq.path = some .neutral ∨ b.seq.path = some .substitute →
        t.seq.phase = .coast ∨ t.seq.phase = .halted) ∧
      (b.seq.path = some .select ∨ b.seq.path = some .identify →
        ((∃ p, (b.lc p).state ∈ [.raising, .contact] ∧ ¬Wanted p b) →
          t.seq.phase = .lowering ∧ ∀ p, (t.lc p).state ≠ .raising ∧ (t.lc p).state ≠ .contact) ∧
        ((∀ p, (b.lc p).state ∈ [.raising, .contact] → Wanted p b) →
          t.seq.phase = .coast ∨ t.seq.phase = .halted))) ∧
    (b.sw.breaker.state = .failed → t.seq.phase = .halted ∧ t.seq.haltReason = some .breaker ∧
      ∀ p, (t.lc p).state ≠ .raising ∧ (t.lc p).state ≠ .contact) ∧
    (b.sw.breaker.isOpen = false → b.sw.breaker.state ≠ .failed → t = b) := by
  refine ⟨_, rfl, fun ho => ⟨fun hpath => ?_, fun hpath => ?_, fun hpath => ⟨fun hunw => ?_, fun hall => ?_⟩⟩, fun hf => ?_,
    fun ho hf => ?_⟩
  · refine breakerOpen_lowers hp hr ho ?_
    rcases hpath with h | h <;> simp [passesLowering, h]
  · refine breakerOpen_coasts hp ho ?_
    rcases hpath with h | h <;> simp [passesLowering, h]
  · refine breakerOpen_lowers hp hr ho ?_
    rcases hpath with h | h <;> simp only [passesLowering, h] <;> exact unwanted_iff.mpr hunw
  · refine breakerOpen_coasts hp ho ?_
    have hno : ¬(Panto.all.any fun p => (b.lc p).state.up && !servesExpected b p) = true := fun hany => by
      obtain ⟨p, hup, hnot⟩ := unwanted_iff.mp hany
      exact hnot (hall p hup)
    rcases hpath with h | h <;> simp only [passesLowering, h] <;> exact Bool.eq_false_iff.mpr hno
  · have hopen : b.sw.breaker.isOpen = false := by simp [TwoSw.isOpen, hf]
    have heq : seqStep b = breakerFailedHalt b := by
      simp only [seqStep, hp, hopen, hf, Bool.false_eq_true, if_true, if_false]
    rw [heq]
    exact breakerFailedHalt_halts hp hr
  · simp only [seqStep, hp, ho, hf, Bool.false_eq_true, if_false]

/-! ## LOWERING (R134) -/

theorem lowering_isLeft (hp : b.seq.phase = .lowering) :
    (b.cond.restart = none → (∀ p, (b.lc p).state ∈ [.stowed, .dropped, .outOfService]) →
      (seqStep b).seq.phase = .coast ∨ (seqStep b).seq.phase = .halted) ∧
    (b.cond.restart.isSome = true → seqStep b = b) ∧
    ((∃ p, (b.lc p).state ∈ [.raising, .contact, .searching, .lowering]) → seqStep b = b) := by
  have heq : seqStep b = if roofDown b = true then enterCoast b else b := by simp only [seqStep, hp]
  refine ⟨fun hr hdown => ?_, fun hr => ?_, fun ⟨p, hup⟩ => ?_⟩
  · rw [reachesCoast_enters (.inl ⟨hp, hr, hdown⟩)]
    exact enterCoast_phase b
  · rw [heq, if_neg (by rw [roofDown_eq_false.mpr (.inl hr)]; exact Bool.false_ne_true)]
  · have hmoving : upOrLowering b p = true := by
      revert hup
      unfold upOrLowering
      cases (b.lc p).state <;> simp [LiftState.raised]
    rw [heq, if_neg (by rw [roofDown_eq_false.mpr (.inr ⟨p, hmoving⟩)]; exact Bool.false_ne_true)]

end Sys2Proof.Machine
end

section
/-!
The switch work as it becomes due, the exit from COAST, and PROBE (R135, R136).
-/

namespace Sys2Proof.Machine

variable {b x y : Block} {p r c : Panto} {passed : Bool}

/-! ## Steps 3 and 4 of the switch work (R135) -/

theorem workReady_iff : (othersOpen b c && selectorAt b c) = true ↔
    (∀ x, x ≠ c → (b.sw.iso.get x).isOpen = true) ∧ b.sw.selector.state = (selFor (b.head c)).atRest := by
  rw [Bool.and_eq_true, othersOpen, Panto.all_all, selectorAt, beq_iff_eq]
  refine and_congr (forall_congr' fun x => ?_) Iff.rfl
  rw [Bool.or_eq_true, beq_iff_eq, isoOpen]
  exact or_iff_not_imp_left

theorem advanceWork_waits (hw : b.seq.work = .switches) (hc : b.seq.candidate = some c)
    (h : ¬(othersOpen b c && selectorAt b c) = true) : advanceWork b = b := by
  simp only [advanceWork, hc, hw, if_neg h]

theorem advanceWork_refused (hw : b.seq.work = .switches) (hc : b.seq.candidate = some c)
    (h : (othersOpen b c && selectorAt b c) = true) (hg : grantCollecting c b = none) :
    advanceWork b = halt .noPantograph b := by
  simp only [advanceWork, hc, hw, if_pos h, hg]

theorem advanceWork_granted (hw : b.seq.work = .switches) (hc : b.seq.candidate = some c)
    (h : (othersOpen b c && selectorAt b c) = true) (hg : grantCollecting c b = some y) :
    advanceWork b = workCommand (moveIsolator c .closed .internal) (setWork .isolator y) := by
  simp only [advanceWork, hc, hw, if_pos h, hg]

theorem coastStep_working (hp : b.seq.phase = .coast)
    (h : (advanceWork b).seq.phase ≠ .coast ∨ (advanceWork b).seq.work ≠ .ready) :
    seqStep b = advanceWork b := by
  simp only [seqStep, hp, coastStep]
  exact if_neg fun hc => h.elim (· hc.1) (· hc.2.1)

theorem grantCollecting_new (hn : b.role c = .none) (hno : ∀ x, b.role x ≠ .collecting) (hh : b.plan.hold = false) :
    grantCollecting c b = some (setRole c .collecting .internal b) := by
  have hany : (Panto.all.any fun p => p != c && b.role p == .collecting) = false :=
    List.any_eq_false.mpr fun p _ => by simp [hno p]
  rw [grantCollecting, if_neg (hno c), hany, hh, if_neg Bool.false_ne_true, if_neg Bool.false_ne_true, if_pos hn]

theorem grantCollecting_refuses (hc : b.role c ≠ .collecting)
    (h : (∃ x, b.role x = .collecting) ∨ b.plan.hold = true ∨ b.role c ≠ .none) : grantCollecting c b = none := by
  rw [grantCollecting, if_neg hc]
  by_cases hany : ∃ x, b.role x = .collecting
  · obtain ⟨x, hx⟩ := hany
    refine if_pos (List.any_eq_true.mpr ⟨x, Panto.mem_all x, ?_⟩)
    have hne : x ≠ c := fun hxc => hc (hxc ▸ hx)
    simp [hx, hne]
  · have hno : (Panto.all.any fun p => p != c && b.role p == .collecting) = false :=
      List.any_eq_false.mpr fun p _ hp => hany ⟨p, by simp only [Bool.and_eq_true, beq_iff_eq] at hp; exact hp.2⟩
    rw [hno, if_neg Bool.false_ne_true]
    rcases h.resolve_left hany with hh | hn
    · exact if_pos hh
    · by_cases hh : b.plan.hold = true
      · exact if_pos hh
      · rw [if_neg hh, if_neg hn]

theorem moveIsolator_seq_plan (p : Panto) (pos : TwoPos) (v : Source) (b : Block) :
    (moveIsolator p pos v b).1.seq = b.seq ∧ (moveIsolator p pos v b).1.plan = b.plan := by
  unfold moveIsolator
  split
  · exact ⟨rfl, rfl⟩
  · split <;> exact ⟨rfl, rfl⟩

theorem moveIsolator_closes (hi : (b.sw.iso.get c).isOpen = true) (hb : b.sw.breaker.isOpen = true)
    (ho : othersOpen b c = true) (hr : b.role c = .collecting) (v : Source) :
    moveIsolator c .closed v b = (b.setIso c ((b.sw.iso.get c).move .closed v), .accepted) := by
  have hex : (b.sw.iso.get c).examine .closed = none := by rw [examine_closed, if_pos hi]
  have hlock : isolatorInterlock b c .closed = true := by simp [isolatorInterlock, hb, ho, hr]
  rw [moveIsolator, hex]
  exact if_pos hlock

theorem workCommand_plan {f : Block → Block × ReplyOutcome} (hf : (f b).1.plan = b.plan) :
    (workCommand f b).plan = b.plan := by
  unfold workCommand
  dsimp only
  split
  · rw [(haltKeeps_halt (by decide) _).plan, hf]
  · exact hf

theorem workCommand_work {f : Block → Block × ReplyOutcome} (hf : (f b).1.seq = b.seq) (hw : b.seq.work ≠ .ready) :
    (workCommand f b).seq.phase = .halted ∨ (workCommand f b).seq.work ≠ .ready := by
  rcases seq_workCommand hf with h | h
  · exact .inr (by rwa [h])
  · exact .inl h

/-- The switch work at its steps 3 and 4 (R135). -/
theorem coast_works (hp : b.seq.phase = .coast) (hc : b.seq.candidate = some c) (hw : b.seq.work = .switches) :
    ∃ t, t = seqStep b ∧
    ((∀ x, x ≠ c → (b.sw.iso.get x).isOpen = true) → b.sw.selector.state = (selFor (b.head c)).atRest →
      (b.role c = .none → (∀ x, b.role x ≠ .collecting) → b.plan.hold = false →
        t.plan.roles.get c = ⟨.collecting, some .internal⟩ ∧
        ((b.sw.iso.get c).isOpen = true → b.sw.breaker.isOpen = true →
          (t.sw.iso.get c).state = .closing ∧ t.seq.phase = .coast)) ∧
      (b.role c ≠ .collecting → (∃ x, b.role x = .collecting) ∨ b.plan.hold = true ∨ b.role c ≠ .none →
        t.seq.phase = .halted ∧ t.seq.haltReason = some .noPantograph)) ∧
    ((∃ x, x ≠ c ∧ (b.sw.iso.get x).isOpen = false) ∨ b.sw.selector.state ≠ (selFor (b.head c)).atRest → t = b) := by
  refine ⟨_, rfl, fun hothers hsel => ⟨fun hn hno hh => ?_, fun hcol hwhy => ?_⟩, fun hwait => ?_⟩
  · have hready := workReady_iff.mpr ⟨hothers, hsel⟩
    have hadv := advanceWork_granted hw hc hready (grantCollecting_new hn hno hh)
    obtain ⟨hseq, hplan⟩ := moveIsolator_seq_plan c .closed .internal (setWork .isolator (setRole c .collecting .internal b))
    have hstep : seqStep b = advanceWork b := by
      refine coastStep_working hp ?_
      rw [hadv]
      exact (workCommand_work hseq (by simp [setWork])).imp_left fun h => by rw [h]; decide
    rw [hstep, hadv, workCommand_plan hplan]
    refine ⟨PerP.get_set_self _ _ _, fun hiso hbr => ?_⟩
    have hothers' : othersOpen (setWork .isolator (setRole c .collecting .internal b)) c = true :=
      (Bool.and_eq_true _ _ ▸ hready).1
    have hmove := moveIsolator_closes (b := setWork .isolator (setRole c .collecting .internal b)) hiso hbr hothers'
      (role_setRole_self _ _ _ _) .internal
    rw [workCommand_taken hmove rfl]
    exact ⟨(congrArg TwoSw.state (PerP.get_set_self _ _ _)).trans rfl, hp⟩
  · have hready := workReady_iff.mpr ⟨hothers, hsel⟩
    have hadv := advanceWork_refused hw hc hready (grantCollecting_refuses hcol hwhy)
    obtain ⟨hphase, hreason⟩ := halt_reason (h := .noPantograph) (b := b) (by rw [hp]; decide) (by rw [hp]; decide)
    rw [coastStep_working hp (by rw [hadv, hphase]; exact .inl (by decide)), hadv]
    exact ⟨hphase, hreason⟩
  · have hnot : ¬(othersOpen b c && selectorAt b c) = true := fun h => by
      obtain ⟨hothers, hsel⟩ := workReady_iff.mp h
      rcases hwait with ⟨x, hx, hclosed⟩ | hne
      · exact Bool.false_ne_true (hclosed.symm.trans (hothers x hx))
      · exact hne hsel
    have hadv := advanceWork_waits hw hc hnot
    rw [coastStep_working hp (by rw [hadv, hw]; exact .inr (by decide)), hadv]

/-! ## The exit from COAST (R130, R135) -/

theorem advanceWork_ready (hw : b.seq.work = .ready) : advanceWork b = b := by
  unfold advanceWork
  split
  · rfl
  · simp only [hw]

theorem coast_leaves (hp : b.seq.phase = .coast) (hw : b.seq.work = .ready)
    (h : waitsForPosition b = false ∨ entryPassed b = true) : seqStep b = leaveCoast b := by
  simp only [seqStep, hp, coastStep, advanceWork_ready hw]
  exact if_pos ⟨trivial, hw, h⟩

theorem coast_waits (hp : b.seq.phase = .coast) (hw : b.seq.work = .ready) (h : waitsForPosition b = true)
    (hn : entryPassed b = false) : seqStep b = b := by
  simp only [seqStep, hp, coastStep, advanceWork_ready hw]
  refine if_neg fun hc => ?_
  rcases hc.2.2 with h' | h'
  · exact Bool.false_ne_true (h'.symm.trans h)
  · exact Bool.false_ne_true (hn.symm.trans h')

theorem enterProbe_phase (b : Block) : (enterProbe b).seq.phase = .probe ∨ (enterProbe b).seq.phase = .halted := by
  have hhalt (h : HaltReason) :
      (halt h { b with seq := { b.seq with phase := .probe, timer := none } }).seq.phase = .halted :=
    halt_of_running (by simp)
  unfold enterProbe passRaise
  split
  · exact .inr (hhalt _)
  · split
    · exact .inr (hhalt _)
    · split
      · exact .inr (hhalt _)
      · split
        · exact .inr (hhalt _)
        next y hy =>
          left
          have hseq := (grantCollecting_frame hy).1
          rw [(touches_takeRaise _ false _).seq]
          change y.seq.phase = _
          rw [hseq]

theorem zoneWithoutSystem_iff : zoneWithoutSystem b = true ↔ b.seq.path = some .zone ∧ b.seq.expected = none := by
  simp [zoneWithoutSystem]

theorem leaveCoast_probes (hz : ¬(b.seq.path = some .zone ∧ b.seq.expected = none))
    (h : b.seq.retry = true ∨ b.seq.path ≠ some .neutral ∧ b.seq.path ≠ some .substitute) : leaveCoast b = enterProbe b := by
  rw [leaveCoast, if_neg (hz ∘ zoneWithoutSystem_iff.mp)]
  split
  · rfl
  next hr =>
    obtain ⟨hn, hs⟩ := h.resolve_left hr
    split
    next hpath => exact absurd hpath hn
    next hpath => exact absurd hpath hs
    next => rfl

theorem leaveCoast_confirms (hr : b.seq.retry = false) (h : b.seq.path = some .neutral ∨ b.seq.path = some .substitute) :
    leaveCoast b = enterConfirm b := by
  rcases h with h | h <;> simp [leaveCoast, zoneWithoutSystem, h, hr]

theorem waits_retry (hr : b.seq.retry = true) : waitsForPosition b = false := by simp [waitsForPosition, hr]

/-- COAST is left with the work done, and where the path waits for position with the entry passed (R135). -/
theorem coast_isLeft (hp : b.seq.phase = .coast) (hw : b.seq.work = .ready)
    (hpassed : passed = b.queue.entries.any (fun e => some e.id == b.seq.activeEntry && e.active && wellPast b e)) :
    (b.seq.retry = false → b.seq.path ∈ [some .sectionChange, some .neutral, some .zone] → passed = false →
      seqStep b = b) ∧
    (b.seq.path = some .zone → b.seq.expected = none → b.seq.retry = false → passed = true →
      (seqStep b).seq.phase = .idle ∧ (seqStep b).seq.path = none ∧ (seqStep b).record.tractionOff = false) ∧
    (b.seq.retry = false → b.seq.path = some .neutral ∧ passed = true ∨ b.seq.path = some .substitute →
      (seqStep b).seq.phase = .confirm ∧ (seqStep b).seq.timer = some 0) ∧
    (b.seq.retry = true ∧ ¬(b.seq.path = some .zone ∧ b.seq.expected = none) ∨
        b.seq.path = some .sectionChange ∧ passed = true ∨
        b.seq.path = some .zone ∧ b.seq.expected ≠ none ∧ passed = true ∨
        b.seq.path = some .select ∨ b.seq.path = some .identify →
      (seqStep b).seq.phase = .probe ∨ (seqStep b).seq.phase = .halted) := by
  have hentry : entryPassed b = passed := hpassed.symm
  refine ⟨fun hr hpath hno => ?_, fun hpath hexp hr hyes => ?_, fun hr hpath => ?_, fun hwhy => ?_⟩
  · refine coast_waits hp hw ?_ (hentry.trans hno)
    simp only [List.mem_cons, List.not_mem_nil, or_false] at hpath
    rcases hpath with h | h | h <;> simp [waitsForPosition, hr, h]
  · have hzone := zoneWithoutSystem_iff.mpr ⟨hpath, hexp⟩
    rw [coast_leaves hp hw (.inr (hentry.trans hyes)), leaveCoast, if_pos hzone]
    obtain ⟨hseq, -, hrecord, -⟩ := finishPath_facts b
    rw [hseq, hrecord]
    exact ⟨rfl, rfl, rfl⟩
  · have hgo : waitsForPosition b = false ∨ entryPassed b = true :=
      hpath.elim (fun h => .inr (hentry.trans h.2)) fun h => .inl (by simp [waitsForPosition, h])
    rw [coast_leaves hp hw hgo, leaveCoast_confirms hr (hpath.imp_left And.left)]
    exact ⟨rfl, rfl⟩
  · have probes (hgo : waitsForPosition b = false ∨ entryPassed b = true)
        (hz : ¬(b.seq.path = some .zone ∧ b.seq.expected = none))
        (hk : b.seq.retry = true ∨ b.seq.path ≠ some .neutral ∧ b.seq.path ≠ some .substitute) :
        (seqStep b).seq.phase = .probe ∨ (seqStep b).seq.phase = .halted := by
      rw [coast_leaves hp hw hgo, leaveCoast_probes hz hk]
      exact enterProbe_phase b
    rcases hwhy with ⟨hr, hz⟩ | ⟨hpath, hyes⟩ | ⟨hpath, hexp, hyes⟩ | hpath | hpath
    · exact probes (.inl (waits_retry hr)) hz (.inl hr)
    · exact probes (.inr (hentry.trans hyes)) (by simp [hpath]) (.inr (by simp [hpath]))
    · exact probes (.inr (hentry.trans hyes)) (fun h => hexp h.2) (.inr (by simp [hpath]))
    · exact probes (.inl (by simp [waitsForPosition, hpath])) (by simp [hpath]) (.inr (by simp [hpath]))
    · exact probes (.inl (by simp [waitsForPosition, hpath])) (by simp [hpath]) (.inr (by simp [hpath]))

/-! ## PROBE (R136) -/

theorem probe_isLeft (hp : b.seq.phase = .probe) (hw : b.seq.work = .raising) (hc : b.seq.candidate = some c) :
    ((b.lc c).state = .contact → (seqStep b).seq.phase = .confirm ∧ (seqStep b).seq.timer = some 0) ∧
    ((b.lc c).state = .raising ∨ (b.lc c).held ≠ .none ∧ (b.lc c).state ∈ [.stowed, .lowering] → seqStep b = b) ∧
    ((b.lc c).state ∈ [.searching, .dropped, .outOfService] ∨
        (b.lc c).held = .none ∧ (b.lc c).state ∈ [.stowed, .lowering] →
      (seqStep b).seq.phase = .halted ∧ (seqStep b).seq.haltReason = some .raise) := by
  have hhalt : (halt .raise b).seq.phase = .halted ∧ (halt .raise b).seq.haltReason = some .raise :=
    halt_reason (by rw [hp]; decide) (by rw [hp]; decide)
  simp only [seqStep, hp, probeStep, hw, hc]
  cases (b.lc c).state
  case contact => exact ⟨fun _ => ⟨rfl, rfl⟩, by simp, by simp⟩
  case raising => exact ⟨by simp, fun _ => rfl, by simp⟩
  case stowed | lowering =>
    refine ⟨by simp, fun hh => if_neg ?_, fun hh => ?_⟩
    · exact (hh.resolve_left (by simp)).1
    · dsimp only
      rw [if_pos (hh.resolve_left (by simp)).1]
      exact hhalt
  case searching | dropped | outOfService => exact ⟨by simp, by simp, fun _ => hhalt⟩

end Sys2Proof.Machine
end

section
/-!
CONFIRM by its table, MASTER_READY and CLOSE (R137 to R140).
-/

namespace Sys2Proof.Machine

variable {b x y : Block} {p c : Panto} {sys : LineSystem} {r : WindowResult}

/-! ## CONFIRM (R137, R138) -/

theorem entersMasterReady (hc : b.seq.candidate = some c) : EntersMasterReady sys c b (enterMasterReady sys b) ∧
    (enterMasterReady sys b).seq.mismatch = b.seq.mismatch := by
  unfold enterMasterReady setDetermined
  dsimp only
  by_cases hd : b.record.determined = some sys
  · rw [if_pos hd]
    exact ⟨⟨rfl, rfl, rfl, hc, fun _ => rfl, fun hn => absurd hd hn⟩, rfl⟩
  · rw [if_neg hd]
    exact ⟨⟨rfl, rfl, rfl, hc, fun hn => absurd hn hd, fun _ => rfl⟩, rfl⟩

/-- The entry reached from a block that differs in the measured class and the mismatch alone. -/
theorem EntersMasterReady.of_same (h : EntersMasterReady sys c x y) (hd : x.record.determined = b.record.determined)
    (hp : x.plan = b.plan) : EntersMasterReady sys c b y :=
  ⟨h.phase, h.timer, h.determined, h.source, fun hb => hp ▸ h.kept (hd.trans hb),
    fun hb => hp ▸ h.cleared fun hx => hb (hd.symm.trans hx)⟩

theorem confirmStep_expected (hl : b.line.confirmed = some (.sys sys)) (he : b.seq.expected = some sys) :
    confirmStep b = enterMasterReady sys b := by
  simp only [confirmStep, hl, he, if_true]

theorem confirmStep_served (hl : b.line.confirmed = some (.sys sys)) (he : b.seq.expected ≠ some sys)
    (hc : b.seq.candidate = some c) (hs : serves (b.head c) sys = true) : confirmStep b =
      if b.seq.path = some .identify ∧ b.seq.expected = none then enterMasterReady sys b
      else enterMasterReady sys { b with seq := { b.seq with mismatch := true } } := by
  simp only [confirmStep, hl, hc, hs, if_neg he, if_true]

theorem confirmStep_other (hl : b.line.confirmed = some (.sys sys)) (he : b.seq.expected ≠ some sys)
    (hc : b.seq.candidate = some c) (hs : serves (b.head c) sys = false) : confirmStep b = probeOther sys b := by
  simp only [confirmStep, hl, hc, hs, if_neg he, Bool.false_eq_true, if_false]

theorem probeOther_first (hr : b.seq.retry = false) : (probeOther sys b).seq.phase = .lowering ∧
    (probeOther sys b).seq.retry = true ∧ (probeOther sys b).seq.expected = some sys := by
  have heq : probeOther sys b = enterLowering { b with seq := { b.seq with retry := true, expected := some sys } } :=
    if_neg (by rw [hr]; exact Bool.false_ne_true)
  have hcalm : ¬Seq.NeedsContact { b.seq with retry := true, expected := some sys, phase := .lowering, timer := none } := by
    simp [Seq.NeedsContact]
  have hseq : (probeOther sys b).seq =
      { b.seq with retry := true, expected := some sys, phase := .lowering, timer := none } := by
    rw [heq]
    exact (around_lowerUp (i := false) (b := { b with
      seq := { b.seq with retry := true, expected := some sys, phase := .lowering, timer := none } }) hcalm).seq
  rw [hseq]
  exact ⟨rfl, rfl, rfl⟩

theorem halt_mismatch (hi : b.seq.phase ≠ .idle) (hh : b.seq.phase ≠ .halted) : (halt .mismatch b).seq.phase = .halted ∧
    (halt .mismatch b).seq.haltReason = some .mismatch ∧ (halt .mismatch b).record.determined = none := by
  obtain ⟨hphase, hreason⟩ := halt_reason (h := .mismatch) hi hh
  refine ⟨hphase, hreason, ?_⟩
  have hdet : (setDetermined none none (haltFault .mismatch b)).record.determined = none := by
    unfold setDetermined
    dsimp only
    split <;> rfl
  rw [halt_running hi hh, enterHalt, openBreaker_frame]
  simp only [setPreheat, if_true]
  rw [frame_serveEntry]
  exact hdet

theorem probeOther_again (hr : b.seq.retry = true) : probeOther sys b = halt .mismatch b := if_pos hr

theorem confirmStep_waits (h : b.line.confirmed = some .dead ∨ b.line.confirmed = none) : confirmStep b = b := by
  rcases h with h | h <;> simp only [confirmStep, h]

/-- CONFIRM examines the class that is confirmed, by its table. -/
theorem confirm_examines (hp : b.seq.phase = .confirm) (hc : b.seq.candidate = some c) : ∃ t, t = takeWindow r b ∧
    (∀ sys, b.line.confirmed = some (.sys sys) →
      (b.seq.expected = some sys → EntersMasterReady sys c b t ∧ t.seq.mismatch = b.seq.mismatch) ∧
      (b.seq.expected ≠ some sys → serves (b.head c) sys = true → EntersMasterReady sys c b t ∧
        t.seq.mismatch = (if b.seq.path = some .identify ∧ b.seq.expected = none then b.seq.mismatch else true)) ∧
      (b.seq.expected ≠ some sys → serves (b.head c) sys = false → b.seq.retry = false →
        t.seq.phase = .lowering ∧ t.seq.retry = true ∧ t.seq.expected = some sys) ∧
      (b.seq.expected ≠ some sys → serves (b.head c) sys = false → b.seq.retry = true →
        t.seq.phase = .halted ∧ t.seq.haltReason = some .mismatch ∧ t.record.determined = none)) ∧
    (b.line.confirmed = some .dead ∨ b.line.confirmed = none →
      t = { b with record := { b.record with measured := r.cls } }) := by
  refine ⟨_, rfl, fun sys hl => ⟨fun he => ?_, fun he hs => ?_, fun he hs hr => ?_, fun he hs hr => ?_⟩, fun hwait => ?_⟩
  all_goals rw [takeWindow_confirm hp]
  · rw [confirmStep_expected (b := measuredAs r b) hl he]
    obtain ⟨hready, hmis⟩ := entersMasterReady (b := measuredAs r b) (sys := sys) hc
    exact ⟨hready.of_same rfl rfl, hmis⟩
  · rw [confirmStep_served (b := measuredAs r b) hl he hc hs]
    by_cases hid : b.seq.path = some .identify ∧ b.seq.expected = none
    · rw [if_pos hid,
        if_pos (show (measuredAs r b).seq.path = some .identify ∧ (measuredAs r b).seq.expected = none from hid)]
      obtain ⟨hready, hmis⟩ := entersMasterReady (b := measuredAs r b) (sys := sys) hc
      exact ⟨hready.of_same rfl rfl, hmis⟩
    · rw [if_neg hid,
        if_neg (show ¬((measuredAs r b).seq.path = some .identify ∧ (measuredAs r b).seq.expected = none) from hid)]
      obtain ⟨hready, hmis⟩ := entersMasterReady
        (b := { measuredAs r b with seq := { (measuredAs r b).seq with mismatch := true } }) (sys := sys) hc
      exact ⟨hready.of_same rfl rfl, hmis⟩
  · rw [confirmStep_other (b := measuredAs r b) hl he hc hs]
    exact probeOther_first (b := measuredAs r b) hr
  · rw [confirmStep_other (b := measuredAs r b) hl he hc hs, probeOther_again (b := measuredAs r b) hr]
    have hp' : (measuredAs r b).seq.phase = .confirm := hp
    exact halt_mismatch (by rw [hp']; decide) (by rw [hp']; decide)
  · exact confirmStep_waits (b := measuredAs r b) hwait

/-! ## MASTER_READY (R139, R140) -/

/-- A readiness record that answers for its master at the wait. -/
def answersWait (b : Block) (v : Option Ready) : Bool :=
  match v with
  | some x => b.record.determined == some x.sys && x.serial == b.record.serial
  | none => false

theorem answersWait_iff {v : Option Ready} : answersWait b v = true ↔
    ∃ r, v = some r ∧ b.record.determined = some r.sys ∧ r.serial = b.record.serial := by
  cases v <;> simp [answersWait]

theorem masterWaitMet_eq (b : Block) : masterWaitMet b = ((b.links.a.present || b.links.b.present) &&
    (!b.links.a.present || answersWait b b.plan.readyA) && (!b.links.b.present || answersWait b b.plan.readyB)) := rfl

theorem readyNow_iff : ReadyNow b ↔ (b.links.a.present = true → answersWait b b.plan.readyA = true) ∧
    (b.links.b.present = true → answersWait b b.plan.readyB = true) := by
  simp only [answersWait_iff]
  constructor
  · exact fun h => ⟨fun ha => h .a .a rfl ha, fun hb => h .b .b rfl hb⟩
  · rintro ⟨ha, hb⟩ l m hm hl
    cases l <;> cases m <;> simp only [masterOf, Option.some.injEq, reduceCtorEq] at hm
    · exact ha hl
    · exact hb hl

theorem masterWaitMet_iff (h : b.links.a.present = true ∨ b.links.b.present = true) :
    masterWaitMet b = true ↔ ReadyNow b := by
  have hany : (b.links.a.present || b.links.b.present) = true := by simpa using h
  rw [readyNow_iff, masterWaitMet_eq, hany]
  cases b.links.a.present <;> cases b.links.b.present <;> simp

theorem ReadyNow.readiness (hr : ReadyNow b) (h : b.links.a.present = true ∨ b.links.b.present = true) :
    readinessMet b = true := by
  have hfor {present : Bool} {v : Option Ready} (hv : present = true → answersWait b v = true) :
      readyFor b present v = true := by
    cases hp : present
    case false => rfl
    case true =>
      obtain ⟨w, rfl, hd, -⟩ := answersWait_iff.mp (hv hp)
      simp [readyFor, hd]
  obtain ⟨ha, hb⟩ := readyNow_iff.mp hr
  have hany : (b.links.a.present || b.links.b.present) = true := by simpa using h
  rw [readinessMet, hany, hfor ha, hfor hb]
  rfl

/-- The block at the entry to CLOSE, before the close is examined. -/
def atClose (b : Block) : Block := { b with seq := { b.seq with phase := .close, timer := none } }

theorem enterClose_eq (b : Block) : enterClose b = if b.plan.hold then halt .breaker (atClose b) else
    if (closeBreaker .internal (atClose b)).2.refuses then halt .breaker (closeBreaker .internal (atClose b)).1
    else (closeBreaker .internal (atClose b)).1 := rfl

theorem enterClose_closes (hh : b.plan.hold = false) (ho : b.sw.breaker.isOpen = true) (hm : closeConditions b = true)
    (hr : readinessMet b = true) :
    enterClose b = (atClose b).setBreaker (b.sw.breaker.move .closed .internal) := by
  have hex : (atClose b).sw.breaker.examine .closed = none := by
    have ho' : (atClose b).sw.breaker.isOpen = true := ho
    rw [examine_closed, if_pos ho']
  have hok : (closeConditions (atClose b) && readinessMet (atClose b)) = true :=
    (Bool.and_eq_true _ _).mpr ⟨hm, hr⟩
  have hclose : closeBreaker .internal (atClose b) =
      ((atClose b).setBreaker (b.sw.breaker.move .closed .internal), .accepted) := by
    rw [closeBreaker, hex]
    exact if_pos hok
  rw [enterClose_eq, hh, if_neg Bool.false_ne_true, hclose]
  rfl

theorem atClose_halts : (halt .breaker (atClose b)).seq.phase = .halted ∧
    (halt .breaker (atClose b)).seq.haltReason = some .breaker :=
  halt_reason (b := atClose b) (by simp [atClose]) (by simp [atClose])

theorem enterClose_halts (h : closeConditions b = false ∨ b.plan.hold = true) (hc : b.sw.breaker.state ≠ .closed) :
    (enterClose b).seq.phase = .halted ∧ (enterClose b).seq.haltReason = some .breaker := by
  rw [enterClose_eq]
  by_cases hh : b.plan.hold = true
  · rw [if_pos hh]
    exact atClose_halts
  · rw [if_neg hh]
    have hno : (closeConditions (atClose b) && readinessMet (atClose b)) = false := by
      have hm : closeConditions (atClose b) = false := h.resolve_right hh
      rw [hm, Bool.false_and]
    have hrefused : ∃ code, closeBreaker .internal (atClose b) = (atClose b, .refused code) := by
      have hc' : (atClose b).sw.breaker.state ≠ .closed := hc
      unfold closeBreaker
      rw [examine_closed, if_neg hc', hno]
      split
      next o ho =>
        revert ho
        split
        · simp
        · split <;> (intro ho; exact ⟨_, by rw [← Option.some.inj ho]⟩)
      next => exact ⟨_, if_neg Bool.false_ne_true⟩
    obtain ⟨code, hcode⟩ := hrefused
    rw [hcode]
    exact atClose_halts

theorem masterReady_present (hp : b.seq.phase = .masterReady) (h : b.links.a.present = true ∨ b.links.b.present = true) :
    seqStep b = if masterWaitMet b = true then enterClose b else b := by
  have hany : (b.links.a.present || b.links.b.present) = true := by simpa using h
  simp only [seqStep, hp, hany, Bool.not_true, Bool.false_eq_true, if_false]

theorem masterReady_isLeft (hp : b.seq.phase = .masterReady) : ∃ t, t = seqStep b ∧
    (b.links.a.present = false → b.links.b.present = false →
      t.seq.phase = .halted ∧ t.seq.haltReason = some .noMaster ∧
      faultCount .masterNotReady t = oneMore .masterNotReady b) ∧
    (b.links.a.present = true ∨ b.links.b.present = true →
      (ReadyNow b → b.sw.breaker.isOpen = true → closeConditions b = true → b.plan.hold = false →
        t.seq.phase = .close ∧ t.sw.breaker.state = .closing) ∧
      (ReadyNow b → closeConditions b = false ∨ b.plan.hold = true → b.sw.breaker.state ≠ .closed →
        t.seq.phase = .halted ∧ t.seq.haltReason = some .breaker) ∧
      (¬ReadyNow b → t = b)) := by
  refine ⟨_, rfl, fun ha hb => ?_, fun hany => ⟨fun hr ho hm hh => ?_, fun hr hwhy hc => ?_, fun hr => ?_⟩⟩
  · have heq : seqStep b = halt .noMaster b := by simp [seqStep, hp, ha, hb]
    have hi : b.seq.phase ≠ .idle := by rw [hp]; decide
    have hh : b.seq.phase ≠ .halted := by rw [hp]; decide
    obtain ⟨hphase, hreason⟩ := halt_reason (h := .noMaster) hi hh
    rw [heq]
    refine ⟨hphase, hreason, ?_⟩
    rw [halt_running hi hh]
    exact (faultCount_of_faults (faults_enterHalt (by decide) b) _).trans (faultCount_recordFault_self _ _ _)
  · rw [masterReady_present hp hany, if_pos ((masterWaitMet_iff hany).mpr hr),
      enterClose_closes hh ho hm (hr.readiness hany)]
    exact ⟨rfl, rfl⟩
  · rw [masterReady_present hp hany, if_pos ((masterWaitMet_iff hany).mpr hr)]
    exact enterClose_halts hwhy hc
  · rw [masterReady_present hp hany, if_neg (hr ∘ (masterWaitMet_iff hany).mp)]

/-! ## CLOSE (R140) -/

theorem close_isLeft (hp : b.seq.phase = .close) :
    (b.sw.breaker.state = .closed → (seqStep b).seq.phase = .idle ∧ (seqStep b).seq.path = none ∧
      (seqStep b).record.tractionOff = false ∧ ∀ x ∈ (seqStep b).queue.entries,
        some x.id = b.seq.activeEntry → x.active = true → x.served = true) ∧
    (b.sw.breaker.state = .closing → seqStep b = b) ∧
    (b.sw.breaker.state ∈ [.opened, .opening, .failed] →
      (seqStep b).seq.phase = .halted ∧ (seqStep b).seq.haltReason = some .breaker) := by
  have hhalt : (halt .breaker b).seq.phase = .halted ∧ (halt .breaker b).seq.haltReason = some .breaker :=
    halt_reason (by rw [hp]; decide) (by rw [hp]; decide)
  obtain ⟨hseq, -, hrecord, -, hserved⟩ := finishPath_facts b
  simp only [seqStep, hp]
  cases b.sw.breaker.state
  case closed =>
    refine ⟨fun _ => ⟨by rw [hseq], by rw [hseq], by rw [hrecord], fun x hx hid ha => ?_⟩, by simp, by simp⟩
    exact hserved x.id hid.symm x hx rfl ha
  case closing => exact ⟨by simp, fun _ => rfl, by simp⟩
  case opened | opening | failed => exact ⟨by simp, by simp, fun _ => hhalt⟩

end Sys2Proof.Machine
end

section
/-!
The close that a Declare Ready brings about and the end of the path at CLOSED (R139, R140), and the obligation about the
phases of the changeover.
-/

namespace Sys2Proof.Machine

variable {s t : State} {a b x y : Block} {p c : Panto} {q : Req} {sys : LineSystem}

/-! ## The first round of the answers -/

theorem reactions_after_round (a : Block) (judge : Bool) (b : Block) : Reactions (round b) (answers a judge b) :=
  (((reactions_rounds 11 _).trans (reactions_iceSettle a judge _)).trans (reactions_standbyCheck _)).trans
    (reactions_guardBreaker _)

/-- Nothing but the Sequencer has an answer to give: the breaker is guarded, no lower can begin, and neither WAKING nor a
standby lowering is under way. -/
structure SeqAlone (b : Block) : Prop where
  guarded : breakerEngaged b = true → closeConditions b = true
  lowers  : ∀ p, (b.lc p).lowerPending = true → b.cond.restart = none → holdsLower b = true
  mode    : b.cond.mode = .service
  standby : b.cond.standbyLowering = false

theorem guardBreaker_guarded (h : SeqAlone b) : guardBreaker b = b := by
  refine if_neg fun hg => ?_
  simp only [Bool.and_eq_true, Bool.not_eq_true'] at hg
  exact Bool.false_ne_true (hg.2.symm.trans (h.guarded hg.1))

theorem releasePending_none (h : SeqAlone b) : releasePending b = b := by
  have hone (p : Panto) : releasePendingOf p b = b := by
    refine if_neg fun ⟨hp, _, hfree, hadopted⟩ => ?_
    exact Bool.false_ne_true (hfree.symm.trans (h.lowers p hp ((adoptionWaits_eq_false b).mp hadopted)))
  rw [releasePending, eachPanto, hone, hone, hone, hone]

theorem wakingCheck_service (h : b.cond.mode = .service) : wakingCheck b = b := by simp [wakingCheck, h]

theorem standbyCheck_off (h : b.cond.standbyLowering = false) : standbyCheck b = b := by simp [standbyCheck, h]

theorem round_seqAlone (h : SeqAlone b) (hc : (seqStep b).cond = b.cond) : round b = seqStep b := by
  rw [round, guardBreaker_guarded h, releasePending_none h, wakingCheck_service (by rw [hc]; exact h.mode),
    standbyCheck_off (by rw [hc]; exact h.standby)]

/-! ## The breaker that closes in CLOSE -/

/-- The path stands in CLOSE while the breaker closes. -/
structure Closing (b : Block) : Prop where
  phase    : b.seq.phase = .close
  breaker  : b.sw.breaker.state = .closing
  met      : closeConditions b = true
  mode     : b.cond.mode = .service
  standby  : b.cond.standbyLowering = false
  scrapers : ∀ p, b.role p ≠ .scraping

theorem Reaction.closing (h : Reaction b x) (hb : Closing b) : Closing x := by
  cases h
  case guard unmet => exact absurd (unmet.symm.trans hb.met) Bool.false_ne_true
  case release free _ =>
    have hholds : holdsLower b = true := by simp [holdsLower, hb.breaker]
    exact absurd (free.symm.trans hholds) Bool.false_ne_true
  case advance => rwa [(close_isLeft hb.phase).2.1 hb.breaker]
  case wake waking _ _ _ => exact absurd (hb.mode.symm.trans waking) (by decide)
  case lowered standby _ _ => exact absurd (hb.standby.symm.trans standby) Bool.false_ne_true
  case ice only =>
    rw [only.frame]
    exact ⟨hb.phase, hb.breaker, hb.met, hb.mode, hb.standby, hb.scrapers⟩
  case ask p want _ _ _ =>
    simp only [wantsScraper, Bool.and_eq_true, beq_iff_eq] at want
    obtain ⟨⟨⟨⟨⟨⟨-, ⟨-, hidle⟩, -⟩, -⟩, -⟩, -⟩, -⟩, -⟩ := want
    exact absurd (hb.phase.symm.trans hidle) (by decide)
  case scrape p holds _ => exact absurd holds (hb.scrapers p)

theorem settle_closing (a : Block) (judge : Bool) (hround : Closing (round b)) :
    (settle a judge b).seq.phase = .close ∧ (settle a judge b).sw.breaker.state = .closing := by
  have h : Closing (answers a judge b) := (reactions_after_round a judge b).keep (fun _ _ hs ha => hs.closing ha) hround
  have hclosed := closed_close a (answers a judge b)
  rw [settle_eq, hclosed.seq, hclosed.sw]
  exact ⟨h.phase, h.breaker⟩

theorem closing_of_ready (hp : b.seq.phase = .masterReady) (hany : b.links.a.present = true ∨ b.links.b.present = true)
    (hr : ReadyNow b) (ho : b.sw.breaker.isOpen = true) (hm : closeConditions b = true) (hh : b.plan.hold = false)
    (hmode : b.cond.mode = .service) (hstandby : b.cond.standbyLowering = false) (hl : PendingLaw b)
    (hn : ∀ p, b.role p ≠ .scraping) : Closing (round b) := by
  have hfree := isOpen_free ho
  have halone : SeqAlone b := {
    guarded := fun _ => hm
    lowers := fun p hpend hrestart => (hl hrestart p hpend).2
    mode := hmode
    standby := hstandby }
  have hstep : seqStep b = (atClose b).setBreaker (b.sw.breaker.move .closed .internal) := by
    rw [masterReady_present hp hany, if_pos ((masterWaitMet_iff hany).mpr hr),
      enterClose_closes hh ho hm (hr.readiness hany)]
  rw [round_seqAlone halone (by rw [hstep]; rfl), hstep]
  exact ⟨rfl, rfl, hm, hmode, hstandby, hn⟩

/-- The part once a Declare Ready has been taken and answered. -/
def declaredReady (q : Req) (m : Master) (sys : LineSystem) (b : Block) : Block :=
  pushReply q.link (plainReply 0x09 q .done) (setReady m (some ⟨sys, b.record.serial⟩) (refresh q.link b))

theorem declaredReady_frame (q : Req) (m : Master) (sys : LineSystem) (b : Block) : declaredReady q m sys b = { b with
    plan := { b.plan with readyA := (declaredReady q m sys b).plan.readyA, readyB := (declaredReady q m sys b).plan.readyB }
    links := (declaredReady q m sys b).links } := by
  cases m <;> rfl

theorem declaredReady_present (q : Req) (m : Master) (sys : LineSystem) (b : Block) (l : Link) :
    ((declaredReady q m sys b).links.get l).present = (decide (l = q.link) || (b.links.get l).present) := by
  have hlinks : (declaredReady q m sys b).links = (pushReply q.link (plainReply 0x09 q .done) (refresh q.link b)).links := by
    cases m <;> rfl
  rw [hlinks]
  generalize q.link = k
  cases k <;> cases l <;> rfl

theorem declaredReady_record (q : Req) (m : Master) (sys : LineSystem) (b : Block) :
    (if m = .a then (declaredReady q m sys b).plan.readyA else (declaredReady q m sys b).plan.readyB) =
      some ⟨sys, b.record.serial⟩ := by
  cases m <;> rfl

theorem declaredReady_now {m : Master} (hm : masterOf q.link = some m) (hd : b.record.determined = some sys)
    (hothers : ∀ l, (masterOf l).isSome = true → l ≠ q.link → (b.links.get l).present = false) :
    ReadyNow (declaredReady q m sys b) := by
  intro l n hl hpresent
  have heq : l = q.link := by
    by_contra hne
    rw [declaredReady_present, decide_eq_false hne, hothers l (by rw [hl]; rfl) hne] at hpresent
    exact Bool.false_ne_true hpresent
  rw [heq, hm] at hl
  obtain rfl := Option.some.inj hl
  have hrecord : (declaredReady q m sys b).record = b.record := by rw [declaredReady_frame]
  refine ⟨_, declaredReady_record q m sys b, ?_, ?_⟩ <;> rw [hrecord]
  exact hd

theorem declaredReady_any {m : Master} (hm : masterOf q.link = some m) :
    (declaredReady q m sys b).links.a.present = true ∨ (declaredReady q m sys b).links.b.present = true := by
  have hself := declaredReady_present q m sys b q.link
  rw [decide_eq_true rfl, Bool.true_or] at hself
  generalize declaredReady q m sys b = y at hself
  revert hm hself
  cases q.link
  case a => exact fun _ h => .inl h
  case b => exact fun _ h => .inr h
  case p => exact fun h => by cases h

/-- A Declare Ready that meets the wait of MASTER_READY closes the breaker (R139, R140). -/
theorem declareReady_closes (hq : Speaks q s.block) (hp : s.block.seq.phase = .masterReady)
    (hd : s.block.record.determined = some sys)
    (hothers : ∀ l, (masterOf l).isSome = true → l ≠ q.link → (s.block.links.get l).present = false)
    (ho : s.block.sw.breaker.isOpen = true) (hm : closeConditions s.block = true) (hh : s.block.plan.hold = false)
    (hmode : s.block.cond.mode = .service) (hstandby : s.block.cond.standbyLowering = false)
    (hpend : PendingLaw s.block) (hscr : ScraperLaw s.block) :
    ∃ t, exec (.declareReady q sys s.block.record.serial) s = .next t ∧ t.block.seq.phase = .close ∧
      t.block.sw.breaker.state = .closing ∧ Answered s t q.link (plainReply 0x09 q .done) := by
  obtain ⟨m, hmaster⟩ := Option.isSome_iff_exists.mp hq.master
  have ha := declareReady_accepts (b := refresh q.link s.block) hmaster hd rfl
  obtain ⟨t, ht, he⟩ := request_ends_as (code := 0x09) (examine_masters hq) ha (by rw [← ha]; simp)
  have hblock : t.block = settle s.block false (declaredReady q m sys s.block) := he.settles
  have hclosing : Closing (round (declaredReady q m sys s.block)) := by
    have hany := declaredReady_any (sys := sys) (b := s.block) hmaster
    have hready := declaredReady_now hmaster hd hothers
    have hframe := declaredReady_frame q m sys s.block
    generalize declaredReady q m sys s.block = y at hany hready hframe
    refine closing_of_ready ?_ hany hready ?_ ?_ ?_ ?_ ?_ ?_ ?_ <;> rw [hframe]
    · exact hp
    · exact ho
    · exact hm
    · exact hh
    · exact hmode
    · exact hstandby
    · exact hpend
    · exact hscr (by rw [hp]; decide)
  obtain ⟨hphase, hbreaker⟩ := settle_closing s.block false hclosing
  rw [← hblock] at hphase hbreaker
  exact ⟨t, ht, hphase, hbreaker, he.plain⟩

/-! ## The breaker that has closed -/

/-- The path is over with the breaker CLOSED. -/
structure PathOver (v : TwoSw) (b : Block) : Prop extends StaysClosed v b where
  standby : b.cond.standbyLowering = false
  idle    : b.seq.phase = .idle
  path    : b.seq.path = none
  request : b.record.tractionOff = false

theorem PathOver.touches {v : TwoSw} (h : PathOver v b) (ht : Touches p b x) (hx : StaysClosed v x) : PathOver v x :=
  ⟨hx, ht.standby.trans h.standby, by rw [ht.seq]; exact h.idle,
    by rw [ht.seq]; exact h.path, by rw [ht.record]; exact h.request⟩

theorem Reaction.pathOver {v : TwoSw} (h : Reaction b x) (hb : PathOver v b) : PathOver v x := by
  have hclosed := h.staysClosed hb.toStaysClosed
  have hstill : Still b := ⟨.inl hb.idle, hb.mode, hb.standby⟩
  rcases (h.still hstill).2 with rfl | hs
  · exact hb
  · cases hs
    case guard => exact hb.touches (touches_openBreaker .p1 _ _) hclosed
    case release p _ _ _ _ => exact hb.touches (touches_setLift p _ _) hclosed
    case withdraw => exact ⟨hclosed, hb.standby, hb.idle, hb.path, rfl⟩
    case ice only =>
      rw [only.frame] at hclosed ⊢
      exact ⟨hclosed, hb.standby, hb.idle, hb.path, hb.request⟩
    case ask p _ _ _ =>
      have hset : StaysClosed v (setScraper (some p) b) := ⟨hb.breaker, hb.engaged, hb.met, hb.stopped, hb.mode⟩
      have hbase : PathOver v (setScraper (some p) b) := ⟨hset, hb.standby, hb.idle, hb.path, hb.request⟩
      exact hbase.touches (touches_ask p b) hclosed
    case scrape p _ _ => exact hb.touches (touches_scrape (not_needsContact_of_stopped hb.stopped)) hclosed

theorem settle_pathOver {v : TwoSw} (a : Block) (judge : Bool) (hround : PathOver v (round b)) :
    (settle a judge b).sw.breaker = v ∧ (settle a judge b).seq.phase = .idle ∧ (settle a judge b).seq.path = none ∧
      (settle a judge b).record.tractionOff = false := by
  have h : PathOver v (answers a judge b) := (reactions_after_round a judge b).keep (fun _ _ hs ha => hs.pathOver ha) hround
  have hclosed := closed_close a (answers a judge b)
  rw [settle_eq, hclosed.seq, hclosed.sw, hclosed.record]
  exact ⟨h.breaker, h.idle, h.path, h.request⟩

/-- The breaker as it stands when a close has ended. -/
def closedAt (r : TwoPattern) (v : TwoSw) : TwoSw :=
  { v with settled := r, state := .closed, lastCmd := .closed, timer := none, disagree := false }

theorem settle_closedAt {r : TwoPattern} {v : TwoSw} (hs : v.state = .closing) (hl : v.lastCmd = .closed)
    (hr : r.shows .closed = true) : v.settle true r = (closedAt r v, false) := by
  simp only [TwoSw.settle, hs, hl, hr, if_true]
  rfl

theorem settledReading_close {r : TwoPattern} (hp : b.seq.phase = .close) (hs : b.sw.breaker.state = .closing)
    (hl : b.sw.breaker.lastCmd = .closed) (hr : r.shows .closed = true) :
    settledReading (.breaker r) b = b.setBreaker (closedAt r b.sw.breaker) := by
  have htake : takeReading (.breaker r) b = b.setBreaker (closedAt r b.sw.breaker) := by
    rw [takeReading, settle_closedAt hs hl hr]
    rfl
  have hleft : leftPosition b (b.setBreaker (closedAt r b.sw.breaker)) = false := by
    unfold leftPosition
    split
    · rfl
    next c _ =>
      change ((b.sw.iso.get c).state == .closed && (b.sw.iso.get c).state != .closed ||
        selectorAt b c && !selectorAt b c) = false
      rw [bne, Bool.and_not_self, Bool.and_not_self]
      rfl
  have hwork : worksSwitches b = false := by simp [worksSwitches, hp]
  rw [settledReading, htake, haltIfLeft, hleft, hwork, Bool.and_false, Bool.false_and]
  exact if_neg (by decide)

theorem round_ends (hp : b.seq.phase = .close) (hs : b.sw.breaker.state = .closed) (hm : closeConditions b = true)
    (hmode : b.cond.mode = .service) (hstandby : b.cond.standbyLowering = false) : PathOver b.sw.breaker (round b) := by
  have hstep : seqStep b = finishPath b := by simp only [seqStep, hp, hs]
  obtain ⟨hseq, hplan, hrecord, hcond, -⟩ := finishPath_facts b
  have halone : SeqAlone b := {
    guarded := fun _ => hm
    lowers := fun _ _ _ => by simp [holdsLower, hs]
    mode := hmode
    standby := hstandby }
  have hsw : (finishPath b).sw = b.sw := by
    rw [finishPath_eq, frame_serveEntry]
    rfl
  have hlift : (finishPath b).lift = b.lift := by
    rw [finishPath_eq, frame_serveEntry]
    rfl
  rw [round_seqAlone halone (by rw [hstep, hcond]), hstep]
  refine ⟨⟨by rw [hsw], .inr hs, ?_, .inl (by rw [hseq]), by rw [hcond, hmode]; decide⟩, by rw [hcond, hstandby],
    by rw [hseq], by rw [hseq], by rw [hrecord]⟩
  exact (closeConditions_congr hlift (by rw [hplan]) (by rw [hrecord]) (by rw [hcond]) (by rw [hsw]) (by rw [hsw])
    (by rw [hsw])).trans hm

/-- At CLOSED the path ends in IDLE with the traction-off request withdrawn (R140). -/
theorem reading_endsPath {r : TwoPattern} (hp : s.block.seq.phase = .close) (hs : s.block.sw.breaker.state = .closing)
    (hl : s.block.sw.breaker.lastCmd = .closed) (hr : r.shows .closed = true) (hm : closeConditions s.block = true)
    (hmode : s.block.cond.mode = .service) (hstandby : s.block.cond.standbyLowering = false) :
    ∃ t, exec (.settledReading (.breaker r)) s = .next t ∧ t.block.sw.breaker.state = .closed ∧
      t.block.seq.phase = .idle ∧ t.block.seq.path = none ∧ t.block.record.tractionOff = false := by
  obtain ⟨t, ht, hblock⟩ := event_ends s false (settledReading (.breaker r))
  rw [settledReading_close hp hs hl hr] at hblock
  have hround : PathOver (closedAt r s.block.sw.breaker) (round (s.block.setBreaker (closedAt r s.block.sw.breaker))) :=
    round_ends (b := s.block.setBreaker (closedAt r s.block.sw.breaker)) hp rfl hm hmode hstandby
  obtain ⟨hbreaker, hidle, hpath, hrequest⟩ := settle_pathOver s.block false hround
  rw [← hblock] at hbreaker hidle hpath hrequest
  exact ⟨t, ht, by rw [hbreaker]; rfl, hidle, hpath, hrequest⟩

/-- Settles O47, phase by phase. -/
theorem waitsExpire : Obligations.WaitsExpire := by
  unfold Obligations.WaitsExpire
  exact ⟨fun s => ⟨tractionOffWait_expires s, confirmWait_expires s, readyWait_expires s⟩,
    fun _ _ hp hno hr => tractionOff_leftAtWindow hp hno hr, fun _ hp => tractionOff_leftAtReport hp,
    fun _ hp hr => breakerOpen_isLeft hp hr, fun _ hp => lowering_isLeft hp, fun _ _ hp hc hw => coast_works hp hc hw,
    fun _ _ hp hw hpassed => coast_isLeft hp hw hpassed, fun _ _ hp hw hc => probe_isLeft hp hw hc,
    fun _ _ _ hp hc => confirm_examines hp hc, fun _ hp => masterReady_isLeft hp, fun _ hp => close_isLeft hp,
    fun _ _ _ hq hp hd hothers ho hm hh hmode hstandby hpend hscr =>
      declareReady_closes hq hp hd hothers ho hm hh hmode hstandby hpend hscr,
    fun _ _ hp hs hl hr hm hmode hstandby => reading_endsPath hp hs hl hr hm hmode hstandby⟩

end Sys2Proof.Machine
end
